-- ==== Sys2Proof/Word.lean ====
section
/-!
DEFINITION. Word.lean: the word types of the block and their plainest arithmetic.
Register contents, packet fields and anything software sees as a word are bit vectors; counts, times and indices are
`Nat`; exact arithmetic before rounding is `Rat` or `Int`.
-/

namespace Sys2Proof

/-- One byte. -/
abbrev Byte := BitVec 8
/-- One 32-bit register word (R25). -/
abbrev Word := BitVec 32
/-- The bits of an IEEE 754 single precision value (R148, R172); its arithmetic is in Machine/Float.lean. -/
abbrev F32 := BitVec 32

/-- A sparse table: pairs of a key and an entry, the keys strictly rising. -/
abbrev AMap (β : Type) := List (Nat × β)

end Sys2Proof
end

