-- ==== Sys2Proof/Syntax.lean ====
section
/-!
DEFINITION. Syntax.lean: the commands of the block, one constructor of `Instr` per row of spec/opcode_table.json.
A row that is an opcode carries the queue pair `q` it was placed in and its packet `pk` (Table 2.6; the row itself says
the OPCODE field). A row that is a happening carries what the outside or the device's own timing brings: a tile, a
channel, a frame, a measured quantity. Log 1 says how rows are taken as commands, log 7 how packets reach them.
-/

namespace Sys2Proof

/-- A command packet as Table 2.6 lays it out, its OPCODE aside. -/
structure Packet where
  /-- REV, bits 15:12 of bytes 0 to 1. -/
  rev : BitVec 4
  irq : Bool
  suppressOk : Bool
  fence : Bool
  tag : BitVec 11
  client : BitVec 10
  queue : BitVec 12
  /-- The reserved bits of the header, in one number: bits 15:14 of bytes 2 to 3, 15:10 of bytes 4 to 5, 15:12 of bytes
  6 to 7, and bytes 56 to 59; not zero when one of them is set (R38 step 2). -/
  reserved : BitVec 44
  /-- PARAMS, bytes 8 to 55; byte 8 is bits 7:0. -/
  params : BitVec 384
deriving DecidableEq, Repr

/-- Amplitudes a dwell demodulated (R82), in nanovolts, and what the front end saw during it (Table 4.4). -/
structure Dwell where
  vs : Int
  vl : Int
  vf : Int
  /-- The quadrature part of path S (CAP mode). -/
  vq : Int
  /-- The source reached its 3.0 V compliance. -/
  compliance : Bool
deriving DecidableEq, Repr

/-- The samples of a METER dwell at its two pins, in nanovolts, alternating from the voltage pin's first one on, 4 ns apart
(R127). -/
structure MeterDwell where
  v : List Int
  i : List Int
deriving DecidableEq, Repr

/-- A CAN FD frame as received (Table 10.3). -/
structure BusFrame where
  ide : Bool
  fdf : Bool
  brs : Bool
  esi : Bool
  id : BitVec 29
  data : List Byte
  /-- A remote frame, which the device discards (R218). -/
  rtr : Bool := false
  /-- Ring writes stall as the frame ends (R221). -/
  stalled : Bool := false
deriving DecidableEq, Repr

/-- A mirror record as received (Table 11.4), its TYPE aside (the row says it). -/
structure MirrorRec where
  flags : Byte
  point : BitVec 40
  status : Byte
  timestamp : BitVec 48
  boot : BitVec 16
  value : Word
  crc : Word
deriving DecidableEq, Repr

/-- The control bytes of a Lomuz frame as received (Table 11.3). -/
structure FrameHead where
  ftype : Byte
  lseq : Byte
  credit : BitVec 16
  lcrc : Byte
deriving DecidableEq, Repr

/-- An Amiziot header as received (Table 11.5). -/
structure AmzHeader where
  magic : BitVec 16
  version : Byte
  kind : Byte
  chip : Nat
  dst : Nat
  serial : BitVec 48
  building : Nat
  cluster : Nat
  boot : Word
  seq : Word
  count : Nat
  hcrc : Word
  /-- The Ethernet frame check sequence and the UDP checksum match (R252). -/
  sumsOk : Bool
deriving DecidableEq, Repr

/-- How a record came in: in a frame of a Lomuz link, or in a datagram with its header, as its first record or not. -/
inductive Via where
  | lomuz (link : Nat) (head : FrameHead)
  | ether (head : AmzHeader) (first : Bool)
deriving DecidableEq, Repr

/-- A frame on the Ethernet ports that no other row stands for (R251): a Router Advertisement, a message of PTP's delay
mechanism (R257), or one that frame steering does not pass. -/
inductive EnFrame where
  | advertisement (router : BitVec 128)
  /-- A Delay_Req of a clock of a domain. -/
  | delayReq (domain requester : Nat)
  /-- The Delay_Resp to this clock's Delay_Req, with the time at which the master had it, in 0.1 ns. -/
  | delayResp (domain received : Nat)
  | foreign
deriving DecidableEq, Repr

/-- A Sync of a PTP master, one-step or two-step, once its origin timestamp is known (R257, R258): the master's domain and
data set, and the time of its sending, in 0.1 ns with the corrections it carries. -/
structure PtpSync where
  domain : Nat
  prio1 : Nat
  quality : Nat
  prio2 : Nat
  identity : Nat
  origin : Nat
deriving DecidableEq, Repr

/-- A tile whose power sequence has ended (R339), and the outcome of its shaded store's self-test where it was powered
(R124). -/
structure TileDone where
  tile : Nat
  storePass : Bool
deriving DecidableEq, Repr

/-- What a peer said in a Lomuz training exchange (R246). -/
structure TrainInfo where
  maxver : Nat
  serial : BitVec 48
  chip : Nat
  cluster : Nat
  boot : Word
deriving DecidableEq, Repr

/-- What the monitors read: SUPMON, HOLDMON, VFUSE and the four tile rails, in mV. -/
structure Monitors where
  supmon : Nat
  holdmon : Nat
  vfuse : Nat
  rails : Vector Nat 4
deriving DecidableEq, Repr

/-- How a transmission attempt ended (R220, R222, R223). -/
inductive TxEnd where
  | acked
  | lostArbitration
  | ackError
  | otherError
  /-- The measured transmitter delay lay beyond 127 data quanta (R219). -/
  | delayFail
deriving DecidableEq, Repr

/-- What a configuration read can ask of the function (R23): the items that the spec fixes, and any other word. -/
inductive CfgItem where
  /-- Vendor ID in bits 15:0, Device ID in bits 31:16. -/
  | deviceId
  /-- Revision ID in bits 7:0, class code in bits 31:8. -/
  | classCode
  /-- Word `i` of the six base address registers. -/
  | bar (i : Nat)
  | interruptPin
  /-- The supported maximum payload, in bytes. -/
  | maxPayload
  /-- The maximum read request, in bytes. -/
  | maxReadRequest
  /-- Message Control of MSI-X, then the places of its table and of its pending bits. -/
  | msixControl
  | msixTable
  | msixPba
  /-- Whether the function has an MSI, and an SR-IOV, capability. -/
  | hasMsi
  | hasSriov
  | other (offset : Nat)
deriving DecidableEq, Repr

/-- What a PCIe configuration request asks (R23, R339, R353). -/
inductive CfgRequest where
  | read (item : CfgItem)
  | msix (enable functionMask : Bool)
  /-- A write of the two words of BAR0. -/
  | bar0 (value : BitVec 64)
deriving DecidableEq, Repr

/-- What a calibration run pair measured (R295): the correction values of the two runs, and the quality figures. -/
structure CalResult where
  run1 : List Int
  run2 : List Int
  qualityA : BitVec 16
  qualityB : BitVec 16
  /-- The launch-path delay in 1/16 sample (R119), which an interleave run measures. -/
  launchDelay : Nat := 0
deriving DecidableEq, Repr

/-- What FIRMWARE_VERIFY reads from the boot flash (R338): where the image stands, its bytes, the SHA-256 of the public key
in it, and whether the ECDSA P-256 signature over its SHA-256 verifies under that key. -/
structure BootImage where
  address : Nat
  size : Nat
  keyHash : BitVec 256
  signed : Bool
deriving DecidableEq, Repr

/-- Codes of the shunts of a drive channel and of its pair partner, where it has one. -/
structure Shunts where
  code : Nat
  partner : Nat := 0
deriving DecidableEq, Repr

/-- The channel whose phase ends, and the highest codes that the shunts have reached in it (Table 9.4). -/
structure PhaseEnding where
  channel : Nat
  peaks : Shunts
deriving DecidableEq, Repr

/-- The panel inputs: power-good of logic, gate and emission, lock, and the fault line (low is true). -/
inductive PanelFaultCause where
  | powerGood (index : Nat)
  | lock
  | driver
deriving DecidableEq, Repr

/-- The commands, in the order of spec/opcode_table.json. -/
inductive Instr where
  /-- TB_SET (R21): Owner command that loads TB, optionally marks it valid, and applies the forward or backward step rules. -/
  | tbSet (q : Nat) (pk : Packet)
  /-- TB_SLEW (R21): Owner command that sets the signed rate adjustment RATE_PPB of the time base. -/
  | tbSlew (q : Nat) (pk : Packet)
  /-- TB_READ (R21): Returns TB, TB_VALID, the discipline source, RATE_PPB and the last PPS_IN stamp. -/
  | tbRead (q : Nat) (pk : Packet)
  /-- PPS_OUT_RISE (R21): At each whole TB second the device drives PPS_OUT high. -/
  | ppsOutRise
  /-- PPS_OUT_FALL (R21): 10 ms after its rise the device drives PPS_OUT low. -/
  | ppsOutFall
  /-- PPS_IN_EDGE (R21): A rising edge on PPS_IN is stamped with TB, corrected for the input filter delay. -/
  | ppsInEdge
  /-- CROSS_TILE_DELIVERY (R12): A value passes the dual-clock queues from one tile to the hub and to another tile, arriving within 5 us. -/
  | crossTileDelivery (src dst : Nat)
  /-- TILE_SKEW_CLEAR (R17): TILE_SKEW clears once the difference has stayed within its limit for 100 ms, and the episode length is logged. -/
  | tileSkewClear (edge kind : Nat)
  /-- HOST_FLR (R24): A PCIe Function Level Reset of HOST acts as a write of SETUP_CTL.DISARM. -/
  | hostFlr
  /-- REGISTER_WRITE (R25): A write to a BAR0 register with no behaviour of its own, such as SETUP_DESC or the MSI-X table; reserved or narrow writes are ignored. -/
  | registerWrite (offset bytes : Nat) (value : Word)
  /-- SETUP_ARM (R28): Writing SETUP_CTL.ARM checks SETUP_DESC and arms queue 0, or is ignored before RDY, while ARMED or while disarming. -/
  | setupArm
  /-- SETUP_DISARM (R29): Writing SETUP_CTL.DISARM stops fetching, closes every session and deletes every pair other than queue 0. -/
  | setupDisarm
  /-- DISARM_COMPLETE (R29): Once the started commands have ended, SETUP_CTL.STATE reaches IDLE, at most 10 ms after the write. -/
  | disarmComplete
  /-- CHSEL_WRITE (R46): Writing CHSEL selects a port for the channel window and sets VALID and GATED. -/
  | chselWrite (value : Word)
  /-- WINDOW_WRITE (R47): A write to the channel window, ignored unless WIN_RW and VALID are 1, and otherwise acting as the port's configuration command. -/
  | windowWrite (offset : Nat) (value : Word)
  /-- DOORBELL (R31): A doorbell write sets SQ_TAIL and CQ_HEAD of a pair and lets the command processor fetch the new entries. -/
  | doorbell (q : Nat) (value : Word) (written : List (Nat × Byte))
  /-- FETCH_RESUME (R40): When a chip or client tag frees, fetching of entries left unfetched resumes by weighted round robin. -/
  | fetchResume
  /-- PACKET_CRC_FAIL (R39): A fetched entry whose CRC fails completes with CRC_FAIL, echoing its first bytes and its ring index. -/
  | packetCrcFail (q index : Nat) (head : Word)
  /-- BAD_OPCODE_PACKET (R38): A packet with an unknown, reserved or unserved opcode completes with BAD_OPCODE, or with an earlier failing status. -/
  | badOpcodePacket (q : Nat) (opcode : BitVec 12) (pk : Packet)
  /-- COALESCE_TIMEOUT (R33): The oldest unsignalled reply reaches COAL_TIME x 8 us, and a completion interrupt is raised. -/
  | coalesceTimeout (q : Nat)
  /-- HELD_REPLY_WRITE (R36): A reply held for a full completion ring is written once CQ_HEAD frees a slot, and fetching from the pair resumes. -/
  | heldReplyWrite (q : Nat)
  /-- PAIR_FREED (R57): A deleted pair is freed once its last started command has ended and its reply has been discarded. -/
  | pairFreed (q : Nat)
  /-- WINDOW_ACCESS (R48): Owner command that sets GSTATUS.WIN_RW to read-only or read-write. -/
  | windowAccess (q : Nat) (pk : Packet)
  /-- QSPI_WRITE (R49): QHOST instruction 0x02 that writes whole words on one lane from an auto-incrementing address. -/
  | qspiWrite (address : Nat) (data : List Byte)
  /-- QSPI_QWRITE (R49): QHOST instruction 0x32 that writes words on four lanes. -/
  | qspiQwrite (address : Nat) (data : List Byte)
  /-- QSPI_READ (R49): QHOST instruction 0x0B that reads words on one lane after 8 dummy cycles. -/
  | qspiRead (address words : Nat)
  /-- QSPI_QREAD (R49): QHOST instruction 0x6B that reads words on four lanes. -/
  | qspiQread (address words : Nat)
  /-- QSPI_STATUS (R49): QHOST instruction 0x05 that returns RDY and whether any completion interrupt is pending. -/
  | qspiStatus
  /-- QSPI_UNKNOWN_INSTRUCTION (R49): An unknown QHOST instruction is ignored until CS_N rises. -/
  | qspiUnknownInstruction (instruction : Byte)
  /-- SESSION_OPEN (R376): Asks for a device nonce for a tenant and agrees a protocol revision, or is refused in the order of R376. -/
  | sessionOpen (q : Nat) (pk : Packet)
  /-- SESSION_PROVE (R55): Answers the nonce with an HMAC; on success it opens a session in a context and returns DEV_MAC. -/
  | sessionProve (q : Nat) (pk : Packet)
  /-- NONCE_LAPSE (R55): A device nonce lapses 1 s after its SESSION_OPEN reply. -/
  | nonceLapse (tenant : Nat)
  /-- AUTH_LOCKOUT_END (R55): A tenant's 60 s lockout ends. -/
  | authLockoutEnd (tenant : Nat)
  /-- SESSION_CLOSE (R377): Closes the sender's session, or a named context for the owner, deleting its pairs. -/
  | sessionClose (q : Nat) (pk : Packet)
  /-- QUEUE_CREATE (R60): Creates a queue pair from a ring descriptor and returns the lowest free pair number. -/
  | queueCreate (q : Nat) (pk : Packet)
  /-- QUEUE_DELETE (R57): Deletes a queue pair: fetching stops, started commands end and their replies are discarded. -/
  | queueDelete (q : Nat) (pk : Packet)
  /-- CLIENT_INSTALL (R56): Owner command that installs or replaces a tenant credential by a commit to region 15. -/
  | clientInstall (q : Nat) (pk : Packet)
  /-- CLIENT_RIGHTS (R51): Owner command that sets half of a tenant's access-group rights by a commit to region 15. -/
  | clientRights (q : Nat) (pk : Packet)
  /-- CLIENT_REMOVE (R57): Owner command that closes a tenant's sessions and erases its credential. -/
  | clientRemove (q : Nat) (pk : Packet)
  /-- POINT_READ (R379): Returns a point's summary, or four of its priority levels. -/
  | pointRead (q : Nat) (pk : Packet)
  /-- POINT_WRITE (R68): Writes or relinquishes a priority level of a point, or makes a level-0 direct write, and resolves the present value. -/
  | pointWrite (q : Nat) (pk : Packet)
  /-- POINT_CREATE (R380): Creates a local point record and resolves its present value. -/
  | pointCreate (q : Nat) (pk : Packet)
  /-- POINT_CONFIG (R380): Changes the MASK-selected fields of a local point and resolves its present value again. -/
  | pointConfig (q : Nat) (pk : Packet)
  /-- POINT_DELETE (R380): Deletes a point unless something binds it, completing its watches with WHY 3. -/
  | pointDelete (q : Nat) (pk : Packet)
  /-- POINT_WATCH (R69): Replies PENDING and completes at the point's next change of value, at timeout or at deletion. -/
  | pointWatch (q : Nat) (pk : Packet)
  /-- WATCH_TIMEOUT (R380): A watch's TIMEOUT_MS expires and it completes with WHY 2. -/
  | watchTimeout (q tag : Nat)
  /-- POINT_SOURCE_UPDATE (R67): A bound source delivers a result to the point engine, which resolves the present value. -/
  | pointSourceUpdate (id : Nat)
  /-- INPUT_CONFIG (R91): Sets an input's configuration record, which takes effect at once or at the end of the sequence cycle. -/
  | inputConfig (q : Nat) (pk : Packet)
  /-- INPUT_READ (R120): Returns UI_STAT, UI_VALUE, UI_COUNT, UI_TPASS and UI_TFAIL. -/
  | inputRead (q : Nat) (pk : Packet)
  /-- INPUT_TABLE (R120): Stages one part of a linearisation table and installs the whole table at PART 3. -/
  | inputTable (q : Nat) (pk : Packet)
  /-- INPUT_TEST (R95): Queues a test-DAC injection measured by converter B behind the open protection switch. -/
  | inputTest (q : Nat) (pk : Packet)
  /-- SEQ_CYCLE_START (R108): A sequence cycle starts at its start instant, after the image CRC check and the accounting of slipped instants. -/
  | seqCycleStart (tile conv : Nat)
  /-- SEQ_ENTRY_START (R108): After the 2 us gap the next entry's dwell starts, with its excitation. -/
  | seqEntryStart (tile conv : Nat)
  /-- DWELL_END (R110): A MEASURE dwell ends: the result is formed, flagged for faults and written to its logical channel, loop store, point, window and buffer. -/
  | dwellEnd (tile conv : Nat) (d : Dwell)
  /-- PROT_TRIP (R87): An input pin passes +-13.5 V: the protection switch opens within 1 us, PROT_OPEN is set and the dwell is discarded. -/
  | protTrip (tile input : Nat)
  /-- PROT_RECLOSE (R87): After the pin has stayed within +-12.5 V for 10 ms, the protection switch recloses. -/
  | protReclose (tile input : Nat)
  /-- SHUNT_TRIP (R87): CURR current above 26 mA opens the shunt switch and sets PROT_OPEN. -/
  | shuntTrip (tile input : Nat)
  /-- PULSE_EDGE (R86): An accepted rising edge on a PULSE input increments UI_COUNT. -/
  | pulseEdge (tile input heldNs : Nat)
  /-- PULSE_RATE_WRITE (R86): At each whole TB second the count difference is written as a rate to PULSE_LCH. -/
  | pulseRateWrite (tile : Nat)
  /-- REFBUF_ON (R100): Enables a tile's reference buffer and starts t_REFSET. -/
  | refbufOn (q : Nat) (pk : Packet)
  /-- REF_SETTLED (R100): t_REFSET of 3 ms elapses and the reference buffer is ready. -/
  | refSettled (tile : Nat)
  /-- REFBUF_OFF (R103): Stops both sequences, ends queued urgent work and scans, and turns the reference buffer off. -/
  | refbufOff (q : Nat) (pk : Packet)
  /-- ADC_CALIBRATE (R102): Suspends a converter, or both converters for interleave, for a calibration run pair. -/
  | adcCalibrate (q : Nat) (pk : Packet)
  /-- CAL_RUN_END (R295): A calibration run pair ends; agreed values become pending, or the run completes with CAL_DISAGREE. -/
  | calRunEnd (kind index : Nat) (r : CalResult)
  /-- SEQ_LOAD (R105): Writes up to five entries of a converter's pending image, refusing the whole packet on any failed check. -/
  | seqLoad (q : Nat) (pk : Packet)
  /-- SEQ_START (R106): Checks the pending image and makes it active, at once or at the end of the running cycle. -/
  | seqStart (q : Nat) (pk : Packet)
  /-- SEQ_STOP (R120): Stops a converter's sequence at the cycle end or at the next sample boundary. -/
  | seqStop (q : Nat) (pk : Packet)
  /-- SEQ_READ (R120): Returns CONV_STAT, the cycle count, SLIP_COUNT and the current entry. -/
  | seqRead (q : Nat) (pk : Packet)
  /-- LCH_CONFIG (R114): Configures a logical channel's window comparator and its buffer binding, and resets the comparator to UNARMED. -/
  | lchConfig (q : Nat) (pk : Packet)
  /-- LCH_READ (R120): Returns a logical channel's value, flags, window state, stamp and SEQNO. -/
  | lchRead (q : Nat) (pk : Packet)
  /-- LCH_WINACK (R114): Reads and clears window pending bits for half of the channels. -/
  | lchWinack (q : Nat) (pk : Packet)
  /-- DMA_CREATE (R115): Creates a circular buffer in host or ring memory. -/
  | dmaCreate (q : Nat) (pk : Packet)
  /-- DMA_DELETE (R115): Deletes a circular buffer that no channel binds. -/
  | dmaDelete (q : Nat) (pk : Packet)
  /-- URGENT_CONVERT (R111): Queues an urgent conversion on converter B in the tile's eight-place urgent queue. -/
  | urgentConvert (q : Nat) (pk : Packet)
  /-- URGENT_START (R111): Converter B starts the head urgent request or test, pre-empting its sequence, once the input is free. -/
  | urgentStart (tile : Nat)
  /-- URGENT_DWELL_END (R111): An urgent or test dwell ends; the final reply is sent and B serves the next request or resumes its sequence. -/
  | urgentDwellEnd (tile : Nat) (d : Dwell)
  /-- RSCAN (R118): Queues a reflection scan on a selector position of the line-test pins. -/
  | rscan (q : Nat) (pk : Packet)
  /-- RSCAN_START (R118): A queued scan starts once its 1 ms gap and any urgent dwell have ended: sequences are suspended and LTMUX is set. -/
  | rscanStart (tile : Nat)
  /-- RSCAN_LAUNCH (R118): After the 25 us settle, and then every 10 us, a step is launched on LTL and captured. -/
  | rscanLaunch (tile : Nat) (capture : List Int)
  /-- RSCAN_END (R119): The scan averages its captures, reports discontinuities and resumes the sequences; the device's
  interpolation places the trace's changes, in order, each so many 1/16 samples into its stretch. -/
  | rscanEnd (tile : Nat) (places : List Nat)
  /-- METER_CONFIG (R125): Owner command that binds a metering pair to two inputs, making them shaded, and commits the configuration. -/
  | meterConfig (q : Nat) (pk : Packet)
  /-- METER_READ (R130): Returns a pair register and PEAK_START. -/
  | meterRead (q : Nat) (pk : Packet)
  /-- METER_HISTORY (R133): Copies a pair's closed-interval records to the host, newest first. -/
  | meterHistory (q : Nat) (pk : Packet)
  /-- METER_RESET_PEAK (R130): Owner command that resets a pair's PEAK_DEMAND. -/
  | meterResetPeak (q : Nat) (pk : Packet)
  /-- DEMAND_CONFIG (R132): Owner command that changes the demand interval length; the open interval closes RESIZED. -/
  | demandConfig (q : Nat) (pk : Packet)
  /-- TARIFF_LOAD (R135): Owner command that writes rates or switch entries into the shadow tariff bank. -/
  | tariffLoad (q : Nat) (pk : Packet)
  /-- TARIFF_COMMIT (R135): Owner command that starts the rebuild of the shadow bank for a swap at second AT. -/
  | tariffCommit (q : Nat) (pk : Packet)
  /-- TARIFF_READ (R134): Returns the tariff in force, the next WHEN and the bank CRC. -/
  | tariffRead (q : Nat) (pk : Packet)
  /-- METER_DWELL_END (R128): A METER dwell ends; energy is accounted at the previous power and the new power is taken. -/
  | meterDwellEnd (tile : Nat) (d : MeterDwell)
  /-- INTERVAL_CLOSE (R133): At an interval boundary each configured pair is accounted, and its record is formed and written to its history ring. -/
  | intervalClose
  /-- METER_CHECKPOINT_DONE (R138): A metering checkpoint commit group completes. -/
  | meterCheckpointDone
  /-- TARIFF_SWITCH (R134): At a TB second the tariff in force changes by the switch list; pairs are accounted and the interval is marked SPLIT. -/
  | tariffSwitch
  /-- TARIFF_REBUILD_DONE (R135): The background rebuild and commit of the shadow tariff bank completes. -/
  | tariffRebuildDone
  /-- TARIFF_SWAP (R135): At second AT, or at the first second after a late rebuild, the tariff banks swap and the commit replies. -/
  | tariffSwap
  /-- METER_RESULT_UPDATE (R131): At each TB second the meter energy results are written to their bound points. -/
  | meterResultUpdate
  /-- PRESENCE_CONFIG (R142): Owner command that configures a frame port and the presence engine. -/
  | presenceConfig (q : Nat) (pk : Packet)
  /-- PRESENCE_READ (R146): Returns FP_STAT and a port's presence results. -/
  | presenceRead (q : Nat) (pk : Packet)
  /-- PRESENCE_TEST (R146): Feeds the engine a synthetic frame for two frame times and reports pass or fail. -/
  | presenceTest (q : Nat) (pk : Packet)
  /-- PRESENCE_REBASE (R142): Puts a port into LEARNING, to rebuild its background from 32 right frames. -/
  | presenceRebase (q : Nat) (pk : Packet)
  /-- FRAME_RECEIVED (R142): A whole frame on a frame port is judged for length and overrun, then processed by the presence engine or discarded. -/
  | frameReceived (port startAgoNs bits : Nat) (pixels : List (BitVec 16))
  /-- PRESENCE_SECOND (R144): At each whole TB second the presence results of the second are written to the bound points. -/
  | presenceSecond
  /-- LOOP_CREATE (R168): Stages a descriptor part and at PART 3 checks the CRC, fields, rights and admission, then installs the descriptor. -/
  | loopCreate (q : Nat) (pk : Packet)
  /-- LOOP_DELETE (R168): Applies RELEASE to the outputs and frees the descriptor and its import slots, unless something binds it. -/
  | loopDelete (q : Nat) (pk : Packet)
  /-- LOOP_READ (R167): Returns a loop's LSTAT, outputs, PV, SP and jitter, or descriptor bytes. -/
  | loopRead (q : Nat) (pk : Packet)
  /-- LOOP_MANUAL (R157): Switches a loop between AUTO and MANUAL at a commanded value, bumplessly. -/
  | loopManual (q : Nat) (pk : Packet)
  /-- LOOP_TUNE (R159): Changes gains, parameters or the period of a loop, with an admission check for the period. -/
  | loopTune (q : Nat) (pk : Packet)
  /-- LOOP_LOAD (R167): Returns the tile's loop rates, capacity, stretch factors and effective load. -/
  | loopLoad (q : Nat) (pk : Packet)
  /-- LOOP_EVALUATION (R153): At a TB boundary the due loops take one input snapshot and evaluate in class and number order, delivering their outputs. -/
  | loopEvaluation (tile : Nat)
  /-- ZONE_CREATE (R191): Stages zone descriptor parts and installs the descriptor at PART 7 after the admission check. -/
  | zoneCreate (q : Nat) (pk : Packet)
  /-- ZONE_DELETE (R191): Frees a zone slot, abandoning its solve, unless a loop or point names it. -/
  | zoneDelete (q : Nat) (pk : Packet)
  /-- ZONE_READ (R191): Returns a zone's PSTAT and solve figures, learner figures, or descriptor bytes. -/
  | zoneRead (q : Nat) (pk : Packet)
  /-- ZONE_MODEL (R186): Stages model rows and at COMMIT starts the gain rebuild. -/
  | zoneModel (q : Nat) (pk : Packet)
  /-- PRED_SOLVE (R191): Starts an off-line solve from the latest snapshot on idle lanes. -/
  | predSolve (q : Nat) (pk : Packet)
  /-- PRED_SOLVE_DONE (R191): A PRED_SOLVE completes and returns its cost and residuals. -/
  | predSolveDone (tile zone : Nat)
  /-- PRED_SOLVE_TIMEOUT (R191): A PRED_SOLVE unfinished within two of the zone's steps completes with LOAD_EXCEEDED. -/
  | predSolveTimeout (tile zone : Nat)
  /-- PRED_PLAN_READ (R185): Returns one step of the plan in force or of the last PRED_SOLVE. -/
  | predPlanRead (q : Nat) (pk : Packet)
  /-- PRED_LEARN (R187): Sets the learner's SIGNS, LAMBDA, ACCEPT and U bindings. -/
  | predLearn (q : Nat) (pk : Packet)
  /-- PRED_ACCEPT (R188): Adopts the candidate model or reverts to the previous one, through a rebuild. -/
  | predAccept (q : Nat) (pk : Packet)
  /-- PRED_PAUSE (R191): Pauses or resumes a zone. -/
  | predPause (q : Nat) (pk : Packet)
  /-- PRED_SCHED (R174): Owner command that loads occupancy schedule entries or WEEK_ORIGIN. -/
  | predSched (q : Nat) (pk : Packet)
  /-- PRED_LOAD (R180): Returns the tile's admitted MAC rate, current capacity, zones in use and lanes. -/
  | predLoad (q : Nat) (pk : Packet)
  /-- ZONE_TUNE (R186): Changes weights, RHO or ITERATIONS, rebuilding the gains when they change. -/
  | zoneTune (q : Nat) (pk : Packet)
  /-- ZONE_BOUNDARY (R181): At a zone boundary the plan is published or shifted, items are written, the learner updates, Y and D are snapshotted and the next solve is released. -/
  | zoneBoundary (tile zone : Nat)
  /-- SOLVE_COMPLETE (R182): A released solve finishes its iterations and its plan waits for publication. -/
  | solveComplete (tile zone : Nat)
  /-- GAIN_REBUILD_DONE (R186): A shadow gain rebuild completes and waits for its swap at the next boundary. -/
  | gainRebuildDone (tile zone : Nat)
  /-- DRV_CONFIG (R210): Owner command that configures a drive channel, passing through OFF if it is running. -/
  | drvConfig (q : Nat) (pk : Packet)
  /-- DRV_PROFILE (R197): Owner command that writes a drive profile in a temperature set. -/
  | drvProfile (q : Nat) (pk : Packet)
  /-- DRV_COMMAND (R200): Delivers a demand, or a bare ON or OFF, to a drive channel. -/
  | drvCommand (q : Nat) (pk : Packet)
  /-- DRV_READ (R215): Returns a channel's status, demand, current codes, position and start count. -/
  | drvRead (q : Nat) (pk : Packet)
  /-- DRV_CLEAR (R206): Owner command that clears latched faults, or the safe state of a tile after the critical condition. -/
  | drvClear (q : Nat) (pk : Packet)
  /-- DRV_BAND (R204): Owner command that sets the drive band source and its boundaries. -/
  | drvBand (q : Nat) (pk : Packet)
  /-- AO_CONFIG (R211): Owner command that configures an analogue output. -/
  | aoConfig (q : Nat) (pk : Packet)
  /-- AO_SET (R211): Sets an analogue output's demand in percent. -/
  | aoSet (q : Nat) (pk : Packet)
  /-- AO_READ (R215): Returns AO_STAT and the demand in force. -/
  | aoRead (q : Nat) (pk : Packet)
  /-- FAN_CONFIG (R212): Owner command that configures a fan port. -/
  | fanConfig (q : Nat) (pk : Packet)
  /-- FAN_SET (R212): Sets a fan duty, with a kick on start from 0. -/
  | fanSet (q : Nat) (pk : Packet)
  /-- FAN_READ (R215): Returns FAN_STAT, speed and duty. -/
  | fanRead (q : Nat) (pk : Packet)
  /-- PHASE_END (R198): A profile phase's DURATION ends, and the channel moves to the next phase or turns off. -/
  | phaseEnd (tile : Nat) (ending : PhaseEnding)
  /-- CURRENT_TRIP (R199): The shunt voltage reaches TARGET; the channel enters its decay for CHOP_OFF, or a PEAK phase ends. -/
  | currentTrip (tile channel : Nat) (shunts : Shunts)
  /-- CHOP_OFF_END (R199): The chop off time ends and GL turns on again, with blanking. -/
  | chopOffEnd (tile channel : Nat)
  /-- OVERCURRENT (R207): The shunt reads at least 190 mV for 1 us; both gates turn off and the channel is latched. -/
  | overcurrent (tile channel : Nat)
  /-- OFF_SETTLE_END (R200): The off phase ends after OFF_SETTLE and the channel becomes IDLE, taking pending calibration or configuration. -/
  | offSettleEnd (tile channel : Nat)
  /-- TPROP_CYCLE_START (R201): A TPROP cycle starts at a multiple of CYCLE_S and turns the channel on for its share. -/
  | tpropCycleStart (tile channel : Nat)
  /-- TPROP_ON_END (R201): The on time of a TPROP cycle ends and the channel turns off. -/
  | tpropOnEnd (tile channel : Nat)
  /-- FLOAT_CHECK (R203): Every 10 ms a FLOAT pair compares the demand with POS_EST, and starts or ends a move. -/
  | floatCheck (tile channel : Nat)
  /-- REVERSAL_WAIT_END (R203): The 200 ms off time between the OPEN and CLOSE drives ends. -/
  | reversalWaitEnd (tile channel : Nat)
  /-- DRIVE_BAND_SAMPLE (R204): Every 1 ms the tile's drive band is evaluated. -/
  | driveBandSample (tile : Nat)
  /-- OUTPUT_WATCHDOG_EXPIRY (R205): No setting command arrives within WATCHDOG_S and the output goes to its fallback. -/
  | outputWatchdogExpiry (tile kind index : Nat)
  /-- VGATE_LOW (R207): VGATE below 9.0 V for 10 us turns every gate off and sets GATE_LOW. -/
  | vgateLow
  /-- VGATE_RECOVER (R207): VGATE at or above 9.5 V for 1 ms clears GATE_LOW, restarts ON channels and resumes FLOAT moves. -/
  | vgateRecover
  /-- AO_OVERLOAD (R207): An analogue output sourcing more than 5 mA is limited and sets OVERLOAD. -/
  | aoOverload (tile output : Nat)
  /-- AO_OVERLOAD_CLEAR (R207): The analogue output load falls below 4 mA and OVERLOAD clears. -/
  | aoOverloadClear (tile output : Nat)
  /-- AO_RAMP_STEP (R211): Each ms a ramping analogue output code moves by at most RAMP towards its target. -/
  | aoRampStep (tile output : Nat)
  /-- FAN_KICK_END (R212): A fan kick of KICK x 100 ms ends and the port runs at its duty. -/
  | fanKickEnd (tile port : Nat)
  /-- FAN_TACH_EDGE (R212): A filtered tachometer pulse on a fan port is counted. -/
  | fanTachEdge (tile port : Nat)
  /-- FAN_SPEED_UPDATE (R212): At each TB second the fan speed is computed and stall is judged. -/
  | fanSpeedUpdate (tile : Nat)
  /-- BUS_CONFIG (R219): Owner command that configures a bus controller's identity, mode, timing, beacons and groups. -/
  | busConfig (q : Nat) (pk : Packet)
  /-- BUS_STATUS (R238): Returns BUS_STAT, BUS_CAUSE and the counters, optionally clearing the causes read. -/
  | busStatus (q : Nat) (pk : Packet)
  /-- BUS_SEND (R220): Places a host message in a transmit buffer and replies PENDING. -/
  | busSend (q : Nat) (pk : Packet)
  /-- BUS_CANCEL (R224): Cancels a pending BUS_SEND, or reports it NOT_CANCELLABLE while it is on the bus. -/
  | busCancel (q : Nat) (pk : Packet)
  /-- BUS_RECOVER (R222): Owner command that starts the bus-off recovery sequence. -/
  | busRecover (q : Nat) (pk : Packet)
  /-- BUS_RECOVERY_DONE (R222): 128 occurrences of 11 recessive bits end bus-off; the controller is error-active. -/
  | busRecoveryDone (bus : Nat)
  /-- BUS_FILTER (R221): Owner command that sets one of the 16 host receive filters. -/
  | busFilter (q : Nat) (pk : Packet)
  /-- BUS_RXRING (R221): Owner command that sets the controller's receive ring. -/
  | busRxring (q : Nat) (pk : Packet)
  /-- BUS_NODE (R230): Owner command that registers or forgets a node entry. -/
  | busNode (q : Nat) (pk : Packet)
  /-- BUS_NODE_READ (R230): Returns a node entry's state, epoch, serial and counters. -/
  | busNodeRead (q : Nat) (pk : Packet)
  /-- BUS_ADOPT (R230): Owner command that moves a node's identity to a spare with a new epoch and sends ADOPT. -/
  | busAdopt (q : Nat) (pk : Packet)
  /-- BUS_RETIRE (R233): Owner command that sends RETIRE with a given serial. -/
  | busRetire (q : Nat) (pk : Packet)
  /-- BUS_LINK (R229): Owner command that binds or unbinds a point to a node OBJECT for POINT_WRITE. -/
  | busLink (q : Nat) (pk : Packet)
  /-- BUS_DUSK (R235): Proposes bus sleep with DUSK_PROPOSE. -/
  | busDusk (q : Nat) (pk : Packet)
  /-- BUS_DAWN (R235): A local wake request that wakes the bus or aborts dusk. -/
  | busDawn (q : Nat) (pk : Packet)
  /-- TRANSMIT_COMPLETE (R223): A transmission attempt ends, sent, lost or in error; retries, ALONE, TEC and bus-off are updated. -/
  | transmitComplete (bus : Nat) (how : TxEnd)
  /-- HOST_FRAME (R227): A received frame for the host passes the checks and the filters and goes to the receive ring. -/
  | hostFrame (bus : Nat) (f : BusFrame)
  /-- BEACON (R230): A received BEACON is checked against the node entry for afterimages and updates its state and deadline. -/
  | beacon (bus : Nat) (f : BusFrame)
  /-- DUSK_PROPOSE (R235): A received dusk proposal is answered with AGREE or REFUSE. -/
  | duskPropose (bus : Nat) (f : BusFrame)
  /-- DUSK_AGREE (R235): A received agreement to the controller's proposal is counted towards DUSK_COMMIT. -/
  | duskAgree (bus : Nat) (f : BusFrame)
  /-- DUSK_REFUSE (R235): A received refusal ends the proposal, which reverts to AWAKE. -/
  | duskRefuse (bus : Nat) (f : BusFrame)
  /-- DUSK_COMMIT (R235): A received commit moves an AGREED controller to HOLD. -/
  | duskCommit (bus : Nat) (f : BusFrame)
  /-- DAWN (R235): A received DAWN aborts HOLD and is relayed. -/
  | dawn (bus : Nat) (f : BusFrame)
  /-- ADOPT (R234): A received ADOPT takes the node identity for the chip serial, or updates the matching node entry. -/
  | adopt (bus : Nat) (f : BusFrame)
  /-- RETIRE (R233): A received RETIRE carrying the chip serial puts the controller into RETIRED. -/
  | retire (bus : Nat) (f : BusFrame)
  /-- POINT_REPORT (R228): Each record updates the points bound to that node OBJECT. -/
  | pointReport (bus : Nat) (f : BusFrame)
  /-- POINT_WRITE_ACK (R229): A received acknowledgement ends or refuses a linked POINT_WRITE. -/
  | pointWriteAck (bus : Nat) (f : BusFrame)
  /-- BEACON_TIMER (R230): Every BEACON_PERIOD the device sends its own beacon on each NORMAL controller. -/
  | beaconTimer (bus : Nat)
  /-- NODE_CHECK (R230): Every 100 ms the registered nodes are checked against their beacon deadlines. -/
  | nodeCheck (bus : Nat)
  /-- FRAGMENT_TIMEOUT (R226): More than 100 ms between fragments discards the message and sets FRAG_LOST. -/
  | fragmentTimeout (bus : Nat)
  /-- LINK_ACK_TIMEOUT (R229): No POINT_WRITE_ACK within 100 ms; the write is resent, or LINK_FAIL is set after the fourth silence. -/
  | linkAckTimeout (bus link : Nat)
  /-- DUSK_PROPOSE_TIMEOUT (R235): 200 ms pass in PROPOSING with an answer missing; back to AWAKE. -/
  | duskProposeTimeout (bus : Nat)
  /-- DUSK_AGREE_TIMEOUT (R235): 400 ms pass in AGREED without a commit; back to AWAKE. -/
  | duskAgreeTimeout (bus : Nat)
  /-- DUSK_HOLD_END (R235): 100 ms of HOLD pass; the controller stops, sets BUS_STB high and is ASLEEP. -/
  | duskHoldEnd (bus : Nat)
  /-- BUS_WAKE (R235): BUS_WAKE goes low; the controller wakes, or it raises the WAKE_PIN cause in GLOW and OFF. -/
  | busWake (bus : Nat)
  /-- DAWN_DELAY_END (R235): 1 ms after the wake-up pattern of an ASLEEP controller, DAWN is sent. -/
  | dawnDelayEnd (bus : Nat)
  /-- FED_IDENTITY (R241): Owner command that sets and commits CHIP, BUILDING and CLUSTER. -/
  | fedIdentity (q : Nat) (pk : Packet)
  /-- FED_LINK (R246): Owner command that disables, enables or retrains a Lomuz link. -/
  | fedLink (q : Nat) (pk : Packet)
  /-- FED_NET (R251): Owner command that sets the IPv6 address, multicast group, VLAN and Amiziot port. -/
  | fedNet (q : Nat) (pk : Packet)
  /-- FED_PTP (R257): Owner command that sets the discipline source and the PTP parameters. -/
  | fedPtp (q : Nat) (pk : Packet)
  /-- FED_EXPORT (R253): Owner command that sets SWEEP_S and the export mask, withdrawing entries of groups no longer exported. -/
  | fedExport (q : Nat) (pk : Packet)
  /-- FED_MIRROR (R254): Reserves a record and sends SUBSCRIBE to the origin of a point. -/
  | fedMirror (q : Nat) (pk : Packet)
  /-- FED_UNMIRROR (R261): Sends CANCEL and removes a reflection unless something binds it. -/
  | fedUnmirror (q : Nat) (pk : Packet)
  /-- FED_STATUS (R261): Returns the federation identity, link states, peers and PTP state. -/
  | fedStatus (q : Nat) (pk : Packet)
  /-- FED_PEER_READ (R249): Returns a peer's state, path, serial and BOOT_ID. -/
  | fedPeerRead (q : Nat) (pk : Packet)
  /-- LINK_TRAINING_DONE (R246): A Lomuz link completes training and goes UP, or enters MISWIRED. -/
  | linkTrainingDone (link : Nat) (peer : TrainInfo)
  /-- LINK_RETRY (R246): Every 1 s a failed or miswired link retries training. -/
  | linkRetry (link : Nat)
  /-- LINK_DOWN (R247): A link loses block alignment, sees no valid frame for 10 us or an LCRC failure; it leaves UP and retrains. -/
  | linkDown (link : Nat)
  /-- LOMUZ_FRAME (R248): A received idle or credit frame returns frame credits. -/
  | lomuzFrame (link : Nat) (head : FrameHead)
  /-- HOLD_ORDERED_SET (R298): A received HOLD ordered set puts the link into HOLD for a calibration. -/
  | holdOrderedSet (link : Nat)
  /-- LINK_HOLD_END (R298): 400 us of HOLD end and the link returns to UP. -/
  | linkHoldEnd (link : Nat)
  /-- UPDATE (R255): A received mirror UPDATE is accepted by BOOT or TIMESTAMP into the reflection, or discarded. -/
  | update (via : Via) (r : MirrorRec)
  /-- SUBSCRIBE (R253): The origin grants or refuses a received subscription. -/
  | subscribe (via : Via) (r : MirrorRec)
  /-- GRANT (R254): A received GRANT creates the reflection and completes FED_MIRROR. -/
  | grant (via : Via) (r : MirrorRec)
  /-- REFUSE (R256): A received REFUSE fails FED_MIRROR, or ends an existing subscription. -/
  | refuse (via : Via) (r : MirrorRec)
  /-- CANCEL (R250): A received CANCEL from a subscriber ends its subscription entry at the origin. -/
  | cancel (via : Via) (r : MirrorRec)
  /-- ANNOUNCE (R252): A received Amiziot ANNOUNCE makes the peer ALIVE and reveals BOOT_ID, building and chip conflicts. -/
  | announce (h : AmzHeader)
  /-- ANNOUNCE_TIMER (R252): Every 5 s the chip sends ANNOUNCE to MCAST. -/
  | announceTimer
  /-- PEER_LOST (R252): A peer with no valid datagram for 15 s becomes LOST. -/
  | peerLost (chip : Nat)
  /-- EN_LINK_LOSS (R251): EN0 loses link and traffic moves to EN1 within 10 ms, a path change for every Ethernet peer. -/
  | enLinkLoss
  /-- EN_RETURN (R251): After EN0 has held link for 10 s, traffic returns to EN0. -/
  | enReturn
  /-- ROUTER_ADVERTISEMENT (R251): A received Router Advertisement sets the default router. -/
  | routerAdvertisement (frame : EnFrame)
  /-- SWEEP (R253): Using idle capacity, the origin sends every subscribed point to each subscriber with SWEEP set. -/
  | sweep (chip : Nat)
  /-- MIRROR_TIMEOUT (R254): 30 s without an answer to SUBSCRIBE; FED_MIRROR completes with NO_ACK. -/
  | mirrorTimeout (id : Nat)
  /-- REFLECTION_STALE (R256): No record is accepted for STALE_S seconds and the reflection is set STALE. -/
  | reflectionStale (id : Nat)
  /-- SYNC (R258): A PTP Sync message is received; the servo corrects offset and rate, the rate being what it computes, and judges lock. -/
  | sync (m : PtpSync) (ratePpb : Int)
  /-- HOLDOVER (R258): After 10 Sync intervals without Sync the device enters holdover at the last rate. -/
  | holdover
  /-- PANEL_CONFIG (R265): Owner command that sets a head's mode and allocates its three frame buffers. -/
  | panelConfig (q : Nat) (pk : Packet)
  /-- PANEL_POWER (R273): Owner command that starts the power-on or power-off rail sequence of a head. -/
  | panelPower (q : Nat) (pk : Packet)
  /-- PANEL_UPLOAD (R269): Copies a rectangle from host or ring memory into a frame buffer. -/
  | panelUpload (q : Nat) (pk : Packet)
  /-- PANEL_UPLOAD_DONE (R269): A frame buffer upload completes. -/
  | panelUploadDone (head : Nat)
  /-- PANEL_FLIP (R269): Names the buffer to scan from the next frame start. -/
  | panelFlip (q : Nat) (pk : Packet)
  /-- PANEL_GAMMA (R271): Owner command that writes gamma entries or IREF codes into the shadow bank. -/
  | panelGamma (q : Nat) (pk : Packet)
  /-- PANEL_GAMMA_COMMIT (R271): Owner command that checks and copies the shadow gamma bank for a swap at a frame start. -/
  | panelGammaCommit (q : Nat) (pk : Packet)
  /-- GAMMA_COPY_DONE (R271): The gamma bank copy into the head's gamma memory completes. -/
  | gammaCopyDone (head : Nat)
  /-- PANEL_BAND (R272): Owner command that sets the panel band source and its boundaries. -/
  | panelBand (q : Nat) (pk : Packet)
  /-- PANEL_READ (R292): Returns PH_STAT, PH_TSTAT, the frame count, the crack resistance and the buffer in force. -/
  | panelRead (q : Nat) (pk : Packet)
  /-- PANEL_CRACK_SCAN (R280): Runs RSCAN on CRACK_POS and judges open or short cracks along the loop. -/
  | panelCrackScan (q : Nat) (pk : Packet)
  /-- GLOW_CONFIG (R281): Sets the glow area rectangle and OVERLAY. -/
  | glowConfig (q : Nat) (pk : Packet)
  /-- GLOW_LOAD (R282): Fills the glow bitmap, palette or glyphs from host or ring memory. -/
  | glowLoad (q : Nat) (pk : Packet)
  /-- GLOW_WIDGET (R283): Sets one of the 16 glow widgets. -/
  | glowWidget (q : Nat) (pk : Packet)
  /-- TOUCH_CONFIG (R285): Owner command that enables touch scanning and sets its thresholds. -/
  | touchConfig (q : Nat) (pk : Packet)
  /-- TOUCH_RING (R289): Sets the touch ring. -/
  | touchRing (q : Nat) (pk : Packet)
  /-- TOUCH_REBASE (R288): Clears stuck, touched and anti-touch states and takes a new baseline. -/
  | touchRebase (q : Nat) (pk : Packet)
  /-- TOUCH_PROFILE (R287): Owner command that captures 32 scans as the empty-panel profile and commits it, or erases it. -/
  | touchProfile (q : Nat) (pk : Packet)
  /-- TOUCH_READ (R292): Returns PH_TSTAT and the first contacts. -/
  | touchRead (q : Nat) (pk : Packet)
  /-- FRAME_START (R268): A head sends FRAME_START, applying flips, gamma swaps, bands, glow changes and calibration values, then scans the frame. -/
  | frameStart (head : Nat)
  /-- POWER_GOOD (R273): A panel power-good input rises and the rail sequence moves to its next step. -/
  | powerGood (head index : Nat)
  /-- PH_LOCK (R273): PH_LOCK rises when the driver chain is locked and enumerated. -/
  | phLock (head : Nat)
  /-- RAIL_DEADLINE (R273): A power-good input or PH_LOCK misses its deadline and the sequence fails. -/
  | railDeadline (head : Nat)
  /-- RAIL_SEQUENCE_TIMER (R275): A fixed wait of the large-configuration rail sequence ends and the next rail is switched. -/
  | railSequenceTimer (head : Nat)
  /-- DISCHARGE_END (R274): DIS_MS after the rails fall, PH_DIS goes low, ending the power-off sequence. -/
  | dischargeEnd (head : Nat)
  /-- PANEL_FAULT (R276): A risen power-good falls, PH_LOCK falls or PH_FLT_N is low for 10 us; the head enters FAULT. -/
  | panelFault (head : Nat) (cause : PanelFaultCause)
  /-- CRACK_CHECK (R278): A crack-loop resistance measurement completes and is judged against CRACK_RMAX. -/
  | crackCheck (head ohms : Nat)
  /-- CRACK_CHECK_TIMER (R279): Every 1 s while LIT a crack check is started. -/
  | crackCheckTimer (head : Nat)
  /-- PANEL_BAND_SAMPLE (R272): Every 1 ms the panel band is evaluated. -/
  | panelBandSample (head : Nat)
  /-- TOUCH_SCAN (R286): A touch scan updates touch, anti-touch and baseline per node, and writes contacts to the touch ring. -/
  | touchScan (head : Nat) (raw : List Int)
  /-- CAL_RUN (R295): Owner command that starts a two-run calibration of an item. -/
  | calRun (q : Nat) (pk : Packet)
  /-- CAL_MODE (R296): Owner command that sets an item's CAL_MODE, TAP or SELECT. -/
  | calMode (q : Nat) (pk : Packet)
  /-- CAL_READ (R310): Returns an item's mode, value source, state and quality figures. -/
  | calRead (q : Nat) (pk : Packet)
  /-- CAL_SET_RREF (R303): Owner command that sets the tile reference correction pending. -/
  | calSetRref (q : Nat) (pk : Packet)
  /-- CAL_COMMIT (R308): Owner command that burns the lowest blank fuse slot with a complete image. -/
  | calCommit (q : Nat) (pk : Packet) (m : Monitors)
  /-- FUSE_BURN_DONE (R308): A fuse burn reaches DONE and is read back and checked. -/
  | fuseBurnDone (good : Bool)
  /-- FUSE_INFO (R310): Returns the generation in force, the slot usage, the serial and the identity. -/
  | fuseInfo (q : Nat) (pk : Packet)
  /-- CAL_MEASURE_TIMEOUT (R297): A drive-threshold run that has not gathered 256 measurements within 10 s ends with reason 6. -/
  | calMeasureTimeout (channel : Nat)
  /-- NV_READ (R326): Copies bytes of an open region to DEST, after overlapping commits. -/
  | nvRead (q : Nat) (pk : Packet)
  /-- NV_WRITE (R316): Queues a journalled commit of a byte span of an open region. -/
  | nvWrite (q : Nat) (pk : Packet)
  /-- NV_STATUS (R326): Returns NVSTAT, the energy, lockouts, openings, queued commits and a region's program count. -/
  | nvStatus (q : Nat) (pk : Packet)
  /-- NV_BP (R321): Owner command that sets BP[1:0] by a commit. -/
  | nvBp (q : Nat) (pk : Packet)
  /-- NV_UNLOCK (R322): Opens a region for the context with a password, counting wrong attempts. -/
  | nvUnlock (q : Nat) (pk : Packet)
  /-- NV_LOCK (R322): Ends the context's opening of a region. -/
  | nvLock (q : Nat) (pk : Packet)
  /-- NV_PASSWORD (R322): Changes a region password by a commit. -/
  | nvPassword (q : Nat) (pk : Packet)
  /-- NV_CLEAR (R324): Owner command that zeroes a region in eight commits and clears its passwords in a ninth. -/
  | nvClear (q : Nat) (pk : Packet)
  /-- NV_HOLDUP (R317): Owner command that sets the hold-up configuration and commits it. -/
  | nvHoldup (q : Nat) (pk : Packet)
  /-- NV_COMMIT_START (R314): The next queued commit starts after checking BP and the hold-up energy, then stages its pages. -/
  | nvCommitStart (holdmon : Nat)
  /-- NV_COMMIT_DONE (R314): A commit is applied, read back and retired, and its command replies. -/
  | nvCommitDone (failedPage : Option Nat)
  /-- TILE_POWER (R339): Owner command that powers or gates a tile. -/
  | tilePower (q : Nat) (pk : Packet)
  /-- TILE_POWER_DONE (R339): A tile's power-on or gating sequence ends and TILE_POWER replies. -/
  | tilePowerDone (done : TileDone)
  /-- POWER_STATE (R334): Owner command that moves the device between RUN, QUIET, GLOW and OFF. -/
  | powerState (q : Nat) (pk : Packet)
  /-- POWER_TRANSITION_DONE (R334): A power-state transition reaches its target and POWER_STATE gives its final reply. -/
  | powerTransitionDone
  /-- POWER_CONFIG (R335): Owner command that sets the wake mask, wake target, PRESENCE_MIN, PFAIL_MV and WAKE_AT. -/
  | powerConfig (q : Nat) (pk : Packet)
  /-- POWER_READ (R336): Returns the state, the last wake cause, monitor voltages and PFAIL figures. -/
  | powerRead (q : Nat) (pk : Packet)
  /-- CLOCK_SPREAD (R344): Owner command that sets the down-spread of a TCLK, HCLK or PXCLK domain. -/
  | clockSpread (q : Nat) (pk : Packet)
  /-- IO_CONFIG (R345): Owner command that sets the filter and slew codes of a pin class. -/
  | ioConfig (q : Nat) (pk : Packet)
  /-- THERM_CONFIG (R342): Owner command that sets T_WARN and T_THROTTLE. -/
  | thermConfig (q : Nat) (pk : Packet)
  /-- THERM_READ (R346): Returns the thermal summary or one sensor's readings. -/
  | thermRead (q : Nat) (pk : Packet)
  /-- THERM_CAP (R343): Owner command that caps a tile's throttle level. -/
  | thermCap (q : Nat) (pk : Packet)
  /-- POR_RELEASE (R329): The rails, SUPMON and RST_N first satisfy the reset conditions, and start-up begins. -/
  | porRelease (m : Monitors) (ordered : Bool)
  /-- RST_N (R330): RST_N low for at least 10 us resets everything except the always-on domain. -/
  | rstN (lowNs : Nat)
  /-- FUSE_LOAD (R307): Fuse load completes with the factory image and the newest valid generation loaded. -/
  | fuseLoad (factoryGood : Bool)
  /-- JOURNAL_RECOVERY (R320): Recovery completes or rolls back unretired commits and the stored state is restored. -/
  | journalRecovery
  /-- FIRMWARE_VERIFY (R338): A firmware image from slot A or B is read and its signature verified. -/
  | firmwareVerify (image : BootImage)
  /-- LPDDR5_TRAINING (R337): LPDDR5 training completes and RDY is set, or DRAM_FAULT after three attempts. -/
  | lpddr5Training (good : Bool) (gib : Nat)
  /-- TILE_BROWNOUT (R331): A powered tile rail below 0.68 V for 10 us gates the tile. -/
  | tileBrownout (tile mv : Nat)
  /-- PFAIL_RISE (R340): SUPMON below PFAIL_MV for 50 us raises PFAIL and runs the ordered close, switch and checkpoint. -/
  | pfailRise (supmon holdmon : Nat) (recordBegun : Bool)
  /-- PFAIL_FALL (R340): SUPMON at or above PFAIL_MV + 50 mV for 1 ms clears PFAIL. -/
  | pfailFall (supmon : Nat)
  /-- MAIN_RAIL_LOSS (R336): The main rails drop out while VDD_AON stays up; the device ends in OFF with PWR_EN high. -/
  | mainRailLoss
  /-- VDD_AON_LOSS (R18): VDD_AON is lost, clearing TB_VALID and losing TB. -/
  | vddAonLoss
  /-- WAKE_PIN (R335): WAKE_N held low for 1 ms wakes the device from GLOW or OFF. -/
  | wakePin (lowNs : Nat)
  /-- WAKE_ALARM (R335): TB reaches WAKE_AT while TB_VALID is set. -/
  | wakeAlarm
  /-- THERM_SAMPLE (R343): Every 1 ms the sensors and tile rails are sampled, and throttle steps, warnings, skew and the critical condition are judged. -/
  | thermSample (readings : Vector Int 16) (m : Monitors)
  /-- THROTTLE_UP (R343): After 1 s below T_THROTTLE - 5 C, a tile steps up one level. -/
  | throttleUp (tile : Nat)
  /-- CRIT_END (R342): The maximum stays below 120 C for 10 s and the critical condition ends. -/
  | critEnd
  /-- EVENT_CONFIG (R350): Owner command that writes EVCFG words of event sources. -/
  | eventConfig (q : Nat) (pk : Packet)
  /-- EVENT_READ (R358): Returns EVSTAT of up to five sources. -/
  | eventRead (q : Nat) (pk : Packet)
  /-- EVENT_PENDING (R358): Returns the PENDING and SIGNALLED bits of a quarter of the sources. -/
  | eventPending (q : Nat) (pk : Packet)
  /-- EVENT_ACK (R352): Clears PENDING, SIGNALLED and COUNT of the named sources. -/
  | eventAck (q : Nat) (pk : Packet)
  /-- EVENT_WAIT (R358): Waits until a masked source is pending, or until timeout. -/
  | eventWait (q : Nat) (pk : Packet)
  /-- EVENT_WAIT_TIMEOUT (R358): An EVENT_WAIT times out and completes with WHY 2. -/
  | eventWaitTimeout (q tag : Nat)
  /-- EVENT_DETAIL (R358): Returns a source's last CODE, ARG and log SEQ. -/
  | eventDetail (q : Nat) (pk : Packet)
  /-- LOG_READ (R381): Copies trouble log entries from a snapshot to DEST, reporting LOST. -/
  | logRead (q : Nat) (pk : Packet)
  /-- LOG_MARK (R358): Writes a host mark entry to the trouble log. -/
  | logMark (q : Nat) (pk : Packet)
  /-- LOG_CLEAR (R381): Owner command that empties the trouble log and zeroes OVERWRITES. -/
  | logClear (q : Nat) (pk : Packet)
  /-- TRANSMIT_START (R220): At bus idle the controller selects the pending frame with the lowest identifier and drives its start-of-frame, so the frame is on the bus. -/
  | transmitStart (bus : Nat)
  /-- RECEIVE_ERROR (R222): A bus error during reception raises REC by ISO 11898-1 and can move the controller to error-passive. -/
  | receiveError (bus : Nat)
  /-- CONFIGURATION_REQUEST (R339): A PCIe configuration request to HOST is answered with Configuration Request Retry Status before RDY, or served, including MSI-X capability enable and function mask. -/
  | configurationRequest (r : CfgRequest)
  /-- EN_LINK_RETURN (R251): EN0 regains link, which starts the 10 s hold before traffic returns from EN1. -/
  | enLinkReturn
  /-- BLANKING_END (R199): 500 ns after a drive on-edge the comparator blanking ends, the valley code is recorded, and a threshold-calibration measurement window closes. -/
  | blankingEnd (tile channel code : Nat)
  /-- GLOW_LOAD_DONE (R282): A GLOW_LOAD copy into glow memory completes and the command gives its final reply. -/
  | glowLoadDone (head : Nat)
  /-- METER_HISTORY_DONE (R133): The copy of closed-interval records to the host completes and METER_HISTORY gives its final reply with the record count. -/
  | meterHistoryDone (tile : Nat)
  /-- PRESENCE_TEST_DONE (R146): After two frame times of synthetic input the presence test compares the count, releases the port and replies PASS. -/
  | presenceTestDone (tile : Nat)
deriving DecidableEq, Repr

end Sys2Proof
end

