-- ==== Sys2Proof/Decode.lean ====
section
/-!
DEFINITION. Decode.lean: commands spelled by a word. spec/opcode_table.json gives no row any bits (every row's "fixed" and
"fields" are empty), so no word spells a command; log 10.
-/

namespace Sys2Proof

/-- The command that a word of `nbits` bits spells by the table's bits: none, since the table gives no row bits. -/
def decodeTableWord (_nbits _w : Nat) : Option Instr := none

end Sys2Proof
end

