-- ==== Sys2Proof/Config.lean ====
section
/-!
DEFINITION. Config.lean: what one device fixes, and the free values: constants without a body, so that a claim holds
whatever they are (log 5).
-/

namespace Sys2Proof

/-- The 48-bit serial number that the fuse array holds (R304): one device's own. -/
opaque Config.serial : BitVec 48
/-- Bytes 2 to 15 of IDENT (R304), behind the part number: the revision, grade code and test date of one device. -/
opaque Config.ident : BitVec 112
/-- KEY_HASH of the fuse array (R304): the SHA-256 of the firmware's public key, one device's own. -/
opaque Config.keyHash : BitVec 256
/-- A byte of an item record (R306, which does not lay them out): by the item, what the record holds and the byte's place. -/
opaque Config.recordByte : Nat → List Int → Nat → Byte
/-- The Vendor ID, which R23 does not give: the chip maker's own. -/
opaque Config.vendorId : BitVec 16
/-- The Revision ID of the PCIe function, which R23 does not give. -/
opaque Config.pcieRevision : BitVec 8
/-- Words of configuration space that the spec does not lay out, by offset. -/
opaque Config.pcieWord : Nat → BitVec 32
/-- The device nonces of SESSION_OPEN (R53), one a draw. -/
opaque Config.nonce : Nat → BitVec 128
/-- BOOT_ID, drawn at each start-up (R250). -/
opaque Config.bootId : Nat → Word
/-- The link-local IPv6 address that a chip serial forms (R251, which does not say how). -/
opaque Config.linkLocal : BitVec 48 → BitVec 128
/-- The quality that the device's PTP clock announces between its two priorities (IEEE 1588-2019): one device's own. -/
opaque Config.ptpQuality : Nat
/-- Idle frames that a Lomuz link sends (R248) while some steps of the time base pass, by link, elapsed time and steps: the
spec gives no frame rate. -/
opaque Config.idleFrames : Nat → Nat → Nat → Nat
/-- A free bit, one a draw. -/
opaque Config.bool : Nat → Bool
/-- A free number, one a draw. -/
opaque Config.nat : Nat → Nat
/-- A free FP32 value, one a draw. -/
opaque Config.fp : Nat → BitVec 32
/-- The 50 ohm shunt of a tile as a self-calibration measures it against RREF_LO, FP32 ohms (R82): by the tile, the FP32
resistance taken for RREF_LO and the elapsed time; time 0 gives the value of manufacture. -/
opaque Config.shunt : Nat → BitVec 32 → Nat → BitVec 32
/-- The mains period in ns that a degree of PHASE_CORR is a part of, which R126 does not give. -/
opaque Config.mainsNs : Nat
/-- The background that 32 temperatures of a pixel build (R142, which does not say how). -/
opaque Config.background : List Rat → BitVec 32
/-- The pixels of the synthetic frame of PRESENCE_TEST (R146), by FRAME_PIX and WIDTH, and the place of a pixel. -/
opaque Config.synthPixel : Nat → Nat → Nat → BitVec 16
/-- The count that the synthetic frame is known to have. -/
opaque Config.synthCount : Nat → Nat → Nat
/-- An entry of a gain bank (R178, R186): by the weights and RHO, the model, and the entry's place. The spec names the
Riccati recursion that fills the bank and not its terms. -/
opaque Config.gain : List (BitVec 32) → List (List (BitVec 32)) → Nat → BitVec 32
/-- A move that the equality-constrained part of an iteration gives (R178): by the gain bank, the linear terms, the split
copies and the duals, and its step and input. The spec does not give the split. -/
opaque Config.admmMove :
  List (BitVec 32) → List (BitVec 32) → List (List (BitVec 32)) → List (List (BitVec 32)) → Nat → Nat → BitVec 32
/-- What an iteration projects, by a copy, its dual and RHO (R178). -/
opaque Config.admmPoint : BitVec 32 → BitVec 32 → BitVec 32 → BitVec 32
/-- The split copy of an output, by its band, W_S, RHO and the point projected (R176: the band is soft). -/
opaque Config.admmSoft : Rat → Rat → BitVec 32 → BitVec 32 → BitVec 32 → BitVec 32
/-- The updated dual, by the dual and the two copies (R178). -/
opaque Config.admmDual : BitVec 32 → BitVec 32 → BitVec 32 → BitVec 32
/-- The driver register that holds the reference current of a colour (R268): the spec does not number the registers. -/
opaque Config.irefRegister : Nat → Nat
/-- A reference current code corrected by a driver's reference calibration (R271): by the item's CAL_MODE and trims, the
driver, the colour and the code. The spec does not say how a trim corrects a code. -/
opaque Config.irefCorrected : Nat → List Int → Nat → Nat → Nat → Nat
/-- A free byte of a failed page (R319): the draw and the place in the page. -/
opaque Config.pageByte : Nat → Nat → Byte
/-- The count that an FP32 source result gives a point of TYPE 3 (R378 states none). -/
opaque Config.fpToCount : BitVec 32 → BitVec 32
/-- What an unsigned source result outside the values of a TYPE gives (R378 states none): the TYPE and the result. -/
opaque Config.unsToType : BitVec 2 → BitVec 32 → BitVec 32

end Sys2Proof
end

