-- ==== Sys2Proof/Machine/Bytes.lean ====
section
/-!
DEFINITION. Machine/Bytes.lean: bytes and words in little-endian order, CRC-32C, sparse memory in canonical form and
the sparse tables. Everything here is structural recursion over lists, so it evaluates.
-/

namespace Sys2Proof.Machine

/-! ## Little-endian bytes -/

/-- Byte `i` of a number, the least significant being byte 0. -/
def byteAt (v i : Nat) : Byte := BitVec.ofNat 8 (v / 2 ^ (8 * i))

/-- The `n` low bytes of `v`, least significant first (R35, R36: multi-byte fields are little-endian). -/
def leBytes : Nat → Nat → List Byte
  | 0, _ => []
  | n + 1, v => BitVec.ofNat 8 v :: leBytes n (v / 256)

/-- The number that bytes spell, least significant first. -/
def ofLe : List Byte → Nat
  | [] => 0
  | b :: r => b.toNat + 256 * ofLe r

/-- A number packed from fields, each a width in bytes and a value, the first field lowest. -/
def packLe : List (Nat × Nat) → Nat
  | [] => 0
  | (w, v) :: r => v % 256 ^ w + 256 ^ w * packLe r

/-- The low `n` bits of `v`, read as a signed number. -/
def signedOf (n v : Nat) : Int :=
  if v % 2 ^ n < 2 ^ (n - 1) then (v % 2 ^ n : Nat) else ((v % 2 ^ n : Nat) : Int) - (2 ^ n : Nat)

/-- A signed number as `n` bits. -/
def toBits (n : Nat) (i : Int) : Nat := (i % (2 ^ n : Nat)).toNat

/-- 0 or 1. -/
def bit (b : Bool) : Nat := if b then 1 else 0

/-- Bits `hi` to `lo` of a number. -/
def field (v hi lo : Nat) : Nat := v / 2 ^ lo % 2 ^ (hi + 1 - lo)

/-- `v` with bits `hi` to `lo` replaced by `x`. -/
def setField (v hi lo x : Nat) : Nat :=
  v - field v hi lo * 2 ^ lo + x % 2 ^ (hi + 1 - lo) * 2 ^ lo

/-! ## CRC-32C (chapter 2, What the checks cover) -/

/-- One bit of the reflected Castagnoli division. -/
def crcBit (c : Word) : Word := if c.getLsbD 0 then (c >>> 1) ^^^ 0x82F63B78#32 else c >>> 1

/-- One byte of it. -/
def crcByte (c : Word) (b : Byte) : Word :=
  crcBit (crcBit (crcBit (crcBit (crcBit (crcBit (crcBit (crcBit (c ^^^ b.setWidth 32))))))))

/-- The running value over a list of bytes. -/
def crcFold (c : Word) : List Byte → Word
  | [] => c
  | b :: r => crcFold (crcByte c b) r

/-- CRC-32C: polynomial 0x1EDC6F41 reflected, initial value and final XOR 0xFFFFFFFF. -/
def crc32c (bytes : List Byte) : Word := crcFold 0xFFFFFFFF#32 bytes ^^^ 0xFFFFFFFF#32

/-! ## CRC-8 (Tables 11.3, 12.1) -/

/-- One bit of the division by polynomial 0x07, highest bit first. -/
def crc8Bit (c : Byte) : Byte := if c.getLsbD 7 then (c <<< 1) ^^^ 0x07#8 else c <<< 1

/-- One byte of it. -/
def crc8Byte (c b : Byte) : Byte := crc8Bit (crc8Bit (crc8Bit (crc8Bit (crc8Bit (crc8Bit (crc8Bit (crc8Bit (c ^^^ b))))))))

/-- CRC-8: polynomial 0x07, initial value 0. -/
def crc8 (bytes : List Byte) : Byte := bytes.foldl crc8Byte 0

/-! ## Memory: canonical lists of cells; an unlisted byte reads 0 (log 4) -/

/-- What an address no cell lists reads as (log 4). -/
def unlisted : Byte := 0

/-- The byte at an address. -/
def memGet : List Host.Cell → Nat → Byte
  | [], _ => unlisted
  | (k, v) :: r, a => if a = k then v else memGet r a

/-- Write one byte, keeping the canonical form. -/
def memSet : List Host.Cell → Nat → Byte → List Host.Cell
  | [], a, b => if b = unlisted then [] else [(a, b)]
  | (k, v) :: r, a, b =>
    if a < k then (if b = unlisted then (k, v) :: r else (a, b) :: (k, v) :: r)
    else if a = k then (if b = unlisted then r else (a, b) :: r)
    else (k, v) :: memSet r a b

/-- `n` bytes from an address. -/
def memRead (m : List Host.Cell) (a : Nat) : Nat → List Byte
  | 0 => []
  | n + 1 => memGet m a :: memRead m (a + 1) n

/-- Write bytes from an address, lowest first. -/
def memWrite (m : List Host.Cell) (a : Nat) : List Byte → List Host.Cell
  | [] => m
  | b :: r => memWrite (memSet m a b) (a + 1) r

/-- Every address of the list lies above `k`, the addresses rise, and no entry equals what an unlisted one reads as. -/
def memAbove : Nat → List Host.Cell → Bool
  | _, [] => true
  | k, (a, b) :: r => decide (k < a) && decide (b ≠ unlisted) && memAbove a r

/-- The canonical form: addresses strictly rising, no entry equal to what an unlisted address reads as. -/
def Memory.wf : List Host.Cell → Bool
  | [] => true
  | (a, b) :: r => decide (b ≠ unlisted) && memAbove a r

/-- The cells whose addresses pass a test; what they held is forgotten. -/
def memForget (m : List Host.Cell) (p : Nat → Bool) : List Host.Cell :=
  m.filter (fun c => !p c.1)

/-! ## Sparse tables: keys strictly rising -/

variable {β : Type}

/-- The entry of a key. -/
def aget : AMap β → Nat → Option β
  | [], _ => none
  | (k, v) :: r, a => if a = k then some v else aget r a

/-- Put an entry, keeping the keys rising. -/
def aset : AMap β → Nat → β → AMap β
  | [], a, b => [(a, b)]
  | (k, v) :: r, a, b =>
    if a < k then (a, b) :: (k, v) :: r
    else if a = k then (a, b) :: r
    else (k, v) :: aset r a b

/-- Remove an entry. -/
def aerase : AMap β → Nat → AMap β
  | [], _ => []
  | (k, v) :: r, a => if a = k then r else (k, v) :: aerase r a

/-- Change an entry that is there. -/
def amod (m : AMap β) (a : Nat) (f : β → β) : AMap β :=
  m.map (fun e => if e.1 = a then (e.1, f e.2) else e)

/-- Whether a key has an entry. -/
def ahas (m : AMap β) (a : Nat) : Bool := (aget m a).isSome

/-- The lowest number from `n` up, within `fuel` tries, that a table does not hold. -/
def lowestFree (m : AMap β) : Nat → Nat → Option Nat
  | 0, _ => none
  | fuel + 1, n => if ahas m n then lowestFree m fuel (n + 1) else some n

/-! ## Vectors by number -/

/-- Element `i`, or `d` where there is none. -/
def vget {n : Nat} (v : Vector β n) (i : Nat) (d : β) : β := v[i]?.getD d

/-- Replace element `i`, where there is one. -/
def vset {n : Nat} (v : Vector β n) (i : Nat) (x : β) : Vector β n := v.setIfInBounds i x

/-- Change element `i`, where there is one. -/
def vmod {n : Nat} (v : Vector β n) (i : Nat) (f : β → β) : Vector β n :=
  match v[i]? with
  | some x => v.setIfInBounds i (f x)
  | none => v

/-! ## Lists -/

/-- Cut a list into pieces of `k`, at most `fuel` of them. -/
def chunks (k : Nat) : Nat → List β → List (List β)
  | 0, _ => []
  | fuel + 1, l => if l.isEmpty then [] else l.take k :: chunks k fuel (l.drop k)

/-- Saturating increment of an `n`-bit count. -/
def satInc (n v : Nat) : Nat := if v + 1 < 2 ^ n then v + 1 else 2 ^ n - 1

end Sys2Proof.Machine
end

