-- ==== Sys2Proof/Machine/Float.lean ====
section
/-!
DEFINITION. Machine/Float.lean: FP32 values. The spec holds engineering values as FP32 and states its formulas over
numbers; the model computes a formula exactly in `Rat` and rounds once, to nearest with ties to even, where a value is
stored (log 6).
-/

namespace Sys2Proof.Machine

/-- The exponent field. -/
def fexp (x : F32) : Nat := field x.toNat 30 23

/-- The fraction field. -/
def ffrac (x : F32) : Nat := field x.toNat 22 0

/-- The sign bit. -/
def fneg (x : F32) : Bool := x.getLsbD 31

/-- Neither infinite nor NaN. -/
def ffinite (x : F32) : Bool := fexp x != 255

/-- 2 to an integer power. -/
def pow2 : Int → Rat
  | .ofNat n => ((2 ^ n : Nat) : Rat)
  | .negSucc n => 1 / ((2 ^ (n + 1) : Nat) : Rat)

/-- The number a finite FP32 value stands for; 0 for the others, which callers set apart with `ffinite`. -/
def fnum (x : F32) : Rat :=
  if ffinite x then
    let m : Nat := if fexp x = 0 then ffrac x else 2 ^ 23 + ffrac x
    let e : Int := (if fexp x = 0 then 1 else (fexp x : Int)) - 150
    let a : Rat := (m : Rat) * pow2 e
    if fneg x then -a else a
  else 0

/-- One FP32 value lies below another, infinities included; a NaN lies nowhere. -/
def fless (a b : F32) : Bool :=
  let nan (x : F32) : Bool := fexp x == 255 && ffrac x != 0
  let key (x : F32) : Int := if fneg x then -((x.toNat % 2 ^ 31 : Nat) : Int) else (x.toNat : Int)
  !nan a && !nan b && decide (key a < key b)

/-- The number, or none for an infinity or a NaN. -/
def frat (x : F32) : Option Rat := if ffinite x then some (fnum x) else none

/-- `n / d` rounded to nearest, ties to even. -/
def divEven (n d : Nat) : Nat :=
  let q := n / d
  let r := n % d
  if 2 * r < d then q else if d < 2 * r then q + 1 else if q % 2 = 0 then q else q + 1

/-- `n * 2 ^ k` over `d`, rounded to nearest, ties to even. -/
def divScaled (n d : Nat) : Int → Nat
  | .ofNat k => divEven (n * 2 ^ k) d
  | .negSucc k => divEven n (d * 2 ^ (k + 1))

/-- Whether `n / d` lies below 2 to a power. -/
def belowPow (n d : Nat) : Int → Bool
  | .ofNat k => decide (n < d * 2 ^ k)
  | .negSucc k => decide (n * 2 ^ (k + 1) < d)

/-- The binary exponent of `n / d`, not below -126. -/
def fexpOf (n d : Nat) : Int :=
  let e0 : Int := (Nat.log2 n : Int) - (Nat.log2 d : Int)
  let e1 : Int := if belowPow n d e0 then e0 - 1 else e0
  if e1 < -126 then -126 else e1

/-- The bits of a magnitude with exponent `e` and rounded significand `m`; past the largest number, infinity. -/
def fpack (e : Int) (m : Nat) : Nat :=
  if 127 < e then 255 * 2 ^ 23
  else if m < 2 ^ 23 then m
  else (e + 127).toNat * 2 ^ 23 + (m - 2 ^ 23)

/-- The magnitude `n / d` as FP32 bits, rounded to nearest, ties to even. -/
def fmag (n d : Nat) : Nat :=
  let e := fexpOf n d
  let m := divScaled n d (23 - e)
  if m == 2 ^ 24 then fpack (e + 1) (2 ^ 23) else fpack e m

/-- A number as FP32, rounded to nearest, ties to even. -/
def fof (r : Rat) : F32 :=
  if r.num = 0 then 0
  else BitVec.ofNat 32 ((if r.num < 0 then 2 ^ 31 else 0) + fmag r.num.natAbs r.den)

/-- The default quiet NaN, for a result that is not a number. -/
def fnan : F32 := 0x7FC00000#32

/-- Plus infinity. -/
def finf : F32 := 0x7F800000#32

/-- Absolute value. -/
def rabs (r : Rat) : Rat := if r < 0 then -r else r

/-- The smaller number. -/
def rmin (a b : Rat) : Rat := if a < b then a else b

/-- The greater number. -/
def rmax (a b : Rat) : Rat := if a < b then b else a

/-- A number held between two bounds. -/
def rclamp (lo hi x : Rat) : Rat := if x < lo then lo else if hi < x then hi else x

/-- The nearest integer, halves away from zero (R378). -/
def roundAway (r : Rat) : Int :=
  if r < 0 then -((-r + 1 / 2).floor) else (r + 1 / 2).floor

/-- Floor, as a Nat; 0 below zero. -/
def floorNat (r : Rat) : Nat := r.floor.toNat

/-- The nearest number of a list, as a natural number. -/
def roundNat (r : Rat) : Nat := (roundAway r).toNat

/-- The square root of a number, from below, to 2^-40 of its scale. -/
def rsqrt (r : Rat) : Rat :=
  if r ≤ 0 then 0 else (Nat.sqrt (r.num.natAbs * r.den * 2 ^ 80) : Rat) / ((r.den * 2 ^ 40 : Nat) : Rat)

/-- The places of the fixed-point numbers that logarithms are summed in. -/
def fixOne : Int := 2 ^ 96

/-- The sum of `z^(2i+1) / (2i+1)` from the term `zt` with divisor `n` on. -/
def atanhFix (z2 : Int) : Nat → Int → Int → Int
  | 0, _, _ => 0
  | k + 1, zt, n => zt / n + atanhFix z2 k (zt * z2 / fixOne) (n + 2)

/-- The natural logarithm of a number from 1 to 2, in fixed point. -/
def lnFix (m : Rat) : Int :=
  let z := ((m - 1) / (m + 1) * (fixOne : Rat)).floor
  2 * atanhFix (z * z / fixOne) 40 z 1

/-- The binary exponent of a positive number. -/
def rexp (r : Rat) : Int :=
  let e : Int := (Nat.log2 r.num.natAbs : Int) - (Nat.log2 r.den : Int)
  if r < pow2 e then e - 1 else e

/-- The natural logarithm of a positive number, to about 2^-90 (log 6). -/
def rln (r : Rat) : Rat :=
  if r ≤ 0 then 0
  else
    let e := rexp r
    ((lnFix (r / pow2 e) + e * lnFix 2 : Int) : Rat) / (fixOne : Rat)

/-- Pi, to 35 places (log 6). -/
def rpi : Rat := 314159265358979323846264338327950288 / 100000000000000000000000000000000000

/-- The greatest integer from `lo`, within `2^n` of it, at which a falling test holds; it holds at `lo`. -/
def bisect (p : Int → Bool) : Nat → Int → Int
  | 0, lo => lo
  | n + 1, lo => if p (lo + 2 ^ n) then bisect p n (lo + 2 ^ n) else bisect p n lo

/-- An integer as FP32, to nearest (R378). -/
def fofInt (i : Int) : F32 := fof (i : Rat)

/-- A finite value, not negative. -/
def fNonNeg (x : F32) : Bool := ffinite x && decide (0 ≤ fnum x)

/-- A finite value above zero. -/
def fPos (x : F32) : Bool := ffinite x && decide (0 < fnum x)

end Sys2Proof.Machine
end

