-- ==== Sys2Proof/Machine/Operands.lean ====
section
/-!
DEFINITION. Machine/Operands.lean: how a command's operands are read. Command packets as bytes (Table 2.6), the fields
of PARAMS, the fields of RESULT, status codes (Table 2.8), and for each opcode what R38 judges before the opcode's own
checks: owner only or not, served in revision 1 or not, and which PARAMS bits its table uses.
-/

namespace Sys2Proof.Machine

/-! ## Status codes (Table 2.8) -/

namespace St
def ok : Byte := 0x00
def pending : Byte := 0x01
def crcFail : Byte := 0x02
def badOpcode : Byte := 0x03
def badParam : Byte := 0x04
def versionMismatch : Byte := 0x05
def noRight : Byte := 0x06
def clientTableFull : Byte := 0x07
def queueExhausted : Byte := 0x08
def tileOff : Byte := 0x09
def refNotReady : Byte := 0x0A
def adcUncal : Byte := 0x0B
def busyCal : Byte := 0x0C
def calDisagree : Byte := 0x0D
def loadExceeded : Byte := 0x0E
def planStale : Byte := 0x0F
def shadowLate : Byte := 0x10
def shaded : Byte := 0x11
def notCancellable : Byte := 0x12
def noAck : Byte := 0x13
def busOff : Byte := 0x14
def nvLowEnergy : Byte := 0x15
def nvLocked : Byte := 0x16
def fuseExhausted : Byte := 0x17
end St

end Sys2Proof.Machine

namespace Sys2Proof

/-! ## PARAMS and RESULT -/

/-- The field of `w` bytes at packet offset `off`, 8 to 55, little-endian. -/
def Packet.le (pk : Packet) (off w : Nat) : Nat := pk.params.toNat / 256 ^ (off - 8) % 256 ^ w

/-- The byte at packet offset `off`. -/
def Packet.u8 (pk : Packet) (off : Nat) : Nat := pk.le off 1

/-- Two bytes. -/
def Packet.u16 (pk : Packet) (off : Nat) : Nat := pk.le off 2

/-- Four bytes. -/
def Packet.u32 (pk : Packet) (off : Nat) : Nat := pk.le off 4

/-- An FP32 field. -/
def Packet.f32 (pk : Packet) (off : Nat) : F32 := BitVec.ofNat 32 (pk.le off 4)

/-- A 5-byte point identifier (R61). -/
def Packet.point (pk : Packet) (off : Nat) : Nat := pk.le off 5

/-- `n` bytes as they stand. -/
def Packet.bytes (pk : Packet) (off n : Nat) : List Byte := Machine.leBytes n (pk.le off n)

/-- The sending context. -/
def Packet.ctx (pk : Packet) : Nat := pk.client.toNat

/-- The packet comes from the owner's context (R52). -/
def Packet.owner (pk : Packet) : Bool := pk.client.toNat == 0

end Sys2Proof

namespace Sys2Proof.Machine

/-- A RESULT from fields: the reply offset (5 to 27), a width in bytes and a value; every other byte reads 0. -/
def result : List (Nat × Nat × Nat) → Nat
  | [] => 0
  | (off, w, v) :: r => v % 256 ^ w * 256 ^ (off - 5) + result r

/-! ## Packets as bytes (Table 2.6) -/

/-- Bytes 0 to 1: REV and OPCODE. -/
def packetHead (op : BitVec 12) (pk : Packet) : Nat := op.toNat + pk.rev.toNat * 2 ^ 12

/-- Bytes 2 to 3. -/
def packetTag (pk : Packet) : Nat :=
  pk.tag.toNat + bit pk.fence * 2 ^ 11 + bit pk.suppressOk * 2 ^ 12 + bit pk.irq * 2 ^ 13
    + field pk.reserved.toNat 1 0 * 2 ^ 14

/-- The first 60 bytes of a packet. -/
def packetBody (op : BitVec 12) (pk : Packet) : List Byte :=
  leBytes 2 (packetHead op pk) ++ leBytes 2 (packetTag pk)
    ++ leBytes 2 (pk.client.toNat + field pk.reserved.toNat 7 2 * 2 ^ 10)
    ++ leBytes 2 (pk.queue.toNat + field pk.reserved.toNat 11 8 * 2 ^ 12)
    ++ leBytes 48 pk.params.toNat ++ leBytes 4 (field pk.reserved.toNat 43 12)

/-- The 64 bytes of a packet, with its CRC. -/
def packetBytes (op : BitVec 12) (pk : Packet) : List Byte :=
  let b := packetBody op pk
  b ++ leBytes 4 (crc32c b).toNat

/-- The packet that 64 bytes spell, its CRC aside. -/
def packetOf (bytes : List Byte) : BitVec 12 × Packet :=
  let v := ofLe bytes
  let w (off n : Nat) : Nat := v / 256 ^ off % 256 ^ n
  (BitVec.ofNat 12 (w 0 2),
   { rev := BitVec.ofNat 4 (field (w 0 2) 15 12)
     irq := field (w 2 2) 13 13 == 1
     suppressOk := field (w 2 2) 12 12 == 1
     fence := field (w 2 2) 11 11 == 1
     tag := BitVec.ofNat 11 (w 2 2)
     client := BitVec.ofNat 10 (w 4 2)
     queue := BitVec.ofNat 12 (w 6 2)
     reserved := BitVec.ofNat 44 (field (w 2 2) 15 14 + field (w 4 2) 15 10 * 2 ^ 2
       + field (w 6 2) 15 12 * 2 ^ 8 + w 56 4 * 2 ^ 12)
     params := BitVec.ofNat 384 (w 8 48) })

/-- Whether the CRC of 64 bytes matches (R38 step 1). -/
def packetCrcOk (bytes : List Byte) : Bool := leBytes 4 (crc32c (bytes.take 60)).toNat == bytes.drop 60

/-! ## What R38 judges of each opcode -/

/-- An opcode as R38 steps 2 to 5 judge it. -/
structure OpSpec where
  op : Nat
  /-- Issued by the owner only. -/
  owner : Bool
  /-- Served in revision 1. -/
  rev1 : Bool
  /-- The reason a reserved bit gives in its group's table of reasons; 0 where the group has no table. -/
  rsv : Nat
  /-- The PARAMS bytes its table uses: offset, width and, byte by byte, the bits in use. -/
  used : List (Nat × Nat × Nat)
deriving DecidableEq, Repr

/-- The bits in use of `w` bytes. -/
def spread (mask : Nat) : Nat → Nat
  | 0 => 0
  | w + 1 => mask + 256 * spread mask w

/-- The PARAMS bits in use, byte 8 lowest. -/
def usedMask (l : List (Nat × Nat × Nat)) : BitVec 384 :=
  l.foldl (fun m u => m ||| BitVec.ofNat 384 (spread u.2.2 u.2.1 * 256 ^ (u.1 - 8))) 0

/-- A reserved PARAMS bit is set (R38 step 2). -/
def OpSpec.reservedSet (sp : OpSpec) (pk : Packet) : Bool := (pk.params &&& ~~~usedMask sp.used) != 0

end Sys2Proof.Machine
end

