-- ==== Sys2Proof/Machine/State.lean ====
section
/-!
DEFINITION. Machine/State.lean: everything the spec gives the block, as plain data, and `State.reset`.

Each field's docstring opens with three entries parted by semicolons: its width, the rules that name it, its value at
reset. `DC v` is a DESIGN CHOICE (log 3: the spec states no reset value), `model` marks a field that is the model's own
bookkeeping and no register of the spec.
-/

namespace Sys2Proof.Machine

/-! ## Reasons a step can stop -/

/-- Why the block stops. -/
inductive Fault where
  /-- Raised by POR_RELEASE with rails raised out of the order of R328. R329: "No function is guaranteed until the order
  of R328 has been restored and RST_N has been pulsed low." Safe: the model stops where the manual promises nothing. -/
  | railsOutOfOrder
deriving DecidableEq, Repr

/-- Why the model gives a command no meaning. -/
inductive Refusal where
  /-- A command not modelled, named by its mnemonic. No arm of `exec` answers with it. Safe. -/
  | notModelled (mnemonic : String)
deriving DecidableEq, Repr

/-! ## Small types shared by the groups -/

/-- A command in flight is named by its queue pair and its TAG (R40, R41); `id` is the model's own serial number of the
started command, so that a name never means two commands. -/
structure Key where
  q : Nat
  tag : Nat
  id : Nat
deriving DecidableEq, Repr

/-- Memory a ring or buffer lies in: host memory through HOST, or the 64 KiB on-chip ring memory (Table 2.4). -/
inductive Space where
  | host
  | ring
deriving DecidableEq, Repr

/-- The time discipline source (R19). -/
inductive Discipline where
  | host
  | ptp
deriving DecidableEq, Repr

/-- SETUP_CTL.STATE (Table 2.5). -/
inductive SetupState where
  | idle
  | armed
  | refused
  | disarming
deriving DecidableEq, Repr

/-- The steps of start-up (Table 15.6), and the conditions outside it (R329, R336). -/
inductive Boot where
  /-- Held in reset: POR release has not come (R329). -/
  | held
  | fuseLoad
  | journal
  | firmware
  | dram
  | ready
  | fwFault
  | dramFault
  /-- The OFF state: only the always-on domain runs (Table 15.2). -/
  | off
  /-- VDD_AON is lost (R18, R340). -/
  | unpowered
deriving DecidableEq, Repr

/-- RUN, QUIET and GLOW (Table 15.2). -/
inductive PState where
  | run
  | quiet
  | glow
deriving DecidableEq, Repr

/-- Whether a tile is gated, powered, or on its way (R1, R339); a way carries the TILE_POWER command that waits. -/
inductive TilePow where
  | gated
  | powering (key : Option Key)
  | on
  | gating (key : Option Key)
deriving DecidableEq, Repr

/-- A FORMAT 0 or 1 circular buffer, a bus receive ring or a touch ring: all written as R115 lays down. -/
structure Ring where
  /-- 8; R116; given at creation. FORMAT. -/
  format : Nat
  log2Size : Nat
  space : Space
  base : BitVec 64
  stateAddr : BitVec 64
  notify : Nat
  /-- 64; R115; 0. The count of entries ever written. -/
  total : Nat
deriving DecidableEq, Repr

/-! ## The time base -/

/-- The always-on time base and the pulse pins. -/
structure TimeBase where
  /-- 64; R8; DC 0. TB in ns. -/
  now : BitVec 64 := 0
  /-- 1; R18; 0. TB_VALID. -/
  valid : Bool := false
  /-- 32; R374, Table 1.7; DC 0. RATE_PPB, signed. -/
  ratePpb : Word := 0
  /-- integer; R374; DC 0. The fraction of a nanosecond carried to the next step, in units of 10^-9 ns. -/
  carry : Int := 0
  /-- 6; R374; DC 0. Position in the KCLK pattern, in 1/64 ns. -/
  kPhase : Nat := 0
  /-- 1; R19, R259; HOST. The discipline source. -/
  source : Discipline := .host
  /-- 1; R21; DC low. The PPS_OUT pin. -/
  ppsOut : Bool := false
  /-- model; R21; 0. Elapsed time of the last rise of PPS_OUT. -/
  ppsRoseAt : Nat := 0
  /-- model; R21; 0. The first TB second that PPS_OUT has not marked yet. -/
  ppsNext : Nat := 0
  /-- 64; Table of TB_READ in chapter 1; 0. The last PPS_IN stamp. -/
  ppsIn : BitVec 64 := 0
  /-- model; R21, R43; 0. Elapsed ns, for what the spec counts as elapsed time; TB_SET does not move it. -/
  elapsed : Nat := 0
  /-- model; R21, Table 10.9; 0. TB time passed, forward steps counted and backward ones not: what beacon deadlines are
  judged against. -/
  mono : Nat := 0
deriving DecidableEq, Repr

/-! ## Events and the trouble log -/

/-- EVSTAT and the last detail of one source (Table 16.3). -/
structure EvStat where
  /-- 16; Table 16.3; 0. COUNT, saturating. -/
  count : Nat := 0
  /-- 1; Table 16.3; 0. SIGNALLED. -/
  signalled : Bool := false
  /-- 1; Table 16.3; 0. PENDING. -/
  pending : Bool := false
  /-- 16; R351; DC 0. Last CODE. -/
  code : BitVec 16 := 0
  /-- 96; R351; DC 0. Last ARG. -/
  arg : BitVec 96 := 0
  /-- 32; EVENT_DETAIL in Table 16.6; DC 0. SEQ of the last entry. -/
  seq : Word := 0
deriving DecidableEq, Repr

/-- One trouble log entry (Table 16.4). -/
structure LogEntry where
  stamp : BitVec 64
  seq : Word
  source : BitVec 16
  code : BitVec 16
  arg : BitVec 96
  flags : Byte
  context : BitVec 16
deriving DecidableEq, Repr

/-- An EVENT_WAIT in flight (R358). -/
structure EvWait where
  key : Key
  quarter : Nat
  mask : BitVec 64
  deadline : Nat
deriving DecidableEq, Repr

/-- The event unit. -/
structure Events where
  /-- 256 x 32; Table 16.2; 0xC000 + source number. EVCFG. -/
  cfg : Vector Word 256 := Vector.ofFn (fun i => 0xC000#32 + BitVec.ofNat 32 i.val)
  /-- 256 x EVSTAT; Table 16.3; 0. EVSTAT with the last detail of each source. -/
  stat : Vector EvStat 256 := Vector.replicate 256 {}
  /-- 4,096 x 256; R355, R357; empty. The trouble log, oldest entry first. -/
  log : List LogEntry := []
  /-- 32; R357; 0. SEQ of the next entry. -/
  nextSeq : Word := 0
  /-- 32; R356; DC 0. OVERWRITES, saturating. -/
  overwrites : Nat := 0
  /-- 32; R356; DC 0. READ_MARK. -/
  readMark : Word := 0
  /-- 1; R356; 0. LOG_WRAP has been raised since the last LOG_READ. -/
  wrapRaised : Bool := false
  /-- list; R358; empty. EVENT_WAITs in flight. -/
  waits : List EvWait := []
deriving DecidableEq, Repr

/-! ## Rings, replies and BAR0 -/

/-- A ring descriptor (Table 2.4). -/
structure RingDesc where
  sqBase : BitVec 64
  cqBase : BitVec 64
  stateAddr : BitVec 64
  log2Size : Nat
  space : Space
  vector : Byte
  coalTime : Nat
  coalCount : Nat
deriving DecidableEq, Repr

/-- What a submission entry held when the device read it: a packet whose CRC matched, or the first four bytes of one
whose CRC failed (R34, R39). -/
inductive Entry where
  | packet (op : BitVec 12) (pk : Packet)
  | bad (head : Word)
deriving DecidableEq, Repr

/-- A status reply before it has a slot: Table 2.7 without PHASE and CRC. -/
structure Reply where
  tag : BitVec 11
  status : Byte
  echo : BitVec 16
  /-- RESULT, bytes 5 to 27; byte 5 is bits 7:0. -/
  result : BitVec 184
  irq : Bool
  /-- The command whose tag the reply frees when it is written, for a final reply. -/
  frees : Option Key
deriving DecidableEq, Repr

/-- What a pair's staging buffer holds (R168, R120, R191). -/
inductive StageKind where
  | table
  | loop
  | zone
  | model
  | gamma
deriving DecidableEq, Repr

/-- The one staging buffer of a queue pair (R168). -/
structure Stage where
  kind : StageKind
  tile : Nat
  index : Nat
  /-- The part expected next. -/
  next : Nat
  /-- The bytes staged so far, in order. -/
  bytes : List Byte
deriving DecidableEq, Repr

/-- One live queue pair. -/
structure Pair where
  /-- 10; R36, R375; given at creation. The context that owns the pair. -/
  ctx : Nat
  /-- 256; R26; given at creation. The ring descriptor. -/
  desc : RingDesc
  /-- 16; R31; 0. SQ_TAIL. -/
  sqTail : Nat := 0
  /-- 16; R32; 0. SQ_HEAD. -/
  sqHead : Nat := 0
  /-- 16; R36; 0. The completion slot the next reply takes. -/
  cqTail : Nat := 0
  /-- 16; R31; 0. CQ_HEAD. -/
  cqHead : Nat := 0
  /-- 1; R32; 1. The PHASE of the pass in progress. -/
  phase : Bool := true
  /-- 16; R33; 0. Replies written and not yet signalled. -/
  unsignalled : Nat := 0
  /-- model; R33; 0. Elapsed time of the oldest unsignalled reply. -/
  oldest : Nat := 0
  /-- list; Table 2.12; empty. Replies held for a full completion ring. -/
  held : List Reply := []
  /-- list; R34, R333; empty. Entries a doorbell has revealed, with their ring indices, not fetched yet. -/
  waiting : List (Nat × Entry) := []
  /-- 1; Table 2.12; 0. QUEUE_DELETE has come: fetching has stopped and replies are discarded. -/
  deleting : Bool := false
  /-- staging buffer; R168; empty. -/
  stage : Option Stage := none
deriving DecidableEq, Repr

/-- A command in flight, from fetch to its final reply (R40). -/
structure InFlight where
  key : Key
  /-- The context it counts under (R375). -/
  ctx : Nat
  echo : BitVec 16
  irq : Bool
  suppressOk : Bool
  /-- Its reply is discarded (R29, R57, Table 2.12). -/
  discard : Bool
deriving DecidableEq, Repr

/-- A credential in region 15 (Table 3.1). -/
structure Cred where
  secret : BitVec 256
  weight : Nat
  queueLimit : Nat
  groupMask : BitVec 16
  prioFloor : Nat
  /-- 2 bits an access group, group g in bits 2g+1:2g. -/
  rights : BitVec 512
deriving DecidableEq, Repr

/-- An entry fetched and not started yet (R34, R41, FENCE of Table 2.6). -/
structure Fetched where
  q : Nat
  index : Nat
  entry : Entry
  /-- Its TAG was in flight on its pair when it was fetched (R41). -/
  dup : Bool
  /-- The tenant whose credential judges it, and that credential as it stood at the fetch (R59, Table 3.18). -/
  cred : Option (Nat × Option Cred)
deriving DecidableEq, Repr

/-- How the last configuration request was answered (R339). -/
inductive CfgAnswer where
  | none
  | retry
  | served
deriving DecidableEq, Repr

/-- BAR0, the command processor and the host ports. -/
structure Hub where
  /-- 2; Table 2.5; IDLE. SETUP_CTL.STATE. -/
  setup : SetupState := .idle
  /-- 8 x 32; Table 2.1; DC 0. SETUP_DESC. -/
  setupDesc : Vector Word 8 := Vector.replicate 8 0
  /-- 1; Table 2.3; 0. GSTATUS.WIN_RW. -/
  winRw : Bool := false
  /-- 16; Table 2.9; 0. CHSEL bits 15:0, KIND and INDEX. -/
  chsel : BitVec 16 := 0
  /-- 1,024 x 32; R25, R353; PR address and data 0, Vector Control 1. The MSI-X table, four words a vector. -/
  msix : Vector Word 1024 := Vector.ofFn (fun i => if i.val % 4 = 3 then 1 else 0)
  /-- 256; R25, R353; PR 0. The MSI-X pending bits. -/
  pba : BitVec 256 := 0
  /-- 1; R353; PR 0. MSI-X enabled in the capability. -/
  msixEnabled : Bool := false
  /-- 1; R353; PR 0. The MSI-X function mask. -/
  msixMasked : Bool := false
  /-- configuration answer; R339; none. -/
  cfgAnswer : CfgAnswer := .none
  /-- 32; R23; none. The data of the last configuration read served. -/
  cfgData : Option Word := none
  /-- 64; R23; PR 0. The base address that BAR0 holds. -/
  bar0 : BitVec 64 := 0
  /-- 4,096 pairs; R25, R60; none live. -/
  pairs : AMap Pair := []
  /-- at most 2,048; R40; none. Commands in flight. -/
  inflight : List InFlight := []
  /-- model; R40; 0. Commands started so far. -/
  started : Nat := 0
  /-- list; R34, R41; empty. Entries fetched and not started. -/
  fetched : List Fetched := []
  /-- count; Table 2.12; DC 0. Doorbell writes ignored. -/
  doorbellBad : Nat := 0
  /-- 10; R41; DC 0. The context the round robin serves next. -/
  rrCtx : Nat := 0
  /-- 5; R41; DC 0. Entries that context may still have fetched in its turn. -/
  rrLeft : Nat := 0
  /-- 12 a context; R41; DC 0. The pair each context was last served from. -/
  rrPair : AMap Nat := []
  /-- words; R49; empty. What the last QSPI read or STATUS shifted out. -/
  qspiOut : List Word := []
deriving DecidableEq, Repr

/-! ## Clients -/

/-- A live session (R52, R45, R59). -/
structure Session where
  tenant : Nat
  rev : Nat
  weight : Nat
  queueLimit : Nat
deriving DecidableEq, Repr

/-- A device nonce that waits for its proof (R55). -/
structure Nonce where
  value : BitVec 128
  rev : Nat
  lapsesAt : Nat
deriving DecidableEq, Repr

/-- Sessions, credentials and lockouts. -/
structure Clients where
  /-- 1,024 credentials; R51; none installed. Kept in region 15, so they survive reset. -/
  creds : AMap Cred := []
  /-- 1,024 contexts; R52; none open. -/
  sessions : AMap Session := []
  /-- one a tenant; R55; none. -/
  nonces : AMap Nonce := []
  /-- count a tenant; R55; 0. Consecutive failed proofs. -/
  fails : AMap Nat := []
  /-- elapsed time a tenant; R55; none. End of the lockout. -/
  lockouts : AMap Nat := []
deriving DecidableEq, Repr

/-! ## Points -/

/-- What makes a record a reflection (R254, R255, R256). -/
structure Mirror where
  boot : BitVec 16
  staleS : Nat
  acceptedAt : Nat
  /-- A REFUSE has ended the subscription (R256). -/
  ended : Bool
deriving DecidableEq, Repr

/-- A source result as delivered (R378): FP32 bits, or an unsigned value. -/
inductive SrcVal where
  | fp (v : F32)
  | uns (v : Word)
deriving DecidableEq, Repr

/-- A point record (Table 3.8). -/
structure Point where
  value : Word
  covLast : Word
  timestamp : BitVec 48
  status : Word
  prioActive : BitVec 16
  type : BitVec 2
  owner : BitVec 10
  group : Byte
  relinquish : Word
  covIncrement : F32
  priority : Vector Word 16
  source : BitVec 128
  crc : Word
  /-- The latest source result of R378, or none before the first one. -/
  latest : Option SrcVal
  mirror : Option Mirror
deriving DecidableEq, Repr

/-- A POINT_WATCH in flight (R69). -/
structure Watch where
  id : Nat
  key : Key
  deadline : Nat
deriving DecidableEq, Repr

/-- The record store, its cache and the watches. -/
structure Points where
  /-- at most 5,242,880 records; R62, R63; empty. Keyed by the 40-bit identifier. -/
  recs : AMap Point := []
  /-- at most 131,072 identifiers; R70; empty. The records in the cache, most recently used first. -/
  cache : List Nat := []
  /-- list; R69; empty. -/
  watches : List Watch := []
  /-- identifiers; R71; empty. The records whose CRC failed on a load; a POINT_DELETE takes its record out. -/
  failed : List Nat := []
deriving DecidableEq, Repr

/-! ## Inputs and converters -/

/-- The input configuration record UI_CFG0 to UI_CFG3 (Table 4.8). -/
structure InCfg where
  cfg0 : Word := 0
  paramA : F32 := 0
  paramB : F32 := 0
  comp : F32 := 0
deriving DecidableEq, Repr

/-- One universal input. -/
structure Input where
  /-- 128; R90; 0. The record in force. -/
  cfg : InCfg := {}
  /-- 128; R91; none. The record that waits for the cycle end. -/
  wait : Option InCfg := none
  /-- 1; Table 4.8; 0. PROT_OPEN. -/
  protOpen : Bool := false
  /-- 1; Table 4.8; 0. OUT_OF_RANGE. -/
  outOfRange : Bool := false
  /-- 1; Table 4.8; 0. SHORT. -/
  short : Bool := false
  /-- 1; Table 4.8; 0. OPEN. -/
  opened : Bool := false
  /-- 1; Table 4.8; 0. TESTING. -/
  testing : Bool := false
  /-- 1; R87; closed. The protection switch stands open. -/
  switchOpen : Bool := false
  /-- model; R113; 0. The switch tripped during a test and has not reclosed since. -/
  heldOpen : Bool := false
  /-- 1; R87; closed. The shunt switch stands open. -/
  shuntOpen : Bool := false
  /-- 32; Table 4.7; DC 0. UI_VALUE. -/
  value : F32 := 0
  /-- 32; R93; 0. UI_COUNT. -/
  count : Word := 0
  /-- 32; R86; 0. UI_COUNT at the last rate write. -/
  countAt : Word := 0
  /-- 32; R93; 0. UI_TPASS. -/
  tpass : Nat := 0
  /-- 32; R93; 0. UI_TFAIL. -/
  tfail : Nat := 0
  /-- 1; R85; DC 0. The CONTACT reading. -/
  contact : Bool := false
  /-- 4; R85; 0. Consecutive dwells that disagree with the reading. -/
  contactRun : Nat := 0
deriving DecidableEq, Repr

/-- A metering pair's configuration (Table 6.14). -/
structure MeterCfg where
  vInput : Nat
  iInput : Nat
  iRange : Nat
  group : Byte
  phaseCorr : BitVec 16
  vScale : F32
  iScale : F32
deriving DecidableEq, Repr

/-- A sequence image: 128 entries of 64 bits, with the PERIOD_MS and CYCLES of its SEQ_START (R104, R106). -/
structure Image where
  entries : Vector (BitVec 64) 128 := Vector.replicate 128 0
  periodMs : Nat := 0
  cycles : Nat := 0
deriving DecidableEq, Repr

/-- The excitation of one dwell (R79): its frequency in Hz, the whole periods N after which it stops, and whether it is
square, with reversals that are blanked. -/
structure Exc where
  hz : Nat
  periods : Nat
  square : Bool
deriving DecidableEq, Repr

/-- What a dwell uses from its start to its end: the record and the table in force when it began (R98), and whether the
protection or shunt switch has stood open in it (R87). -/
structure Snap where
  cfg : InCfg
  /-- The excitation of the dwell (R79); none where it has none. -/
  exc : Option Exc
  table : Option (List (F32 × F32))
  spoiled : Bool
deriving DecidableEq, Repr

/-- One pipeline converter. -/
structure Conv where
  /-- 1; R101; 0. CALIBRATED. -/
  calibrated : Bool := false
  /-- item; R102; none. The calibration item whose run holds the converter: 0 A, 1 B, 2 interleave. -/
  calItem : Option Nat := none
  /-- image; R106; DC all zero. The active image. -/
  active : Image := {}
  /-- 32; R107; DC 0. CRC-32C over the active image and its period. -/
  crc : Word := 0
  /-- 128 x 64; R106; DC all zero. The pending image that SEQ_LOAD writes. -/
  loaded : Vector (BitVec 64) 128 := Vector.replicate 128 0
  /-- image; R106; none. The image that waits for the cycle end (PENDING_IMAGE). -/
  waiting : Option Image := none
  /-- 1; R107; 0. A CRC mismatch stands. -/
  crcFault : Bool := false
  /-- 128; R107; 0. Entries rewritten since the mismatch. -/
  rewritten : BitVec 128 := 0
  /-- 1; Table 5.9; 0. RUNNING. -/
  running : Bool := false
  /-- 1; Table 5.8; 0. SEQ_STOP asked for the cycle end. -/
  stopAtEnd : Bool := false
  /-- 1; Table 5.9; 0. SUSPENDED. -/
  suspended : Bool := false
  /-- 32; R104; 0. The cycle count. -/
  cycle : Nat := 0
  /-- 32; R109; 0. SLIP_COUNT. -/
  slips : Nat := 0
  /-- 7; Table 5.8; 0. The current entry. -/
  entry : Nat := 0
  /-- model; R108; 0. The entry from which the next one to run is sought. -/
  pos : Nat := 0
  /-- 1; R108; 0. A cycle is in progress. -/
  inCycle : Bool := false
  /-- 1; R79; 0. A dwell of the current entry is in progress. -/
  inDwell : Bool := false
  /-- 1; R112; 0. The current entry is re-run after a pre-emption. -/
  rerun : Bool := false
  /-- model; R98; none. What the dwell in progress uses. -/
  snap : Option Snap := none
  /-- model; Table 6.15; none. The configuration that a METER dwell in progress uses. -/
  meter : Option MeterCfg := none
  /-- 64; R108; 0. The TB ns of the next cycle's start instant. -/
  nextStart : Nat := 0
  /-- model; R108; 0. Elapsed time at which the current dwell or gap began. -/
  since : Nat := 0
  /-- model; R108; 0. Elapsed time at which the gap after the last entry of the cycle before ends. -/
  gapTo : Nat := 0
deriving DecidableEq, Repr

/-- Urgent work of converter B (R111): an urgent conversion or a test injection. -/
inductive UrgentKind where
  | convert (dwell : Nat) (lch : Nat)
  | test (kind level : Nat) (tol : F32)
deriving DecidableEq, Repr

/-- One place of the urgent queue. -/
structure Urgent where
  key : Option Key
  input : Nat
  kind : UrgentKind
deriving DecidableEq, Repr

/-- A reflection scan queued or running (R118, R280). -/
structure Scan where
  key : Option Key
  position : Nat
  avg : Nat
  level : Nat
  length : Nat
  vf : Nat
  thresh : F32
  rawBuf : Option Nat
  /-- The head whose crack loop is scanned (PANEL_CRACK_SCAN), or none. -/
  crack : Option Nat
deriving DecidableEq, Repr

/-- One logical channel with its window comparator and buffer binding (Table 5.3, R114, R115). -/
structure Lch where
  /-- 32; Table 5.3; 0. VALUE. -/
  value : F32 := 0
  /-- 8; Table 5.3; 0. FLAGS. -/
  flags : Byte := 0
  /-- 48; Table 5.3; 0. STAMP. -/
  stamp : BitVec 48 := 0
  /-- 32; Table 5.3; 0. SEQNO. -/
  seqno : Word := 0
  /-- count; R162; 0. Results written, the model's way to see a refresh. -/
  writes : Nat := 0
  /-- 1; Table 5.10; DC 0. WIN_EN. -/
  winEn : Bool := false
  /-- 32; R114; DC 0. LO. -/
  lo : F32 := 0
  /-- 32; R114; DC 0. HI. -/
  hi : F32 := 0
  /-- 32; R114; DC 0. HYST. -/
  hyst : F32 := 0
  /-- 2; Table 5.4; UNARMED. Window state: 0 UNARMED, 1 INSIDE, 2 BELOW, 3 ABOVE. -/
  win : Nat := 0
  /-- 1; R114; 0. Window pending bit. -/
  winPending : Bool := false
  /-- 1; Table 5.10; DC 0. DMA_EN. -/
  dmaEn : Bool := false
  /-- 6; Table 5.10; DC 0. BUF. -/
  buf : Nat := 0
  /-- 16; Table 5.10; DC 1. DECIM. -/
  decim : Nat := 1
  /-- 16; R115; 0. Results since the last buffer entry. -/
  decimCount : Nat := 0
deriving DecidableEq, Repr

/-! ## Metering and presence -/

/-- An open demand interval of one pair (R128, R133). -/
structure Interval where
  /-- TB second of the start. -/
  start : Nat := 0
  flags : BitVec 16 := 0
  eImp : Nat := 0
  eExp : Nat := 0
  outageS : Nat := 0
  vmin : Nat := 0
  vmax : Nat := 0
  imax : Nat := 0
  /-- ns accounted. -/
  accounted : Nat := 0
  /-- ns of gap. -/
  gap : Nat := 0
  tariff : Nat := 0
  len : Nat := 3
  opened : Bool := false
  /-- A dwell has given it vmin, vmax and imax. -/
  seen : Bool := false
deriving DecidableEq, Repr

/-- A closed interval record (Table 6.5). -/
structure MeterRec where
  start : Nat
  flags : BitVec 16
  eImp : Nat
  eExp : Nat
  outageS : Nat
  vmin : Nat
  vmax : Nat
  imax : Nat
  coverage : Nat
  tariff : Nat
  len : Nat
  gapS : Nat
deriving DecidableEq, Repr

/-- A metering pair's registers and open interval: what the metering store keeps (R130, R138). -/
structure MeterPair where
  /-- Table 6.14; R125, R140; none. The stored configuration. -/
  cfg : Option MeterCfg := none
  /-- 1; R125, R140; 0. Bound since the tile was last powered. -/
  bound : Bool := false
  /-- 1; R92, R125; 0. Bound at some time since start-up, so that it holds its two inputs. -/
  claimed : Bool := false
  /-- 8 x 48; Table 6.3; DC 0. E_IMP0 to E_IMP7, in 0.1 Wh. -/
  eImp : Vector Nat 8 := Vector.replicate 8 0
  /-- 48; Table 6.3; DC 0. E_EXP. -/
  eExp : Nat := 0
  /-- 32; Table 6.3; DC 0. PEAK_DEMAND, W. -/
  peakDemand : Nat := 0
  /-- 48; Table 6.3; DC 0. PEAK_START. -/
  peakStart : Nat := 0
  /-- 16; Table 6.3; 0. CONFIG_COUNT. -/
  configCount : Nat := 0
  /-- energy below 0.1 Wh; R128; 0. Import remainder in uW*ns. -/
  remImp : Nat := 0
  /-- energy below 0.1 Wh; R128; 0. Export remainder. -/
  remExp : Nat := 0
  /-- shaded; R128; 0. The power of the last dwell, in uW. -/
  power : Int := 0
  /-- 64; R128; 0. last_end, TB ns. -/
  lastEnd : Nat := 0
  /-- interval; R128; closed. The open interval. -/
  interval : Interval := {}
  /-- interval; R140; none. The pending interval that takes energy until TB_VALID is set. -/
  pend : Option Interval := none
  /-- 1; R140; 0. Restored at start-up, with its open interval, and idle since. -/
  restored : Bool := false
  /-- record; R131, R138; none. The last closed record. -/
  last : Option MeterRec := none
  /-- 64 records; R133; empty. The history ring, newest first; lost at OFF. -/
  history : List MeterRec := []
deriving DecidableEq, Repr

/-- One tariff bank (R134). -/
structure Bank where
  /-- 8 x 32; R134; DC 0. PRICE of each tariff. -/
  price : Vector F32 8 := Vector.replicate 8 0
  /-- 8 x 32; R134; DC 0. DEMAND_LIMIT of each tariff. -/
  limit : Vector F32 8 := Vector.replicate 8 0
  /-- 1,024 x 64; R134; 0. The switch list. -/
  entries : AMap (BitVec 64) := []
  /-- 11; Table 6.14; 0. ENTRIES in use. -/
  used : Nat := 0
  /-- 32; R135; DC 0. The bank CRC. -/
  crc : Word := 0
deriving DecidableEq, Repr

/-- A TARIFF_COMMIT under way (R135). -/
structure TariffJob where
  key : Option Key
  entries : Nat
  atSecond : Nat
  /-- The rebuild and its commit have ended. -/
  rebuilt : Bool
  /-- The swap second had begun when the rebuild ended. -/
  late : Bool
deriving DecidableEq, Repr

/-- A METER_HISTORY copy under way (R133). -/
structure HistoryJob where
  key : Key
  pair : Nat
  count : Nat
  space : Space
  dest : BitVec 64
deriving DecidableEq, Repr

/-- A metering checkpoint as written to region 14 (R138). -/
structure Checkpoint where
  pairs : List (List MeterPair)
  tariff : Nat
  /-- Which of the store's two banks is the active one. -/
  activeBank : Nat
  stamp : Nat
  stampValid : Bool
  len : Nat
deriving DecidableEq, Repr

/-- The chip's metering state. -/
structure Metering where
  /-- 4 x 8 pairs; R125; idle. -/
  pairs : Vector (Vector MeterPair 8) 4 := Vector.replicate 4 (Vector.replicate 8 {})
  /-- 3; R132; 3 (15 minutes). The interval length code. -/
  len : Nat := 3
  /-- 3; R132; none. The length DEMAND_CONFIG asked for. -/
  newLen : Option Nat := none
  /-- 40; R132; 0. TB second at which the open interval ends. -/
  boundary : Nat := 0
  /-- 1; R132; 0. Intervals are open. -/
  running : Bool := false
  /-- 3; R134; DC 0. The tariff in force. -/
  tariff : Nat := 0
  /-- bank; R134; DC empty. The active bank. -/
  active : Bank := {}
  /-- bank; R134; DC empty. The shadow bank. -/
  shadow : Bank := {}
  /-- job; R135; none. The TARIFF_COMMIT under way. -/
  job : Option TariffJob := none
  /-- 1; R134, R138; 0. The place of the active bank in the store. -/
  activeIdx : Nat := 0
  /-- 2 banks of 33 pages; R138; DC empty. The tariff banks in the metering store; they survive power loss. -/
  banks : Vector Bank 2 := Vector.replicate 2 {}
  /-- 27 slots of 16 pages; R138; empty. The checkpoints written, newest first, none for a slot that is not whole; they
  survive power loss. -/
  slots : List (Option Checkpoint) := []
  /-- 5; R138; 0. The slot that the next checkpoint takes. -/
  slotNext : Nat := 0
  /-- stored configuration records; R138, R140; none. -/
  stored : Vector (Vector (Option MeterCfg) 8) 4 := Vector.replicate 4 (Vector.replicate 8 none)
  /-- 64 and a flag; R140; none. The PFAIL stamp restored, until TB_VALID is set. -/
  outageFrom : Option Nat := none
  /-- 1; R139; 0. TAIL_LOST is due on the interval that held PFAIL. -/
  tailLost : Bool := false
  /-- model; R139; 0. The last PFAIL has left no whole checkpoint, so that the next start-up sets TAIL_LOST. -/
  tailDue : Bool := false
  /-- 64; R140; 0. Elapsed time of RDY. -/
  rdyAt : Nat := 0
  /-- 64; R131; 0. The first TB second whose energy results are not written yet. -/
  resultSec : Nat := 0
  /-- 64; R144; 0. The first TB second whose presence results are not written yet. -/
  presenceSec : Nat := 0
  /-- lists of jobs, one a tile; Table 6.14; empty. METER_HISTORY copies under way, in order. -/
  copies : Vector (List HistoryJob) 4 := Vector.replicate 4 []
deriving DecidableEq, Repr

/-- FP_STAT.STATE (Table 6.12). -/
inductive PortState where
  | off
  | learning
  | run
  | mismatch
deriving DecidableEq, Repr

/-- One frame port with its presence engine (R141 to R144). -/
structure Port where
  /-- 32; Table 6.12; 0. FP_CFG0. -/
  cfg0 : Word := 0
  /-- 8; Table 6.14; DC 0. GROUP. -/
  group : Byte := 0
  /-- 32; R141; DC 0. GAIN. -/
  gain : F32 := 0
  /-- 32; R141; DC 0. OFFSET. -/
  offset : F32 := 0
  /-- 32; R143; DC 0. FG_DELTA. -/
  fgDelta : F32 := 0
  /-- 32; R143; DC 0. ACT_DELTA. -/
  actDelta : F32 := 0
  /-- 16; R143; DC 0. MIN_AREA. -/
  minArea : Nat := 0
  /-- 16; R143; DC 0. MAX_AREA. -/
  maxArea : Nat := 0
  /-- 32; R143; DC 0. FG_HOLD, s. -/
  fgHold : Nat := 0
  /-- 2; Table 6.12; OFF. STATE. -/
  state : PortState := .off
  /-- 4; Table 6.12; 0. MISS_RUN. -/
  missRun : Nat := 0
  /-- 5; R142; 0. Consecutive right frames in MISMATCH, or right frames learned. -/
  rightRun : Nat := 0
  /-- 1; Table 6.12; 0. UNRELIABLE. -/
  unreliable : Bool := false
  /-- 1; Table 6.12; 0. SATURATED. -/
  saturated : Bool := false
  /-- 32; Table 6.11; DC 0. FP_FRAMES. -/
  frames : Word := 0
  /-- 32; Table 6.11; DC 0. FP_SHORT. -/
  shorts : Word := 0
  /-- 32; Table 6.11; DC 0. FP_LONG. -/
  longs : Word := 0
  /-- 32; Table 6.11; DC 0. FP_OVERRUN. -/
  overruns : Word := 0
  /-- model; R142; none. Elapsed time of the previous frame's start. -/
  lastStart : Option Nat := none
  /-- shaded, 8,192 values; R143; DC empty. The background model. -/
  bg : List Rat := []
  /-- shaded; R142; empty. The right frames that LEARNING has taken so far, newest first. -/
  learned : List (List Rat) := []
  /-- shaded; R143; DC empty. Foreground ages, in ns. -/
  age : List Nat := []
  /-- shaded; R143; DC empty. The previous frame. -/
  prev : List Rat := []
  /-- shaded; R144; empty. Count, activity, minimum and maximum of each right frame of the second. -/
  second : List (Nat × Nat × Rat × Rat) := []
  /-- 1; R144, R378; 0. A second has given results. -/
  given : Bool := false
  /-- 6; Table 6.10; DC 0. Median count. -/
  count : Nat := 0
  /-- 10; Table 6.10; DC 0. Mean activity. -/
  activity : Nat := 0
  /-- 32; Table 6.10; DC 0. Minimum temperature. -/
  tmin : F32 := 0
  /-- 32; Table 6.10; DC 0. Maximum temperature. -/
  tmax : F32 := 0
  /-- commands; R146; none. PRESENCE_TESTs in progress. -/
  test : List Key := []
deriving DecidableEq, Repr

/-! ## Loops -/

/-- LSTAT.STATE (Table 7.6). -/
inductive LoopState where
  | auto
  | manual
  | fault
  | crc
deriving DecidableEq, Repr

/-- One controller of the PID family: its integral, derivative and previous PV (R155). -/
structure Pid where
  integ : F32 := 0
  deriv : F32 := 0
  pvPrev : F32 := 0
deriving DecidableEq, Repr

/-- What a loop remembers of one of its inputs (R162). -/
structure InputWatch where
  /-- The source's write count when it was last seen fresh. -/
  seen : Nat := 0
  /-- Evaluations since then. -/
  stale : Nat := 0
deriving DecidableEq, Repr

/-- One admitted loop descriptor with its state. -/
structure Loop where
  /-- 1,024; R148; given at admission. The descriptor's 128 bytes, byte 0 lowest. -/
  desc : BitVec 1024
  /-- 3; Table 7.6; given at admission. -/
  state : LoopState
  /-- The mode FAULT returns to (R163). -/
  back : LoopState
  /-- 32; Table 7.8; OUT_SAFE. OUT0. -/
  out0 : F32
  /-- 32; Table 7.8; OUT_SAFE. OUT1. -/
  out1 : F32
  /-- 32; Table 7.8; DC 0. PV in use. -/
  pv : F32 := 0
  /-- 32; Table 7.8; DC 0. SP in use. -/
  sp : F32 := 0
  /-- R155; DC 0. The PID controller, or CASCADE's outer one. -/
  pid : Pid := {}
  /-- R156; DC 0. CASCADE's inner controller. -/
  inner : Pid := {}
  /-- 32; R157; OUT_SAFE. The internal u last used. -/
  u : F32
  /-- 32; R156, R157; OUT_SAFE. CASCADE's outer output last used. -/
  outer : F32
  /-- 1; R156; 0. ONOFF is on. -/
  on : Bool := false
  /-- 64; R156; 0. TB ns of ONOFF's last switch. -/
  switchedAt : Nat := 0
  /-- 1; R157; 1. The next evaluation begins bumplessly. -/
  bumpless : Bool := true
  /-- 32; Table 7.8; DC 0. The value LOOP_MANUAL commanded. -/
  manual : F32 := 0
  /-- 32; R163; DC 0. The last good feed-forward term. -/
  ffHeld : F32 := 0
  /-- R162. The three inputs' refresh watches. -/
  watch : Vector InputWatch 3 := Vector.replicate 3 {}
  /-- 18 bits of LSTAT; Table 7.6; 0. Bits 15:6 of LSTAT. -/
  flags : BitVec 32 := 0
  /-- 2; Table 7.6; 0. STRETCH in force. -/
  stretch : Nat := 0
  /-- 16; Table 7.8; 0. Last start jitter, 0.1 us. -/
  jitter : Nat := 0
  /-- 64; R152; given. TB ns of the next boundary due. -/
  next : Nat
  /-- 32; R151; none. The value last written to a POINT output, per output. -/
  wrote0 : Option F32 := none
  wrote1 : Option F32 := none
  /-- R163; 0. The outputs stand released. -/
  released : Bool := false
  /-- 1; Table 7.6, R166; 0. Stopped at entry to GLOW and not evaluated since: LSTAT.STATE reads STOPPED. -/
  stopped : Bool := false
  /-- 25; R158, R165; given at admission. The rate the descriptor was admitted with, steps/s. -/
  admitted : Nat := 0
  /-- 2; Table 7.2, R165; given at admission. The class it was admitted in. -/
  admittedCls : Nat := 0
  /-- Evaluations, for a LOOP source's refresh (R162). -/
  writes : Nat := 0
deriving DecidableEq, Repr

/-- A value on its way between tiles (R11, R12): what its target is, and the value. -/
inductive CrossItem where
  | drv (channel : Nat) (v : F32)
  | ao (output : Nat) (v : F32)
  | fan (port : Nat) (v : F32)
  | chan (channel : Nat) (v : F32) (flags : Byte)
  | loop (desc : Nat) (value : Nat) (v : F32) (faulted : Bool)
deriving DecidableEq, Repr

/-- An entry of a tile's outbound dual-clock queue (R11). -/
structure CrossEntry where
  dst : Nat
  item : CrossItem
deriving DecidableEq, Repr

/-- An imported value in a loop store: from another tile's channel or loop (R15, R159). -/
structure Import where
  v : F32
  faulted : Bool
  unreliable : Bool
  /-- 1; R187; given. Taken while TB_VALID was clear. -/
  stampInvalid : Bool
  writes : Nat
deriving DecidableEq, Repr

/-! ## Zones -/

/-- PSTAT.STATE (Table 8.3), FREE aside. -/
inductive ZoneState where
  | noModel
  | paused
  | running
  | starved
  | crc
deriving DecidableEq, Repr

/-- A zone model: for each output the q coefficients of its row (R171). -/
abbrev Model := List (List F32)

/-- A plan: its moves by step and input, with the forecast and price each step used (R176). -/
structure Plan where
  moves : List (List F32)
  occ : List F32
  price : List F32
  cost : F32
  primal : F32
  dual : F32
  infeasible : Bool
deriving DecidableEq, Repr

/-- A gain bank (R170, R186): HORIZON x (M x n + n^2) FP32 gains; empty where none has been computed. -/
abbrev GainBank := List F32

/-- A released solve (R181, R182). -/
structure Solve where
  deadline : Nat
  /-- Its cost in MAC, with the ITERATIONS in force at its release (R179). -/
  mac : Nat
  /-- The ITERATIONS it runs. -/
  iterations : Nat
  /-- What the solve started from: Y and D at the release, Y one boundary before, and the move in force. -/
  y : List F32
  yPrev : List F32
  d : List F32
  move : List F32
  occ : List F32
  price : List F32
  limit : List F32
  done : Option Plan
deriving DecidableEq, Repr

/-- A shadow gain rebuild (R186). -/
structure Rebuild where
  keys : List Key
  model : Option Model
  /-- The descriptor that takes force at the swap. -/
  desc : Option (BitVec 2048)
  done : Bool
  late : Bool
  /-- The model came from the learner (R188). -/
  learner : Bool
  /-- The descriptor came with a replacement, which alone leaves state CRC (R189). -/
  replacement : Bool
deriving DecidableEq, Repr

/-- An off-line PRED_SOLVE (R191). -/
structure OffSolve where
  key : Key
  iterations : Nat
  deadline : Nat
deriving DecidableEq, Repr

/-- The learner of one zone (R187, R188). -/
structure Learner where
  signs : Word := 0
  lambda : F32 := 0x3F7D70A4#32
  accept : F32 := 0
  ubind : Vector (BitVec 64) 4 := Vector.replicate 4 0
  theta : Model := []
  /-- P matrices, one a row of the model, each a list of rows. -/
  p : List (List (List F32)) := []
  /-- Squared prior errors summed since the last test: active model, candidate. -/
  errActive : F32 := 0
  errCand : F32 := 0
  /-- Mean squared errors of the last test. -/
  lastActive : F32 := 0
  lastCand : F32 := 0
  updates : Nat := 0
  sinceTest : Nat := 0
  skipped : Nat := 0
  adoptions : Nat := 0
deriving DecidableEq, Repr

/-- One zone slot in use. -/
structure Zone where
  /-- 2,048; R172; given at admission. The descriptor's 256 bytes. -/
  desc : BitVec 2048
  /-- 4; Table 8.3; given. -/
  state : ZoneState
  /-- model; R171; none. The active model. -/
  model : Option Model := none
  /-- model; R188; none. The previous model. -/
  prevModel : Option Model := none
  /-- bank; R170, R186; empty. The active gain bank. -/
  gains : GainBank := []
  /-- bank; R170, R186; empty. The shadow gain bank. -/
  shadow : GainBank := []
  /-- plan; R184; none. The plan in force. -/
  plan : Option Plan := none
  /-- 8; Table 8.3; 0. SHIFTS. -/
  shifts : Nat := 0
  /-- solve; R181, R182; none. The released solve. -/
  solve : Option Solve := none
  /-- list; R191; empty. PRED_SOLVEs in progress, oldest first. -/
  off : List OffSolve := []
  /-- plan; Table 8.5; none. The last PRED_SOLVE. -/
  offPlan : Option Plan := none
  /-- rebuild; R186; none. The shadow rebuild and the changes it brings. -/
  rebuild : Option Rebuild := none
  /-- learner; R187, R188; off. -/
  learner : Learner := {}
  /-- 16 bits of PSTAT; Table 8.3; 0. Bits 15:7 of PSTAT. -/
  flags : BitVec 32 := 0
  /-- snapshot; R181; DC empty. Y at the last boundary and at the one before. -/
  y : List F32 := []
  yPrev : List F32 := []
  /-- 1; R187; 0. Y at the last boundary, and at the one before, is usable for the learner. -/
  yGood : Bool := false
  yPrevGood : Bool := false
  /-- snapshot; R181; DC empty. D at the last boundary. -/
  d : List F32 := []
  /-- 1; R187; 0. D at the last boundary is usable for the learner. -/
  dGood : Bool := false
  /-- 64; R181; 0. TB ns of the last boundary, where the snapshot was taken. -/
  snapAt : Nat := 0
  /-- 32; R185; 0. The optimum-start countdown. -/
  countdown : F32 := 0
  /-- 64; R181; given. TB ns of the next boundary. -/
  next : Nat
  writes : Nat := 0
  /-- rational; R180, R189; given. The rate in MAC/s that admission took in, kept in state CRC. -/
  admitted : Rat := 0
deriving DecidableEq, Repr

/-! ## Drives, analogue outputs and fans -/

/-- DRV_STAT.STATE (Table 9.6). -/
inductive DrvState where
  | idle
  | on
  | offPhase
  | latched
  | safe
deriving DecidableEq, Repr

/-- Gate states (Table 9.1). -/
inductive Gate where
  | off
  | drive
  | slow
  | fast
deriving DecidableEq, Repr

/-- The configuration record DRV_CFG0 to DRV_CFG3 (Table 9.6). -/
structure DrvCfg where
  cfg0 : Word := 0
  cfg1 : Word := 0x07D00000#32
  cfg2 : Word := 0
  cfg3 : Word := 0
deriving DecidableEq, Repr

/-- What a FLOAT pair is doing (R203). -/
inductive Move where
  | still
  | opening
  | closing
  /-- Both outputs off for 200 ms before the other one drives. -/
  | reversing
deriving DecidableEq, Repr

/-- One drive channel. -/
structure Drive where
  /-- 128; Table 9.6; 0, OFF_SETTLE 2,000. DRV_CFG0 to DRV_CFG3 in force. -/
  cfg : DrvCfg := {}
  /-- 128; R210; none. The configuration that waits for IDLE. -/
  wait : Option DrvCfg := none
  /-- 3; Table 9.6; IDLE. -/
  state : DrvState := .idle
  /-- gates; R213; off. -/
  gate : Gate := .off
  /-- 6 x 48; R198; empty. The latched profile. -/
  run : List (BitVec 48) := []
  /-- 3; Table 9.6; 0. PHASE. -/
  phase : Nat := 0
  /-- model; R198; 0. Elapsed time at which the phase began. -/
  phaseAt : Nat := 0
  /-- 2; Table 9.6; 0. BAND of the running profile. -/
  band : Nat := 0
  /-- 10; Table 9.6; 0. PEAK. -/
  peak : Nat := 0
  /-- 10; Table 9.6; 0. VALLEY. -/
  valley : Nat := 0
  /-- 10; R207; 0. The highest code seen in the boost phase. -/
  boostPeak : Nat := 0
  /-- 1; R199; none. The END_DECAY in use for off times while the current steps down. -/
  stepDown : Option Bool := none
  /-- 1; R199; 0. The comparator is blanked: GL has turned on and its 500 ns run. -/
  blanked : Bool := false
  /-- model; R199, R208; 0. Elapsed time from which the TCLK cycles of a blanking or an off time are left. -/
  tickAt : Nat := 0
  /-- model; R199, R208; 0. Those TCLK cycles. -/
  ticks : Nat := 0
  /-- 32; Table 9.5; DC 0. DRV_DEMAND. -/
  demand : F32 := 0
  /-- 1; R201, R210; 0. The side of 50 % the demand last stood on, or the TPROP share is on; while a configuration waits, a
  demand has arrived for it. -/
  isOn : Bool := false
  /-- percent; R203; DC 0. POS_EST. -/
  pos : Rat := 0
  /-- 1; Table 9.6; 0. POS_VALID. -/
  posValid : Bool := false
  /-- 2; Table 9.6; still. MOVING_OPEN and MOVING_CLOSE. -/
  move : Move := .still
  /-- model; R203; 0. Elapsed time up to which POS_EST counts the drive. -/
  movedTo : Nat := 0
  /-- percent; R203; none. Where the move ends: the demand, and the overtravel still to drive. -/
  goal : Option Rat := none
  /-- percent; R203; DC 0. Overtravel still to drive at an end. -/
  overTravel : Rat := 0
  /-- The output that drives after the 200 ms wait: true OPEN. -/
  nextOpen : Bool := false
  /-- 32; Table 9.5; DC 0. DRV_STARTS. -/
  starts : Word := 0
  /-- 1; Table 9.6; 0. OVERCURRENT. -/
  overcurrent : Bool := false
  /-- 1; Table 9.6; 0. OPEN_LOAD. -/
  openLoad : Bool := false
  /-- 1; Table 9.6; 0. PEAK_LATE. -/
  peakLate : Bool := false
  /-- 1; Table 9.6; 0. FALLBACK_ON. -/
  fallback : Bool := false
  /-- 1; Table 9.6; 0. WATCHDOG. -/
  watchdog : Bool := false
  /-- model; R205; 0. Elapsed time of the last setting command. -/
  setAt : Nat := 0
  /-- 64; R201; 0. TB ns of the next TPROP cycle start. -/
  cycleAt : Nat := 0
  /-- 64; R201; none. TB ns at which the TPROP on time ends. -/
  onUntil : Option Nat := none
  /-- count; R300; 0. Measurements of a threshold calibration: 256 for each of its two runs. -/
  measured : Nat := 0
  /-- model; R297; 0. Elapsed time at which the threshold run under way began. -/
  measureAt : Nat := 0
deriving DecidableEq, Repr

/-- One analogue output. -/
structure Ao where
  /-- 32; Table 9.7; HI 4,095. AO_CFG0. -/
  cfg0 : Word := 0x00FFF000#32
  /-- 32; Table 9.7; 0. AO_CFG1. -/
  cfg1 : Word := 0
  /-- 32; Table 9.5; DC 0. AO_CFG2, FIXED. -/
  cfg2 : F32 := 0
  /-- 32; Table 9.9; DC 0. The demand in force. -/
  demand : F32 := 0
  /-- 12; R213; 0. The code at the pin. -/
  code : Nat := 0
  /-- 12; R211; 0. The code the ramp moves to. -/
  target : Nat := 0
  /-- 1; Table 9.7; 0. OVERLOAD. -/
  overload : Bool := false
  /-- 1; Table 9.7; 0. FALLBACK_ON. -/
  fallback : Bool := false
  /-- model; R205; 0. Elapsed time of the last setting command. -/
  setAt : Nat := 0
deriving DecidableEq, Repr

/-- One fan port. -/
structure Fan where
  /-- 32; Table 9.7; PPR 1. FAN_CFG0. -/
  cfg0 : Word := 0x00100000#32
  /-- 32; Table 9.7; 0. FAN_CFG1. -/
  cfg1 : Word := 0
  /-- 32; Table 9.5; DC 0. FAN_CFG2, FIXED. -/
  cfg2 : F32 := 0
  /-- 0.1 %; R213; 0. The duty in force. -/
  duty : Nat := 0
  /-- 32; Table 9.9; DC 0. The duty demanded, percent. -/
  demand : F32 := 0
  /-- 1; Table 9.7; 0. KICKING. -/
  kicking : Bool := false
  /-- model; R212; 0. Elapsed time at which the kick began. -/
  kickAt : Nat := 0
  /-- count; R212; 0. Pulses in this TB second. -/
  pulses : Nat := 0
  /-- 32; Table 9.5; DC 0. FAN_RPM. -/
  rpm : Nat := 0
  /-- 4; R207; 0. Consecutive slow seconds. -/
  slow : Nat := 0
  /-- 1; Table 9.7; 0. STALL. -/
  stall : Bool := false
  /-- 1; Table 9.7; 0. FALLBACK_ON. -/
  fallback : Bool := false
  /-- model; R205; 0. Elapsed time of the last setting command. -/
  setAt : Nat := 0
  /-- 64; R212; 0. The first TB second whose speed is not computed yet. -/
  nextSec : Nat := 0
deriving DecidableEq, Repr

/-- A temperature band with its source (R204, R272). -/
structure BandUnit where
  /-- 1; R213, R290; on-die maximum. -/
  fromPoint : Bool := false
  /-- 40; Table 9.9; DC 0. -/
  point : BitVec 40 := 0
  /-- 32; R213, R290; 10 C. B1. -/
  b1 : F32 := 0x41200000#32
  /-- 32; R213, R290; 40 C. B2. -/
  b2 : F32 := 0x42200000#32
  /-- 32; R213, R290; 70 C. B3. -/
  b3 : F32 := 0x428C0000#32
  /-- 2; R204, R272; DC 0. The band in force. -/
  band : Nat := 0
  /-- 1; Table 9.6, Table 12.10; 0. BAND_HELD. -/
  held : Bool := false
deriving DecidableEq, Repr

/-! ## Building bus -/

/-- A frame waiting in a transmit buffer (R220). -/
structure TxBuf where
  /-- A BUS_SEND of the host, or none for the device's own profile frame. -/
  key : Option Key
  /-- The link whose write it carries (R229). -/
  link : Option Nat
  ctx : Nat
  fdf : Bool
  brs : Bool
  ide : Bool
  id : BitVec 29
  data : List Byte
  /-- Transmission attempts made. -/
  attempts : Nat
  /-- Acknowledge errors counted (R223). -/
  ackErrors : Nat
  /-- The controller has driven its start-of-frame (R224). -/
  onBus : Bool
deriving DecidableEq, Repr

/-- BUS_STAT.FC (Table 10.11). -/
inductive Fc where
  | off
  | active
  | passive
  | busOff
  | recovering
deriving DecidableEq, Repr

/-- What BUS_TXD carries (R217, R235). -/
inductive BusTxd where
  | recessive
  /-- The bits of the frame on the bus. -/
  | frame
  /-- The ISO 11898-2 wake-up pattern, each phase 10 us, recessive after it. -/
  | wakeUp
deriving DecidableEq, Repr

/-- BUS_STAT.DUSK (Table 10.11). -/
inductive Dusk where
  | awake
  | proposing
  | agreed
  | hold
  | asleep
deriving DecidableEq, Repr

/-- State of a node entry (Table 10.6). -/
inductive NodeState where
  | free
  | waiting
  | alive
  | dead
deriving DecidableEq, Repr

/-- A node entry (R230). -/
structure Node where
  /-- 2; Table 10.6; FREE. -/
  state : NodeState := .free
  /-- 48; R230; DC 0. SERIAL. -/
  serial : BitVec 48 := 0
  /-- 2; R230; DC 0. EPOCH. -/
  epoch : BitVec 2 := 0
  /-- 4; R230; DC 0. VERSION. -/
  version : Nat := 0
  /-- 32; R231; DC 0. AFTERIMAGE count. -/
  afterimages : Word := 0
  /-- model; R230; 0. TB time (`mono`) of the last matching beacon, or of the registration. -/
  lastBeacon : Nat := 0
  /-- model; R232; none. TB time (`mono`) of the last version-1 afterimage beacon. -/
  v1Seen : Option Nat := none
  /-- model; R233; none. Elapsed time of the last RETIRE sent by itself. -/
  retiredAt : Option Nat := none
deriving DecidableEq, Repr

/-- One host receive filter (R221). -/
structure Filter where
  enable : Bool := false
  ide : Bool := false
  mtch : Word := 0
  mask : Word := 0
deriving DecidableEq, Repr

/-- A message in reassembly (R226): bits 28:5 of its fragments, the bytes so far and the index expected. -/
structure Reasm where
  head : BitVec 24
  bytes : List Byte
  next : Nat
  lastAt : Nat
  /-- The message is discarded and counted already; its later fragments are not (R226). -/
  lost : Bool := false
deriving DecidableEq, Repr

/-- One BUS_LINK (R229). -/
structure BusLink where
  point : BitVec 40
  node : Nat
  object : BitVec 16
  level : Nat
  seq : Byte
  /-- A write waits for its acknowledgement: value, sends so far, elapsed time of the last send. -/
  wait : Option (Word × Nat × Nat)
deriving DecidableEq, Repr

/-- One bus controller. -/
structure Bus where
  /-- 32; Table 10.11; BUS_RETRY_LIMIT 16. BUS_CFG0. -/
  cfg0 : Word := 0x00100000#32
  /-- 32; Table 10.11; 0. BUS_CFG1. -/
  cfg1 : Word := 0
  /-- 32; Table 10.11; 0. BUS_CFG2. -/
  cfg2 : Word := 0
  /-- 32; Table 10.11; BEACON_PERIOD 20, BEACON_MISS_LIMIT 5. BUS_CFG3. -/
  cfg3 : Word := 0x14050000#32
  /-- 8 x 8; Table 10.13; DC 0. Group numbers. -/
  groups : Vector Byte 8 := Vector.replicate 8 0
  /-- 3; Table 10.11; off. FC. -/
  fc : Fc := .off
  /-- 8; Table 10.11; 0. TEC. -/
  tecCnt : Nat := 0
  /-- 8; Table 10.11; 0. REC. -/
  recCnt : Nat := 0
  /-- 1; Table 10.11; 0. ALONE. -/
  alone : Bool := false
  /-- 1; Table 10.11; 0. RETIRED. -/
  retired : Bool := false
  /-- 1; Table 10.11; 0. RX_OVERRUN. -/
  rxOverrun : Bool := false
  /-- 1; Table 10.11; 0. TDC_FAIL. -/
  tdcFail : Bool := false
  /-- 3; Table 10.11; AWAKE. DUSK. -/
  dusk : Dusk := .awake
  /-- 17; Table 10.11; 0. BUS_CAUSE. -/
  cause : Word := 0
  /-- 32; Table 10.10; DC 0. BUS_TXOK. -/
  txok : Word := 0
  /-- 32; Table 10.10; DC 0. BUS_RXOK. -/
  rxok : Word := 0
  /-- 32; Table 10.10; DC 0. BUS_DROP. -/
  drop : Word := 0
  /-- 64 buffers; R220; empty. Frames waiting, in the order in which they became pending: at most 8 of the device's own in
  buffers 0 to 7, at most 56 BUS_SENDs in buffers 8 to 63. -/
  tx : List TxBuf := []
  /-- list; R220; empty. The device's own frames that wait for one of buffers 0 to 7. -/
  ownWait : List TxBuf := []
  /-- 128 buffers; R221; empty. Ring entries whose writes have stalled. -/
  rx : List (List Byte) := []
  /-- pin; R217; recessive. BUS_TXD. -/
  txd : BusTxd := .recessive
  /-- 16 filters; R221; disabled. -/
  filters : Vector Filter 16 := Vector.replicate 16 {}
  /-- ring; R221; none. The receive ring. -/
  ring : Option Ring := none
  /-- 64 entries; R230; FREE. -/
  nodes : Vector Node 64 := Vector.replicate 64 {}
  /-- 256 links; R229; none. -/
  links : AMap BusLink := []
  /-- list; R226; empty. Messages in reassembly. -/
  reasm : List Reasm := []
  /-- 1; R217; high. BUS_STB. -/
  stb : Bool := true
  /-- 16; Table 10.5; DC 0. The last PROPOSAL used or seen. -/
  proposal : BitVec 16 := 0
  /-- 64; R235; 0. Nodes that have agreed. -/
  agreed : BitVec 64 := 0
  /-- command; R235; none. BUS_DUSK that waits. -/
  duskKey : Option Key := none
  /-- model; R235; 0. Elapsed time at which the dusk state's time began. -/
  duskAt : Nat := 0
  /-- 1; R235; 0. DAWN is due 1 ms after the wake-up pattern. -/
  dawnDue : Bool := false
  /-- command; R222; none. BUS_RECOVER that waits. -/
  recover : Option Key := none
  /-- 8; Table 10.5; DC 0. SEQ of the next beacon. -/
  beaconSeq : Byte := 0
  /-- model; R230; 0. Elapsed time at which the next beacon is due. -/
  beaconAt : Nat := 0
  /-- 1; R236; 0. Stopped for GLOW. -/
  stopped : Bool := false
  /-- 1; R236; 0. Another node's frame is on the bus. -/
  foreign : Bool := false
deriving DecidableEq, Repr

/-! ## Federation -/

/-- LZ_STAT.STATE (Table 11.7). -/
inductive LinkState where
  | down
  | training
  | up
  | hold
  | miswired
deriving DecidableEq, Repr

/-- One Lomuz link. -/
structure Link where
  /-- 1; Table 11.7; 0. ENABLE. -/
  enable : Bool := false
  /-- 2; Table 11.7; 2. MAXVER. -/
  maxver : Nat := 2
  /-- 3; Table 11.7; DOWN. STATE. -/
  state : LinkState := .down
  /-- 2; Table 11.7; 0. VERSION. -/
  version : Nat := 0
  /-- 16; Table 11.7; 0. Peer CHIP. -/
  peerChip : Nat := 0
  /-- 8; Table 11.7; 0. Peer CLUSTER. -/
  peerCluster : Nat := 0
  /-- 48; R246; none. Peer serial, while the link is UP or in HOLD. -/
  peerSerial : BitVec 48 := 0
  /-- 32; Table 11.7; 0. LZ_EYE. -/
  eye : Word := 0
  /-- 32; Table 11.6; DC 0. LZ_TXREC. -/
  txrec : Word := 0
  /-- 32; Table 11.6; DC 0. LZ_RXREC. -/
  rxrec : Word := 0
  /-- 32; Table 11.6; DC 0. LZ_DROP. -/
  drop : Word := 0
  /-- 32; Table 11.6; DC 0. LZ_TRAIN. -/
  train : Word := 0
  /-- 9; R248; 256. Frame slots granted by the peer. -/
  credit : Nat := 256
  /-- 16; R248; 0. Slots that this receiver has freed since the last frame it sent: the CREDIT of the next one. -/
  freed : Nat := 0
  /-- 8; R248; DC 0. LSEQ of the next frame sent. -/
  lseq : Byte := 0
  /-- 8; R248; DC 0. LSEQ of the last frame received. -/
  rxLseq : Byte := 0
  /-- 32 bytes; R248; none. The last frame with a record or credit that the link sent. -/
  txFrame : List Byte := []
  /-- 32 bytes; R248; none. The last idle frame that the link sent. -/
  idleFrame : List Byte := []
  /-- model; R246; 0. Elapsed time of the failed or miswired training. -/
  failedAt : Nat := 0
  /-- model; R298; 0. Elapsed time at which HOLD began. -/
  holdAt : Nat := 0
deriving DecidableEq, Repr

/-- A peer chip (R249, R252). -/
structure Peer where
  serial : BitVec 48
  boot : Word
  building : Nat
  cluster : Nat
  /-- ALIVE by Amiziot. -/
  alive : Bool
  /-- A datagram has ever been valid. -/
  heard : Bool
  /-- Elapsed time of the last valid datagram. -/
  seenAt : Nat
  /-- Elapsed time of the last record. -/
  recAt : Nat
  /-- SEQ due next of the peer's ANNOUNCEs and of its RECORDS datagrams, once one has come; datagrams counted lost. -/
  annSeq : Option Word
  recSeq : Option Word
  lost : Word
  txSeq : Word
deriving DecidableEq, Repr

/-- What the federation side sends. -/
inductive Sent where
  | update (point : BitVec 40) (sweep : Bool)
  | subscribe (point : BitVec 40)
  | grant (point : BitVec 40)
  | refuse (point : BitVec 40) (reason : Nat)
  | cancel (point : BitVec 40)
deriving DecidableEq, Repr

/-- A record queued for a chip (R253), with its 24 bytes (Table 11.4). -/
structure OutRec where
  chip : Nat
  what : Sent
  bytes : List Byte
deriving DecidableEq, Repr

/-- An Amiziot datagram sent (R252): to a chip, or to MCAST; from ADDR and port AMZ_PORT, by the active Ethernet port. -/
structure Datagram where
  toChip : Option Nat
  src : BitVec 128
  port : Nat
  vlan : Option Nat
  en1 : Bool
  bytes : List Byte
deriving DecidableEq, Repr

/-- A record reserved by FED_MIRROR (R254). -/
structure Reserve where
  key : Key
  group : Byte
  pin : Bool
  staleS : Nat
  cov : F32
  deadline : Nat
deriving DecidableEq, Repr

/-- Clusters and campus federation. -/
structure Fed where
  /-- 14; R241; 0. CHIP. -/
  chip : Nat := 0
  /-- 6; R241; DC 0. BUILDING. -/
  building : Nat := 0
  /-- 7; R241; DC 0. CLUSTER. -/
  cluster : Nat := 0
  /-- 1; R241; 0. FED_IDENTITY has completed with OK. -/
  committed : Bool := false
  /-- 1; R244; 0. ISOLATED. -/
  isolated : Bool := false
  /-- 32; R250; a free value drawn at start-up. BOOT_ID. -/
  bootId : Word := 0
  /-- 8 links; R245; DOWN. -/
  links : Vector Link 8 := Vector.replicate 8 {}
  /-- 1; R259; off. Amiziot runs. -/
  amz : Bool := false
  /-- 128; R251; DC 0. ADDR. -/
  addr : BitVec 128 := 0
  /-- 128; R252; DC 0. MCAST. -/
  mcast : BitVec 128 := 0
  /-- 8; Table 11.10; DC 0. PREFIX. -/
  pfx : Nat := 0
  /-- 1; Table 11.10; DC 0. VLAN_EN. -/
  vlanEn : Bool := false
  /-- 16; R252; 47,190. AMZ_PORT. -/
  amzPort : Nat := 47190
  /-- 12; Table 11.10; DC 0. VLAN. -/
  vlan : Nat := 0
  /-- 1; R251; 0. EN1 is the active port. -/
  en1 : Bool := false
  /-- 1; R251; DC 1. EN0 holds link. -/
  en0Link : Bool := true
  /-- model; R251; 0. Elapsed time at which EN0 regained link. -/
  en0At : Nat := 0
  /-- 128; R251; none. The default router. -/
  router : Option (BitVec 128) := none
  /-- 7; R257; DC 0. DOMAIN. -/
  ptpDomain : Nat := 0
  /-- 1; R257; DC 0. MASTER_OK. -/
  masterOk : Bool := false
  /-- 8; Table 11.10; DC 0. PRIORITY1. -/
  prio1 : Byte := 0
  /-- 8; Table 11.10; DC 0. PRIORITY2. -/
  prio2 : Byte := 0
  /-- 8; Table 11.10; DC 0. LOG_SYNC, signed. -/
  logSync : Int := 0
  /-- 16; R257; DC 0. ASYM_NS, signed. -/
  asymNs : Int := 0
  /-- 1; R258; 0. PTP locked. -/
  ptpLocked : Bool := false
  /-- 5; R258; 0. Consecutive Sync messages within 1 us. -/
  ptpGood : Nat := 0
  /-- 1; R258; 0. Holdover. -/
  holdover : Bool := false
  /-- 32; Table 11.10; DC 0. PTP offset, ns. -/
  ptpOffset : Int := 0
  /-- 1; R258; 0. A first offset has been met. -/
  ptpMet : Bool := false
  /-- model; R258; 0. Elapsed time of the last Sync. -/
  syncAt : Nat := 0
  /-- 1; R257; 0. A master that beats this clock is heard. -/
  ptpForeign : Bool := false
  /-- count; R257; 0. Two-step Sync messages sent as master. -/
  ptpSyncs : Nat := 0
  /-- stamp; R257; none. The origin timestamp that the last Follow_Up carried, in 0.1 ns. -/
  ptpStamp : Option Nat := none
  /-- stamp; R257; none. The time of sending of the Delay_Req that waits for its answer, in 0.1 ns. -/
  ptpReq : Option Nat := none
  /-- count; R257; 0. Delay_Req messages sent. -/
  ptpReqs : Nat := 0
  /-- difference; R257; 0. Arrival of the last Sync less its origin timestamp, in 0.1 ns. -/
  ptpMs : Int := 0
  /-- difference; R257; 0. The mean path delay, in 0.1 ns. -/
  ptpDelay : Int := 0
  /-- answer; R257; none. The requester and the time of arrival that the last Delay_Resp sent as master carried. -/
  ptpResp : Option (Nat × Nat) := none
  /-- 10; Table 11.10; DC 60. SWEEP_S. -/
  sweepS : Nat := 60
  /-- 256; R253; DC 0. The export mask. -/
  exportMask : BitVec 256 := 0
  /-- 1,048,576 entries; R242; none. Origin subscription entries: subscriber chip and point. -/
  subs : List (Nat × Nat) := []
  /-- peers; R249; none. -/
  peers : AMap Peer := []
  /-- list; R253; empty. Records queued for each path, oldest first. -/
  out : List OutRec := []
  /-- model; R253; none. Elapsed time of each subscriber's last full sweep. -/
  sweptAt : AMap Nat := []
  /-- records reserved; R254; none. -/
  reserved : AMap Reserve := []
  /-- 32; Table 11.5; DC 0. SEQ of the next datagram to MCAST. -/
  announceSeq : Word := 0
  /-- model; R252; 0. Elapsed time of the last ANNOUNCE sent. -/
  announcedAt : Nat := 0
  /-- count; R255; DC 0. Records discarded. -/
  discarded : Nat := 0
  /-- datagram; R252; none. The last Amiziot datagram sent. -/
  datagram : Option Datagram := none
  /-- count; R252; DC 0. Datagrams dropped for a failed check. -/
  dgDropped : Nat := 0
  /-- count; R251; DC 0. Frames that frame steering dropped. -/
  enDropped : Nat := 0
  /-- 1; R242; 0. FED_LIMIT stands. -/
  limited : Bool := false
deriving DecidableEq, Repr

/-! ## Panel heads -/

/-- PH_STAT.STATE (Table 12.10). -/
inductive HeadState where
  | off
  | rising
  | lit
  | falling
  | cracked
  | safe
  | fault
deriving DecidableEq, Repr

/-- Where a rail sequence stands (Tables 12.2 to 12.5). -/
inductive RailStep where
  | none
  /-- Small on: all three power-good inputs awaited. -/
  | allPg
  /-- Large on: logic power-good awaited. -/
  | logicPg
  | lock
  /-- Large on: 1 ms after lock, before PH_RG_EN. -/
  | gateWait
  | gatePg
  /-- Large on: clear frames still to scan. -/
  | clear (left : Nat)
  | crack
  | emitPg
  | firstFrame
  /-- Off: the black frame is due at the next frame start. -/
  | black
  /-- Off: one frame period after the black frame. -/
  | blackEnd
  | discharge
  /-- Large off: 1 ms before PH_RL_EN goes low. -/
  | logicWait
deriving DecidableEq, Repr

/-- One bank of gamma tables and reference currents (R271). -/
structure Gamma where
  /-- 4 bands x 3 colours x 1,024 x 14; R271; empty. Keyed by (band*3 + colour)*1024 + entry. -/
  table : AMap Nat := []
  /-- 4 x 3 x 7 x 14; R271; empty. Keyed by (band*3 + colour)*7 + position. -/
  iref : AMap Nat := []
deriving DecidableEq, Repr

/-- What the picture of a frame is drawn from, as it stood at the frame start (R268, R269, R271, R281). -/
structure Scene where
  /-- The host frame is scanned; else the frame is black under the glow area. -/
  host : Bool
  /-- The glow area is laid on the frame. -/
  glow : Bool
  /-- The buffer in force, and the buffers. -/
  buf : Nat
  pixels : List Host.Cell
  /-- The glow area: X, Y, W and H. -/
  gx : Nat
  gy : Nat
  gw : Nat
  gh : Nat
  bitmap : List Host.Cell
  palette : List Host.Cell
  /-- The active gamma bank, and the band in force. -/
  gamma : Gamma
  band : Nat
deriving DecidableEq, Repr

/-- A frame that a head has sent (R268): everything its packets are made of. -/
structure SentFrame where
  /-- FSEQ. -/
  fseq : Nat
  drivers : Nat
  hactive : Nat
  vactive : Nat
  /-- REG_WRITEs sent in the blanking before it: driver, colour and the reference current. -/
  irefs : List (Nat × Nat × Nat)
  /-- What it shows; none for a frame of code 0 that ends with BLACK. -/
  scene : Option Scene
deriving DecidableEq, Repr

/-- What a head's six link lanes were last given to carry (R263, R266). -/
inductive PanelLink where
  /-- Nothing: the drivers have no power. -/
  | quiet
  /-- The link start, with the FSEQ of its ENUM. -/
  | start (fseq : Nat)
  /-- A frame. -/
  | frame (f : SentFrame)
deriving DecidableEq, Repr

/-- A glow widget with its value latch (Table 12.6, R284). -/
structure Widget where
  wtype : Nat := 0
  colours : Byte := 0
  x : Nat := 0
  y : Nat := 0
  w : Nat := 0
  h : Nat := 0
  point : BitVec 40 := 0
  format : Byte := 0
  a : F32 := 0
  b : F32 := 0
  /-- 32; R284; DC 0. Latched value. -/
  value : Word := 0
  /-- 32; R284; DC 0. Latched STATUS. -/
  status : Word := 0
  /-- model; R284; none. Elapsed time of a latch change not yet drawn. -/
  changedAt : Option Nat := none
deriving DecidableEq, Repr

/-- A contact the touch unit reports (R289). -/
structure Contact where
  id : Nat
  x : Nat
  y : Nat
  strength : Nat
deriving DecidableEq, Repr

/-- One touch node (R286, R288). -/
structure TouchNode where
  base : Rat := 0
  touched : Bool := false
  /-- Hold time, ns. -/
  hold : Nat := 0
  anti : Nat := 0
  stuck : Bool := false
  /-- delta at the last scan. -/
  delta : Rat := 0
deriving DecidableEq, Repr

/-- A panel upload or glow load under way (R269, R282). -/
structure CopyJob where
  key : Key
  buf : Nat
  space : Space
  x : Nat
  y : Nat
  w : Nat
  h : Nat
  pitch : Nat
  src : BitVec 64
deriving DecidableEq, Repr

/-- One panel head with its touch front end. -/
structure Head where
  /-- 32; Table 12.10; DIS_MS 5, CRACK_POS 0xFF. PH_CFG0. -/
  cfg0 : Word := 0x000005FF#32
  /-- 32; Table 12.10; 0. PH_CFG1. -/
  cfg1 : Word := 0
  /-- 32; Table 12.10; CRACK_RMAX 2,000. PH_CFG2. -/
  cfg2 : Word := 0x07D00000#32
  /-- 32; Table 12.10; 0. PH_CFG3. -/
  cfg3 : Word := 0
  /-- 3; R290; OFF. STATE. -/
  state : HeadState := .off
  /-- sequence; R273, R274; none. -/
  step : RailStep := .none
  /-- model; R273 to R276; 0. Elapsed time at which the step began. -/
  stepAt : Nat := 0
  /-- model; R268; 0. Elapsed time of the last frame start. -/
  frameAt : Nat := 0
  /-- command; R273, R274; none. PANEL_POWER that waits. -/
  powerKey : Option Key := none
  /-- 1; R290; low. PH_RL_EN. -/
  rl : Bool := false
  /-- 1; R290; low. PH_RG_EN. -/
  rg : Bool := false
  /-- 1; R290; low. PH_RE_EN. -/
  re : Bool := false
  /-- 1; R290; low. PH_DIS. -/
  dis : Bool := false
  /-- 3; Table 12.10; 0. PG. -/
  pg : BitVec 3 := 0
  /-- 1; Table 12.10; 0. LOCK. -/
  lock : Bool := false
  /-- 1; Table 12.10; 0. FLT. -/
  flt : Bool := false
  /-- 6 lanes; R263, R266; nothing. What PH_LN carries. -/
  link : PanelLink := .quiet
  /-- 7 x 3 x 14; R268; none. Reference currents that the drivers have been sent, by 3*driver + colour. -/
  irefSent : AMap Nat := []
  /-- 32; Table 12.9; DC 0. PH_FRAMES. -/
  frames : Word := 0
  /-- 32; R278; DC 0. PH_CRACK_R. -/
  crackR : Word := 0
  /-- band; R272, R290; on-die maximum. The panel band unit. -/
  band : BandUnit := {}
  /-- 2; R272, Table 12.10; 0. BAND: the band the scanned frame uses. -/
  bandShown : Nat := 0
  /-- 1; Table 12.10; 0. GLOW_SHOWN. -/
  glowShown : Bool := false
  /-- 1; R269; 0. Buffers are allocated. -/
  buffers : Bool := false
  /-- 3 buffers of 4 bytes a pixel; R269; 0. Buffer contents: address buffer*2^32 + byte. -/
  pixels : List Host.Cell := []
  /-- 2; R269; DC 0. The buffer in force. -/
  buf : Nat := 0
  /-- command and buffer; R269; none. The flip that waits. -/
  flip : Option (Nat × Key) := none
  /-- commands; R269; none. Flips replaced and waiting for the same frame start. -/
  flipped : List Key := []
  /-- jobs; R269; none. PANEL_UPLOADs under way, in order. -/
  uploads : List CopyJob := []
  /-- gamma; R290; empty. The active bank. -/
  gamma : Gamma := {}
  /-- gamma; R290; empty. The shadow bank. -/
  shadow : Gamma := {}
  /-- 6; R271; 0. The PANEL_GAMMA part expected next, with band and colour. -/
  gammaNext : Option (Nat × Nat × Nat) := none
  /-- command and bank; R271; none. PANEL_GAMMA_COMMIT under way, and whether the copy has finished. -/
  gammaJob : Option (Key × Gamma × Bool) := none
  /-- 1; Table 12.10; 0. GAMMA_PENDING. -/
  gammaLate : Bool := false
  /-- 2; R290; none. Black frames a reference calibration still drives. -/
  calFrames : Nat := 0
  /-- model; R279; 0. TB time (`mono`) of the last crack check. -/
  crackAt : Nat := 0
  /-- model; R279; 0. A crack check of a lit head is being measured. -/
  crackRun : Bool := false
  /-- 1; R281; DC 0. OVERLAY. -/
  overlay : Bool := false
  /-- 12; R281; DC 0. Glow X. -/
  gx : Nat := 0
  /-- 12; R281; DC 0. Glow Y. -/
  gy : Nat := 0
  /-- 9; R281; DC 0. Glow W. -/
  gw : Nat := 0
  /-- 8; R281; DC 0. Glow H. -/
  gh : Nat := 0
  /-- 1; R268, R281; 0. A glow area change waits for the frame start. -/
  glowNew : Option (Bool × Nat × Nat × Nat × Nat) := none
  /-- 38,400 bytes; R282; 0. The bitmap. -/
  bitmap : List Host.Cell := []
  /-- 64 bytes; R282; 0. The palette. -/
  palette : List Host.Cell := []
  /-- 6,144 bytes; R282; DC 0. The glyphs. -/
  glyphs : List Host.Cell := []
  /-- jobs; R282; none. GLOW_LOADs under way, in order. -/
  loads : List CopyJob := []
  /-- 16 widgets; R283; off. -/
  widgets : Vector Widget 16 := Vector.replicate 16 {}
  /-- 1; R290; 0. Touch ENABLE. -/
  touchOn : Bool := false
  /-- 1; Table 12.12; DC 0. GLOW_SCAN. -/
  glowScan : Bool := false
  /-- 1; Table 12.12; DC 0. USE_PROFILE. -/
  useProfile : Bool := false
  /-- 12; Table 12.12; DC 0. TH. -/
  th : Nat := 0
  /-- 12; Table 12.12; DC 0. HYST. -/
  hyst : Nat := 0
  /-- 4; Table 12.12; DC 4. TRACK_SHIFT. -/
  trackShift : Nat := 4
  /-- 17; R288; 900. HOLD_MAX_S. -/
  holdMaxS : Nat := 900
  /-- model; R285, R286; 0. TB time (`mono`) of the last touch scan. -/
  scanAt : Nat := 0
  /-- 640 nodes; R285; no baseline. -/
  nodes : List TouchNode := []
  /-- 1; R287; 1. The next scan takes the baseline. -/
  rebase : Bool := true
  /-- 1; Table 12.10; 0. PROFILE: baseline taken from the profile. -/
  fromProfile : Bool := false
  /-- contacts; R289; none. Contacts of the last scan. -/
  contacts : List Contact := []
  /-- 1; R289; 0. TOO_MANY at the last scan. -/
  tooMany : Bool := false
  /-- ring; R289; none. The touch ring. -/
  ring : Option Ring := none
  /-- command, scans taken, sums; R287; none. TOUCH_PROFILE capture under way. -/
  capture : Option (Key × Nat × List Int) := none
deriving DecidableEq, Repr

/-! ## Calibration and fuses -/

/-- Values of one calibration item: its trims, the shunt for KIND 0 and 1, and for KIND 3 the two resistances (R82, R296,
R303, R306). -/
structure CalVal where
  /-- The mode that the trims were taken in: 0 TAP, 1 SELECT. -/
  mode : Nat := 0
  /-- The item's CAL_MODE as an image stores it: 0 TAP, 1 SELECT (R296, R306). -/
  calMode : Nat := 0
  trims : List Int := []
  /-- FP32; R82; none. The shunt that the converter's own self-calibration measured; none where it has run none. -/
  shunt : Option F32 := none
  rlo : F32 := 0x447A0000#32
  rhi : F32 := 0x471C4000#32
deriving DecidableEq, Repr

/-- One calibration item (R294, R301). -/
structure CalItem where
  /-- values; R301, R307; the factory image. The active values. -/
  active : CalVal := {}
  /-- 4; Table 13.7; 0. SOURCE: 0 factory, 1 to 8 generation, 9 runtime. -/
  source : Nat := 0
  /-- values; R301; none. The pending values. -/
  pending : Option CalVal := none
  /-- 1; R296; TAP. The mode of the next run. -/
  nextMode : Nat := 0
  /-- command; R295; none. The run in progress and its command. -/
  running : Option (Option Key) := none
  /-- model; R297; none. Elapsed time at which the run began; none while it waits for a scan or urgent work (R121). -/
  since : Option Nat := none
  /-- 2; R294; 0. Converters whose cycle has ended since the values were set pending, for KIND 2 and 3. -/
  passed : BitVec 2 := 0
  /-- values by converter; R301, R303; none. For KIND 3: pending values that a converter took at its own cycle end while the
  other still waits. -/
  early : AMap CalVal := []
  /-- 16; Table 13.7; DC 0. QUALITY_A. -/
  qualityA : BitVec 16 := 0
  /-- 16; Table 13.7; DC 0. QUALITY_B. -/
  qualityB : BitVec 16 := 0
  /-- 64; Table 13.7; DC 0. TB second of the last run. -/
  stamp : BitVec 64 := 0
deriving DecidableEq, Repr

/-- A field generation slot (R304, R307). -/
structure FuseSlot where
  /-- 1; R307; blank. Any bit is burned. -/
  used : Bool := false
  /-- 32; Table 13.5; blank. MAGIC. -/
  magic : Word := 0
  /-- 8; Table 13.5; blank. GEN. -/
  gen : Byte := 0
  /-- 8; Table 13.5; blank. FORMAT. -/
  format : Byte := 0
  /-- 64; Table 13.5; blank. STAMP. -/
  stamp : Nat := 0
  /-- image; R306; blank. The item records, by item number, 256*KIND + INDEX; their bytes are not laid out. -/
  image : AMap CalVal := []
  /-- 32; Table 13.5; blank. DONE. -/
  done : Word := 0
  /-- 32; Table 13.5; blank. CRC. -/
  crc : Word := 0
deriving DecidableEq, Repr

/-- Calibration items and the fuse array. -/
structure Cal where
  /-- 124 items; R294; factory values. Keyed by 256*KIND + INDEX; an item not listed stands at its reset value. -/
  items : AMap CalItem := []
  /-- image; R306; nominal. The factory image, of items whose factory values differ from the nominal ones. -/
  factory : AMap CalVal := []
  /-- 8 slots; R304; blank. -/
  slots : Vector FuseSlot 8 := Vector.replicate 8 {}
  /-- 4; Table 13.7; 0. The generation in force: the hub's fuse image. -/
  gen : Nat := 0
  /-- command and slot; R308; none. A burn in progress: its key, slot, image and stamp. -/
  burn : Option (Key × Nat × AMap CalVal × Nat) := none
deriving DecidableEq, Repr

/-! ## The non-volatile store -/

/-- The hold-up configuration (R317). -/
structure HoldUp where
  c : F32
  ratio : F32
  vMin : F32
  eReserve : Nat
deriving DecidableEq, Repr

/-- A committed federation identity (R241). -/
structure Identity where
  chip : Nat
  building : Nat
  cluster : Nat
deriving DecidableEq, Repr

/-- A metering checkpoint to be written (R138). -/
structure CheckpointJob where
  /-- The slot it goes to, taken at its start. -/
  slot : Nat := 0
  /-- TB ns of the close, or of PFAIL. -/
  at' : Nat
  /-- It is the power-fail checkpoint. -/
  power : Bool
  /-- What it holds: fixed at PFAIL, and at the start of any other. -/
  image : Option Checkpoint
deriving DecidableEq, Repr

/-- What a commit writes (R314). -/
inductive CommitKind where
  | write (region offset : Nat) (data : List Byte)
  | bp (v : BitVec 2)
  | password (region kind : Nat) (hash : Option (BitVec 256))
  | clear (region step : Nat)
  | holdup (h : HoldUp)
  | install (tenant : Nat) (c : Cred)
  | rights (tenant half : Nat) (r : BitVec 256)
  | remove (tenant : Nat)
  | identity (i : Identity)
  | meter (tile pair : Nat) (c : MeterCfg)
  | profile (head : Nat) (p : Option (List Int))
  /-- The bank of a TARIFF_COMMIT: its place in the store, its entries in use, and what it holds, taken at its start. -/
  | tariff (place entries : Nat) (bank : Option Bank)
  | checkpoint (j : CheckpointJob)
deriving DecidableEq, Repr

/-- A commit queued or running: the command that waits, its context and what it writes. -/
structure Commit where
  key : Option Key
  ctx : Nat
  what : CommitKind
deriving DecidableEq, Repr

/-- An NV_READ that waits for the commits fetched before it that overlap it (R326). -/
structure NvRead where
  key : Key
  region : Nat
  offset : Nat
  len : Nat
  space : Space
  dest : BitVec 64
  /-- Overlapping commits still ahead of it. -/
  ahead : Nat
deriving DecidableEq, Repr

/-- A journal record (R314): the commit's sequence number, each target page with the place of its staged copy in the journal
log and that copy's CRC-32C, and the CRC-32C over the record. -/
structure JournalRecord where
  seq : Nat
  targets : List (Nat × Nat × Word)
  crc : Word
deriving DecidableEq, Repr

/-- The non-volatile store. Its contents survive reset and loss of supply. -/
structure Nv where
  /-- 13 x 128 KiB; R312, R287; 0. Regions 0 to 11, host data, and region 12, the heads' profiles, at address
  region*131,072 + offset. Regions 13 to 15 are held as the records that their chapters give. -/
  cells : List Host.Cell := []
  /-- 16 x 32; R325; 0. Program count of each region. -/
  programs : Vector Nat 16 := Vector.replicate 16 0
  /-- 2; Table 14.5; DC 0 as manufactured. BP[1:0], stored. -/
  bp : BitVec 2 := 0
  /-- 12 x 256; R322; none set. Read password hashes. -/
  readPw : Vector (Option (BitVec 256)) 12 := Vector.replicate 12 none
  /-- 12 x 256; R322; none set. Write password hashes. -/
  writePw : Vector (Option (BitVec 256)) 12 := Vector.replicate 12 none
  /-- system pages; R317; C is 0 until NV_HOLDUP. -/
  holdup : Option HoldUp := none
  /-- region 13; R241; none. The committed identity. -/
  identity : Option Identity := none
  /-- 1,024 pages; R312, R314; 0. The journal log: even pages in bank 0, odd ones in bank 1. -/
  log : AMap (List Byte) := []
  /-- 10; R312; DC 0. The next page of the log's ring. -/
  logAt : Nat := 0
  /-- record; R314; none. The record of the commit that runs, until it is retired. -/
  record : Option JournalRecord := none
  /-- sequence number; R314; DC 0. Commits started. -/
  commitSeq : Nat := 0
  /-- count; R315; DC 0. Programs of log pages. -/
  logPrograms : Nat := 0
  /-- count; R315; DC 0. Programs of system pages. -/
  sysPrograms : Nat := 0
  /-- 16 places for NV opcodes, others apart; R314; empty. Commits waiting, in fetch order. -/
  queue : List Commit := []
  /-- commit; R314; none. The commit that runs; it survives a power cut for journal recovery. -/
  running : Option Commit := none
  /-- 1; R318; 0. The running commit has begun its journal record. -/
  recorded : Bool := false
  /-- 1; Table 14.5; 0. RECOVERED. -/
  recovered : Bool := false
  /-- 1; Table 14.5; 0. ROLLED_BACK. -/
  rolledBack : Bool := false
  /-- 1; Table 14.5; 0. PAGE_FAIL. -/
  pageFail : Bool := false
  /-- 16; Table 14.3; 0. Regions locked out. -/
  lockout : BitVec 16 := 0
  /-- 16 x 2; Table 14.3; 0. Wrong attempts of each region. -/
  attempts : Vector Nat 16 := Vector.replicate 16 0
  /-- openings; R322; none. Context, region and access (true write) unlocked. -/
  opens : List (Nat × Nat × Bool) := []
  /-- list; R326; empty. NV_READs that wait for commits ahead of them. -/
  reads : List NvRead := []
deriving DecidableEq, Repr

/-! ## Power, start-up and temperature -/

/-- A power-state transition under way (R334, R335): its target 0 to 3, its command, and whether a wake started it. -/
structure Transition where
  target : Nat
  key : Option Key
deriving DecidableEq, Repr

/-- One on-die sensor (R341). -/
structure Sensor where
  /-- 16; Table 15.12; DC 0. The reading, 0.25 C signed. -/
  reading : Int := 0
  /-- 16; Table 15.12; DC 0. Lowest since start-up. -/
  low : Int := 0
  /-- 16; Table 15.12; DC 0. Highest since start-up. -/
  high : Int := 0
  /-- 1; R341; 0. Faulty. -/
  faulty : Bool := false
  /-- 10; R341; 0. Samples that have not changed. -/
  same : Nat := 0
  /-- 1; R341; 0. A first sample has been taken. -/
  sampled : Bool := false
deriving DecidableEq, Repr

/-- Throttling of one tile (R343). -/
structure Throttle where
  /-- 3; R343; 0. The thermal level. -/
  level : Nat := 0
  /-- 3; R339; 0. THERM_CAP. -/
  cap : Nat := 0
  /-- model; R343; none. Elapsed time of the last step. -/
  steppedAt : Option Nat := none
  /-- model; R343; none. Elapsed time of the first sample below T_THROTTLE - 5 C. -/
  belowAt : Option Nat := none
  /-- 1; R343; 0. An episode is in progress. -/
  episode : Bool := false
deriving DecidableEq, Repr

/-- TILE_SKEW of one pair of neighbours and one quantity (R16, R17). -/
structure Skew where
  /-- 2; R16; 0. Consecutive samples past the limit. -/
  past : Nat := 0
  /-- 1; R17; 0. TILE_SKEW stands. -/
  stands : Bool := false
  /-- model; R17; 0. Elapsed time at which it was raised. -/
  raisedAt : Nat := 0
  /-- model; R17; none. Elapsed time from which the difference has stayed within its limit. -/
  withinAt : Option Nat := none
deriving DecidableEq, Repr

/-- Supplies, power states and thermal management. -/
structure Power where
  /-- start-up step; R337; held in reset. -/
  boot : Boot := .held
  /-- model; R337, R339; 0. Elapsed time of POR release, or of the end of the RST_N pulse. -/
  porAt : Nat := 0
  /-- 2; R337; 0. LPDDR5 training attempts that failed. -/
  dramTries : Nat := 0
  /-- 1; R338; 0. Slot A has failed and slot B is tried. -/
  slotB : Bool := false
  /-- GiB; R64; DC 0. The LPDDR5 size fitted, found at training. -/
  gib : Nat := 0
  /-- 2; R332; RUN. The power state reached. -/
  pstate : PState := .run
  /-- transition; R334; none. -/
  trans : Option Transition := none
  /-- cause; Table 15.14; none. A wake cause that came during entry to GLOW: its bit and its controller or head. -/
  wakeDue : Option (Nat × Nat) := none
  /-- 6; R339; 0. WAKE_MASK. -/
  wakeMask : BitVec 6 := 0
  /-- 1; R339; QUIET. WAKE_TARGET: 0 RUN, 1 QUIET. -/
  wakeTarget : Nat := 1
  /-- 6; R339; 1. PRESENCE_MIN. -/
  presenceMin : Nat := 1
  /-- 11; R339; 1,000. PFAIL_MV. -/
  pfailMv : Nat := 1000
  /-- 64; R339; 0. WAKE_AT, TB second. -/
  wakeAt : BitVec 64 := 0
  /-- 3; R336; 0. The last wake cause, bit + 1. -/
  lastWake : Nat := 0
  /-- 64; R336; DC 0. Always-on copy of WAKE_EN by controller. -/
  aonBus : BitVec 64 := 0
  /-- 1; R336; DC 0. Always-on copy of ALARM. -/
  aonAlarm : Bool := false
  /-- 1; R336; DC 0. Always-on copy of PIN. -/
  aonPin : Bool := false
  /-- cause; R336, Table 16.7; none. The wake from OFF that WAKE reports after RDY. -/
  wakeReport : Option (Nat × Nat) := none
  /-- 1; R365; released (high). PWR_EN. -/
  pwrEn : Bool := true
  /-- 1; R340; 0. The power-fail signal. -/
  pfail : Bool := false
  /-- 1; R340; 0. The internal power-fail of POWER_STATE OFF stands. -/
  pfailInt : Bool := false
  /-- 16; Table 15.12; 0. PFAIL rises since start-up. -/
  pfailRises : Nat := 0
  /-- 64; Table 15.12; 0. TB ns of the last PFAIL stamp. -/
  pfailStamp : BitVec 64 := 0
  /-- 1; Table 15.12; 0. The stamp is valid. -/
  pfailStampValid : Bool := false
  /-- monitors; R359; DC 0 mV. As the device last sampled them. -/
  mon : Monitors := { supmon := 0, holdmon := 0, vfuse := 0, rails := Vector.replicate 4 0 }
  /-- 9 x 5; R339; 0. Spread of TCLK0 to 3, HCLK, PXCLK0 to 3, in 0.1 %. -/
  spread : Vector Nat 9 := Vector.replicate 9 0
  /-- 9 x 5; R344; 0. Spread settings in force. -/
  spreadNow : Vector Nat 9 := Vector.replicate 9 0
  /-- 4 x 2; Table 15.10; 1, 2, 2, none. Filter codes. -/
  filter : Vector Nat 4 := #v[1, 2, 2, 0]
  /-- 2; Table 15.10; 1. Slew code of class 3. -/
  slew : Nat := 1
  /-- 8; R339; 100. T_WARN. -/
  tWarn : Nat := 100
  /-- 8; R339; 110. T_THROTTLE. -/
  tThrottle : Nat := 110
  /-- 1; R342; 0. THERM_WARN stands. -/
  warn : Bool := false
  /-- 1; R342; 0. The critical condition stands. -/
  crit : Bool := false
  /-- model; R342; none. Elapsed time from which the maximum has stayed below 120 C. -/
  coolAt : Option Nat := none
  /-- 16 sensors; R341. -/
  sensors : Vector Sensor 16 := Vector.replicate 16 {}
  /-- 4 tiles; R343. -/
  throttle : Vector Throttle 4 := Vector.replicate 4 {}
  /-- 4 edges x 2; R16. Skew of T0-T1, T1-T3, T3-T2, T2-T0: supply at 2e, temperature at 2e+1. -/
  skew : Vector Skew 8 := Vector.replicate 8 {}
  /-- 1; R207; 0. VGATE is low: every gate is off. -/
  gateLow : Bool := false
deriving DecidableEq, Repr

/-! ## A tile -/

/-- What one tile holds while it is powered; `{}` is a tile just powered (R13, R93, R213, R290). -/
structure Tile where
  /-- 1; R124; none. What the memory self-test of the shaded store has reported at the power-on. -/
  storeTest : Option Bool := none
  /-- 64 inputs; R93; OFF. -/
  inputs : Vector Input 64 := Vector.replicate 64 {}
  /-- 32 tables of 16 pairs; R84, R93; empty. -/
  tables : Vector (Option (List (F32 × F32))) 32 := Vector.replicate 32 none
  /-- 1; R100; 0. The reference buffer is on. -/
  refOn : Bool := false
  /-- 1; R100; 0. t_REFSET has elapsed. -/
  refReady : Bool := false
  /-- model; R100; 0. Elapsed time of REFBUF_ON. -/
  refAt : Nat := 0
  /-- converter; R99. Converters A and B. -/
  convs : Vector Conv 2 := Vector.replicate 2 {}
  /-- 1; R101; 0. The interleave item has been calibrated. -/
  ilvCal : Bool := false
  /-- 2; R102; 0. ADC_CALIBRATE ITEM 2: B follows A. -/
  calBoth : Option (Option Key × BitVec 16) := none
  /-- 64; R86; 0. The first TB second whose pulse rates are not written yet. -/
  rateSec : Nat := 0
  /-- 8 places; R111; empty. The urgent queue; its head may be converting. -/
  urgent : List Urgent := []
  /-- 1; R111; 0. The head's dwell is in progress. -/
  urgentOn : Bool := false
  /-- model; R111; 0. Elapsed time at which it began. -/
  urgentAt : Nat := 0
  /-- model; R98; none. What it uses. -/
  urgentSnap : Option Snap := none
  /-- 4 places; R118; empty. Scans queued. -/
  scans : List Scan := []
  /-- scan; R118; none. The scan in progress, with its captures so far. -/
  scanning : Option (Scan × List (List Int)) := none
  /-- model; R118; none. How long, in ns, both sequences have run since the last scan, up to `bothFrom`; none before the
  first scan. -/
  scanRan : Option Nat := none
  /-- model; R118; none. Elapsed time since which both sequences run unsuspended. -/
  bothFrom : Option Nat := none
  /-- model; R111, R121; 0. A scan that GLOW has put back comes before the sequences resume. -/
  scanFirst : Bool := false
  /-- model; R121; 0. Urgent work that came during a scan or before GLOW comes before the sequences resume. -/
  holdA : Bool := false
  /-- 1/16 sample; R119; DC 0. The launch-path delay that interleave calibration has measured. -/
  launchDelay : Nat := 0
  /-- model; R118; 0. Elapsed time of LTMUX's change or of the last launch. -/
  launchAt : Nat := 0
  /-- 5; R97; DC 0. LTMUX. -/
  ltmux : Nat := 0
  /-- 256 channels; R110. -/
  lch : Vector Lch 256 := Vector.replicate 256 {}
  /-- 64 buffers; R115; none. -/
  bufs : Vector (Option Ring) 64 := Vector.replicate 64 none
  /-- 8 ports; R141. -/
  ports : Vector Port 8 := Vector.replicate 8 {}
  /-- 16,384 descriptors; R148; none in use. -/
  loops : AMap Loop := []
  /-- 2; R161; x1. Stretch factor exponents s1 and s2. -/
  s1 : Nat := 0
  s2 : Nat := 0
  /-- 64 entries; R11; empty. Values that leave this tile, oldest first; those beyond the 64th are held in their writers. -/
  xout : List CrossEntry := []
  /-- 12; R182; none. The zone whose solve runs. -/
  solving : Option Nat := none
  /-- import slots; R159; empty. Values from other tiles in the loop store: channel at 512*tile + channel, loop value above. -/
  imports : AMap Import := []
  /-- 4,096 slots; R170; none in use. -/
  zones : AMap Zone := []
  /-- 32 x 168 x 6; R174; 0. Occupancy schedules, keyed by 168*schedule + hour. -/
  scheds : AMap Nat := []
  /-- 24 channels; R213. -/
  drives : Vector Drive 24 := Vector.replicate 24 {}
  /-- 4 sets x 16 profiles; R196, R197; empty. Keyed by 16*set + profile. -/
  profiles : Vector (List (BitVec 48)) 64 := Vector.replicate 64 []
  /-- band; R204, R213. The drive band. -/
  band : BandUnit := {}
  /-- 1; R206; 0. The outputs stand in the safe state until DRV_CLEAR. -/
  safe : Bool := false
  /-- 8 outputs; R213. -/
  aos : Vector Ao 8 := Vector.replicate 8 {}
  /-- 4 ports; R213. -/
  fans : Vector Fan 4 := Vector.replicate 4 {}
  /-- 16 controllers; R217. -/
  buses : Vector Bus 16 := Vector.replicate 16 {}
  /-- head; R290. -/
  head : Head := {}
deriving DecidableEq, Repr

/-! ## The block -/

/-- The whole state of the block. -/
structure State where
  /-- list; log 1; empty. The commands that wait, first in, first out. -/
  pending : List Instr := []
  tb : TimeBase := {}
  ev : Events := {}
  hub : Hub := {}
  cl : Clients := {}
  pts : Points := {}
  mt : Metering := {}
  fed : Fed := {}
  cal : Cal := {}
  nv : Nv := {}
  pw : Power := {}
  /-- 4; R1; gated. Power of each tile. -/
  tpow : Vector TilePow 4 := Vector.replicate 4 .gated
  tiles : Vector Tile 4 := Vector.replicate 4 {}
  /-- 4 x 64; R92; 0. Inputs held shaded until the next start-up, across gating. -/
  shaded : Vector (BitVec 64) 4 := Vector.replicate 4 0
  /-- 64; R174; 0. WEEK_ORIGIN. -/
  weekOrigin : Nat := 0
  /-- bytes; R34; DC 0. Host memory as the device meets it through HOST. -/
  hostMem : List Host.Cell := []
  /-- 64 KiB; Table 2.4, R49; DC 0. On-chip ring memory. -/
  ringMem : List Host.Cell := []
  /-- model; log 5; DC 0. The counter that free values are drawn with. -/
  free : Nat := 0
deriving DecidableEq, Repr

/-- The block right after reset: held in reset, every register at its reset value, before POR release (log 2). -/
def State.reset : State := {}

end Sys2Proof.Machine
end

