-- ==== Sys2Proof/Machine/Ops.lean ====
section
/-!
DEFINITION. Machine/Ops.lean: the operations that every command is written over. Access to tiles and memory, MSI-X,
the event unit's raise (R351), replies and completion interrupts (R32, R33, R36), fetching (R40, R41), and running a
command by the order of R38.
-/

namespace Sys2Proof.Machine

/-! ## Tiles, time and free values -/

/-- Tile `t`. -/
def State.tile (s : State) (t : Nat) : Tile := vget s.tiles t {}

/-- Change tile `t`. -/
def State.modTile (s : State) (t : Nat) (f : Tile → Tile) : State := { s with tiles := vmod s.tiles t f }

/-- Tile `t` exists and is powered (R1). -/
def State.tileOn (s : State) (t : Nat) : Bool := vget s.tpow t .gated == .on

/-- Start-up is complete: RDY is 1 (R337). -/
def State.live (s : State) : Bool := s.pw.boot == .ready

/-- The main domain is out of reset: start-up, a start-up that has failed, or RDY. -/
def rstActs (s : State) : Bool :=
  s.pw.boot != .held && s.pw.boot != .off && s.pw.boot != .unpowered

/-- GLOW has been entered, or its entry runs. -/
def glowing (s : State) : Bool :=
  s.pw.pstate == .glow || ((s.pw.trans.map (fun t => decide (2 ≤ t.target))).getD false)

/-- TB in ns. -/
def State.ns (s : State) : Nat := s.tb.now.toNat

/-- The current TB second. -/
def State.sec (s : State) : Nat := s.tb.now.toNat / 1000000000

/-- TB bits 57:10, the TIMESTAMP of a point and the STAMP of a channel (Table 3.8, Table 5.3). -/
def State.stamp48 (s : State) : BitVec 48 := BitVec.ofNat 48 (s.tb.now.toNat / 1024)

/-- Draw the number that the next free value is taken at (log 5). -/
def State.drawn (s : State) : State := { s with free := s.free + 1 }

/-! ## Memory -/

/-- The size of the on-chip ring memory (Table 2.4). -/
def ringSize : Nat := 65536

/-- Bytes of a memory. -/
def State.readMem (s : State) (sp : Space) (a n : Nat) : List Byte :=
  match sp with
  | .host => memRead s.hostMem a n
  | .ring => memRead s.ringMem a n

/-- Write bytes to a memory; what leaves ring memory is not written. -/
def State.writeMem (s : State) (sp : Space) (a : Nat) (bytes : List Byte) : State :=
  match sp with
  | .host => { s with hostMem := memWrite s.hostMem a bytes }
  | .ring => if a + bytes.length ≤ ringSize then { s with ringMem := memWrite s.ringMem a bytes } else s

/-- A span lies within its memory. -/
def spanFits (sp : Space) (a n : Nat) : Bool :=
  match sp with
  | .host => true
  | .ring => decide (a + n ≤ ringSize)

/-- The memory a SPACE bit names. -/
def spaceOf (n : Nat) : Space := if n = 0 then .host else .ring

/-! ## MSI-X (R353) -/

/-- Word `k` of vector `v`'s table entry. -/
def msixWord (h : Hub) (v k : Nat) : Nat := (vget h.msix (4 * v + k) 0).toNat

/-- Vector `v` is masked by itself. -/
def vectorMasked (h : Hub) (v : Nat) : Bool := msixWord h v 3 % 2 == 1

/-- Send the message of a vector: one write of its data to its address. -/
def Msix.send (v : Nat) (s : State) : State :=
  s.writeMem .host (msixWord s.hub v 0 + msixWord s.hub v 1 * 2 ^ 32) (leBytes 4 (msixWord s.hub v 2))

/-- Signal a vector: sent, kept in the pending bits while masked, or nothing while MSI-X is disabled. -/
def Msix.signal (v : Nat) (s : State) : State :=
  if !s.hub.msixEnabled then s
  else if s.hub.msixMasked || vectorMasked s.hub v then
    { s with hub := { s.hub with pba := s.hub.pba ||| (1#256 <<< v) } }
  else Msix.send v s

/-- Send what unmasking has freed: every pending vector that no mask holds. -/
def Msix.flush (s : State) : State :=
  if s.hub.msixEnabled && !s.hub.msixMasked then
    (List.range 256).foldl (fun s v =>
      if s.hub.pba.getLsbD v && !vectorMasked s.hub v then
        Msix.send v { s with hub := { s.hub with pba := s.hub.pba &&& ~~~(1#256 <<< v) } }
      else s) s
  else s

/-! ## The event unit (R348 to R357) -/

/-- Sources whose Log column reads Optional (Table 16.1). -/
def optionalSource (src : Nat) : Bool :=
  src == 32 || (64 ≤ src && src < 128 && [0, 1, 3, 4, 7, 9, 11, 12].contains (src % 16))
    || (128 ≤ src && src < 192) || (224 ≤ src && src % 8 == 6)

/-- EVCFG of a source. -/
def evCfg (e : Events) (src : Nat) : Nat := (vget e.cfg src 0).toNat

/-- MASK of a source. -/
def evMasked (e : Events) (src : Nat) : Bool := field (evCfg e src) 14 14 == 1

/-- Signal a source on its route and set SIGNALLED (R351 step 3). A pin's level follows from the state; with MSI-X disabled
no message is written (R353; log 15). -/
def Ev.signal (src : Nat) (s : State) : State :=
  let c := evCfg s.ev src
  let s := if field c 13 13 = 1 then s else Msix.signal (field c 7 0) s
  { s with ev := { s.ev with stat := vmod s.ev.stat src (fun x => { x with signalled := true }) } }

/-- Append a trouble log entry, overwriting the oldest when 4,096 are held (R356). -/
def Ev.append (src code arg flags ctx : Nat) (s : State) : State :=
  let e : LogEntry :=
    { stamp := s.tb.now, seq := s.ev.nextSeq, source := BitVec.ofNat 16 src, code := BitVec.ofNat 16 code,
      arg := BitVec.ofNat 96 arg, flags := BitVec.ofNat 8 (bit (!s.tb.valid) + flags), context := BitVec.ofNat 16 ctx }
  let full := decide (4096 ≤ s.ev.log.length)
  let log := if full then s.ev.log.drop 1 else s.ev.log
  { s with ev := { s.ev with
      log := log ++ [e]
      nextSeq := s.ev.nextSeq + 1
      overwrites := if full then satInc 32 s.ev.overwrites else s.ev.overwrites } }

/-- The SEQ that the next append overwrites, where that loses an unread entry for the first time (R356). -/
def Ev.wrapLoss (s : State) : Option Nat :=
  match s.ev.log with
  | [] => none
  | e :: _ =>
    if 4096 ≤ s.ev.log.length && !s.ev.wrapRaised && decide ((e.seq - s.ev.readMark).toNat < 2 ^ 31) then some e.seq.toNat
    else none

/-- One raise by the steps of R351; a LOG_WRAP that its log entry causes is left to the caller. -/
def Ev.recordOne (src code arg : Nat) (cleared : Bool) (s : State) : State :=
  let masked := evMasked s.ev src
  let s := { s with ev := { s.ev with stat := vmod s.ev.stat src (fun x =>
    { x with pending := true, count := satInc 16 x.count, code := BitVec.ofNat 16 code, arg := BitVec.ofNat 96 arg }) } }
  let logged := !optionalSource src || field (evCfg s.ev src) 15 15 == 1
  let s :=
    if logged then
      let seq := s.ev.nextSeq
      let s := Ev.append src code arg (2 * bit cleared + 4 * bit masked) 0 s
      { s with ev := { s.ev with stat := vmod s.ev.stat src (fun x => { x with seq := seq }) } }
    else s
  if !masked && !(vget s.ev.stat src {}).signalled then Ev.signal src s else s

/-- Raise LOG_WRAP where a log entry about to be written loses the first unread one. -/
def Ev.wrapCheck (lost : Option Nat) (s : State) : State :=
  match lost with
  | some seq => Ev.recordOne 13 0 seq false { s with ev := { s.ev with wrapRaised := true } }
  | none => s

/-- One raise with the LOG_WRAP it may cause, but no EVENT_WAIT completed. -/
def Ev.record (src code arg : Nat) (cleared : Bool) (s : State) : State :=
  let logged := !optionalSource src || field (evCfg s.ev src) 15 15 == 1
  let lost := if logged then Ev.wrapLoss s else none
  Ev.wrapCheck lost (Ev.recordOne src code arg cleared s)

/-- The PENDING bits of a quarter of the sources, source 64q lowest (Table 16.6). -/
def Ev.pendingBits (e : Events) (quarter : Nat) : Nat :=
  (List.range 64).foldl (fun a i => a + bit (vget e.stat (64 * quarter + i) {}).pending * 2 ^ i) 0

/-- The SIGNALLED bits of a quarter. -/
def Ev.signalledBits (e : Events) (quarter : Nat) : Nat :=
  (List.range 64).foldl (fun a i => a + bit (vget e.stat (64 * quarter + i) {}).signalled * 2 ^ i) 0

/-! ## Replies (R32, R33, R36) -/

/-- Pair `q`, where it is live. -/
def State.pair (s : State) (q : Nat) : Option Pair := aget s.hub.pairs q

/-- Change pair `q`. -/
def State.modPair (s : State) (q : Nat) (f : Pair → Pair) : State :=
  { s with hub := { s.hub with pairs := amod s.hub.pairs q f } }

/-- Entries in a ring of the descriptor (Table 2.4). -/
def RingDesc.size (d : RingDesc) : Nat := 2 ^ d.log2Size

/-- Replies in the completion ring that CQ_HEAD has not passed. -/
def Pair.unread (p : Pair) : Nat := (p.cqTail + p.desc.size - p.cqHead) % p.desc.size

/-- An event that has been signalled on vector `v` is not yet satisfied: a source acknowledged, or replies that CQ_HEAD has
passed. -/
def vectorDue (s : State) (v : Nat) : Bool :=
  (List.range 256).any (fun src =>
      (vget s.ev.stat src {}).signalled && field (evCfg s.ev src) 13 13 == 0 && field (evCfg s.ev src) 7 0 == v)
    || s.hub.pairs.any (fun e => e.2.desc.space == .host && e.2.desc.vector.toNat == v
        && decide (e.2.unsignalled < e.2.unread))

/-- Events have been satisfied: a pending bit with none left behind it clears, as PCI Express 3.0 lays down (R353). -/
def Msix.satisfied (s : State) : State :=
  if s.hub.pba = 0 then s
  else { s with hub := { s.hub with
    pba := (List.range 256).foldl (fun m v => if m.getLsbD v && !vectorDue s v then m &&& ~~~(1#256 <<< v) else m) s.hub.pba } }

/-- The completion ring holds size - 1 replies (R31). -/
def Pair.cqFull (p : Pair) : Bool := decide (p.desc.size ≤ p.unread + 1)

/-- The 32 bytes of a status reply (Table 2.7). -/
def replyBytes (phase : Bool) (r : Reply) : List Byte :=
  let b := leBytes 2 (r.tag.toNat + bit phase * 2 ^ 15) ++ [r.status] ++ leBytes 2 r.echo.toNat
    ++ leBytes 23 r.result.toNat
  b ++ leBytes 4 (crc32c b).toNat

/-- Take a command out of flight: its tag is free (R40). -/
def Cmd.free (k : Option Key) (s : State) : State :=
  match k with
  | some k => { s with hub := { s.hub with inflight := s.hub.inflight.filter (fun c => c.key != k) } }
  | none => s

/-- Signal every unsignalled reply of a pair on its vector; a pin follows from state (R33, R353). -/
def Ring.signal (q : Nat) (s : State) : State :=
  match s.pair q with
  | some p =>
    let s := s.modPair q (fun p => { p with unsignalled := 0 })
    match p.desc.space with
    | .host => Msix.signal p.desc.vector.toNat s
    | .ring => s
  | none => s

/-- Write a reply to the pair's next completion slot, and signal by R33. -/
def Ring.post (q : Nat) (r : Reply) (s : State) : State :=
  match s.pair q with
  | some p =>
    let s := s.writeMem p.desc.space (p.desc.cqBase.toNat + 32 * p.cqTail) (replyBytes p.phase r)
    let next := (p.cqTail + 1) % p.desc.size
    let s := s.modPair q (fun p => { p with
      cqTail := next
      phase := if next = 0 then !p.phase else p.phase
      oldest := if p.unsignalled = 0 then s.tb.elapsed else p.oldest
      unsignalled := p.unsignalled + 1 })
    let s := Cmd.free r.frees s
    if r.irq || p.desc.coalTime == 0 || decide (p.desc.coalCount + 1 ≤ p.unsignalled + 1) then Ring.signal q s else s
  | none => Cmd.free r.frees s

/-- Give a reply to its pair: written, held for a full completion ring with CQ_STALL, or discarded (Table 2.12). -/
def Ring.reply (q : Nat) (r : Reply) (s : State) : State :=
  match s.pair q with
  | some p =>
    if p.deleting then Cmd.free r.frees s
    else if p.held.isEmpty && !p.cqFull then Ring.post q r s
    else
      let s := s.modPair q (fun p => { p with held := p.held ++ [r] })
      if p.held.isEmpty then Ev.record 32 0 (packLe [(2, q)]) false s else s
  | none => Cmd.free r.frees s

/-- The command in flight under a key. -/
def Cmd.find (k : Key) (s : State) : Option InFlight := s.hub.inflight.find? (fun c => c.key == k)

/-- The reply of a command in flight. -/
def replyOf (c : InFlight) (st : Byte) (res : Nat) (frees : Option Key) : Reply :=
  { tag := BitVec.ofNat 11 c.key.tag, status := st, echo := c.echo, result := BitVec.ofNat 184 res, irq := c.irq,
    frees := frees }

/-- The final reply of a command in flight (R40, R43), before the waits that a CQ_STALL may end. -/
def Cmd.finish (k : Key) (st : Byte) (res : Nat) (s : State) : State :=
  match Cmd.find k s with
  | some c =>
    if c.discard || (c.suppressOk && st == St.ok) then Cmd.free (some k) s
    else Ring.reply k.q (replyOf c st res (some k)) s
  | none => s

/-- An EVENT_WAIT whose masked source is pending. -/
def waitHit (e : Events) (w : EvWait) : Bool := Ev.pendingBits e w.quarter &&& w.mask.toNat != 0

/-- End the EVENT_WAITs whose source is pending, at most `n` of them (R358). -/
def Ev.settle : Nat → State → State
  | 0, s => s
  | n + 1, s =>
    match s.ev.waits.find? (waitHit s.ev) with
    | some w =>
      Ev.settle n (Cmd.finish w.key St.ok
        (result [(5, 8, Ev.pendingBits s.ev w.quarter), (13, 1, 1)])
        { s with ev := { s.ev with waits := s.ev.waits.filter (fun x => x.key != w.key) } })
    | none => s

/-- Raise an event source with CODE and ARG, first byte lowest (R351). -/
def Ev.raise (src code arg : Nat) (s : State) : State :=
  let s := Ev.record src code arg false s
  Ev.settle s.ev.waits.length s

/-- Raise a source at the end of its condition, with FLAGS.CLEARED (R348). -/
def Ev.raiseCleared (src code arg : Nat) (s : State) : State :=
  let s := Ev.record src code arg true s
  Ev.settle s.ev.waits.length s

/-- The final reply of a command in flight. -/
def Cmd.final (k : Key) (st : Byte) (res : Nat) (s : State) : State :=
  let s := Cmd.finish k st res s
  Ev.settle s.ev.waits.length s

/-- The final reply of a command that may be waiting. -/
def Cmd.finalOpt (k : Option Key) (st : Byte) (res : Nat) (s : State) : State :=
  match k with
  | some k => Cmd.final k st res s
  | none => s

/-- A final BAD_PARAM with a reason in result byte 5. -/
def Cmd.finalBad (k : Key) (reason : Nat) (s : State) : State := Cmd.final k St.badParam (result [(5, 1, reason)]) s

/-- The interim PENDING reply, which SUPPRESS_OK never suppresses (R43). -/
def Cmd.interim (k : Key) (s : State) : State :=
  match Cmd.find k s with
  | some c =>
    if c.discard then s
    else
      let s := Ring.reply k.q (replyOf c St.pending 0 none) s
      Ev.settle s.ev.waits.length s
  | none => s

/-! ## Fetching (R34, R40, R41, R333, R375) -/

/-- A fetched entry that holds a tag: its CRC matched and its TAG was free. -/
def Fetched.tagged (f : Fetched) : Bool :=
  match f.entry with
  | .packet _ _ => !f.dup
  | .bad _ => false

/-- Commands in flight, from fetch to final reply (R40). -/
def inFlightCount (s : State) : Nat := s.hub.inflight.length + (s.hub.fetched.filter Fetched.tagged).length

/-- The context that owns a pair. -/
def pairCtx (s : State) (q : Nat) : Nat := ((s.pair q).map (·.ctx)).getD 0

/-- Commands in flight that count under a context (R375). -/
def ctxCount (s : State) (c : Nat) : Nat :=
  (s.hub.inflight.filter (fun x => x.ctx == c)).length
    + (s.hub.fetched.filter (fun f => f.tagged && pairCtx s f.q == c)).length

/-- In GLOW only groups 0xD and 0xE, TB_READ and entries with a failed CRC pass (R333). -/
def glowOk (s : State) (e : Entry) : Bool :=
  s.pw.pstate != .glow ||
    (match e with
     | .packet op _ => op.toNat / 256 == 0xD || op.toNat / 256 == 0xE || op.toNat == 0x032
     | .bad _ => true)

/-- The pair has an entry that may be fetched now. -/
def Ring.ready (s : State) (p : Pair) : Bool :=
  match p.waiting with
  | [] => false
  | (_, e) :: _ =>
    !p.deleting && p.held.isEmpty && s.live && s.hub.setup == .armed
      && decide (inFlightCount s < 2048) && decide (ctxCount s p.ctx < 256) && glowOk s e

/-- The TAG of an entry is in flight on its pair (R41). -/
def tagTaken (s : State) (q : Nat) (e : Entry) : Bool :=
  match e with
  | .packet _ pk =>
    (s.hub.inflight.any (fun c => c.key.q == q && c.key.tag == pk.tag.toNat)) ||
      s.hub.fetched.any (fun f => f.q == q && f.tagged &&
        (match f.entry with
         | .packet _ p => p.tag == pk.tag
         | .bad _ => false))
  | .bad _ => false

/-- The tenant whose credential judges an entry, with that credential: the sender's, or the one a SESSION_PROVE names.
The owner's rights stand whatever its credential says (R58, R59, Table 3.18). -/
def credOf (s : State) (e : Entry) : Option (Nat × Option Cred) :=
  match e with
  | .packet op pk =>
    if op.toNat = 0x101 then some (pk.u16 8, aget s.cl.creds (pk.u16 8))
    else
      match aget s.cl.sessions pk.ctx with
      | some x => if x.tenant = 0 then none else some (x.tenant, aget s.cl.creds x.tenant)
      | none => none
  | .bad _ => none

/-- Fetch the first waiting entry of a pair, and write the state word (R32). -/
def Ring.fetchOne (q : Nat) (s : State) : State :=
  match s.pair q with
  | some p =>
    match p.waiting with
    | (i, e) :: rest =>
      let head := (p.sqHead + 1) % p.desc.size
      let dup := tagTaken s q e
      let s := s.modPair q (fun p => { p with waiting := rest, sqHead := head })
      let s := { s with hub := { s.hub with fetched := s.hub.fetched ++ [({
        q := q, index := i, entry := e, dup := dup, cred := credOf s e } : Fetched)] } }
      s.writeMem p.desc.space p.desc.stateAddr.toNat (leBytes 8 head)
    | [] => s
  | none => s

/-- The weight of a context: its session's, or 4 for context 0 without one (R375). -/
def ctxWeight (s : State) (c : Nat) : Nat := ((aget s.cl.sessions c).map (·.weight)).getD 4

/-- The first number of a list above `x`, or else its least. -/
def nextAfter (x : Nat) (l : List Nat) : Option Nat :=
  let best (l : List Nat) : Option Nat := l.foldl (fun a n => match a with
    | some m => some (min m n)
    | none => some n) none
  match best (l.filter (fun n => decide (x < n))) with
  | some n => some n
  | none => best l

/-- The pair that weighted round robin serves next (R41), with the state that remembers the choice. -/
def Ring.pick (s : State) : Option (Nat × State) :=
  let ready := s.hub.pairs.filter (fun e => Ring.ready s e.2)
  let ctxs := ready.map (fun e => e.2.ctx)
  let stayOn := ctxs.contains s.hub.rrCtx && decide (0 < s.hub.rrLeft)
  match (if stayOn then some s.hub.rrCtx else nextAfter s.hub.rrCtx ctxs) with
  | some c =>
    let left := if stayOn then s.hub.rrLeft else ctxWeight s c
    match nextAfter ((aget s.hub.rrPair c).getD 4096) ((ready.filter (fun e => e.2.ctx == c)).map (·.1)) with
    | some q => some (q, { s with hub := { s.hub with
        rrCtx := c, rrLeft := left - 1, rrPair := aset s.hub.rrPair c q } })
    | none => none
  | none => none

/-- Fetch by weighted round robin until nothing more may be fetched, at most `n` entries. -/
def Ring.fetchN : Nat → State → State
  | 0, s => s
  | n + 1, s =>
    match Ring.pick s with
    | some (q, s) => Ring.fetchN n (Ring.fetchOne q s)
    | none => s

/-- Entries that wait in all rings. -/
def waitingCount (s : State) : Nat := s.hub.pairs.foldl (fun a e => a + e.2.waiting.length) 0

/-- Fetch all that may be fetched. -/
def Ring.fetchAll (s : State) : State := Ring.fetchN (waitingCount s) s

/-! ## Wake causes -/

/-- The wake causes, by their bits in Table 15.7. -/
def wakeHost : Nat := 0
def wakeBus : Nat := 1
def wakeTouch : Nat := 2
def wakePresence : Nat := 3
def wakeByAlarm : Nat := 4
def wakeByPin : Nat := 5

/-- An exit from GLOW towards WAKE_TARGET starts, and WAKE is raised (R335). -/
def Power.exitBy (cause arg : Nat) (s : State) : State :=
  Ev.raise 7 cause (packLe [(1, arg)]) { s with pw := { s.pw with
    lastWake := cause + 1, trans := some { target := s.pw.wakeTarget, key := none } } }

/-- A wake cause outside OFF: in GLOW an enabled one starts the exit; during entry to GLOW it is kept until the entry has
completed (Table 15.14). -/
def Power.wake (cause arg : Nat) (s : State) : State :=
  if !s.pw.wakeMask.getLsbD cause then s
  else
    match s.pw.trans with
    | none => if s.pw.pstate == .glow then Power.exitBy cause arg s else s
    | some t =>
      if t.target = 2 && s.pw.wakeDue.isNone then { s with pw := { s.pw with wakeDue := some (cause, arg) } } else s

/-! ## Running a command (R38) -/

/-- How taking an entry up ends. -/
inductive Took where
  /-- The entry does not start now: it is not the pair's next one, or it waits. -/
  | stay (s : State)
  /-- It is fetched and taken out of the ring, from the slot with that index, and its TAG was free; `old` is the
  credential that judges it, where that has changed since the fetch (R59). -/
  | go (index : Nat) (old : Option (Nat × Option Cred)) (s : State)
  /-- The same, with its TAG in flight on the pair (R41). -/
  | dup (s : State)

/-- The next fetched entry of pair `q`. -/
def nextFetched (s : State) (q : Nat) : Option Fetched := s.hub.fetched.find? (fun f => f.q == q)

/-- Remove the next fetched entry of pair `q`. -/
def dropFetched (q : Nat) : List Fetched → List Fetched
  | [] => []
  | f :: r => if f.q == q then r else f :: dropFetched q r

/-- FENCE holds the entry: an earlier command of the pair has not completed (Table 2.6). -/
def fenceHolds (s : State) (q : Nat) (e : Entry) : Bool :=
  match e with
  | .packet _ pk => pk.fence && s.hub.inflight.any (fun c => c.key.q == q)
  | .bad _ => false

/-- Put an entry in a pair's ring as its next one, behind nothing: the host has written it and rung (log 7). -/
def Ring.place (q : Nat) (e : Entry) (s : State) : State :=
  s.modPair q (fun p => { p with waiting := [(p.sqTail, e)], sqTail := (p.sqTail + 1) % p.desc.size })

/-- The entry of a command row: placed and fetched where the pair has nothing waiting (log 7). -/
def Ring.offer (q : Nat) (e : Entry) (s : State) : State :=
  match s.pair q with
  | some p =>
    if p.waiting.isEmpty && !p.deleting && (nextFetched s q).isNone then
      let s := Ring.place q e s
      match s.pair q with
      | some p => if Ring.ready s p then Ring.fetchOne q s else s
      | none => s
    else s
  | none => s

/-- Take up the entry that a command row presents on pair `q`. -/
def Cmd.take (q : Nat) (e : Entry) (s : State) : Took :=
  if !s.live || s.hub.setup != .armed then .stay s
  else
    let s := Ring.offer q e s
    match nextFetched s q with
    | some f =>
      if f.entry != e || !glowOk s e then .stay s
      else
        let t := { s with hub := { s.hub with fetched := dropFetched q s.hub.fetched } }
        if f.dup then .dup t
        else if fenceHolds s q e then .stay s
        else .go f.index (if f.cred == credOf s e then none else f.cred) t
    | none => .stay s

/-- The state with the credential that judges a command (R59). -/
def State.underCred (s : State) (old : Option (Nat × Option Cred)) : State :=
  match old with
  | none => s
  | some (t, some c) => { s with cl := { s.cl with creds := aset s.cl.creds t c } }
  | some (t, none) => { s with cl := { s.cl with creds := aerase s.cl.creds t } }

/-- The state with the credentials that stand in `now`. -/
def State.withCreds (now s : State) : State := { s with cl := { s.cl with creds := now.cl.creds } }

/-- How an opcode's own part ends. -/
inductive Verdict where
  /-- Final OK with a RESULT. -/
  | ok (res : Nat) (s : State)
  /-- A final status with its effect: class Done with condition, or an Error that R44 lists as an exception. -/
  | cond (st : Byte) (res : Nat) (s : State)
  /-- A final Error: state stays as it was (R44). -/
  | fail (st : Byte) (res : Nat)
  /-- PENDING now, the final reply later. -/
  | pend (s : State)
  /-- Accepted, with the one reply later. -/
  | later (s : State)

/-- A verdict with its state changed. -/
def Verdict.map (f : State → State) : Verdict → Verdict
  | .ok res s => .ok res (f s)
  | .cond st res s => .cond st res (f s)
  | .fail st res => .fail st res
  | .pend s => .pend (f s)
  | .later s => .later (f s)

/-- BAD_PARAM with a reason. -/
def badReason (r : Nat) : Verdict := .fail St.badParam (result [(5, 1, r)])

/-- A final Error without a RESULT. -/
def failWith (st : Byte) : Verdict := .fail st 0

/-- SESSION_OPEN and SESSION_PROVE, whose steps 3 and 5 R53 replaces. -/
def entryOp (op : Nat) : Bool := op == 0x100 || op == 0x101

/-- The zero secret is still the owner's: tenant 0's credential has never been installed (R56). -/
def zeroSecret (s : State) : Bool := !ahas s.cl.creds 0

/-- GROUP_MASK of a tenant. -/
def groupMask (s : State) (tenant : Nat) : Nat := ((aget s.cl.creds tenant).map (·.groupMask.toNat)).getD 0

/-- The opcode is served in the session's revision (R38 step 4). -/
def served (spec : Option OpSpec) (ss : Option Session) : Bool :=
  match spec with
  | none => false
  | some sp => entryOp sp.op || (match ss with
    | some x => x.rev != 1 || sp.rev1
    | none => false)

/-- Step 5 of R38 for a sender with an open session: the pair, the QUEUE field, and the rights. -/
def hasRight (op : Nat) (owner : Bool) (q : Nat) (pk : Packet) (ss : Session) (s : State) : Bool :=
  let g := op / 256
  pk.queue.toNat == q
    && (if q = 0 then g == 1 || (g == 0 && pk.ctx == 0) else pk.ctx == pairCtx s q)
    && (if pk.ctx = 0 then !zeroSecret s || g == 0 || g == 1 || op == 0xC08 || op == 0xC02
        else !owner && (groupMask s ss.tenant).testBit g)

/-- The reason that a reserved bit has in the table of reasons of a group; 0 for group 0x0, which has no table. -/
def groupReserved (g : Nat) : Nat := [0, 10, 10, 9, 6, 3, 3, 2, 2, 2, 2, 2, 2, 2, 2][g]?.getD 0

/-- Steps 2 to 5 of R38: the first failing check gives the status and the reason. -/
def Cmd.judge (op : Nat) (spec : Option OpSpec) (q : Nat) (pk : Packet) (s : State) : Option (Byte × Nat) :=
  let ss := aget s.cl.sessions pk.ctx
  let reason := (spec.map (·.rsv)).getD (groupReserved (op / 256))
  let isServed := served spec ss
  if pk.reserved != 0 then some (St.badParam, reason)
  else if isServed && ((spec.map (fun sp => sp.reservedSet pk)).getD false) then some (St.badParam, reason)
  else if entryOp op then
    if op = 0x100 && pk.rev == 0 then some (St.versionMismatch, 0)
    else if q = 0 && pk.ctx == 0 && pk.queue.toNat == q then none
    else some (St.noRight, 0)
  else
    match ss with
    | none => some (St.noRight, 0)
    | some x =>
      if pk.rev.toNat != x.rev then some (St.versionMismatch, 0)
      else if !isServed then some (St.badOpcode, 0)
      else if hasRight op ((spec.map (·.owner)).getD false) q pk x s then none
      else some (St.noRight, 0)

/-- The reply of a packet that takes no tag. -/
def untagged (pk : Packet) (op : BitVec 12) (st : Byte) : Reply :=
  { tag := pk.tag, status := st, echo := BitVec.ofNat 16 (packetHead op pk), result := 0, irq := pk.irq, frees := none }

/-- The name of the command that starts next. -/
def nextKey (q : Nat) (pk : Packet) (s : State) : Key := { q := q, tag := pk.tag.toNat, id := s.hub.started }

/-- Put a started command in flight. -/
def Cmd.enter (op : BitVec 12) (q : Nat) (pk : Packet) (s : State) : State :=
  { s with hub := { s.hub with
    started := s.hub.started + 1
    inflight := s.hub.inflight ++ [({
      key := nextKey q pk s, ctx := pairCtx s q, echo := BitVec.ofNat 16 (packetHead op pk), irq := pk.irq,
      suppressOk := pk.suppressOk, discard := false } : InFlight)] } }

/-- Give a verdict its reply; `s` is the state as it was before the opcode's own part. -/
def Cmd.conclude (k : Key) (v : Verdict) (s : State) : State :=
  match v with
  | .ok res t => Cmd.final k St.ok res t
  | .cond st res t => Cmd.final k st res t
  | .fail st res => Cmd.final k st res s
  | .pend t => Cmd.interim k t
  | .later t => t

/-- The first unread entry of pair `q` is one that GLOW holds (R333). -/
def heldInGlow (s : State) (q : Nat) : Bool :=
  match (s.pair q).bind (fun p => p.waiting.head?) with
  | some e => !glowOk s e.2
  | none => false

/-- An entry that a row has put in its ring, `t` after and `s` before: where GLOW holds it, it is the HOST wake cause, as it
is behind a doorbell (R333, log 7). -/
def Cmd.wakeHeld (q : Nat) (s t : State) : State :=
  if heldInGlow t q && !heldInGlow s q then Power.wake wakeHost 0 t else t

/-- Run the packet of a command row on pair `q`: take its entry up, judge it by R38, then the opcode's own part, both
under the credential in force when it was fetched (R59). -/
def Cmd.runWith (op : BitVec 12) (spec : Option OpSpec) (body : Packet → Key → State → Verdict) (q : Nat) (pk : Packet)
    (s : State) : State :=
  match Cmd.take q (.packet op pk) s with
  | .stay t => Cmd.wakeHeld q s t
  | .dup t => let t := Ring.reply q (untagged pk op St.badParam) t; Ev.settle t.ev.waits.length t
  | .go _ old t =>
    let k := nextKey q pk t
    let t := Cmd.enter op q pk t
    let u := t.underCred old
    match Cmd.judge op.toNat spec q pk u with
    | some (st, reason) => Cmd.final k st (result [(5, 1, reason)]) t
    | none => Cmd.conclude k ((body pk k u).map (State.withCreds t)) t

/-- Run an opcode of the table. -/
def Cmd.run (sp : OpSpec) (body : Packet → Key → State → Verdict) (q : Nat) (pk : Packet) (s : State) : State :=
  Cmd.runWith (BitVec.ofNat 12 sp.op) (some sp) body q pk s

/-- Do something only where a condition of the happening holds; elsewhere the happening cannot fall and nothing
changes (log 8). -/
def whenever (c : Bool) (f : State → State) (s : State) : State := if c then f s else s

end Sys2Proof.Machine
end

