-- ==== Sys2Proof/Machine/FedOps.lean ====
section
/-!
DEFINITION. Machine/FedOps.lean: the federation side's paths (R249) and its queue of records (R250, R253): what is
queued, and what is sent as time passes.
-/

namespace Sys2Proof.Machine

/-- Link `l`. -/
def Fed.link (f : Fed) (l : Nat) : Link := vget f.links l {}

/-- Change link `l`. -/
def State.modLink (s : State) (l : Nat) (f : Link → Link) : State :=
  { s with fed := { s.fed with links := vmod s.fed.links l f } }

/-- A link carries a path: it is UP, or in the HOLD of a recalibration, during which records wait (R246, Table 11.2). -/
def Link.carries (k : Link) : Bool := k.state == LinkState.up || k.state == LinkState.hold

/-- Where a record for a chip goes (R249). -/
inductive Path where
  | none
  | lomuz (link : Nat)
  | ether
deriving DecidableEq, Repr

/-- The link that carries the path to a chip. -/
def Fed.linkTo (f : Fed) (chip : Nat) : Option Nat :=
  (List.range 8).find? (fun l => (f.link l).carries && (f.link l).peerChip == chip)

/-- The path to a chip: an UP Lomuz link, else Ethernet where the peer is ALIVE, else none (R249). -/
def Fed.path (f : Fed) (chip : Nat) : Path :=
  match f.linkTo chip with
  | some l => .lomuz l
  | Option.none => if ((aget f.peers chip).map (·.alive)).getD false then .ether else .none

/-- A record of the same point for the same subscriber that an update replaces (R253). -/
def OutRec.updates (r : OutRec) (chip id : Nat) : Bool :=
  match r.what with
  | .update p _ => r.chip == chip && p.toNat == id
  | .subscribe _ => false
  | .grant _ => false
  | .refuse _ _ => false
  | .cancel _ => false

/-! ## Records as sent (R250) -/

/-- The 24 bytes of a mirror record (Table 11.4); its CRC covers bytes 0 to 15. -/
def recordBytes (type flags point status stamp boot value : Nat) : List Byte :=
  let b := leBytes 1 type ++ leBytes 1 flags ++ leBytes 5 point ++ leBytes 1 status ++ leBytes 6 stamp ++ leBytes 2 boot
  b ++ leBytes 4 value ++ leBytes 4 (crc32c b).toNat

/-- An UPDATE or GRANT: the point's TYPE, STATUS, TIMESTAMP and present value, and this chip's BOOT_ID. -/
def pointRecord (s : State) (type : Nat) (sweep : Bool) (id : Nat) : List Byte :=
  match aget s.pts.recs id with
  | some p => recordBytes type (p.type.toNat + 4 * bit sweep) id (p.status.toNat % 256) p.timestamp.toNat
      (s.fed.bootId.toNat % 65536) p.value.toNat
  | none => recordBytes type (4 * bit sweep) id 0 0 (s.fed.bootId.toNat % 65536) 0

/-- The BOOT_ID that an origin has shown, 0 before it has shown one. -/
def originBoot (s : State) (chip : Nat) : Nat := ((aget s.fed.peers chip).map (·.boot.toNat)).getD 0 % 65536

/-- The bytes of a record for a chip. -/
def sentBytes (s : State) (chip : Nat) (what : Sent) : List Byte :=
  match what with
  | .update p sweep => pointRecord s 1 sweep p.toNat
  | .subscribe p => recordBytes 2 0 p.toNat 0 0 (originBoot s chip) 0
  | .grant p => pointRecord s 3 false p.toNat
  | .refuse p reason => recordBytes 4 0 p.toNat reason 0 (s.fed.bootId.toNat % 65536) 0
  | .cancel p => recordBytes 5 0 p.toNat 0 0 (originBoot s chip) 0

/-- Queue a record for a chip; an ISOLATED device sends no mirror record (R244), and without a path none leaves. -/
def Fed.queue (chip : Nat) (what : Sent) (s : State) : State :=
  if s.fed.isolated || s.fed.path chip == .none then s
  else { s with fed := { s.fed with out := s.fed.out ++ [{ chip := chip, what := what, bytes := sentBytes s chip what }] } }

/-- Queue an update in place of one still queued (R253). -/
def Fed.queueUpdate (chip id : Nat) (sweep : Bool) (s : State) : State :=
  Fed.queue chip (.update (BitVec.ofNat 40 id) sweep)
    { s with fed := { s.fed with out := s.fed.out.filter (fun r => !r.updates chip id) } }

/-- A change of value: an UPDATE for each subscriber (R253); none in GLOW (R259). -/
def Fed.updates (id : Nat) (s : State) : State :=
  if s.pw.pstate == .glow then s
  else (s.fed.subs.filter (fun x => x.2 == id)).foldl (fun s x => Fed.queueUpdate x.1 id false s) s

/-- Withdraw an entry: REFUSE with reason 8, and the entry is dropped (R253). -/
def Fed.withdraw (x : Nat × Nat) (s : State) : State :=
  Fed.queue x.1 (.refuse (BitVec.ofNat 40 x.2) 8) { s with fed := { s.fed with
    subs := s.fed.subs.filter (fun y => y != x)
    out := s.fed.out.filter (fun r => !r.updates x.1 x.2) } }

/-! ## Sending (R248, R252) -/

/-- The 32 bytes of a Lomuz frame (Table 11.3), its record 24 bytes or none. -/
def frameBytes (ftype : Byte) (lseq : Byte) (credit : Nat) (record : List Byte) : List Byte :=
  let head := [ftype, lseq] ++ leBytes 2 credit
  head ++ (if record.isEmpty then List.replicate 24 0 else record) ++ [0, 0, 0, crc8 head]

/-- A link sends a frame: LSEQ counts it, and it carries the slots freed since the last one. -/
def Link.emit (ftype : Byte) (record : List Byte) (k : Link) : Link :=
  { k with txFrame := frameBytes ftype k.lseq k.freed record, lseq := k.lseq + 1, freed := 0 }

/-- The first 28 bytes of an Amiziot header (Table 11.5). -/
def headerBytes (h : AmzHeader) : List Byte :=
  leBytes 2 h.magic.toNat ++ [h.version, h.kind] ++ leBytes 2 h.chip ++ leBytes 2 h.dst ++ leBytes 6 h.serial.toNat
    ++ leBytes 1 h.building ++ leBytes 1 h.cluster ++ leBytes 4 h.boot.toNat ++ leBytes 4 h.seq.toNat
    ++ leBytes 2 h.count ++ [0, 0]

/-- The header of a datagram that this chip sends. -/
def Fed.header (f : Fed) (kind : Byte) (dst : Nat) (seq : Word) (count : Nat) : AmzHeader :=
  let h : AmzHeader := {
    magic := 0x5A41, version := 1, kind := kind, chip := f.chip, dst := dst, serial := Config.serial, building := f.building
    cluster := f.cluster, boot := f.bootId, seq := seq, count := count, hcrc := 0, sumsOk := true }
  { h with hcrc := crc32c (headerBytes h) }

/-- Put a datagram on the active port: a header with its HCRC, and records. -/
def Fed.transmit (toChip : Option Nat) (h : AmzHeader) (records : List Byte) (f : Fed) : Fed :=
  { f with datagram := some {
      toChip := toChip, src := f.addr, port := f.amzPort, vlan := if f.vlanEn then some f.vlan else none, en1 := f.en1
      bytes := headerBytes h ++ leBytes 4 h.hcrc.toNat ++ records } }

/-- Send an ANNOUNCE, with COUNT 0, to MCAST (R252). -/
def Fed.sendAnnounce (f : Fed) : Fed :=
  let g := Fed.transmit none (f.header 1 0xFFFF f.announceSeq 0) [] f
  { g with announceSeq := f.announceSeq + 1 }

/-- The IPv6 addresses that the chip uses (R251): the link-local one of its serial, and the one FED_NET sets. -/
def Fed.addresses (f : Fed) : List (BitVec 128) := [Config.linkLocal Config.serial, f.addr]

/-- A record of a sweep, which takes only the capacity that others leave (R253). -/
def OutRec.sweeps (r : OutRec) : Bool :=
  match r.what with
  | .update _ sweep => sweep
  | .subscribe _ => false
  | .grant _ => false
  | .refuse _ _ => false
  | .cancel _ => false

/-- Nothing holds a record back: a link in HOLD, or without a frame slot of the peer's credit, does (R246, R248). -/
def Fed.maySend (f : Fed) (r : OutRec) : Bool :=
  match f.path r.chip with
  | .lomuz l => (f.link l).state != .hold && (f.link l).credit != 0
  | .ether => true
  | .none => true

/-- Records in the order of their sending: those of sweeps last. -/
def Fed.sendOrder (f : Fed) : List OutRec := f.out.filter (fun r => !r.sweeps) ++ f.out.filter OutRec.sweeps

/-- Send one record: in a frame over its link, or in a datagram with at most 59 of the records for its chip. A record
whose path is gone is lost. -/
def Fed.sendRec (r : OutRec) (f : Fed) : Fed :=
  match f.path r.chip with
  | .lomuz l =>
    { f with
      out := f.out.erase r
      links := vmod f.links l (fun k => Link.emit 1 r.bytes { k with credit := k.credit - 1, txrec := k.txrec + 1 }) }
  | .ether =>
    let group := (f.sendOrder.filter (fun x => x.chip == r.chip)).take 59
    let seq := ((aget f.peers r.chip).map (·.txSeq)).getD 0
    Fed.transmit (some r.chip) (f.header 0 r.chip seq group.length) (group.flatMap (·.bytes)) { f with
      out := group.foldl (fun l x => l.erase x) f.out
      peers := amod f.peers r.chip (fun p => { p with txSeq := p.txSeq + 1 }) }
  | .none => { f with out := f.out.erase r }

/-- Send at most `n` times what may be sent. -/
def Fed.sendN : Nat → Fed → Fed
  | 0, f => f
  | n + 1, f =>
    match f.sendOrder.find? f.maySend with
    | some r => Fed.sendN n (Fed.sendRec r f)
    | none => f

/-- Freed slots that no record frame has carried go out in a frame of credit only (R248). -/
def Fed.giveCredit (f : Fed) : Fed :=
  { f with links := f.links.map (fun k => if k.state == .up && k.freed != 0 then Link.emit 2 [] k else k) }

/-- A link that is UP and has nothing else to send sends `n` idle frames, which LSEQ counts too (Table 11.3). -/
def Link.idle (n : Nat) (k : Link) : Link :=
  if k.state == .up && n != 0 then
    { k with idleFrame := frameBytes 0 (k.lseq + BitVec.ofNat 8 (n - 1)) 0 [], lseq := k.lseq + BitVec.ofNat 8 n }
  else k

/-- The idle frames of every link while `n` steps pass from an elapsed time on. -/
def Fed.idle (at' n : Nat) (f : Fed) : Fed :=
  { f with links := f.links.mapIdx (fun l k => k.idle (Config.idleFrames l at' n)) }

/-- What the federation side sends while `n` steps of the time base pass from an elapsed time on. -/
def Fed.send (at' n : Nat) (f : Fed) : Fed :=
  if n = 0 then f else (Fed.sendN (min n f.out.length) f).giveCredit.idle at' n

/-! ## PTP as master (R257) -/

/-- A timestamp of an instant of TB, in 0.1 ns: taken at 6.4 ns resolution. -/
def ptpStampOf (ns : Nat) : Nat := 10 * ns / 64 * 64

/-- A Sync interval in ns. -/
def syncNs (log : Int) : Nat := if 0 ≤ log then 1000000000 * 2 ^ log.toNat else 1000000000 / 2 ^ (-log).toNat

/-- The clock may be a master: MASTER_OK is set, and TB_VALID is (R257). -/
def ptpEligible (s : State) : Bool := s.fed.masterOk && s.tb.valid

/-- The clock is the master of its domain: it may be, and hears none that beats it. -/
def ptpMaster (s : State) : Bool :=
  s.pw.boot == .ready && s.pw.pstate != .glow && s.tb.source == .ptp && ptpEligible s && !s.fed.ptpForeign

/-- As master, send a two-step Sync at each Sync interval of elapsed time; its Follow_Up carries the time of its sending. -/
def Ptp.send (s : State) (after : TimeBase) (f : Fed) : Fed :=
  let n := after.elapsed / syncNs f.logSync - s.tb.elapsed / syncNs f.logSync
  if ptpMaster s && n != 0 then { f with ptpSyncs := f.ptpSyncs + n, ptpStamp := some (ptpStampOf after.now.toNat) } else f

end Sys2Proof.Machine
end

