-- ==== Sys2Proof/Machine/TimeOps.lean ====
section
/-!
DEFINITION. Machine/TimeOps.lean: how time passes. One idle step is one step of the time base (R374); a happening that
its row presents before its time first lets that many steps pass (log 1, log 9).
-/

namespace Sys2Proof.Machine

/-- The always-on domain runs: VDD_AON is present (chapter 1, The time base). -/
def aonUp (s : State) : Bool := s.pw.boot != .unpowered

/-- Nanoseconds that `n` steps of the source make, before RATE_PPB, and the new place in the KCLK pattern: 20 ns steps of
the 50 MHz reference, or in OFF steps of 30,517 and 30,518 ns whose mean is 30,517.578125 ns. That the reference also
advances TB while the device is held in reset or starts up is the model's choice: R374 names RUN, QUIET, GLOW and OFF alone
(log 11). -/
def sourceSteps (s : State) (n : Nat) : Nat × Nat :=
  if s.pw.boot == .off then ((n * 1953125 + s.tb.kPhase) / 64, (n * 1953125 + s.tb.kPhase) % 64)
  else (20 * n, s.tb.kPhase)

/-- Let `n` steps of the time base pass: each is scaled by RATE_PPB, and the fraction of a nanosecond is carried (R374).
The federation side sends a queued record a step, but none in GLOW (R259; log 9). -/
def ticks (n : Nat) (s : State) : State :=
  if aonUp s then
    let src := sourceSteps s n
    let x : Int := (src.1 : Int) * (1000000000 + s.tb.ratePpb.toInt) + s.tb.carry
    let tb := { s.tb with
      now := s.tb.now + BitVec.ofInt 64 (x / 1000000000)
      carry := x % 1000000000
      kPhase := src.2
      elapsed := s.tb.elapsed + src.1
      mono := s.tb.mono + (x / 1000000000).toNat }
    { s with tb := tb, fed := if s.pw.pstate == .glow then s.fed else Ptp.send s tb (Fed.send s.tb.elapsed n s.fed) }
  else s

/-- What the block does on an empty queue: one step of the time base (log 1). -/
def idleTick (s : State) : State := ticks 1 s

/-- `a / b`, rounded up. -/
def ceilDiv (a b : Nat) : Nat := if b = 0 then 0 else (a + b - 1) / b

/-- Steps of the source that make at least `ns` nanoseconds. -/
def stepsFor (s : State) (ns : Nat) : Nat :=
  if s.pw.boot == .off then ceilDiv (64 * ns - s.tb.kPhase) 1953125 else ceilDiv ns 20

/-- Let time pass until the elapsed time is at least `e`. -/
def untilElapsed (e : Nat) (s : State) : State :=
  if s.tb.elapsed < e then ticks (stepsFor s (e - s.tb.elapsed)) s else s

/-- Let time pass until TB is at least `t` ns. -/
def untilTb (t : Nat) (s : State) : State :=
  if s.ns < t then
    let need : Int := ((t - s.ns : Nat) : Int) * 1000000000 - s.tb.carry
    let rate : Nat := (1000000000 + s.tb.ratePpb.toInt).toNat
    ticks (stepsFor s (ceilDiv need.toNat rate)) s
  else s

end Sys2Proof.Machine
end

