-- ==== Sys2Proof/Machine/PowerOps.lean ====
section
/-!
DEFINITION. Machine/PowerOps.lean: throttle levels in force (R343) and the reported
maximum of the sensors (R341).
-/

namespace Sys2Proof.Machine

/-! ## Throttling and temperatures -/

/-- Sensors of a tile (R341). -/
def tileSensors (t : Nat) : List Nat := [3 * t, 3 * t + 1, 3 * t + 2]

/-- A sensor. -/
def State.sensor (s : State) (i : Nat) : Sensor := vget s.pw.sensors i {}

/-- All three sensors of a tile are faulty. -/
def tileBlind (s : State) (t : Nat) : Bool := (tileSensors t).all (fun i => (s.sensor i).faulty)

/-- The thermal level of a tile; level 2 or higher where its sensors are all faulty (R341). -/
def thermalLevel (s : State) (t : Nat) : Nat :=
  let l := (vget s.pw.throttle t {}).level
  if tileBlind s t then max 2 l else l

/-- The level in force: the slower of the thermal level and THERM_CAP (R343). -/
def levelInForce (s : State) (t : Nat) : Nat := max (thermalLevel s t) (vget s.pw.throttle t {}).cap

/-- The highest reading of some sensors that work, with the sensor's number. -/
def hottest (s : State) (l : List Nat) : Option (Int × Nat) :=
  l.foldl (fun a i =>
    if (s.sensor i).faulty || !(s.sensor i).sampled then a
    else
      match a with
      | some (m, j) => if m < (s.sensor i).reading then some ((s.sensor i).reading, i) else some (m, j)
      | none => some ((s.sensor i).reading, i)) none

/-- Sensors that the reported maximum takes in: those of powered tiles and of the hub (R341). -/
def maxSensors (s : State) : List Nat :=
  ((List.range 4).filter (fun t => s.tileOn t)).flatMap tileSensors ++ [12, 13, 14, 15]

/-- The reported maximum, 0.25 C, with its sensor. -/
def dieMax (s : State) : Option (Int × Nat) := hottest s (maxSensors s)

/-- The TCLK of each throttle level in MHz (Table 15.9). -/
def tclkMhz (level : Nat) : Nat := [3000, 3000, 2250, 1500, 750][level]?.getD 750

/-- The TCLK in force of a tile: 0.75 GHz in GLOW (Table 15.4). -/
def tclkNow (s : State) (t : Nat) : Nat := if glowing s then 750 else tclkMhz (levelInForce s t)

/-! ## Neighbouring tiles (R16) -/

/-- The tiles of an edge of the die. -/
def edgeTiles (edge : Nat) : Nat × Nat := [(0, 1), (1, 3), (3, 2), (2, 0)][edge]?.getD (0, 1)

/-- What an edge compares of a tile: its rail in mV, or the reading of its hottest sensor. -/
def skewReading (s : State) (quantity t : Nat) : Int :=
  if quantity = 0 then (vget s.pw.mon.rails t 0 : Nat) else ((hottest s (tileSensors t)).map (·.1)).getD 0

/-- The ARG of TILE_SKEW (Table 16.1). -/
def skewArg (s : State) (edge quantity len : Nat) : Nat :=
  let e := edgeTiles edge
  packLe [(1, e.1), (1, e.2), (2, toBits 16 (skewReading s quantity e.1)), (2, toBits 16 (skewReading s quantity e.2)), (4, len)]

end Sys2Proof.Machine
end

