-- ==== Sys2Proof/Machine/EventLog.lean ====
section
/-!
DEFINITION. Machine/EventLog.lean: the EVENT and LOG group (Tables 16.5, 16.6) and the interrupt pins (R353).
-/

namespace Sys2Proof.Machine

/-! ## EVENT_CONFIG, EVENT_READ, EVENT_PENDING and EVENT_DETAIL -/

/-- The EVCFG bits in use (Table 16.2). -/
def evcfgBits : Word := 0xE3FF#32

def specEventConfig : OpSpec :=
  { op := 0xE00, owner := true, rev1 := false, rsv := 2, used := [(8, 2, 0xFF), (16, 32, 0xFF)] }

/-- A new EVCFG: clearing MASK while the source is PENDING and not SIGNALLED signals at once (R351). -/
def Ev.configure (src : Nat) (w : Word) (s : State) : State :=
  let s := { s with ev := { s.ev with cfg := vset s.ev.cfg src w } }
  let x := vget s.ev.stat src {}
  if !evMasked s.ev src && x.pending && !x.signalled then Ev.signal src s else s

def bodyEventConfig (pk : Packet) (_ : Key) (s : State) : Verdict :=
  let first := pk.u8 8
  let n := pk.u8 9
  let w (i : Nat) : Word := BitVec.ofNat 32 (pk.u32 (16 + 4 * i))
  if n = 0 || 8 < n || 256 < first + n then badReason 1
  else if pk.le (16 + 4 * n) (32 - 4 * n) != 0 || (List.range n).any (fun i => w i &&& ~~~evcfgBits != 0) then badReason 2
  else .ok 0 ((List.range n).foldl (fun s i => Ev.configure (first + i) (w i) s) s)

/-- EVENT_CONFIG (R350, R351). -/
def execEventConfig (q : Nat) (pk : Packet) (s : State) : Host.Outcome State Fault Refusal :=
  .next (Cmd.run specEventConfig bodyEventConfig q pk s)

/-- EVSTAT as a word (Table 16.3). -/
def evstat (x : EvStat) : Nat := bit x.pending + 2 * bit x.signalled + x.count * 2 ^ 16

def specEventRead : OpSpec := { op := 0xE01, owner := false, rev1 := false, rsv := 2, used := [(8, 2, 0xFF)] }

def bodyEventRead (pk : Packet) (_ : Key) (s : State) : Verdict :=
  let first := pk.u8 8
  let n := pk.u8 9
  if n = 0 || 5 < n || 256 < first + n then badReason 1
  else .ok (result ((List.range n).map (fun i => (5 + 4 * i, 4, evstat (vget s.ev.stat (first + i) {}))))) s

/-- EVENT_READ (Table 16.6). -/
def execEventRead (q : Nat) (pk : Packet) (s : State) : Host.Outcome State Fault Refusal :=
  .next (Cmd.run specEventRead bodyEventRead q pk s)

def specEventPending : OpSpec := { op := 0xE02, owner := false, rev1 := true, rsv := 2, used := [(8, 1, 0xFF)] }

/-- Pending sources of all quarters. -/
def pendingCount (e : Events) : Nat := e.stat.toList.countP (·.pending)

def bodyEventPending (pk : Packet) (_ : Key) (s : State) : Verdict :=
  let q := pk.u8 8
  if 4 ≤ q then badReason 1
  else .ok (result [(5, 8, Ev.pendingBits s.ev q), (13, 8, Ev.signalledBits s.ev q), (21, 2, pendingCount s.ev)]) s

/-- EVENT_PENDING (Table 16.6). -/
def execEventPending (q : Nat) (pk : Packet) (s : State) : Host.Outcome State Fault Refusal :=
  .next (Cmd.run specEventPending bodyEventPending q pk s)

def specEventDetail : OpSpec := { op := 0xE05, owner := false, rev1 := false, rsv := 2, used := [(8, 1, 0xFF)] }

def bodyEventDetail (pk : Packet) (_ : Key) (s : State) : Verdict :=
  let x := vget s.ev.stat (pk.u8 8) {}
  .ok (result [(5, 2, x.code.toNat), (7, 12, x.arg.toNat), (19, 4, x.seq.toNat)]) s

/-- EVENT_DETAIL (Table 16.6): every SOURCE of one byte exists. -/
def execEventDetail (q : Nat) (pk : Packet) (s : State) : Host.Outcome State Fault Refusal :=
  .next (Cmd.run specEventDetail bodyEventDetail q pk s)

/-! ## EVENT_ACK and EVENT_WAIT -/

def specEventAck : OpSpec :=
  { op := 0xE03, owner := false, rev1 := true, rsv := 2, used := [(8, 1, 0xFF), (16, 8, 0xFF)] }

/-- Acknowledge a source: PENDING, SIGNALLED and COUNT are cleared (R352). -/
def Ev.ack (src : Nat) (s : State) : State :=
  { s with ev := { s.ev with stat := vmod s.ev.stat src (fun x => { x with pending := false, signalled := false, count := 0 }) } }

def bodyEventAck (pk : Packet) (_ : Key) (s : State) : Verdict :=
  let q := pk.u8 8
  let mask := pk.le 16 8
  if 4 ≤ q then badReason 1
  else .ok (result [(5, 8, Ev.pendingBits s.ev q &&& mask)])
    (Msix.satisfied ((List.range 64).foldl (fun s i => if mask.testBit i then Ev.ack (64 * q + i) s else s) s))

/-- EVENT_ACK (R352). -/
def execEventAck (q : Nat) (pk : Packet) (s : State) : Host.Outcome State Fault Refusal :=
  .next (Cmd.run specEventAck bodyEventAck q pk s)

def specEventWait : OpSpec :=
  { op := 0xE04, owner := false, rev1 := false, rsv := 2, used := [(8, 1, 0xFF), (16, 8, 0xFF), (24, 4, 0xFF)] }

/-- EVENT_WAIT replies PENDING and completes at once where a masked source is PENDING (R358). -/
def bodyEventWait (pk : Packet) (k : Key) (s : State) : Verdict :=
  let ms := pk.u32 24
  if 4 ≤ pk.u8 8 || ms = 0 || 86400000 < ms then badReason 1
  else .pend { s with ev := { s.ev with waits := s.ev.waits ++ [({
    key := k, quarter := pk.u8 8, mask := BitVec.ofNat 64 (pk.le 16 8), deadline := s.tb.elapsed + ms * 1000000 } : EvWait)] } }

/-- EVENT_WAIT (R358). -/
def execEventWait (q : Nat) (pk : Packet) (s : State) : Host.Outcome State Fault Refusal :=
  .next (Cmd.run specEventWait bodyEventWait q pk s)

/-- EVENT_WAIT_TIMEOUT (R358): WHY 2, with the PENDING bits as they stand. -/
def execEventWaitTimeout (q tag : Nat) (s : State) : Host.Outcome State Fault Refusal :=
  .next (match s.ev.waits.find? (fun w => w.key.q == q && w.key.tag == tag) with
    | some w =>
      let s := untilElapsed w.deadline s
      Cmd.final w.key St.ok (result [(5, 8, Ev.pendingBits s.ev w.quarter), (13, 1, 2)])
        { s with ev := { s.ev with waits := s.ev.waits.filter (fun x => x.key != w.key) } }
    | none => s)

/-! ## The trouble log -/

/-- The 32 bytes of a log entry (Table 16.4). -/
def logBytes (e : LogEntry) : List Byte :=
  leBytes 8 e.stamp.toNat ++ leBytes 4 e.seq.toNat ++ leBytes 2 e.source.toNat ++ leBytes 2 e.code.toNat
    ++ leBytes 12 e.arg.toNat ++ [e.flags] ++ leBytes 2 e.context.toNat ++ [0]

def specLogRead : OpSpec :=
  { op := 0xE10, owner := false, rev1 := true, rsv := 2, used := [(8, 1, 1), (12, 6, 0xFF), (24, 8, 0xFF)] }

/-- SEQ of the oldest entry held; the next SEQ where the log is empty. -/
def oldestSeq (e : Events) : Nat := ((e.log.head?).map (·.seq.toNat)).getD e.nextSeq.toNat

/-- `a` lies before `b` in the order of SEQ, which wraps at 2^32. -/
def seqBefore (a b : Nat) : Bool := a != b && decide ((b + 2 ^ 32 - a) % 2 ^ 32 < 2 ^ 31)

/-- The entries that LOG_READ copies: from FROM_SEQ, or from the oldest one held. -/
def logCopy (e : Events) (seqFrom n : Nat) : List LogEntry :=
  (e.log.filter (fun x => !seqBefore x.seq.toNat seqFrom)).take n

/-- The RESULT of LOG_READ; `none'` stands for the first SEQ where nothing is copied (log 5). -/
def logResult (e : Events) (seqFrom : Nat) (l : List LogEntry) (none' : Word) : Nat :=
  result [(5, 4, ((l.head?).map (·.seq.toNat)).getD none'.toNat), (9, 2, l.length), (11, 4, oldestSeq e), (15, 4, e.nextSeq.toNat),
    (19, 4, e.overwrites), (23, 1, bit (seqBefore seqFrom (oldestSeq e)))]

/-- READ_MARK is one past the last SEQ that any LOG_READ has copied (R356). -/
def readMarkAfter (e : Events) (l : List LogEntry) : Word :=
  match l.getLast? with
  | some x => if seqBefore (x.seq.toNat + 1) e.readMark.toNat then e.readMark else x.seq + 1
  | none => e.readMark

def bodyLogRead (pk : Packet) (_ : Key) (s : State) : Verdict :=
  let n := pk.u16 16
  let dest := pk.le 24 8
  let sp := spaceOf (pk.u8 8)
  if n = 0 || 4096 < n then badReason 1
  else if dest % 32 != 0 || !spanFits sp dest (32 * n) then badReason 3
  else
    let l := logCopy s.ev (pk.u32 12) n
    .ok (logResult s.ev (pk.u32 12) l (Config.fp s.free))
      { (if l.isEmpty then s.drawn else s).writeMem sp dest (l.flatMap logBytes) with
        ev := { s.ev with readMark := readMarkAfter s.ev l, wrapRaised := false } }

/-- LOG_READ (R356, R358, R381). -/
def execLogRead (q : Nat) (pk : Packet) (s : State) : Host.Outcome State Fault Refusal :=
  .next (Cmd.run specLogRead bodyLogRead q pk s)

def specLogMark : OpSpec :=
  { op := 0xE11, owner := false, rev1 := false, rsv := 2, used := [(8, 2, 0xFF), (16, 12, 0xFF)] }

def bodyLogMark (pk : Packet) (_ : Key) (s : State) : Verdict :=
  let lost := Ev.wrapLoss s
  let seq := s.ev.nextSeq.toNat
  let s := Ev.append 0x100 (pk.u16 8) (pk.le 16 12) 0 pk.ctx s
  .ok (result [(5, 4, seq)]) (Ev.wrapCheck lost s)

/-- LOG_MARK (Table 16.4): a host mark with the sending context. -/
def execLogMark (q : Nat) (pk : Packet) (s : State) : Host.Outcome State Fault Refusal :=
  .next (Cmd.run specLogMark bodyLogMark q pk s)

def specLogClear : OpSpec := { op := 0xE12, owner := true, rev1 := false, rsv := 2, used := [] }

def bodyLogClear (_ : Packet) (_ : Key) (s : State) : Verdict :=
  .ok 0 { s with ev := { s.ev with log := [], overwrites := 0 } }

/-- LOG_CLEAR (R381): SEQ continues. -/
def execLogClear (q : Nat) (pk : Packet) (s : State) : Host.Outcome State Fault Refusal :=
  .next (Cmd.run specLogClear bodyLogClear q pk s)

/-! ## Interrupt pins (R353) -/

/-- A source routed to a pin holds it low. -/
def sourceOnPin (e : Events) (pin src : Nat) : Bool :=
  let c := evCfg e src
  field c 13 13 == 1 && field c 9 8 == pin && (vget e.stat src {}).pending && !evMasked e src

/-- A ring-memory pair that signals on a pin holds it low: signalled replies that CQ_HEAD has not passed. -/
def pairOnPin (p : Pair) (pin : Nat) : Bool :=
  p.desc.space == .ring && p.desc.vector.toNat % 4 == pin && decide (p.unsignalled < p.unread)

/-- INTn_N is driven low. -/
def pinLow (s : State) (pin : Nat) : Bool :=
  (List.range 256).any (sourceOnPin s.ev pin) || s.hub.pairs.any (fun e => pairOnPin e.2 pin)

end Sys2Proof.Machine
end

