-- ==== Sys2Proof/Machine/Sha.lean ====
section
/-!
DEFINITION. Machine/Sha.lean: SHA-256 and HMAC-SHA-256, which R54 uses for session proofs and R322 for region
passwords. The spec names the functions; their definition is FIPS 180-4 and RFC 2104 (log 14).
-/

namespace Sys2Proof.Machine

/-- The 64 round constants. -/
def shaK : List Word := [
  0x428a2f98#32, 0x71374491#32, 0xb5c0fbcf#32, 0xe9b5dba5#32, 0x3956c25b#32, 0x59f111f1#32, 0x923f82a4#32, 0xab1c5ed5#32,
  0xd807aa98#32, 0x12835b01#32, 0x243185be#32, 0x550c7dc3#32, 0x72be5d74#32, 0x80deb1fe#32, 0x9bdc06a7#32, 0xc19bf174#32,
  0xe49b69c1#32, 0xefbe4786#32, 0x0fc19dc6#32, 0x240ca1cc#32, 0x2de92c6f#32, 0x4a7484aa#32, 0x5cb0a9dc#32, 0x76f988da#32,
  0x983e5152#32, 0xa831c66d#32, 0xb00327c8#32, 0xbf597fc7#32, 0xc6e00bf3#32, 0xd5a79147#32, 0x06ca6351#32, 0x14292967#32,
  0x27b70a85#32, 0x2e1b2138#32, 0x4d2c6dfc#32, 0x53380d13#32, 0x650a7354#32, 0x766a0abb#32, 0x81c2c92e#32, 0x92722c85#32,
  0xa2bfe8a1#32, 0xa81a664b#32, 0xc24b8b70#32, 0xc76c51a3#32, 0xd192e819#32, 0xd6990624#32, 0xf40e3585#32, 0x106aa070#32,
  0x19a4c116#32, 0x1e376c08#32, 0x2748774c#32, 0x34b0bcb5#32, 0x391c0cb3#32, 0x4ed8aa4a#32, 0x5b9cca4f#32, 0x682e6ff3#32,
  0x748f82ee#32, 0x78a5636f#32, 0x84c87814#32, 0x8cc70208#32, 0x90befffa#32, 0xa4506ceb#32, 0xbef9a3f7#32, 0xc67178f2#32]

/-- The eight working words. -/
structure ShaSt where
  a : Word
  b : Word
  c : Word
  d : Word
  e : Word
  f : Word
  g : Word
  h : Word
deriving DecidableEq, Repr

/-- The initial hash value. -/
def shaInit : ShaSt :=
  { a := 0x6a09e667#32, b := 0xbb67ae85#32, c := 0x3c6ef372#32, d := 0xa54ff53a#32,
    e := 0x510e527f#32, f := 0x9b05688c#32, g := 0x1f83d9ab#32, h := 0x5be0cd19#32 }

/-- Extend the message schedule, newest word first, by `n` words. -/
def shaExtend : Nat → List Word → List Word
  | 0, w => w
  | n + 1, w =>
    let w2 := w.getD 1 0
    let w7 := w.getD 6 0
    let w15 := w.getD 14 0
    let w16 := w.getD 15 0
    let s0 := w15.rotateRight 7 ^^^ w15.rotateRight 18 ^^^ (w15 >>> 3)
    let s1 := w2.rotateRight 17 ^^^ w2.rotateRight 19 ^^^ (w2 >>> 10)
    shaExtend n ((w16 + s0 + w7 + s1) :: w)

/-- One round. -/
def shaRound (s : ShaSt) (k w : Word) : ShaSt :=
  let s1 := s.e.rotateRight 6 ^^^ s.e.rotateRight 11 ^^^ s.e.rotateRight 25
  let ch := (s.e &&& s.f) ^^^ (~~~s.e &&& s.g)
  let t1 := s.h + s1 + ch + k + w
  let s0 := s.a.rotateRight 2 ^^^ s.a.rotateRight 13 ^^^ s.a.rotateRight 22
  let maj := (s.a &&& s.b) ^^^ (s.a &&& s.c) ^^^ (s.b &&& s.c)
  { a := t1 + (s0 + maj), b := s.a, c := s.b, d := s.c, e := s.d + t1, f := s.e, g := s.f, h := s.g }

/-- All the rounds. -/
def shaRounds : ShaSt → List Word → List Word → ShaSt
  | s, k :: ks, w :: ws => shaRounds (shaRound s k w) ks ws
  | s, _, _ => s

/-- Four bytes as a big-endian word. -/
def beWord (l : List Byte) : Word := BitVec.ofNat 32 (ofLe l.reverse)

/-- One 64-byte block. -/
def shaBlock (s : ShaSt) (block : List Byte) : ShaSt :=
  let w := (shaExtend 48 ((chunks 4 16 block).map beWord).reverse).reverse
  let t := shaRounds s shaK w
  { a := s.a + t.a, b := s.b + t.b, c := s.c + t.c, d := s.d + t.d,
    e := s.e + t.e, f := s.f + t.f, g := s.g + t.g, h := s.h + t.h }

/-- The padded message: 0x80, zeros, and the length in bits in eight big-endian bytes. -/
def shaPad (m : List Byte) : List Byte :=
  m ++ [0x80#8] ++ List.replicate ((119 - m.length % 64) % 64) 0 ++ (leBytes 8 (8 * m.length)).reverse

/-- SHA-256 of a message: 32 bytes. -/
def sha256 (m : List Byte) : List Byte :=
  let p := shaPad m
  let s := (chunks 64 (p.length / 64) p).foldl shaBlock shaInit
  [s.a, s.b, s.c, s.d, s.e, s.f, s.g, s.h].flatMap (fun w => (leBytes 4 w.toNat).reverse)

/-- HMAC-SHA-256 with a key of at most 64 bytes. -/
def hmac (key m : List Byte) : List Byte :=
  let k := key ++ List.replicate (64 - key.length) 0
  sha256 (k.map (· ^^^ 0x5c#8) ++ sha256 (k.map (· ^^^ 0x36#8) ++ m))

end Sys2Proof.Machine
end

