-- ==== Sys2Proof/Machine/Nv.lean ====
section
/-!
DEFINITION. Machine/Nv.lean: the non-volatile store: the commit queue (R314), hold-up energy (R317), block protection
(R321), passwords (R322, R323), and the meanings of the NV group. What a commit's start and end do stands in
Machine/Commits.lean.
-/

namespace Sys2Proof.Machine

/-! ## Hold-up energy (R317) -/

/-- Energy in mJ that a hold-up configuration gives a HOLDMON reading in mV. -/
def holdEnergy (h : HoldUp) (holdmon : Nat) : Rat :=
  let v : Rat := (holdmon : Rat) / 1000 * fnum h.ratio
  let m := fnum h.vMin
  if v ≤ m then 0 else fnum h.c * (v * v - m * m) / 2000

/-- E_RESERVE in force, mJ; 60 until NV_HOLDUP has completed. -/
def eReserve (s : State) : Nat := (s.nv.holdup.map (·.eReserve)).getD 60

/-- The energy now; C is 0 until NV_HOLDUP has completed. -/
def energyNow (s : State) : Rat :=
  match s.nv.holdup with
  | some h => holdEnergy h s.pw.mon.holdmon
  | none => 0

/-- The energy in whole mJ, as results and events give it (log 16). -/
def energyMj (s : State) : Nat := min 65535 (floorNat (energyNow s))

/-! ## Block protection and the queue -/

/-- BP protects a region (Table 14.2). -/
def bpProtects (bp r : Nat) : Bool := (bp == 1 && 12 ≤ r) || (bp == 2 && 8 ≤ r) || bp == 3

/-- The region whose protection binds a commit (R321); none for writes that BP never binds. -/
def commitRegion : CommitKind → Option Nat
  | .write r _ _ => some r
  | .password r _ _ => some r
  | .clear r _ => some r
  | .install _ _ => some 15
  | .rights _ _ _ => some 15
  | .remove _ => some 15
  | .identity _ => some 13
  | .bp _ => none
  | .holdup _ => none
  | .meter _ _ _ => none
  | .profile _ _ => none
  | .tariff _ _ _ => none
  | .checkpoint _ => none

/-- BP refuses a commit. -/
def bpRefuses (s : State) (c : CommitKind) : Bool :=
  match commitRegion c with
  | some r => bpProtects s.nv.bp.toNat r
  | none => false

/-- The commit of an NV opcode, which takes one of the 16 places (R314). -/
def nvOpCommit : CommitKind → Bool
  | .write _ _ _ => true
  | .bp _ => true
  | .password _ _ _ => true
  | .clear _ _ => true
  | .holdup _ => true
  | .install _ _ => false
  | .rights _ _ _ => false
  | .remove _ => false
  | .identity _ => false
  | .meter _ _ _ => false
  | .profile _ _ => false
  | .tariff _ _ _ => false
  | .checkpoint _ => false

/-- Queue a commit behind those that wait. -/
def Nv.enqueue (k : Option Key) (ctx : Nat) (c : CommitKind) (s : State) : State :=
  { s with nv := { s.nv with queue := s.nv.queue ++ [{ key := k, ctx := ctx, what := c }] } }

/-- A command that commits: NV_LOCKED at once where BP refuses it, reason 5 where an NV opcode finds no place, and
otherwise PENDING with the commit queued (R314, R321). -/
def Nv.submit (k : Key) (ctx : Nat) (c : CommitKind) (s : State) : Verdict :=
  if bpRefuses s c then failWith St.nvLocked
  else if nvOpCommit c && decide (16 ≤ (s.nv.queue.filter (fun x => nvOpCommit x.what)).length) then badReason 5
  else .pend (Nv.enqueue (some k) ctx c s)

/-- Pages of a byte span (R316). -/
def pagesOf (offset len : Nat) : Nat := if len = 0 then 0 else (offset + len - 1) / 256 + 1 - offset / 256

/-! ## Regions -/

/-- A region locked out by wrong passwords (Table 14.3). -/
def lockedOut (s : State) (r : Nat) : Bool := s.nv.lockout.getLsbD r

/-- The password hash of a region for reading (0) or writing (1). -/
def pwHash (s : State) (r kind : Nat) : Option (BitVec 256) :=
  vget (if kind = 0 then s.nv.readPw else s.nv.writePw) r none

/-- A region is open for a context and an access (R322). -/
def regionOpen (s : State) (ctx r kind : Nat) : Bool :=
  (pwHash s r kind).isNone || s.nv.opens.contains (ctx, r, kind == 1)

/-- The stored form of a password: SHA-256 of the chip serial followed by the password; none for 0 (log 17). -/
def hashPw (pw : Nat) : Option (BitVec 256) :=
  if pw = 0 then none
  else some (BitVec.ofNat 256 (ofLe (sha256 (leBytes 6 Config.serial.toNat ++ leBytes 8 pw))))

/-- The checks every NV opcode on a region makes first: its number, regions 12 to 15, and the lockout. -/
def Nv.region (pk : Packet) (s : State) (f : Nat → Verdict) : Verdict :=
  let r := pk.u8 8
  if 16 ≤ r then badReason 1
  else if 12 ≤ r || lockedOut s r then failWith St.nvLocked
  else f r

/-! ## NV_READ and NV_WRITE -/

def specNvRead : OpSpec :=
  { op := 0xC00, owner := false, rev1 := true, rsv := 2,
    used := [(8, 1, 0xFF), (10, 4, 0xFF), (14, 2, 0xFF), (16, 1, 1), (24, 8, 0xFF)] }

/-- The span checks of NV_READ and NV_WRITE: reasons 1, 3 and 4. -/
def nvSpanFault (pk : Packet) (write : Bool) : Option Nat :=
  let off := pk.u32 10
  let len := pk.u16 14
  let a := pk.le 24 8
  if len = 0 || 16384 < len || 131072 < off + len then some 1
  else if write && decide (64 < pagesOf off len) then some 3
  else if a % 4 != 0 || !spanFits (spaceOf (pk.u8 16)) a len then some 4
  else none

/-- The commit writes pages that a read covers. -/
def commitOverlaps (c : CommitKind) (r off len : Nat) : Bool :=
  match c with
  | .write cr co d => cr == r && decide (co / 256 ≤ (off + len - 1) / 256) && decide (off / 256 ≤ (co + d.length - 1) / 256)
  | .clear cr step => cr == r && decide (step < 8)
  | .bp _ => false
  | .password _ _ _ => false
  | .holdup _ => false
  | .install _ _ => false
  | .rights _ _ _ => false
  | .remove _ => false
  | .identity _ => false
  | .meter _ _ _ => false
  | .profile _ _ => false
  | .tariff _ _ _ => false
  | .checkpoint _ => false

/-- Copy a span of a region to memory. -/
def nvCopy (r off len : Nat) (sp : Space) (dest : Nat) (s : State) : State :=
  s.writeMem sp dest (memRead s.nv.cells (r * 131072 + off) len)

/-- How many commits that a span must wait for an entry of the queue still makes: an NV_CLEAR counts those to come. -/
def overlapCount (r off len : Nat) (c : CommitKind) : Nat :=
  if commitOverlaps c r off len then
    (match c with
     | .clear _ step => 8 - step
     | _ => 1)
  else 0

/-- Commits queued or running that a span must wait for. -/
def overlapsAhead (s : State) (r off len : Nat) : Nat :=
  (s.nv.running.toList ++ s.nv.queue).foldl (fun a c => a + overlapCount r off len c.what) 0

/-- What stays ahead of a read once some commits have gone: the first `n` overlapping ones were fetched before it. -/
def keptAhead (rd : NvRead) (gone : Commit → Bool) : List Commit → Nat → Nat
  | [], _ => 0
  | c :: r, n =>
    let w := min n (overlapCount rd.region rd.offset rd.len c.what)
    (if gone c then 0 else w) + keptAhead rd gone r (n - w)

/-- The commits that leave the queue no longer hold back any read. -/
def Nv.without (gone : Commit → Bool) (s : State) : State :=
  let l := s.nv.running.toList ++ s.nv.queue
  { s with nv := { s.nv with
    reads := s.nv.reads.map (fun rd => { rd with ahead := keptAhead rd gone l rd.ahead })
    queue := s.nv.queue.filter (fun c => !gone c) } }

/-- Serve the reads that nothing holds back any more (R326). -/
def Nv.serve (s : State) : State :=
  (s.nv.reads.filter (fun rd => rd.ahead == 0)).foldl
    (fun s rd => Cmd.final rd.key St.ok 0 (nvCopy rd.region rd.offset rd.len rd.space rd.dest.toNat s))
    { s with nv := { s.nv with reads := s.nv.reads.filter (fun rd => rd.ahead != 0) } }

def bodyNvRead (pk : Packet) (k : Key) (s : State) : Verdict :=
  Nv.region pk s fun r =>
    if !regionOpen s pk.ctx r 0 then failWith St.noRight
    else
      match nvSpanFault pk false with
      | some x => badReason x
      | none =>
        let off := pk.u32 10
        let len := pk.u16 14
        let sp := spaceOf (pk.u8 16)
        let n := overlapsAhead s r off len
        if n = 0 then .ok 0 (nvCopy r off len sp (pk.le 24 8) s)
        else .later { s with nv := { s.nv with reads := s.nv.reads ++ [{
          key := k, region := r, offset := off, len := len, space := sp,
          dest := BitVec.ofNat 64 (pk.le 24 8), ahead := n }] } }

/-- NV_READ (R326): the data as every commit fetched before it leaves it. -/
def execNvRead (q : Nat) (pk : Packet) (s : State) : Host.Outcome State Fault Refusal :=
  .next (Cmd.run specNvRead bodyNvRead q pk s)

def specNvWrite : OpSpec := { specNvRead with op := 0xC01 }

def bodyNvWrite (pk : Packet) (k : Key) (s : State) : Verdict :=
  Nv.region pk s fun r =>
    if !regionOpen s pk.ctx r 1 then failWith St.noRight
    else
      match nvSpanFault pk true with
      | some x => badReason x
      | none => Nv.submit k pk.ctx (.write r (pk.u32 10)
          (s.readMem (spaceOf (pk.u8 16)) (pk.le 24 8) (pk.u16 14))) s

/-- NV_WRITE (R314, R316). -/
def execNvWrite (q : Nat) (pk : Packet) (s : State) : Host.Outcome State Fault Refusal :=
  .next (Cmd.run specNvWrite bodyNvWrite q pk s)

/-! ## NV_STATUS -/

/-- NVSTAT (Table 14.5). -/
def nvStat (s : State) : Nat :=
  s.nv.bp.toNat + bit s.nv.pageFail * 2 ^ 2 + bit s.nv.rolledBack * 2 ^ 3 + bit s.nv.recovered * 2 ^ 4
    + bit s.nv.running.isSome * 2 ^ 5 + bit (decide ((eReserve s : Rat) ≤ energyNow s)) * 2 ^ 6
    + bit s.nv.holdup.isSome * 2 ^ 7

def specNvStatus : OpSpec :=
  { op := 0xC02, owner := false, rev1 := true, rsv := 2, used := [(8, 1, 0xFF), (9, 1, 0xFF)] }

def bodyNvStatus (pk : Packet) (_ : Key) (s : State) : Verdict :=
  let r := pk.u8 9
  if 16 ≤ r then badReason 1
  else
    let opened := (List.range 12).foldl (fun a i => a + bit (regionOpen s pk.ctx i 1 && !lockedOut s i) * 2 ^ i) 0
    .ok (result [(5, 4, nvStat s), (9, 2, energyMj s), (11, 2, eReserve s), (13, 2, s.nv.lockout.toNat),
      (15, 2, opened), (17, 1, s.nv.queue.length), (18, 4, vget s.nv.programs r 0)]) s

/-- NV_STATUS (R326). -/
def execNvStatus (q : Nat) (pk : Packet) (s : State) : Host.Outcome State Fault Refusal :=
  .next (Cmd.run specNvStatus bodyNvStatus q pk s)

/-! ## NV_BP, NV_CLEAR and NV_HOLDUP -/

def specNvBp : OpSpec :=
  { op := 0xC03, owner := true, rev1 := true, rsv := 2, used := [(8, 1, 0xFF), (9, 1, 0xFF)] }

def bodyNvBp (pk : Packet) (k : Key) (s : State) : Verdict :=
  if 4 ≤ pk.u8 9 then badReason 2 else Nv.submit k pk.ctx (.bp (BitVec.ofNat 2 (pk.u8 9))) s

/-- NV_BP (R321). -/
def execNvBp (q : Nat) (pk : Packet) (s : State) : Host.Outcome State Fault Refusal :=
  .next (Cmd.run specNvBp bodyNvBp q pk s)

def specNvClear : OpSpec := { op := 0xC07, owner := true, rev1 := false, rsv := 2, used := [(8, 1, 0xFF)] }

def bodyNvClear (pk : Packet) (k : Key) (s : State) : Verdict :=
  Nv.region pk s fun r => Nv.submit k pk.ctx (.clear r 0) s

/-- NV_CLEAR (R324). -/
def execNvClear (q : Nat) (pk : Packet) (s : State) : Host.Outcome State Fault Refusal :=
  .next (Cmd.run specNvClear bodyNvClear q pk s)

def specNvHoldup : OpSpec :=
  { op := 0xC08, owner := true, rev1 := false, rsv := 2,
    used := [(8, 1, 0xFF), (16, 4, 0xFF), (20, 4, 0xFF), (24, 4, 0xFF), (28, 2, 0xFF)] }

def bodyNvHoldup (pk : Packet) (k : Key) (s : State) : Verdict :=
  let h : HoldUp := { c := pk.f32 16, ratio := pk.f32 20, vMin := pk.f32 24, eReserve := pk.u16 28 }
  if !fPos h.c || !fPos h.ratio || !fNonNeg h.vMin || h.eReserve < 10 || 1000 < h.eReserve then badReason 6
  else Nv.submit k pk.ctx (.holdup h) s

/-- NV_HOLDUP (R317). -/
def execNvHoldup (q : Nat) (pk : Packet) (s : State) : Host.Outcome State Fault Refusal :=
  .next (Cmd.run specNvHoldup bodyNvHoldup q pk s)

/-! ## Passwords -/

def specNvUnlock : OpSpec :=
  { op := 0xC04, owner := false, rev1 := false, rsv := 2, used := [(8, 1, 0xFF), (9, 1, 0xFF), (16, 8, 0xFF)] }

/-- A wrong password: one attempt for the region, and at the third the lockout with NV_LOCKOUT (Table 14.3). -/
def wrongPassword (r : Nat) (s : State) : State :=
  let n := vget s.nv.attempts r 0 + 1
  let s := { s with nv := { s.nv with attempts := vset s.nv.attempts r n } }
  if 3 ≤ n then
    Ev.raise 10 0 (packLe [(1, r)]) { s with nv := { s.nv with
      lockout := s.nv.lockout ||| (1#16 <<< r), opens := s.nv.opens.filter (fun o => o.2.1 != r) } }
  else s

def bodyNvUnlock (pk : Packet) (_ : Key) (s : State) : Verdict :=
  Nv.region pk s fun r =>
    let kind := pk.u8 9
    if 2 ≤ kind then badReason 2
    else if hashPw (pk.le 16 8) = pwHash s r kind then
      .ok 0 { s with nv := { s.nv with
        attempts := vset s.nv.attempts r 0
        opens := (pk.ctx, r, kind == 1) :: s.nv.opens.filter (fun o => o != (pk.ctx, r, kind == 1)) } }
    else .cond St.noRight 0 (wrongPassword r s)

/-- NV_UNLOCK (R322, Table 14.3). -/
def execNvUnlock (q : Nat) (pk : Packet) (s : State) : Host.Outcome State Fault Refusal :=
  .next (Cmd.run specNvUnlock bodyNvUnlock q pk s)

def specNvLock : OpSpec :=
  { op := 0xC05, owner := false, rev1 := false, rsv := 2, used := [(8, 1, 0xFF), (9, 1, 3)] }

def bodyNvLock (pk : Packet) (_ : Key) (s : State) : Verdict :=
  Nv.region pk s fun r =>
    let b := pk.u8 9
    .ok 0 { s with nv := { s.nv with opens := s.nv.opens.filter (fun o =>
      !(o.1 == pk.ctx && o.2.1 == r && (if o.2.2 then b.testBit 1 else b.testBit 0))) } }

/-- NV_LOCK (R322). -/
def execNvLock (q : Nat) (pk : Packet) (s : State) : Host.Outcome State Fault Refusal :=
  .next (Cmd.run specNvLock bodyNvLock q pk s)

def specNvPassword : OpSpec :=
  { op := 0xC06, owner := false, rev1 := false, rsv := 2, used := [(8, 1, 0xFF), (9, 1, 0xFF), (16, 8, 0xFF)] }

def bodyNvPassword (pk : Packet) (k : Key) (s : State) : Verdict :=
  Nv.region pk s fun r =>
    if !regionOpen s pk.ctx r 1 then failWith St.noRight
    else if 2 ≤ pk.u8 9 then badReason 2
    else Nv.submit k pk.ctx (.password r (pk.u8 9) (hashPw (pk.le 16 8))) s

/-- NV_PASSWORD (R322). -/
def execNvPassword (q : Nat) (pk : Packet) (s : State) : Host.Outcome State Fault Refusal :=
  .next (Cmd.run specNvPassword bodyNvPassword q pk s)

end Sys2Proof.Machine
end

