-- ==== Sys2Proof/Machine/Clients.lean ====
section
/-!
DEFINITION. Machine/Clients.lean: ring descriptors (R26, R27), sessions and their proofs (R53 to R57), queue pairs (R60)
and tenants (R51, R58).
-/

namespace Sys2Proof.Machine

/-! ## Ring descriptors -/

/-- Spans of a descriptor's rings and state word: base and length. -/
def descSpans (d : RingDesc) : List (Nat × Nat) :=
  [(d.sqBase.toNat, 64 * d.size), (d.cqBase.toNat, 32 * d.size), (d.stateAddr.toNat, 8)]

/-- Two spans overlap. -/
def spansMeet (a b : Nat × Nat) : Bool := decide (a.1 < b.1 + b.2) && decide (b.1 < a.1 + a.2)

/-- The rings of a descriptor overlap those of a live pair in ring memory (R27). -/
def descMeets (s : State) (d : RingDesc) : Bool :=
  s.hub.pairs.any (fun e => e.2.desc.space == .ring &&
    (descSpans d).any (fun a => (descSpans e.2.desc).any (fun b => spansMeet a b)))

/-- A descriptor read from its 32 bytes (Table 2.4), or the status that R27 refuses it with. -/
def parseDesc (s : State) (bytes : List Byte) : Except Byte RingDesc :=
  let v := ofLe bytes
  let w (off n : Nat) : Nat := v / 256 ^ off % 256 ^ n
  let d : RingDesc := {
    sqBase := BitVec.ofNat 64 (w 0 8), cqBase := BitVec.ofNat 64 (w 8 8), stateAddr := BitVec.ofNat 64 (w 16 8),
    log2Size := w 24 1, space := spaceOf (w 25 1), vector := BitVec.ofNat 8 (w 26 1),
    coalTime := field (w 27 1) 7 4, coalCount := field (w 27 1) 3 0 }
  if (crc32c (bytes.take 28)).toNat != w 28 4 then .error St.crcFail
  else if d.log2Size < 4 || 16 < d.log2Size then .error St.badParam
  else if w 0 8 % 64 != 0 || w 8 8 % 32 != 0 || w 16 8 % 8 != 0 then .error St.badParam
  else if 2 ≤ w 25 1 || (w 25 1 == 1 && 4 ≤ w 26 1) then .error St.badParam
  else if d.space == .ring && (!(descSpans d).all (fun a => spanFits .ring a.1 a.2) || descMeets s d) then
    .error St.badParam
  else .ok d

/-! ## Deleting pairs and closing sessions -/

/-- Start deleting a pair: fetching stops, its fetched and waiting entries never start, held replies are discarded, and
it is freed at once where nothing is in flight on it (R57, Table 2.12). -/
def Ring.delete (q : Nat) (s : State) : State :=
  match s.pair q with
  | some p =>
    let s := p.held.foldl (fun s r => Cmd.free r.frees s) s
    let s := { s with hub := { s.hub with fetched := s.hub.fetched.filter (fun f => f.q != q) } }
    if s.hub.inflight.any (fun c => c.key.q == q) then
      s.modPair q (fun p => { p with deleting := true, held := [], waiting := [], stage := none })
    else { s with hub := { s.hub with pairs := aerase s.hub.pairs q } }
  | none => s

/-- Pairs of a context other than queue 0, in rising order. -/
def pairsOf (s : State) (c : Nat) : List Nat :=
  (s.hub.pairs.filter (fun e => e.2.ctx == c && e.1 != 0 && !e.2.deleting)).map (·.1)

/-- A commit is that of a tariff bank. -/
def isTariff (c : Commit) : Bool :=
  match c.what with
  | .tariff _ _ _ => true
  | _ => false

/-- A commit of a tariff bank that ends without its swap ends its job (R135). -/
def Tariff.dropJob (c : Commit) (s : State) : State :=
  if isTariff c then { s with mt := { s.mt with job := none } } else s

/-- Drop the queued commits of a context that have not started; their replies are discarded (Table 14.8). -/
def Nv.dropQueued (c : Nat) (s : State) : State :=
  let gone (x : Commit) : Bool := x.ctx == c && x.key.isSome
  let s := (s.nv.queue.filter gone).foldl (fun s x => Tariff.dropJob x s) s
  Nv.serve (Nv.without gone ((s.nv.queue.filter gone).foldl (fun s x => Cmd.free x.key s) s))

/-- Close a session: each of its pairs is deleted, its openings and queued commits end, and its context is free
(R57). -/
def closeSession (c : Nat) (s : State) : State :=
  if ahas s.cl.sessions c then
    let s := Nv.dropQueued c s
    let s := (pairsOf s c).foldl (fun s q => Ring.delete q s) s
    let s := if c = 0 then s.modPair 0 (fun p => { p with stage := none }) else s
    { s with
      cl := { s.cl with sessions := aerase s.cl.sessions c }
      nv := { s.nv with opens := s.nv.opens.filter (fun o => o.1 != c) } }
  else s

/-- Contexts with a session of a tenant. -/
def ctxsOf (s : State) (tenant : Nat) : List Nat :=
  (s.cl.sessions.filter (fun e => e.2.tenant == tenant)).map (·.1)

/-! ## SESSION_OPEN and SESSION_PROVE -/

def specSessionOpen : OpSpec := { op := 0x100, owner := false, rev1 := true, rsv := 10, used := [(8, 2, 0xFF)] }

/-- A tenant's lockout runs (R55). -/
def inLockout (s : State) (t : Nat) : Bool :=
  match aget s.cl.lockouts t with
  | some e => decide (s.tb.elapsed < e)
  | none => false

/-- A tenant counts as installed: tenant 0 always (R376). -/
def installed (s : State) (t : Nat) : Bool := t == 0 || ahas s.cl.creds t

/-- The context a session of a tenant would take: 0, or the lowest free one from 1 to 1,023 (R52). -/
def contextFor (s : State) (t : Nat) : Option Nat := if t = 0 then some 0 else lowestFree s.cl.sessions 1023 1

/-- SESSION_OPEN in the order of R376, its first case judged already (R45). -/
def bodySessionOpen (pk : Packet) (_ : Key) (s : State) : Verdict :=
  let t := pk.u16 8
  let rev := min pk.rev.toNat 2
  if 1024 ≤ t then badReason 10
  else if inLockout s t || !installed s t || (t == 0 && ahas s.cl.sessions 0) then failWith St.noRight
  else if (contextFor s t).isNone then failWith St.clientTableFull
  else
    let n := Config.nonce s.free
    .ok (result [(5, 16, n.toNat), (21, 1, rev)])
      { s.drawn with cl := { s.cl with
        nonces := aset s.cl.nonces t { value := n, rev := rev, lapsesAt := s.tb.elapsed + 1000000000 } } }

/-- SESSION_OPEN (R376, R45). -/
def execSessionOpen (q : Nat) (pk : Packet) (s : State) : Host.Outcome State Fault Refusal :=
  .next (Cmd.run specSessionOpen bodySessionOpen q pk s)

def specSessionProve : OpSpec :=
  { op := 0x101, owner := false, rev1 := true, rsv := 10, used := [(8, 2, 0xFF), (10, 8, 0xFF), (18, 32, 0xFF)] }

/-- The secret of a tenant: 32 zero bytes for an owner never installed (R56). -/
def secretOf (s : State) (t : Nat) : Option (List Byte) :=
  match aget s.cl.creds t with
  | some c => some (leBytes 32 c.secret.toNat)
  | none => if t = 0 then some (List.replicate 32 0) else none

/-- The live nonce of a tenant. -/
def liveNonce (s : State) (t : Nat) : Option Nonce :=
  match aget s.cl.nonces t with
  | some n => if s.tb.elapsed < n.lapsesAt then some n else none
  | none => none

/-- Consume a tenant's nonce. -/
def consumeNonce (t : Nat) (s : State) : State := { s with cl := { s.cl with nonces := aerase s.cl.nonces t } }

/-- The host's proof (R54). -/
def hostMac (secret : List Byte) (n : Nonce) (hostNonce : List Byte) (t rev : Nat) : List Byte :=
  hmac secret (leBytes 16 n.value.toNat ++ hostNonce ++ leBytes 2 t ++ leBytes 1 rev)

/-- The device's proof (R54). -/
def devMac (secret : List Byte) (n : Nonce) (hostNonce : List Byte) (c : Nat) : List Byte :=
  (hmac secret (hostNonce ++ leBytes 16 n.value.toNat ++ leBytes 2 c)).take 16

/-- A failed proof: the nonce is consumed and one failure counted; the third raises AUTH_FAIL and starts the lockout
(R55). -/
def failedProof (t : Nat) (s : State) : State :=
  let s := consumeNonce t s
  let n := (aget s.cl.fails t).getD 0 + 1
  if 3 ≤ n then
    Ev.raise 34 0 (packLe [(2, t)]) { s with cl := { s.cl with
      fails := aerase s.cl.fails t
      lockouts := aset s.cl.lockouts t (s.tb.elapsed + 60000000000) } }
  else { s with cl := { s.cl with fails := aset s.cl.fails t n } }

/-- Open a tenant's session in a context. -/
def openSession (t c rev : Nat) (s : State) : State :=
  let cred := aget s.cl.creds t
  { s with cl := { s.cl with
    fails := aerase s.cl.fails t
    sessions := aset s.cl.sessions c {
      tenant := t, rev := rev, weight := (cred.map (·.weight)).getD 4, queueLimit := (cred.map (·.queueLimit)).getD 4 } } }

/-- SESSION_PROVE by the six cases of R55. -/
def bodySessionProve (pk : Packet) (_ : Key) (s : State) : Verdict :=
  let t := pk.u16 8
  let hn := pk.bytes 10 8
  if inLockout s t then .cond St.noRight 0 (consumeNonce t s)
  else
    match liveNonce s t with
    | none => failWith St.noRight
    | some n =>
      if pk.rev.toNat != n.rev then failWith St.versionMismatch
      else if t = 0 && ahas s.cl.sessions 0 then .cond St.noRight 0 (consumeNonce t s)
      else
        match secretOf s t with
        | none => .cond St.noRight 0 (failedProof t s)
        | some secret =>
          if hostMac secret n hn t n.rev != pk.bytes 18 32 then .cond St.noRight 0 (failedProof t s)
          else
            match contextFor s t with
            | none => .cond St.clientTableFull 0 (consumeNonce t s)
            | some c =>
              let s := openSession t c n.rev (consumeNonce t s)
              let ss := aget s.cl.sessions c
              .ok (result [(5, 2, c), (7, 1, (ss.map (·.weight)).getD 0), (8, 1, (ss.map (·.queueLimit)).getD 0),
                (9, 16, ofLe (devMac secret n hn c))]) s

/-- SESSION_PROVE (R54, R55). -/
def execSessionProve (q : Nat) (pk : Packet) (s : State) : Host.Outcome State Fault Refusal :=
  .next (Cmd.run specSessionProve bodySessionProve q pk s)

/-- NONCE_LAPSE (R55): 1 s after its SESSION_OPEN reply the nonce lapses. -/
def execNonceLapse (tenant : Nat) (s : State) : Host.Outcome State Fault Refusal :=
  .next (match aget s.cl.nonces tenant with
    | some n => consumeNonce tenant (untilElapsed n.lapsesAt s)
    | none => s)

/-- AUTH_LOCKOUT_END (R55): the 60 s lockout of a tenant ends. -/
def execAuthLockoutEnd (tenant : Nat) (s : State) : Host.Outcome State Fault Refusal :=
  .next (match aget s.cl.lockouts tenant with
    | some e =>
      let s := untilElapsed e s
      { s with cl := { s.cl with lockouts := aerase s.cl.lockouts tenant } }
    | none => s)

/-! ## SESSION_CLOSE -/

def specSessionClose : OpSpec := { op := 0x102, owner := false, rev1 := true, rsv := 10, used := [(8, 2, 0xFF)] }

/-- SESSION_CLOSE by R377. -/
def bodySessionClose (pk : Packet) (_ : Key) (s : State) : Verdict :=
  let c := if pk.u16 8 = 0xFFFF then pk.ctx else pk.u16 8
  if !pk.owner && c != pk.ctx then failWith St.noRight
  else if !ahas s.cl.sessions c then badReason 10
  else .ok 0 (closeSession c s)

/-- SESSION_CLOSE (R377, R57). -/
def execSessionClose (q : Nat) (pk : Packet) (s : State) : Host.Outcome State Fault Refusal :=
  .next (Cmd.run specSessionClose bodySessionClose q pk s)

/-! ## Queue pairs -/

def specQueueCreate : OpSpec := { op := 0x103, owner := false, rev1 := true, rsv := 10, used := [(8, 32, 0xFF)] }

/-- Live pairs of a context. -/
def pairCount (s : State) (c : Nat) : Nat := (s.hub.pairs.filter (fun e => e.2.ctx == c && !e.2.deleting)).length

/-- QUEUE_CREATE: the descriptor by R27, then the pair limits of R60. -/
def bodyQueueCreate (pk : Packet) (_ : Key) (s : State) : Verdict :=
  match parseDesc s (pk.bytes 8 32) with
  | .error st => .fail st (if st = St.badParam then result [(5, 1, 10)] else 0)
  | .ok d =>
    let limit := ((aget s.cl.sessions pk.ctx).map (·.queueLimit)).getD 0
    if limit ≤ pairCount s pk.ctx then failWith St.queueExhausted
    else
      match lowestFree s.hub.pairs 4095 1 with
      | none => failWith St.queueExhausted
      | some n => .ok (result [(5, 2, n)])
          { s with hub := { s.hub with pairs := aset s.hub.pairs n { ctx := pk.ctx, desc := d } } }

/-- QUEUE_CREATE (R60). -/
def execQueueCreate (q : Nat) (pk : Packet) (s : State) : Host.Outcome State Fault Refusal :=
  .next (Cmd.run specQueueCreate bodyQueueCreate q pk s)

def specQueueDelete : OpSpec := { op := 0x104, owner := false, rev1 := true, rsv := 10, used := [(8, 2, 0xFF)] }

/-- QUEUE_DELETE: reason 10 for queue 0 or a pair that is not live, NO_RIGHT for another's pair. -/
def bodyQueueDelete (pk : Packet) (_ : Key) (s : State) : Verdict :=
  let n := pk.u16 8
  match s.pair n with
  | none => badReason 10
  | some p =>
    if n = 0 || p.deleting then badReason 10
    else if p.ctx != pk.ctx && !pk.owner then failWith St.noRight
    else .ok 0 (Ring.delete n s)

/-- QUEUE_DELETE (R57, Table 2.12). -/
def execQueueDelete (q : Nat) (pk : Packet) (s : State) : Host.Outcome State Fault Refusal :=
  .next (Cmd.run specQueueDelete bodyQueueDelete q pk s)

/-! ## Tenants -/

def specClientInstall : OpSpec :=
  { op := 0x110, owner := true, rev1 := false, rsv := 10, used := [(8, 7, 0xFF), (16, 32, 0xFF)] }

/-- CLIENT_INSTALL (Table 3.6): RIGHTS are NONE at the first install and kept at a later one. -/
def bodyClientInstall (pk : Packet) (k : Key) (s : State) : Verdict :=
  let t := pk.u16 8
  let inRange (n : Nat) : Bool := 1 ≤ n && n ≤ 16
  if 1024 ≤ t || !inRange (pk.u8 10) || !inRange (pk.u8 11) || (t != 0 && !inRange (pk.u8 14)) || pk.le 16 32 = 0 then
    badReason 10
  else Nv.submit k pk.ctx (.install t {
    secret := BitVec.ofNat 256 (pk.le 16 32), weight := pk.u8 10, queueLimit := pk.u8 11,
    groupMask := BitVec.ofNat 16 (pk.u16 12), prioFloor := pk.u8 14, rights := 0 }) s

/-- CLIENT_INSTALL (R51, R56). -/
def execClientInstall (q : Nat) (pk : Packet) (s : State) : Host.Outcome State Fault Refusal :=
  .next (Cmd.run specClientInstall bodyClientInstall q pk s)

def specClientRights : OpSpec :=
  { op := 0x111, owner := true, rev1 := false, rsv := 10, used := [(8, 3, 0xFF), (16, 32, 0xFF)] }

def bodyClientRights (pk : Packet) (k : Key) (s : State) : Verdict :=
  let t := pk.u16 8
  if t = 0 || 1024 ≤ t || 2 ≤ pk.u8 10 then badReason 10
  else if !ahas s.cl.creds t then badReason 11
  else Nv.submit k pk.ctx (.rights t (pk.u8 10) (BitVec.ofNat 256 (pk.le 16 32))) s

/-- CLIENT_RIGHTS (Table 3.7). -/
def execClientRights (q : Nat) (pk : Packet) (s : State) : Host.Outcome State Fault Refusal :=
  .next (Cmd.run specClientRights bodyClientRights q pk s)

def specClientRemove : OpSpec := { op := 0x112, owner := true, rev1 := false, rsv := 10, used := [(8, 2, 0xFF)] }

def bodyClientRemove (pk : Packet) (k : Key) (s : State) : Verdict :=
  let t := pk.u16 8
  if t = 0 || 1024 ≤ t then badReason 10
  else if !ahas s.cl.creds t then badReason 11
  else Nv.submit k pk.ctx (.remove t) s

/-- CLIENT_REMOVE: the sessions close as its commit starts, the credential goes at its end (Table 3.18; log 18). -/
def execClientRemove (q : Nat) (pk : Packet) (s : State) : Host.Outcome State Fault Refusal :=
  .next (Cmd.run specClientRemove bodyClientRemove q pk s)

end Sys2Proof.Machine
end

