-- ==== Sys2Proof/Machine/Rings.lean ====
section
/-!
DEFINITION. Machine/Rings.lean: arming and disarming (R28, R29), doorbells (R31), fetching, failed entries (R39), and
completion interrupts (R33).
-/

namespace Sys2Proof.Machine

/-! ## Arming and disarming -/

/-- The 32 bytes of SETUP_DESC. -/
def setupBytes (s : State) : List Byte := s.hub.setupDesc.toList.flatMap (fun w => leBytes 4 w.toNat)

/-- A write of ARM (R28, R29): the descriptor is checked and queue 0 armed; ignored before RDY, while ARMED and while
disarming. -/
def Setup.arm (s : State) : State :=
  if !s.live || s.hub.setup == .armed || s.hub.setup == .disarming then s
  else
    match parseDesc s (setupBytes s) with
    | .ok d => { s with hub := { s.hub with setup := .armed, pairs := aset s.hub.pairs 0 { ctx := 0, desc := d } } }
    | .error _ => { s with hub := { s.hub with setup := .refused } }

/-- SETUP_ARM (R28, R29). -/
def execSetupArm (s : State) : Host.Outcome State Fault Refusal := .next (Setup.arm s)

/-- A write of DISARM, in the order of R29: fetching stops, started commands go on with their replies discarded, every
session closes, every pair other than queue 0 is deleted, and STATE is 3. WIN_RW returns to 0 (chapter 2). -/
def Setup.disarm (s : State) : State :=
  let s : State := { s with
    hub := { s.hub with
      setup := .disarming
      winRw := false
      fetched := []
      inflight := s.hub.inflight.map (fun (c : InFlight) => { c with discard := true }) }
    ev := { s.ev with waits := [] } }
  let s := (s.cl.sessions.map (·.1)).foldl (fun s c => closeSession c s) s
  let s := ((s.hub.pairs.filter (fun e => e.1 != 0)).map (·.1)).foldl (fun s q => Ring.delete q s) s
  s.modPair 0 (fun p => { p with held := [], waiting := [], stage := none })

/-- SETUP_DISARM (R29). -/
def execSetupDisarm (s : State) : Host.Outcome State Fault Refusal := .next (Setup.disarm s)

/-- HOST_FLR (R24): the effect of a write of SETUP_CTL.DISARM, and nothing else. -/
def execHostFlr (s : State) : Host.Outcome State Fault Refusal := .next (Setup.disarm s)

/-- DISARM_COMPLETE (R29): STATE reaches IDLE; queue 0 is armed no more, and what still runs gives no reply. -/
def execDisarmComplete (s : State) : Host.Outcome State Fault Refusal :=
  .next (whenever (s.hub.setup == .disarming) (fun s => { s with hub := { s.hub with
    setup := .idle
    pairs := aerase s.hub.pairs 0
    inflight := s.hub.inflight.filter (fun c => !c.discard) } }) s)

/-! ## Doorbells -/

/-- The entry that the 64 bytes of a slot spell, its CRC checked (R38 step 1, R39). -/
def entryOf (bytes : List Byte) : Entry :=
  if packetCrcOk bytes then
    let p := packetOf bytes
    .packet p.1 p.2
  else .bad (BitVec.ofNat 32 (ofLe (bytes.take 4)))

/-- Entries from slot `i` on, `n` of them, as memory holds them now (R34). -/
def readEntries (s : State) (d : RingDesc) : Nat → Nat → List (Nat × Entry)
  | 0, _ => []
  | n + 1, i =>
    (i, entryOf (s.readMem d.space (d.sqBase.toNat + 64 * i) 64)) :: readEntries s d n ((i + 1) % d.size)

/-- The `n` unfetched entries of a pair after a doorbell: those read before keep their contents, the others are read now,
and a doorbell that takes SQ_TAIL back before the fetch drops what it no longer covers (R34, Table 2.12). -/
def unfetched (s : State) (p : Pair) (n : Nat) : List (Nat × Entry) :=
  (p.waiting ++ readEntries s p.desc (n - p.waiting.length) p.sqTail).take n

/-- A doorbell that names no live pair or an index outside the ring: ignored, counted, DOORBELL_BAD (Table 2.12). -/
def badDoorbell (q : Nat) (value : Word) (s : State) : State :=
  Ev.raise 33 0 (packLe [(2, q), (4, value.toNat)]) { s with hub := { s.hub with doorbellBad := s.hub.doorbellBad + 1 } }

/-- The doorbell of a pair (R31, R34): CQ_HEAD and SQ_TAIL are taken, the new entries are read as they stand, and what
may be fetched is fetched. In GLOW, an entry that R333 holds is a wake cause when HOST is enabled (R335). -/
def Ring.doorbell (q : Nat) (value : Word) (s : State) : State :=
  if !s.live then s
  else
    match s.pair q with
    | none => badDoorbell q value s
    | some p =>
      let tail := field value.toNat 15 0
      let cqh := field value.toNat 31 16
      if p.deleting || s.hub.setup != .armed || p.desc.size ≤ tail || p.desc.size ≤ cqh then badDoorbell q value s
      else
        let s := s.modPair q (fun p => { p with
          sqTail := tail, cqHead := cqh, waiting := unfetched s p ((tail + p.desc.size - p.sqHead) % p.desc.size) })
        let s := Ring.fetchAll (Msix.satisfied s)
        if heldInGlow s q then Power.wake wakeHost 0 s else s

/-- FETCH_RESUME (R40): fetching of entries left unfetched resumes by weighted round robin. -/
def execFetchResume (s : State) : Host.Outcome State Fault Refusal := .next (Ring.fetchAll s)

/-- A failed entry among those fetched. -/
def isBad (q index : Nat) (head : Word) (f : Fetched) : Bool := f.q == q && f.index == index && f.entry == .bad head

/-- A failed entry that its row presents, placed and fetched where the pair has nothing waiting and its slot is the next
one; entries fetched before it do not matter, since it waits for none of them (R39, log 7). -/
def Ring.offerBad (q index : Nat) (head : Word) (s : State) : State :=
  match s.pair q with
  | some p =>
    if p.waiting.isEmpty && !p.deleting && p.sqTail == index && !s.hub.fetched.any (isBad q index head) then
      let s := Ring.place q (.bad head) s
      match s.pair q with
      | some p => if Ring.ready s p then Ring.fetchOne q s else s
      | none => s
    else s
  | none => s

/-- The reply of a failed entry: its first four bytes echoed and its ring index in result bytes 5 to 6, with no IRQ and no
tag (R39). -/
def crcFailReply (index : Nat) (head : Word) : Reply :=
  { tag := BitVec.ofNat 11 (head.toNat / 2 ^ 16), status := St.crcFail, echo := BitVec.ofNat 16 head.toNat
    result := BitVec.ofNat 184 (result [(5, 2, index)]), irq := false, frees := none }

/-- PACKET_CRC_FAIL (R39): the fetched entry completes with CRC_FAIL, whatever was fetched before it on its pair. -/
def execPacketCrcFail (q index : Nat) (head : Word) (s : State) : Host.Outcome State Fault Refusal :=
  .next (
    if !s.live || s.hub.setup != .armed then s
    else
      let s := Ring.offerBad q index head s
      if s.hub.fetched.any (isBad q index head) then
        let t := Ring.reply q (crcFailReply index head)
          { s with hub := { s.hub with fetched := s.hub.fetched.eraseP (isBad q index head) } }
        Ev.settle t.ev.waits.length t
      else s)

/-- COALESCE_TIMEOUT (R33): the oldest unsignalled reply reaches COAL_TIME x 8 us, and the pair's interrupt is raised. -/
def execCoalesceTimeout (q : Nat) (s : State) : Host.Outcome State Fault Refusal :=
  .next (match s.pair q with
    | some p =>
      if 0 < p.unsignalled then Ring.signal q (untilElapsed (p.oldest + p.desc.coalTime * 8000) s) else s
    | none => s)

/-- Write held replies while the completion ring has a slot, at most `n` of them. -/
def Ring.writeHeld (q : Nat) : Nat → State → State
  | 0, s => s
  | n + 1, s =>
    match s.pair q with
    | some p =>
      match p.held with
      | r :: rest => if p.cqFull then s else Ring.writeHeld q n (Ring.post q r (s.modPair q (fun p => { p with held := rest })))
      | [] => s
    | none => s

/-- HELD_REPLY_WRITE (Table 2.12): held replies are written as CQ_HEAD frees slots, and fetching from the pair
resumes. -/
def execHeldReplyWrite (q : Nat) (s : State) : Host.Outcome State Fault Refusal :=
  .next (match s.pair q with
    | some p => Ring.fetchAll (Ring.writeHeld q p.held.length s)
    | none => s)

/-- PAIR_FREED (R57): a deleted pair is freed once nothing is in flight on it. -/
def execPairFreed (q : Nat) (s : State) : Host.Outcome State Fault Refusal :=
  .next (match s.pair q with
    | some p =>
      if p.deleting && !s.hub.inflight.any (fun c => c.key.q == q) then
        { s with hub := { s.hub with pairs := aerase s.hub.pairs q } }
      else s
    | none => s)

/-! ## WINDOW_ACCESS -/

def specWindowAccess : OpSpec := { op := 0x040, owner := true, rev1 := false, rsv := 0, used := [(8, 1, 0xFF)] }

def bodyWindowAccess (pk : Packet) (_ : Key) (s : State) : Verdict :=
  if 2 ≤ pk.u8 8 then failWith St.badParam
  else .ok 0 { s with hub := { s.hub with winRw := pk.u8 8 == 1 } }

/-- WINDOW_ACCESS (R48, Table 2.10). -/
def execWindowAccess (q : Nat) (pk : Packet) (s : State) : Host.Outcome State Fault Refusal :=
  .next (Cmd.run specWindowAccess bodyWindowAccess q pk s)

end Sys2Proof.Machine
end

