-- ==== Sys2Proof/Machine/BusOps.lean ====
section
/-!
DEFINITION. Machine/BusOps.lean: what the building bus does on its own account: configuration fields (Table 10.11),
causes (R239), profile identifiers (R225), the transmit buffers (R220) and link writes (R229).
-/

namespace Sys2Proof.Machine

/-! ## Controllers and their fields -/

/-- Controller BUS k. -/
def State.bus (s : State) (k : Nat) : Bus := vget (s.tile (k / 16)).buses (k % 16) {}

/-- Change controller BUS k. -/
def State.modBus (s : State) (k : Nat) (f : Bus → Bus) : State :=
  s.modTile (k / 16) (fun t => { t with buses := vmod t.buses (k % 16) f })

/-- MODE: 0 OFF, 1 NORMAL, 2 LISTEN. -/
def Bus.mode (b : Bus) : Nat := field b.cfg0.toNat 1 0
/-- SNOOP. -/
def Bus.snoop (b : Bus) : Bool := b.cfg0.getLsbD 2
/-- WAKE_EN. -/
def Bus.wakeEn (b : Bus) : Bool := b.cfg0.getLsbD 3
/-- PROFILE_V1. -/
def Bus.profileV1 (b : Bus) : Bool := b.cfg0.getLsbD 4
/-- FD_EN. -/
def Bus.fdEn (b : Bus) : Bool := b.cfg0.getLsbD 5
/-- RETIRE_AUTO. -/
def Bus.retireAuto (b : Bus) : Bool := b.cfg0.getLsbD 6
/-- AUTO_REGISTER. -/
def Bus.autoRegister (b : Bus) : Bool := b.cfg0.getLsbD 7
/-- OWN_EPOCH. -/
def Bus.ownEpoch (b : Bus) : Nat := field b.cfg0.toNat 9 8
/-- OWN_NODE. -/
def Bus.ownNode (b : Bus) : Nat := field b.cfg0.toNat 15 10
/-- BUS_RETRY_LIMIT. -/
def Bus.retryLimit (b : Bus) : Nat := field b.cfg0.toNat 23 16
/-- GROUP. -/
def Bus.group (b : Bus) : Nat := field b.cfg0.toNat 31 24
/-- DUSK_OK. -/
def Bus.duskOk (b : Bus) : Bool := b.cfg3.getLsbD 15
/-- BEACON_PERIOD in ns. -/
def Bus.beaconNs (b : Bus) : Nat := field b.cfg3.toNat 31 24 * 100000000
/-- The time after which a node without a matching beacon is DEAD, in ns (R230). -/
def Bus.deadlineNs (b : Bus) : Nat := field b.cfg3.toNat 23 16 * b.beaconNs

/-- The controller takes part on its bus: MODE NORMAL or LISTEN, not asleep, not bus-off; one that GLOW stops does so until
the frame on the bus has ended (R236). -/
def Bus.receiving (b : Bus) : Bool :=
  (b.mode == 1 || b.mode == 2) && (!b.stopped || b.foreign) && b.dusk != .asleep && (b.fc == .active || b.fc == .passive)

/-- The controller may transmit: it takes part, in MODE NORMAL, and is not RETIRED. -/
def Bus.sending (b : Bus) : Bool := b.receiving && !b.stopped && b.mode == 1 && !b.retired

/-! ## Causes (R239) -/

/-- Set a CAUSE bit; its rise raises event source 128 + k with the bit as CODE. -/
def Bus.raise (k n node : Nat) (s : State) : State :=
  if (s.bus k).cause.getLsbD n then s
  else Ev.raise (128 + k) n (packLe [(1, node)])
    (s.modBus k (fun b => { b with cause := b.cause ||| (1#32 <<< n) }))

/-- Count a frame or record discarded. -/
def Bus.dropFrame (k : Nat) (s : State) : State := s.modBus k (fun b => { b with drop := b.drop + 1 })

/-! ## Profile frames (R225, Table 10.4, Table 10.5) -/

/-- PRIORITY of a class; none for reserved classes and for APP, whose sender chooses. -/
def classPriority (c : Nat) : Option Nat := [6, 3, 3, 3, 3, 0, 2, 1, 5, 4, 4, 5, 1, 2][c]?

/-- A profile identifier. -/
def profileId (prio cls dest src epoch last index : Nat) : Nat :=
  prio * 2 ^ 26 + cls * 2 ^ 21 + dest * 2 ^ 13 + src * 2 ^ 7 + epoch * 2 ^ 5 + last * 2 ^ 4 + index

/-- The device's own frames in buffers 0 to 7 (R220). -/
def Bus.ownPending (b : Bus) : Nat := (b.tx.filter (fun f => f.key.isNone)).length

/-- Own frames that wait take the buffers that are free. -/
def Bus.refill (b : Bus) : Bus :=
  { b with tx := b.tx ++ b.ownWait.take (8 - b.ownPending), ownWait := b.ownWait.drop (8 - b.ownPending) }

/-- BUS_TXD follows what the controller does. -/
def Bus.pin (b : Bus) : Bus :=
  { b with txd := if b.dawnDue then .wakeUp else if b.tx.any (fun f => f.onBus) then .frame else .recessive }

/-- Put a frame behind those that wait. -/
def Bus.enqueue (k : Nat) (f : TxBuf) (s : State) : State :=
  s.modBus k (fun b => if f.key.isSome then { b with tx := b.tx ++ [f] } else { b with ownWait := b.ownWait ++ [f] }.refill)

/-- Change the frames that wait: the free buffers are filled again. -/
def Bus.modTx (k : Nat) (g : List TxBuf → List TxBuf) (s : State) : State :=
  s.modBus k (fun b => { b with tx := g b.tx }.refill.pin)

/-- The EPOCH of the device's own frames: 0 in profile version 1 (Table 10.4). -/
def Bus.sendEpoch (b : Bus) : Nat := if b.profileV1 then 0 else b.ownEpoch

/-- A frame of the device's own for class `cls`, fragment `index`. -/
def ownFrame (b : Bus) (cls dest last index : Nat) (link : Option Nat) (data : List Byte) : TxBuf :=
  { key := none, link := link, ctx := 0, fdf := b.fdEn, brs := b.fdEn, ide := true,
    id := BitVec.ofNat 29 (profileId ((classPriority cls).getD 0) cls dest b.ownNode b.sendEpoch last index),
    data := data, attempts := 0, ackErrors := 0, onBus := false }

/-- Pad data with zeros to a CAN FD frame length. -/
def padFd (data : List Byte) : List Byte :=
  let n := data.length
  let m := if n ≤ 8 then n else if n ≤ 12 then 12 else if n ≤ 16 then 16 else if n ≤ 20 then 20 else if n ≤ 24 then 24
    else if n ≤ 32 then 32 else if n ≤ 48 then 48 else 64
  data ++ List.replicate (m - n) 0

/-- Fragments of a message in frames of `size` bytes, the last one with LAST (R226). -/
def fragments (b : Bus) (cls dest : Nat) (link : Option Nat) : Nat → List (List Byte) → List TxBuf
  | _, [] => []
  | i, [d] => [ownFrame b cls dest 1 i link d]
  | i, d :: r => ownFrame b cls dest 0 i link d :: fragments b cls dest link (i + 1) r

/-- Send a profile message of the device's own: one FD frame where FD_EN is set, classical fragments otherwise. A
controller that may not transmit sends nothing. -/
def Bus.send (k cls dest : Nat) (link : Option Nat) (data : List Byte) (s : State) : State :=
  let b := s.bus k
  if b.sending then
    let parts := if b.fdEn || data.length ≤ 8 then [padFd data] else chunks 8 data.length data
    (fragments b cls dest link 0 parts).foldl (fun s f => Bus.enqueue k f s) s
  else s

/-- Send BEACON with the next SEQ (R230). -/
def Bus.beacon (k : Nat) (s : State) : State :=
  let b := s.bus k
  let version := if b.profileV1 then 1 else 2
  let st := if b.dusk == .hold then 1 else 0
  let s := Bus.send k 0 0xFF none (leBytes 6 Config.serial.toNat ++ leBytes 1 (version * 16 + st) ++ [b.beaconSeq]) s
  s.modBus k (fun b => { b with beaconSeq := b.beaconSeq + 1 })

/-- The device's own frames that a test picks no longer wait; one on the bus goes on. -/
def Bus.dropOwn (k : Nat) (p : TxBuf → Bool) (s : State) : State :=
  let keep (f : TxBuf) : Bool := f.onBus || f.key.isSome || !p f
  s.modBus k (fun b => { b with tx := b.tx.filter keep, ownWait := b.ownWait.filter keep }.refill)

/-! ## Link writes (R229) -/

/-- Send POINT_WRITE for a link, in place of one of its frames that still waits. -/
def Bus.linkFrame (k i : Nat) (l : BusLink) (value : Word) (s : State) : State :=
  let s := Bus.dropOwn k (fun f => f.link == some i) s
  Bus.send k 9 l.node (some i) (leBytes 2 l.object.toNat ++ leBytes 1 l.level ++ leBytes 4 value.toNat ++ [l.seq]) s

/-- A change of value of a linked point: POINT_WRITE with the next SEQ, which replaces a write still waiting. -/
def Bus.linkWrite (k i : Nat) (value : Word) (s : State) : State :=
  match aget (s.bus k).links i with
  | some l =>
    let l := { l with seq := l.seq + 1, wait := some (value, 1, s.tb.elapsed) }
    Bus.linkFrame k i l value (s.modBus k (fun b => { b with links := aset b.links i l }))
  | none => s

/-- The links of every powered tile's controllers that bind a point. -/
def linksOf (s : State) (id : Nat) : List (Nat × Nat) :=
  (List.range 64).flatMap (fun k =>
    if s.tileOn (k / 16) then
      ((s.bus k).links.filter (fun e => e.2.point.toNat == id)).map (fun e => (k, e.1))
    else [])

end Sys2Proof.Machine
end

