-- ==== Sys2Proof/Machine/Bindings.lean ====
section
/-!
DEFINITION. Machine/Bindings.lean: loop and zone descriptors as bytes (Table 7.1, Table 8.1), the bindings in them
(Table 7.3), and who binds what.
-/

namespace Sys2Proof.Machine

/-! ## Bindings (Table 7.3), as eight little-endian bytes in one number -/

/-- KIND. -/
def bKind (b : Nat) : Nat := b % 256
/-- Byte `i` of a binding. -/
def bByte (b i : Nat) : Nat := b / 256 ^ i % 256
/-- The tile. -/
def bTile (b : Nat) : Nat := bByte b 1
/-- Bytes 2 to 3: a channel, a descriptor or a zone. -/
def bIndex (b : Nat) : Nat := b / 65536 % 65536
/-- Byte 4: a value or an item. -/
def bItem (b : Nat) : Nat := bByte b 4
/-- Bytes 1 to 5: a point. -/
def bPoint (b : Nat) : Nat := b / 256 % 256 ^ 5
/-- Byte 6: the LEVEL of a point. -/
def bLevel (b : Nat) : Nat := bByte b 6
/-- A CHANNEL of a tile. -/
def bindsChan (t ch b : Nat) : Bool := bKind b == 1 && bTile b == t && bIndex b == ch
/-- A POINT. -/
def bindsPoint (id b : Nat) : Bool := bKind b == 2 && bPoint b == id
/-- A LOOP of a tile. -/
def bindsLoop (t d b : Nat) : Bool := bKind b == 3 && bTile b == t && bIndex b == d
/-- A ZONE of a tile. -/
def bindsZone (t z b : Nat) : Bool := bKind b == 4 && bTile b == t && bIndex b == z
/-- An output target of KIND 5 DRV, 6 AO or 7 FAN. -/
def bindsOut (kind t i b : Nat) : Bool := bKind b == kind && bTile b == t && bByte b 2 == i

/-! ## Descriptors -/

/-- Bytes `off` to `off + w - 1` of a loop descriptor. -/
def Loop.le (l : Loop) (off w : Nat) : Nat := l.desc.toNat / 256 ^ off % 256 ^ w
/-- An FP32 field. -/
def Loop.f32 (l : Loop) (off : Nat) : F32 := BitVec.ofNat 32 (l.le off 4)
/-- TYPE. -/
def Loop.type (l : Loop) : Nat := field (l.le 0 1) 3 0
/-- CLASS. -/
def Loop.cls (l : Loop) : Nat := field (l.le 0 1) 5 4
/-- DIRECT. -/
def Loop.direct (l : Loop) : Bool := (l.le 1 1).testBit 0
/-- START_MANUAL. -/
def Loop.startManual (l : Loop) : Bool := (l.le 1 1).testBit 1
/-- ON_FAULT. -/
def Loop.onFault (l : Loop) : Nat := field (l.le 1 1) 3 2
/-- UNREL_FAULT. -/
def Loop.unrelFault (l : Loop) : Bool := (l.le 1 1).testBit 4
/-- GROUP. -/
def Loop.group (l : Loop) : Nat := l.le 2 1
/-- PERIOD_US. -/
def Loop.period (l : Loop) : Nat := l.le 4 4
/-- PHASE_US. -/
def Loop.phase (l : Loop) : Nat := l.le 8 4
/-- STALE_EVALS. -/
def Loop.staleEvals (l : Loop) : Nat := l.le 12 2
/-- IN_PV, IN_SP and IN_AUX. -/
def Loop.input (l : Loop) (i : Nat) : Nat := l.le (16 + 8 * i) 8
/-- OUT0 and OUT1. -/
def Loop.output (l : Loop) (i : Nat) : Nat := l.le (40 + 8 * i) 8
/-- KP, TI, TD, TF, OUT_MIN, OUT_MAX, OUT_SAFE and SP_CONST, 0 to 7, then P1 to P4, 8 to 11. -/
def Loop.param (l : Loop) (i : Nat) : F32 := l.f32 (56 + 4 * i)

/-- Bytes `off` to `off + w - 1` of a zone descriptor. -/
def Zone.le (z : Zone) (off w : Nat) : Nat := z.desc.toNat / 256 ^ off % 256 ^ w
/-- An FP32 field. -/
def Zone.f32 (z : Zone) (off : Nat) : F32 := BitVec.ofNat 32 (z.le off 4)
/-- P, the outputs. -/
def Zone.np (z : Zone) : Nat := z.le 0 1
/-- ORDER. -/
def Zone.order (z : Zone) : Nat := z.le 1 1
/-- M, the manipulated inputs. -/
def Zone.nm (z : Zone) : Nat := z.le 2 1
/-- D, the disturbances. -/
def Zone.nd (z : Zone) : Nat := z.le 3 1
/-- HORIZON. -/
def Zone.horizon (z : Zone) : Nat := z.le 4 1
/-- GROUP. -/
def Zone.group (z : Zone) : Nat := z.le 5 1
/-- ITERATIONS, 0 meaning 64. -/
def Zone.iterations (z : Zone) : Nat := if z.le 6 2 = 0 then 64 else z.le 6 2
/-- STEP_S. -/
def Zone.stepS (z : Zone) : Nat := z.le 8 4
/-- PHASE_S. -/
def Zone.phaseS (z : Zone) : Nat := z.le 12 4
/-- FLAGS. -/
def Zone.zflags (z : Zone) : Nat := z.le 16 2
/-- LEARN. -/
def Zone.learn (z : Zone) : Nat := field z.zflags 2 1
/-- CLASS. -/
def Zone.cls (z : Zone) : Nat := field z.zflags 3 3
/-- Y_BIND j. -/
def Zone.yBind (z : Zone) (j : Nat) : Nat := z.le (24 + 8 * j) 8
/-- D_BIND i. -/
def Zone.dBind (z : Zone) (i : Nat) : Nat := z.le (56 + 8 * i) 8

/-- Every binding of a loop. -/
def Loop.bindings (l : Loop) : List Nat := [l.input 0, l.input 1, l.input 2, l.output 0, l.output 1]
/-- The input bindings of a loop. -/
def Loop.sources (l : Loop) : List Nat := [l.input 0, l.input 1, l.input 2]
/-- The output bindings of a loop. -/
def Loop.targets (l : Loop) : List Nat := [l.output 0, l.output 1]
/-- Every binding of a zone, the learner's U bindings among them. -/
def Zone.bindings (z : Zone) : List Nat :=
  (List.range 4).map z.yBind ++ (List.range 4).map z.dBind ++ z.learner.ubind.toList.map BitVec.toNat

/-- Some loop of tile `t` has a binding that a test picks. -/
def tileLoopBinds (s : State) (t : Nat) (pick : Nat → Bool) : Bool :=
  (s.tile t).loops.any (fun e => e.2.bindings.any pick)

/-- Some zone of tile `t` has one. -/
def tileZoneBinds (s : State) (t : Nat) (pick : Nat → Bool) : Bool :=
  (s.tile t).zones.any (fun e => e.2.bindings.any pick)

/-- Some loop of the chip has one. -/
def loopBinds (s : State) (pick : Nat → Bool) : Bool := (List.range 4).any (fun t => tileLoopBinds s t pick)

/-- Some zone of the chip has one. -/
def zoneBinds (s : State) (pick : Nat → Bool) : Bool := (List.range 4).any (fun t => tileZoneBinds s t pick)

/-- A loop, a zone or a mirror subscription binds a point (Table 3.12 reason 3). -/
def pointBound (s : State) (id : Nat) : Bool :=
  loopBinds s (bindsPoint id) || zoneBinds s (bindsPoint id) || s.fed.subs.any (fun x => x.2 == id)

/-- A loop binds an output target, and alone sets its demand (R150). -/
def outputBound (s : State) (kind t i : Nat) : Bool :=
  (List.range 4).any (fun u => (s.tile u).loops.any (fun e => e.2.targets.any (bindsOut kind t i)))

/-- Powered tiles other than `t` that bind a source of it, to which its values travel (R12). -/
def importers (s : State) (t : Nat) (pick : Nat → Bool) : List Nat :=
  (List.range 4).filter (fun d => d != t && s.tileOn d && (tileLoopBinds s d pick || tileZoneBinds s d pick))

/-! ## Imported values (R11, R159) -/

/-- The import slot of another tile's channel. -/
def slotChan (t ch : Nat) : Nat := 512 * t + ch

/-- The import slot of another tile's loop value. -/
def slotLoop (t d v : Nat) : Nat := 4096 + (16384 * t + d) * 4 + v

/-- Put a value in a tile's outbound queue (R11). -/
def Cross.push (t dst : Nat) (item : CrossItem) (s : State) : State :=
  s.modTile t (fun x => { x with xout := x.xout ++ [{ dst := dst, item := item }] })

end Sys2Proof.Machine
end

