-- ==== Sys2Proof/Machine/CalOps.lean ====
section
/-!
DEFINITION. Machine/CalOps.lean: calibration items (R294 to R303): the hub's fuse image, active and pending values, and
the boundaries at which they take effect.
-/

namespace Sys2Proof.Machine

/-- The key of an item. -/
def calKey (kind index : Nat) : Nat := 256 * kind + index

/-- How many items a KIND has (Table 13.1). -/
def calCount (kind : Nat) : Nat := [4, 4, 4, 4, 8, 4, 96][kind]?.getD 0

/-- The keys of all items. -/
def calKeys : List Nat := (List.range 7).flatMap (fun k => (List.range (calCount k)).map (calKey k))

/-! ## The fuse array (Tables 13.4, 13.5) -/

/-- What the record of an item holds, for `Config.recordByte`. -/
def CalVal.recorded (v : CalVal) : List Int :=
  [(v.mode : Int), (v.calMode : Int), match v.shunt with | some r => (r.toNat : Int) | none => -1] ++ v.trims

/-- The record of an item in an image, `n` bytes: not laid out for the host (R306). -/
def itemRecord (image : AMap CalVal) (key n : Nat) : List Byte :=
  (List.range n).map (Config.recordByte key ((aget image key).getD {}).recorded)

/-- The RREF record of tile `t`: RREF_LO and RREF_HI as FP32 at its offsets 0 and 4. -/
def rrefRecord (image : AMap CalVal) (t : Nat) : List Byte :=
  let v := (aget image (calKey 3 t)).getD {}
  leBytes 4 v.rlo.toNat ++ leBytes 4 v.rhi.toNat ++ (itemRecord image (calKey 3 t) 32).drop 8

/-- The block of tile `t` in an image, 0x400 bytes. -/
def tileRecords (image : AMap CalVal) (t : Nat) : List Byte :=
  itemRecord image (calKey 0 t) 256 ++ itemRecord image (calKey 1 t) 256 ++ itemRecord image (calKey 2 t) 32
    ++ rrefRecord image t ++ (List.range 24).flatMap (fun c => itemRecord image (calKey 6 (24 * t + c)) 8)
    ++ itemRecord image (calKey 5 t) 128 ++ List.replicate 128 0

/-- What an image's CRC covers: its bytes 0x0000 to 0x1BF7. -/
def FuseSlot.covered (x : FuseSlot) : List Byte :=
  leBytes 4 x.magic.toNat ++ [x.gen, x.format, 0, 0] ++ leBytes 8 x.stamp ++ List.replicate 48 0
    ++ (List.range 4).flatMap (tileRecords x.image) ++ (List.range 8).flatMap (fun l => itemRecord x.image (calKey 4 l) 64)
    ++ List.replicate 2488 0

/-- The 7,168 bytes of a slot; a blank one reads 0. -/
def FuseSlot.bytes (x : FuseSlot) : List Byte :=
  if x.used then x.covered ++ leBytes 4 x.done.toNat ++ leBytes 4 x.crc.toNat else List.replicate 7168 0

/-- The image of a commit in generation `gen`, 0 for the factory's. -/
def FuseSlot.burned (gen stamp : Nat) (image : AMap CalVal) : FuseSlot :=
  let x : FuseSlot := { used := true, magic := 0x4E454749, gen := BitVec.ofNat 8 gen, format := 1, stamp := stamp, image := image
                        done := 0x5A5A5A5A }
  { x with crc := crc32c x.covered }

/-- IDENT: the part number 0x8240, then what the device's own IDENT holds. -/
def fuseIdent : List Byte := leBytes 2 0x8240 ++ leBytes 14 Config.ident.toNat

/-- The factory region without its FCRC: IDENT, SERIAL, KEY_HASH and the factory image. -/
def fuseFactory (s : State) : List Byte :=
  fuseIdent ++ leBytes 6 Config.serial.toNat ++ List.replicate 10 0 ++ leBytes 32 Config.keyHash.toNat
    ++ (FuseSlot.burned 0 0 s.cal.factory).bytes ++ List.replicate 956 0

/-- The 64 KiB of the fuse array (R304). -/
def fuseArray (s : State) : List Byte :=
  fuseFactory s ++ leBytes 4 (crc32c (fuseFactory s)).toNat ++ s.cal.slots.toList.flatMap FuseSlot.bytes

/-- A slot's image is valid (R307). -/
def slotValid (s : State) (i : Nat) : Bool :=
  let x := vget s.cal.slots i {}
  x.used && x.magic == 0x4E454749#32 && x.gen.toNat == i + 1 && x.format == 1 && x.done == 0x5A5A5A5A#32
    && x.crc == crc32c x.covered

/-! ## Items -/

/-- The values of an item in the factory image; nominal where it does not differ (R303, R306). -/
def factoryVal (s : State) (key : Nat) : CalVal := (aget s.cal.factory key).getD {}

/-- The values of an item in the hub's fuse image: the generation in force (R302, R307). -/
def fuseVal (s : State) (key : Nat) : CalVal :=
  if s.cal.gen = 0 then factoryVal s key
  else (aget (vget s.cal.slots (s.cal.gen - 1) {}).image key).getD (factoryVal s key)

/-- An item as the fuse image loads it. -/
def fuseItem (s : State) (key : Nat) : CalItem :=
  { active := fuseVal s key, source := s.cal.gen, nextMode := (fuseVal s key).calMode }

/-- An item; one not listed stands as the fuse image loads it. -/
def State.calItem (s : State) (key : Nat) : CalItem := (aget s.cal.items key).getD (fuseItem s key)

/-- Change an item. -/
def State.modCal (s : State) (key : Nat) (f : CalItem → CalItem) : State :=
  { s with cal := { s.cal with items := aset s.cal.items key (f (s.calItem key)) } }

/-- The pending values become active (R301); in GLOW they are kept for a boundary after the return (R311). -/
def Cal.apply (key : Nat) (s : State) : State :=
  if glowing s then s
  else
    match (s.calItem key).pending with
    | some v => s.modCal key (fun i => { i with active := v, source := 9, pending := none, passed := 0, early := [] })
    | none => s

/-- A converter's sequence runs. -/
def convRuns (s : State) (t c : Nat) : Bool := (vget (s.tile t).convs c {}).running

/-- A KIND 2 or 3 item that waits for both converters of tile `t`: applied once both have passed a cycle end. -/
def Cal.applyBoth (key : Nat) (s : State) : State :=
  if (s.calItem key).passed = 3 then Cal.apply key s else s

/-- What the converters in `gone` have taken of pending values, each from its own cycle end on (R294, R301). -/
def takenEarly (gone : BitVec 2) (v : CalVal) (m : AMap CalVal) : AMap CalVal :=
  [0, 1].foldl (fun m c => if gone.getLsbD c then aset m c v else m) m

/-- The values waiting for the converters in `gone` of a tile have these behind them (R294). -/
def Cal.pass (key : Nat) (gone : BitVec 2) (s : State) : State :=
  match (s.calItem key).pending with
  | some v => Cal.applyBoth key (s.modCal key (fun i => { i with
      passed := i.passed ||| gone, early := takenEarly gone v i.early }))
  | none => s

/-- The cycle of converter `c` of tile `t` has ended, or the converter has stopped (R294, R102); GLOW's own cycle ends are
no boundary (R311). -/
def Cal.cycleEnd (t c : Nat) (s : State) : State :=
  if glowing s then s else Cal.pass (calKey 3 t) (1#2 <<< c) (Cal.pass (calKey 2 t) (1#2 <<< c) (Cal.apply (calKey c t) s))

/-- A converter item takes the values that wait for it where its converters are stopped (R294, R301). -/
def Cal.takeStopped (kind index : Nat) (s : State) : State :=
  if kind < 2 then (if convRuns s index kind then s else Cal.apply (calKey kind index) s)
  else if kind < 4 then
    Cal.pass (calKey kind index)
      (BitVec.ofNat 2 (bit (!convRuns s index 0) + 2 * bit (!convRuns s index 1))) s
  else s

/-- Set values pending. -/
def Cal.setPending (kind index : Nat) (v : CalVal) (s : State) : State :=
  Cal.takeStopped kind index (s.modCal (calKey kind index) (fun i => { i with pending := some v, passed := 0 }))

/-- The reference resistances that converter `c` of tile `t` uses (R303): new ones from its own cycle end on, until newer
ones take force there. -/
def rrefOf (s : State) (t c : Nat) : CalVal :=
  let i := s.calItem (calKey 3 t)
  (aget i.early c).getD i.active

/-- The resistance in ohms that converter `c` of tile `t` takes for its shunt (R82): what its values in force measured. -/
def shuntOf (s : State) (t c : Nat) : Rat :=
  fnum ((s.calItem (calKey c t)).active.shunt.getD (Config.shunt t 0x447A0000#32 0))

/-- An item's runs are in progress. -/
def calRunning (s : State) (key : Nat) : Bool := (s.calItem key).running.isSome

/-- Items of a tile and its head: all are lost at gating, and reload from the fuse image (R302). The links are the hub's,
which is never gated (Table 1.1; log 13). -/
def tileCalKeys (t : Nat) : List Nat :=
  [calKey 0 t, calKey 1 t, calKey 2 t, calKey 3 t, calKey 5 t] ++ (List.range 24).map (fun c => calKey 6 (24 * t + c))

/-- Lose a tile's values. -/
def Cal.loseTile (t : Nat) (s : State) : State :=
  { s with cal := { s.cal with items := s.cal.items.filter (fun e => !(tileCalKeys t).contains e.1) } }

end Sys2Proof.Machine
end

