-- ==== Sys2Proof/Machine/GlowOps.lean ====
section
/-!
DEFINITION. Machine/GlowOps.lean: drawing in glow memory (R281 to R284): the 4-bit bitmap, glyphs, and what each type of
widget draws. The places of pixels and characters that the spec leaves open are a convention (log 22).
-/

namespace Sys2Proof.Machine

/-- Head `h`, which is the head of tile `h`. -/
def State.head (s : State) (h : Nat) : Head := (s.tile h).head

/-- Change head `h`. -/
def State.modHead (s : State) (h : Nat) (f : Head → Head) : State := s.modTile h (fun t => { t with head := f t.head })

/-- RATE: frames a second. -/
def Head.rate (h : Head) : Nat := if h.cfg0.getLsbD 20 then 120 else 60
/-- The frame period in ns. -/
def Head.frameNs (h : Head) : Nat := 1000000000 / h.rate

/-! ## Pixels of the bitmap: rows of the glow area's width, two pixels a byte, the left one in bits 3:0 -/

/-- Put pixel `i`. -/
def putPixel (m : List Host.Cell) (i c : Nat) : List Host.Cell :=
  let b := (memGet m (i / 2)).toNat
  memSet m (i / 2) (BitVec.ofNat 8 (if i % 2 = 0 then setField b 3 0 c else setField b 7 4 c))

/-- Put pixels `i` to `i + n - 1` of a row. -/
def putRun (m : List Host.Cell) (i c : Nat) : Nat → List Host.Cell
  | 0 => m
  | n + 1 => putRun (putPixel m i c) (i + 1) c n

/-- A rectangle cut to the glow area: x, y, w and h. -/
def cutRect (hd : Head) (x y w h : Nat) : Nat × Nat × Nat × Nat := (x, y, min w (hd.gw - x), min h (hd.gh - y))

/-- Fill a rectangle of the glow area with a colour index. -/
def Head.fill (hd : Head) (x y w h c : Nat) : Head :=
  let r := cutRect hd x y w h
  { hd with bitmap := (List.range r.2.2.2).foldl (fun m j => putRun m ((y + j) * hd.gw + x) c r.2.2.1) hd.bitmap }

/-- Row `j` of glyph `g`, its leftmost pixel in bit 0. -/
def Head.glyphRow (hd : Head) (g j : Nat) : Nat := ofLe (memRead hd.glyphs (192 * g + 4 * j) 4)

/-- Draw glyph `g` with its corner at `x`, `y`, cut to `w` by `h` pixels. -/
def Head.glyph (hd : Head) (g x y w h fg bg : Nat) : Head :=
  { hd with bitmap := (List.range (min 48 h)).foldl (fun m j =>
      (List.range (min 32 w)).foldl (fun m i =>
        putPixel m ((y + j) * hd.gw + x + i) (if (hd.glyphRow g j).testBit i then fg else bg)) m) hd.bitmap }

/-! ## Widgets (Table 12.6) -/

/-- Foreground index. -/
def Widget.fg (w : Widget) : Nat := field w.colours.toNat 7 4
/-- Background index. -/
def Widget.bg (w : Widget) : Nat := field w.colours.toNat 3 0

/-- Clear a widget's rectangle to its background. -/
def Head.clearWidget (hd : Head) (w : Widget) : Head := hd.fill w.x w.y w.w w.h w.bg

/-- Draw glyphs side by side in 32 x 48 cells from the left of a widget's rectangle. -/
def Head.cells (hd : Head) (w : Widget) (l : List Nat) : Head :=
  (List.range l.length).foldl (fun hd k =>
    hd.glyph (l.getD k 12) (w.x + 32 * k) w.y (min (w.w - 32 * k) (hd.gw - (w.x + 32 * k))) (min w.h (hd.gh - w.y)) w.fg w.bg) hd

/-- Glyph numbers of minus, point and dash. -/
def glyphMinus : Nat := 10
def glyphPoint : Nat := 11
def glyphDash : Nat := 12

/-- The `n` decimal digits of a number, the first one highest. -/
def digitsOf : Nat → Nat → List Nat
  | 0, _ => []
  | n + 1, v => digitsOf n (v / 10) ++ [v % 10]

/-- Digits without leading zeros, one at least. -/
def shortDigits (v : Nat) : List Nat := match (digitsOf 8 v).dropWhile (fun d => d == 0) with
  | [] => [0]
  | l => l

/-- The latched value as a number; none for an FP32 value that is not finite. -/
def Widget.number (w : Widget) (fp : Bool) : Option Rat := if fp then frat w.value else some (w.value.toNat : Rat)

/-- The glyphs of a NUMBER: dashes for FAULT, STALE or a value that the digits cannot hold. -/
def Widget.numberCells (w : Widget) (fp : Bool) : List Nat :=
  let n := field w.format.toNat 7 4
  let d := field w.format.toNat 3 0
  let dashes := List.replicate n glyphDash
  if w.status.getLsbD 0 || w.status.getLsbD 3 then dashes
  else
    match w.number fp with
    | none => dashes
    | some v =>
      let m := roundAway (v * ((10 ^ d : Nat) : Rat))
      if 10 ^ n ≤ m.natAbs then dashes
      else
        let whole := shortDigits (m.natAbs / 10 ^ d)
        let part := digitsOf d (m.natAbs % 10 ^ d)
        (if m < 0 then [glyphMinus] else []) ++ whole ++ (if d = 0 then [] else glyphPoint :: part)

/-- Columns of a BAR that are filled; free where A equals B or a value is not finite (log 5). -/
def Widget.barWidth (s : State) (w : Widget) (fp : Bool) : Nat :=
  match w.number fp, frat w.a, frat w.b with
  | some v, some a, some b =>
    if a = b then Config.nat s.free % (w.w + 1)
    else roundNat (rclamp 0 1 ((v - a) / (b - a)) * (w.w : Rat))
  | _, _, _ => Config.nat s.free % (w.w + 1)

/-- The glyphs of a CLOCK; dashes while TB_VALID is clear. -/
def Widget.clockCells (s : State) (w : Widget) : List Nat :=
  let long := w.format.toNat % 2 == 1
  if !s.tb.valid then List.replicate (if long then 8 else 5) glyphDash
  else
    let t := (((s.sec : Int) + w.a.toInt) % 86400).toNat
    let two (n : Nat) : List Nat := digitsOf 2 n
    two (t / 3600) ++ [glyphPoint] ++ two (t / 60 % 60) ++ (if long then [glyphPoint] ++ two (t % 60) else [])

/-- The glyph of a STATE. -/
def Widget.stateCell (w : Widget) (fp : Bool) : Nat :=
  match w.number fp with
  | some v =>
    let k := roundAway v
    if 0 ≤ k && k ≤ 31 - (w.format.toNat : Int) then w.format.toNat + k.toNat else glyphDash
  | none => glyphDash

/-- A widget's point holds FP32 values. -/
def widgetFp (s : State) (w : Widget) : Bool := ((aget s.pts.recs w.point.toNat).map (fun p => p.type == 0)).getD true

/-- Draw one widget on its background. -/
def Head.drawWidget (s : State) (hd : Head) (w : Widget) : Head :=
  let fp := widgetFp s w
  let blank := hd.clearWidget w
  match w.wtype with
  | 1 => blank.cells w (w.numberCells fp)
  | 2 => blank.fill w.x w.y (min w.w (w.barWidth s fp)) w.h w.fg
  | 3 => blank.cells w [w.stateCell fp]
  | 4 => blank.cells w (w.clockCells s)
  | _ => hd

/-- Redraw the widgets in ascending number, where a latch changed at least 1 ms ago or a CLOCK shows the time (R283,
R284). -/
def Panel.redraw (h : Nat) (s : State) : State :=
  let hd := s.head h
  let due (w : Widget) : Bool := match w.changedAt with
    | some t => decide (t + 1000000 ≤ s.tb.elapsed)
    | none => false
  if hd.widgets.toList.any (fun w => w.wtype != 0 && (w.wtype == 4 || due w)) then
    let s2 := s.modHead h (fun hd =>
      let hd := hd.widgets.toList.foldl (fun hd w => Head.drawWidget s hd w) hd
      { hd with widgets := hd.widgets.map (fun w => if due w then { w with changedAt := none } else w) })
    s2.drawn
  else s

/-- A widget that shows a point. -/
def Widget.shows (w : Widget) (id : Nat) : Bool := w.wtype != 0 && w.wtype != 4 && w.point.toNat == id

/-- A point is deleted: its widgets turn off, and their rectangles take their background (Table 12.13). -/
def Panel.forget (id : Nat) (s : State) : State :=
  (List.range 4).foldl (fun s h =>
    if s.tileOn h && (s.head h).widgets.toList.any (fun w => w.shows id) then
      s.modHead h (fun hd =>
        let hd := hd.widgets.toList.foldl (fun hd w => if w.shows id then hd.clearWidget w else hd) hd
        { hd with widgets := hd.widgets.map (fun w => if w.shows id then { w with wtype := 0 } else w) })
    else s) s

/-- A record has failed its CRC: every widget bound to it shows FAULT (R71, R284; log 25). -/
def Panel.faultLatch (id : Nat) (s : State) : State :=
  (List.range 4).foldl (fun s h =>
    if s.tileOn h && (s.head h).widgets.toList.any (fun w => w.shows id) then
      s.modHead h (fun hd => { hd with widgets := hd.widgets.map (fun w =>
        if w.shows id then { w with status := w.status ||| 1, changedAt := some (w.changedAt.getD s.tb.elapsed) } else w) })
    else s) s

/-- In GLOW a latch is fed by METER results, and by presence results of ports with GLOW_EN (R284). -/
def latchFed (s : State) (src : BitVec 128) : Bool :=
  let f (off : Nat) : Nat := src.toNat / 256 ^ off % 256
  s.pw.pstate != .glow || f 0 == 6 ||
    (f 0 == 5 && (vget (s.tile (f 1 / 8)).ports (f 1 % 8) {}).cfg0.getLsbD 5)

/-- Write the value into the latches of the widgets that show the point (R284); the redraw that an earlier change has called
for stays due. -/
def Panel.latch (id : Nat) (p : Point) (s : State) : State :=
  if !latchFed s p.source then s
  else
    (List.range 4).foldl (fun s h =>
      if s.tileOn h && (s.head h).widgets.toList.any (fun w => w.shows id) then
        s.modHead h (fun hd => { hd with widgets := hd.widgets.map (fun w =>
          if w.shows id then { w with value := p.value, status := p.status, changedAt := some (w.changedAt.getD s.tb.elapsed) } else w) })
      else s) s

end Sys2Proof.Machine
end

