-- ==== Sys2Proof/Machine/PointOps.lean ====
section
/-!
DEFINITION. Machine/PointOps.lean: the point engine: the record's check (R65, R71), the cache (R70), resolving the
present value (R67, R378), change of value (R69) and what it notifies.
-/

namespace Sys2Proof.Machine

/-! ## STATUS (Table 3.9) -/

/-- The bit numbers of STATUS. -/
def stFault : Nat := 0
def stOos : Nat := 1
def stReflection : Nat := 2
def stStale : Nat := 3
def stStampInvalid : Nat := 4
def stUnreliable : Nat := 5
def stPinned : Nat := 6
def stPlanStale : Nat := 7

/-- A word with bit `n` at `b`. -/
def putBit (w : Word) (n : Nat) (b : Bool) : Word := if b then w ||| (1#32 <<< n) else w &&& ~~~(1#32 <<< n)

/-- OUT_OF_SERVICE. -/
def Point.oos (p : Point) : Bool := p.status.getLsbD stOos
/-- REFLECTION. -/
def Point.reflection (p : Point) : Bool := p.status.getLsbD stReflection
/-- PINNED. -/
def Point.pinned (p : Point) : Bool := p.status.getLsbD stPinned
/-- KIND, byte 0 of SOURCE. -/
def Point.kind (p : Point) : Nat := p.source.toNat % 256
/-- Bytes `off` to `off + n - 1` of SOURCE. -/
def srcField (src : BitVec 128) (off n : Nat) : Nat := src.toNat / 256 ^ off % 256 ^ n

/-! ## The record's check (R65) -/

/-- Bytes 16 to 123 of a record (Table 3.8). -/
def pointBytes (p : Point) : List Byte :=
  leBytes 4 p.status.toNat ++ leBytes 2 p.prioActive.toNat ++ leBytes 2 (p.owner.toNat + p.type.toNat * 2 ^ 10)
    ++ [p.group, 0, 0, 0] ++ leBytes 4 p.relinquish.toNat ++ leBytes 4 p.covIncrement.toNat
    ++ p.priority.toList.flatMap (fun w => leBytes 4 w.toNat) ++ leBytes 16 p.source.toNat ++ List.replicate 8 0

/-- The CRC that the record should hold. -/
def pointCrc (p : Point) : Word := crc32c (pointBytes p)

/-- Recompute the CRC, as every change does. -/
def Point.seal (p : Point) : Point := { p with crc := pointCrc p }

/-- The record's CRC matches. -/
def Point.whole (p : Point) : Bool := p.crc == pointCrc p

/-! ## The store and its cache (R62, R70, R71) -/

/-- The record of an identifier. -/
def State.point (s : State) (id : Nat) : Option Point := aget s.pts.recs id

/-- Put a record. -/
def State.putPoint (s : State) (id : Nat) (p : Point) : State :=
  { s with pts := { s.pts with recs := aset s.pts.recs id p } }

/-- A record is pinned. -/
def pinnedId (s : State) (id : Nat) : Bool := ((s.point id).map Point.pinned).getD false

/-- Remove the last identifier of a list that passes a test. -/
def removeLast (p : Nat → Bool) (l : List Nat) : List Nat :=
  (l.reverse.eraseP p).reverse

/-- Bring a record into the cache as the most recently used, evicting the least recently used unpinned one. -/
def Point.touch (id : Nat) (s : State) : State :=
  let rest := s.pts.cache.filter (fun x => x != id)
  let rest := if rest.length < 131072 then rest else removeLast (fun x => !pinnedId s x) rest
  { s with pts := { s.pts with cache := id :: rest } }

/-- A record may be used: no load of it has failed, and it is in the cache or its CRC matches (R71). -/
def pointSound (s : State) (id : Nat) (p : Point) : Bool :=
  !s.pts.failed.contains id && (s.pts.cache.contains id || p.whole)

/-- Load a record for use: one out of the cache is checked, and the load that fails raises POINT_CRC and marks the record
(R71, log 25). The Bool says whether the record is sound. -/
def Point.load (id : Nat) (p : Point) (s : State) : Bool × State :=
  if pointSound s id p then (true, Point.touch id s)
  else if s.pts.failed.contains id then (false, s)
  else
    (false, Panel.faultLatch id (Ev.raise 35 0 (packLe [(5, id)]) { s with pts := { s.pts with failed := id :: s.pts.failed } }))

/-- A command that binds a record loads it; one that is not there is left to the command's own check. -/
def Point.loadAt (id : Nat) (s : State) : Bool × State :=
  match s.point id with
  | some p => Point.load id p s
  | none => (true, s)

/-- Load the records of some points, and say whether all of them are sound. -/
def Points.load (ids : List Nat) (s : State) : Bool × State :=
  ids.foldl (fun a id => let l := Point.loadAt id a.2; (a.1 && l.1, l.2)) (true, s)

/-- A command that uses the records of some points: CRC_FAIL where one of them fails its load (R71), which leaves the state
of `before` but for what the load does. -/
def onRecords (ids : List Nat) (before s : State) (f : State → Verdict) : Verdict :=
  let l := Points.load ids before
  if l.1 then f (Points.load ids s).2 else .cond St.crcFail 0 l.2

/-- A binding reads a record: one that fails its CRC is found here (R71). -/
def Point.check (id : Nat) (s : State) : State :=
  match s.point id with
  | some p => if pointSound s id p then s else (Point.load id p s).2
  | none => s

/-! ## Resolving the present value (R67, R378) -/

/-- The number of the lowest active level, 1 to 16, or 0 when none is active. -/
def levelFrom (active : BitVec 16) : Nat → Nat → Nat
  | 0, _ => 0
  | n + 1, i => if active.getLsbD i then i + 1 else levelFrom active n (i + 1)

/-- The level in force, 0 for RELINQUISH. -/
def Point.inForce (p : Point) : Nat := levelFrom p.prioActive 16 0

/-- Values a TYPE accepts from a client (Table 3.10, R380). -/
def typeAccepts (ty : BitVec 2) (w : Word) : Bool :=
  match ty.toNat with
  | 0 => ffinite w
  | 1 => decide (w.toNat < 2)
  | 2 => decide (1 ≤ w.toNat) && decide (w.toNat < 65536)
  | _ => true

/-- The present value that a source result gives, or none where it leaves the value as it was (R378). -/
def sourceValue (ty : BitVec 2) : SrcVal → Option Word
  | .fp v =>
    match ty.toNat with
    | 0 => some v
    | 1 => if ffinite v then some (BitVec.ofInt 32 (max 0 (min 1 (roundAway (fnum v))))) else none
    | 2 => if ffinite v then some (BitVec.ofInt 32 (max 1 (min 65535 (roundAway (fnum v))))) else none
    | _ => some (Config.fpToCount v)
  | .uns w =>
    match ty.toNat with
    | 0 => some (fofInt w.toNat)
    | _ => if typeAccepts ty w then some w else some (Config.unsToType ty w)

/-- The present value by R67. -/
def Point.resolved (p : Point) : Word :=
  if p.oos then p.value
  else if p.kind != 0 then
    match p.latest with
    | none => p.relinquish
    | some v => (sourceValue p.type v).getD p.value
  else if p.inForce = 0 then p.relinquish
  else vget p.priority (p.inForce - 1) 0

/-- Resolve, and stamp with TB (R67, R18). -/
def Point.resolve (s : State) (p : Point) : Point :=
  { p with value := p.resolved, timestamp := s.stamp48, status := putBit p.status stStampInvalid (!s.tb.valid) }

/-! ## Change of value (R69) -/

/-- The value has moved far enough for a notification. -/
def covValue (p : Point) : Bool :=
  if p.type = 0 then
    if ffinite p.value && ffinite p.covLast then
      decide (fnum p.covIncrement ≤ rabs (fnum p.value - fnum p.covLast))
    else p.value != p.covLast || p.covIncrement == 0
  else p.value != p.covLast

/-- A change of value: the value condition of R69, or a STATUS bit that changed. -/
def covDue (old : Word) (p : Point) : Bool := covValue p || p.status != old

/-- Complete every watch on a point (R69, Table 3.16). -/
def Point.endWatches (id why : Nat) (p : Point) (s : State) : State :=
  let mine := s.pts.watches.filter (fun w => w.id == id)
  let s := { s with pts := { s.pts with watches := s.pts.watches.filter (fun w => w.id != id) } }
  mine.foldl (fun s w =>
    Cmd.final w.key St.ok (result [(5, 4, p.value.toNat), (9, 4, p.status.toNat), (13, 1, why)]) s) s

/-- What a change of value notifies: watches, mirror subscribers, widgets and links. -/
def Point.notify (id : Nat) (p : Point) (s : State) : State :=
  let s := Point.endWatches id 1 p s
  let s := Fed.updates id s
  let s := Panel.latch id p s
  (linksOf s id).foldl (fun s l => Bus.linkWrite l.1 l.2 p.value s) s

/-- Store a changed record, resolved already, and signal a change of value where R69 calls for one; `old` is STATUS as
it was. -/
def Point.store (id : Nat) (old : Word) (p : Point) (s : State) : State :=
  if covDue old p then
    let p := { p with covLast := p.value }.seal
    Point.notify id p (s.putPoint id p)
  else s.putPoint id p.seal

/-- Resolve a record after a change of its fields, and store it. -/
def Point.update (id : Nat) (old : Word) (p : Point) (s : State) : State :=
  let s := Point.touch id s
  Point.store id old (Point.resolve s p) s

/-! ## Sources -/

/-- The source's own flags on a result. -/
structure SrcFlags where
  fault : Bool := false
  unreliable : Bool := false
  planStale : Bool := false
deriving DecidableEq, Repr

/-- A record after a source result: the result kept, the flags of its source, FAULT for a non-finite result of TYPE 1
or 2 (R378). A missing result changes the flags alone. -/
def Point.withSource (p : Point) (v : Option SrcVal) (f : SrcFlags) : Point :=
  let bad := match v with
    | some x => (sourceValue p.type x).isNone
    | none => false
  let st := putBit (putBit (putBit p.status stFault (f.fault || bad)) stUnreliable f.unreliable) stPlanStale f.planStale
  { p with latest := v.orElse (fun _ => p.latest), status := st }

/-- Deliver a source result to one point (R67); a record that fails its CRC takes none (R71). -/
def Point.deliver (id : Nat) (v : Option SrcVal) (f : SrcFlags) (s : State) : State :=
  match s.point id with
  | some p =>
    let l := Point.load id p s
    if l.1 then Point.update id p.status (p.withSource v f) l.2 else l.2
  | none => s

/-- Points that a test on SOURCE picks. -/
def boundTo (s : State) (pick : BitVec 128 → Bool) : List Nat :=
  (s.pts.recs.filter (fun e => pick e.2.source)).map (·.1)

/-- Deliver a source result to every point bound to the source. -/
def Points.deliver (pick : BitVec 128 → Bool) (v : Option SrcVal) (f : SrcFlags) (s : State) : State :=
  (boundTo s pick).foldl (fun s id => Point.deliver id v f s) s

/-- Change STATUS of a record, keeping the present value; a changed bit is a change of value (R69). A record that fails
its CRC is found by the load, and stays as it is (R71). -/
def Point.restatus (id : Nat) (change : Word → Word) (s : State) : State :=
  match s.point id with
  | some p =>
    let l := Point.load id p s
    if !l.1 || change p.status = p.status then l.2
    else Point.store id p.status { p with status := change p.status } l.2
  | none => s

/-- Change STATUS of every point that a test on SOURCE picks. -/
def Points.flag (pick : BitVec 128 → Bool) (change : Word → Word) (s : State) : State :=
  (boundTo s pick).foldl (fun s id => Point.restatus id change s) s

/-- Withdraw an entry whose point stands in a group that is not exported; a point that fails its CRC shows no group. -/
def Fed.recheck (x : Nat × Nat) (s : State) : State :=
  match s.point x.2 with
  | some p =>
    let l := Point.load x.2 p s
    if l.1 && !s.fed.exportMask.getLsbD p.group.toNat then Fed.withdraw x l.2 else l.2
  | none => s

/-- Withdraw every such entry (R253). -/
def Fed.withdrawAll (s : State) : State := s.fed.subs.foldl (fun s x => Fed.recheck x s) s

/-- A SOURCE of a kind in a tile (kinds 1, 2, 3 and 6 name the tile in byte 1). -/
def srcIs (kind tile : Nat) (src : BitVec 128) : Bool := srcField src 0 1 == kind && srcField src 1 1 == tile

end Sys2Proof.Machine
end

