-- ==== Sys2Proof/Machine/InputOps.lean ====
section
/-!
DEFINITION. Machine/InputOps.lean: universal inputs: their records and groups (R77), UI_STAT (Table 4.8), forming a
value from a dwell (R82 to R85, Table 4.4), writing a logical channel (R110, R114, R115).
-/

namespace Sys2Proof.Machine

/-! ## Event sources of a tile (Table 16.1) -/

/-- Source `n` of tile `t`. -/
def tileSource (t n : Nat) : Nat := 64 + 16 * t + n

/-! ## The record (Table 4.8) -/

/-- MODE. -/
def InCfg.mode (c : InCfg) : Nat := field c.cfg0.toNat 3 0
/-- RANGE. -/
def InCfg.range (c : InCfg) : Nat := field c.cfg0.toNat 7 4
/-- GUARD. -/
def InCfg.guard (c : InCfg) : Bool := c.cfg0.getLsbD 10
/-- EXC_FREQ. -/
def InCfg.excFreq (c : InCfg) : Nat := field c.cfg0.toNat 13 11
/-- FILTER. -/
def InCfg.filter (c : InCfg) : Nat := field c.cfg0.toNat 15 14
/-- CONVERT. -/
def InCfg.convert (c : InCfg) : Nat := field c.cfg0.toNat 18 16
/-- TABLE. -/
def InCfg.table (c : InCfg) : Nat := field c.cfg0.toNat 23 19
/-- PULSE_LCH. -/
def InCfg.pulseLch (c : InCfg) : Nat := field c.cfg0.toNat 31 24

/-- How many inputs the record takes: one, a pair or a quad (R77). -/
def InCfg.span (c : InCfg) : Nat :=
  if c.mode = 5 then 4 else if c.mode = 4 || (c.mode == 6 && c.guard) then 2 else 1

/-- The excitation frequency in Hz: CAP by its range, other modes by EXC_FREQ (R78). -/
def InCfg.hz (c : InCfg) : Nat :=
  if c.mode = 6 then (if c.range = 0 then 17675 else 4775)
  else [275, 575, 875, 1175, 2075, 4775, 8975, 17675][c.excFreq]?.getD 275

/-- Whole periods of the excitation in a dwell: N of R79. -/
def InCfg.periods (c : InCfg) (ns : Nat) : Nat := ns * c.hz / 1000000000

/-- The excitation of a dwell that converters demodulate (R78, R79); tests and METER dwells have none. -/
def InCfg.exc (c : InCfg) (ns : Nat) : Option Exc :=
  if 1 ≤ c.mode && c.mode ≤ 7 then some { hz := c.hz, periods := c.periods ns, square := c.mode != 6 } else none

/-- The excitation runs `ns` after the dwell's start: from there to the end of period N (R79). -/
def Exc.on (e : Exc) (ns : Nat) : Bool := decide (ns * e.hz < e.periods * 1000000000)

/-- The sample `ns` after the dwell's start is demodulated: in periods 2 to N, and not in the 2 us after a reversal of the
square excitation (R79). -/
def Exc.demodulates (e : Exc) (ns : Nat) : Bool :=
  e.on ns && decide (1000000000 ≤ ns * e.hz)
    && (!e.square || decide (4000 * e.hz ≤ 2 * e.hz * ns % 1000000000))

/-- A dwell holds four whole periods and 0.5 ms (R80). -/
def dwellFits (c : InCfg) (ns : Nat) : Bool := decide (500000 ≤ ns) && decide (4000000000 ≤ ns * c.hz)

/-- Input `i` of a tile. -/
def Tile.input (t : Tile) (i : Nat) : Input := vget t.inputs i {}

/-- The record of an input as last written: the waiting one, or else the one in force. -/
def Input.latestCfg (x : Input) : InCfg := x.wait.getD x.cfg

/-- The input whose group, by the records that `rec` gives, holds input `i` as a partner. -/
def partnerOf (rec : Nat → InCfg) (i : Nat) : Option Nat :=
  (List.range 64).find? (fun j => decide (j < i) && decide (i < j + (rec j).span))

/-- The group an input belongs to by the records in force: its lowest input. -/
def groupHead (t : Tile) (i : Nat) : Nat := (partnerOf (fun j => (t.input j).cfg) i).getD i

/-- The members of the group that input `i` names. -/
def membersOf (t : Tile) (i : Nat) : List Nat := (List.range (t.input i).cfg.span).map (fun k => i + k)

/-- The inputs that a dwell of input `i` measures by the record it took at its start. -/
def Snap.members (n : Snap) (i : Nat) : List Nat := (List.range n.cfg.span).map (fun k => i + k)

/-- Two inputs' groups share a member. -/
def groupsMeet (t : Tile) (i j : Nat) : Bool := (membersOf t i).any (fun m => (membersOf t j).contains m)

/-- An input in METER mode (R92). -/
def isShaded (s : State) (t i : Nat) : Bool := (vget s.shaded t 0).getLsbD i

/-- UI_STAT (Table 4.8). ACTIVE is that of the record in force, so a shaded input reads 0 there after its tile has been
powered again (log 33). -/
def uiStat (s : State) (t i : Nat) : Nat :=
  let x := (s.tile t).input i
  bit (x.cfg.mode != 0 || (partnerOf (fun j => ((s.tile t).input j).cfg) i).isSome)
    + bit x.wait.isSome * 2 ^ 1 + bit x.opened * 2 ^ 2 + bit x.short * 2 ^ 3 + bit x.outOfRange * 2 ^ 4
    + bit x.protOpen * 2 ^ 5 + bit x.testing * 2 ^ 6 + bit (isShaded s t i) * 2 ^ 7

/-- Change input `i` of tile `t`. -/
def State.modInput (s : State) (t i : Nat) (f : Input → Input) : State :=
  s.modTile t (fun x => { x with inputs := vmod x.inputs i f })

/-- An input takes a record: a contact starts a new run of dwells, and one that comes into PULSE mode counts its first
rate from now (R85, R86). -/
def Input.take (x : Input) (c : InCfg) : Input :=
  { x with
    cfg := c, wait := none, contactRun := 0
    countAt := if c.mode = 8 && x.cfg.mode != 8 then x.count else x.countAt }

/-- A test no longer runs on an input; a switch that has tripped meanwhile still stands open (R113). -/
def Input.untest (x : Input) : Input :=
  { x with testing := false, heldOpen := x.heldOpen || (x.testing && x.switchOpen) }

/-- The fault flags of an input, in FLAGS order: OPEN, SHORT, PROT_OPEN, OUT_OF_RANGE (Table 5.3). -/
def Input.faults (x : Input) : Nat :=
  bit x.opened + bit x.short * 2 + bit x.protOpen * 4 + bit x.outOfRange * 8

/-- Set the fault flags of an input; a change raises INPUT_FAULT (R87). -/
def Input.setFaults (t i flags : Nat) (s : State) : State :=
  if ((s.tile t).input i).faults = flags then s
  else
    let s := s.modInput t i (fun x => { x with
      opened := flags.testBit 0, short := flags.testBit 1, protOpen := flags.testBit 2, outOfRange := flags.testBit 3 })
    Ev.raise (tileSource t 0) 0 (packLe [(1, i), (4, uiStat s t i)]) s

/-! ## From a dwell to a value (R82 to R85) -/

/-- The span of a mode and range (Table 4.1). -/
def rangeSpan (mode range : Nat) : Rat × Rat :=
  if mode = 1 then
    (if range = 0 then (-1 / 10, 1 / 10) else if range = 1 then (-5 / 4, 5 / 4) else (-12, 12))
  else if mode = 2 then (0, 24 / 1000)
  else if mode = 6 then (if range = 0 then (10, 500) else (100, 5000))
  else (0, if range = 0 then 400 else if range = 1 then 4000 else if range = 2 then 40000 else 400000)

/-- How many ranges a mode has; RANGE is 0 where it has none (R77). -/
def rangeCount (mode : Nat) : Nat := [1, 3, 2, 4, 4, 4, 2, 1, 1][mode]?.getD 1

/-- The resistance ratio of IEC 60751 (Table 4.3). -/
def ptRatio (t : Rat) : Rat :=
  let base := 1 + 39083 / 10000000 * t - 5775 / 10000000000 * (t * t)
  if t < 0 then base - 4183 / 1000000000000000 * ((t - 100) * (t * t * t)) else base

/-- The temperature of a resistance ratio within the domain, to 2^-32 C. -/
def ptTemp (w : Rat) : Rat :=
  ((bisect (fun g => decide (ptRatio ((g : Rat) / (2 ^ 32 : Nat)) ≤ w)) 43 (-200 * 2 ^ 32) : Int) : Rat) / (2 ^ 32 : Nat)

/-- Clamp to a domain; the Bool says that the value left it. -/
def clampTo (lo hi x : Rat) : Rat × Bool := (rclamp lo hi x, decide (x < lo) || decide (hi < x))

/-- Interpolate in a table whose first x the value reaches (R84); a piece with a value that is not finite gives `open'`,
since the spec states no result there (log 33). -/
def interpolate (open' x : Rat) : List (F32 × F32) → Rat
  | (x0, y0) :: (x1, y1) :: r =>
    if r.isEmpty || x ≤ fnum x1 then
      if ffinite x0 && ffinite x1 && ffinite y0 && ffinite y1 then
        fnum y0 + (fnum y1 - fnum y0) * (x - fnum x0) / (fnum x1 - fnum x0)
      else open'
    else interpolate open' x ((x1, y1) :: r)
  | [(_, y)] => if ffinite y then fnum y else open'
  | [] => 0

/-- Clamp to the first and last x of a table; an infinite one bounds nothing. -/
def clampTable (l : List (F32 × F32)) (x : Rat) : Rat × Bool :=
  let lo := (l.head?.getD (0, 0)).1
  let hi := (l.getLast?.getD (0, 0)).1
  clampTo (if ffinite lo then fnum lo else x) (if ffinite hi then fnum hi else x) x

/-- A finite table interpolates to stated values only. -/
def tableFinite (table : Option (List (F32 × F32))) : Bool :=
  (table.getD []).all (fun e => ffinite e.1 && ffinite e.2)

/-- CONVERT (Table 4.3): the delivered value, or none for an empty table, and OUT_OF_RANGE; `open'` stands where the spec
states no result. -/
def convertValue (open' : Rat) (c : InCfg) (table : Option (List (F32 × F32))) (x : Rat) : Option Rat × Bool :=
  let span := rangeSpan c.mode c.range
  let a := fnum c.paramA
  let b := fnum c.paramB
  let inSpan := clampTo span.1 span.2 x
  if c.convert = 1 then
    let w := x / a
    if w < ptRatio (-200) then (some (-200), true)
    else if ptRatio 850 < w then (some 850, true)
    else (some (ptTemp w), false)
  else if c.convert = 2 then
    let den := 1 / (29815 / 100) + rln (x / a) / b
    if x ≤ 0 || den ≤ 0 then (some 150, true)
    else
      let t := clampTo (-55) 150 (1 / den - 27315 / 100)
      (some t.1, t.2)
  else if c.convert = 3 then
    match table with
    | some l =>
      let d := clampTable l x
      (some (interpolate open' d.1 l), d.2)
    | none => (none, true)
  else if c.convert = 4 then (some (a * inSpan.1 + b), inSpan.2)
  else (some inSpan.1, inSpan.2)

/-- Nanovolts as volts. -/
def volts (nv : Int) : Rat := (nv : Rat) / 1000000000

/-- A quotient; where the divisor is 0 the spec states no result, and it is free (log 5). -/
def quotient (s : State) (n d : Rat) : Rat := if d = 0 then fnum (Config.fp s.free) else n / d

/-- The measured quantity x of R82, for the modes that converters measure. -/
def measured (s : State) (t conv : Nat) (c : InCfg) (d : Dwell) : Rat :=
  let r := rrefOf s t conv
  let lo := c.mode == 7 || c.range < 2
  let rref := if c.mode == 6 || !lo then fnum r.rhi else fnum r.rlo
  let comp := if ffinite c.comp then fnum c.comp else fnum (Config.fp (s.free + 1))
  let ohms (v : Rat) : Rat := quotient s (v * rref) (volts d.vf)
  if c.mode = 1 then volts d.vs
  else if c.mode = 2 then quotient s (volts d.vs) (shuntOf s t conv)
  else if c.mode = 4 then ohms (volts d.vs - volts d.vl) + 22 - comp
  else if c.mode = 5 then ohms (volts d.vs) - comp
  else if c.mode = 6 then
    quotient s (1000000000000 * volts d.vf) (2 * rpi * (c.hz : Rat) * rref * volts d.vq) - comp
  else ohms (volts d.vs) - 22 - comp

/-- What a dwell gives: the value delivered, or none, and the fault bits of FLAGS. -/
structure Measured where
  value : Option F32
  flags : Nat
deriving DecidableEq, Repr

/-- CONTACT (R85): a reading changes once FILTER's count of dwells in a row disagrees with it. -/
def contactStep (x : Input) (ohms : Rat) (need : Nat) : Input :=
  let seen := if ohms ≤ 500 then true else if 1500 ≤ ohms then false else x.contact
  if seen == x.contact then { x with contactRun := 0 }
  else if need ≤ x.contactRun + 1 then { x with contact := seen, contactRun := 0 }
  else { x with contactRun := x.contactRun + 1 }

/-- A faulted dwell: its flag joins those that stand, and the result is discarded (Table 4.4). -/
def faultedDwell (t i n : Nat) (s : State) : Measured × State :=
  let s := Input.setFaults t i (((s.tile t).input i).faults ||| n) s
  ({ value := none, flags := ((s.tile t).input i).faults }, s)

/-- A good dwell: only OUT_OF_RANGE may stand after it, and UI_VALUE takes the value. -/
def goodDwell (t i : Nat) (v : Option F32) (oor : Bool) (s : State) : Measured × State :=
  let s := s.modInput t i (fun x => { x with value := v.getD x.value })
  let s := Input.setFaults t i (8 * bit oor) s
  ({ value := v, flags := 8 * bit oor }, s)

/-- Form the result of a dwell of input `i` (R82 to R87, Table 4.4). A reading of an input that has been shaded since the
dwell began is delivered nowhere (R96); a faulted dwell leaves a contact's run of dwells as it is (log 33). -/
def formResult (t conv i : Nat) (snap : Snap) (d : Dwell) (s : State) : Measured × State :=
  let c := snap.cfg
  let x := measured s t conv c d
  let open' := fnum (Config.fp (s.free + 2))
  let s := if volts d.vf = 0 || !ffinite c.comp || !tableFinite snap.table then s.drawn.drawn.drawn else s
  let resistive := 3 ≤ c.mode && c.mode ≤ 7
  if c.mode = 0 || c.mode = 8 || c.mode = 9 || (List.range c.span).any (fun k => isShaded s t (i + k)) then
    ({ value := none, flags := ((s.tile t).input i).faults }, s)
  else if snap.spoiled then faultedDwell t i 4 s
  else if resistive && d.compliance then faultedDwell t i 1 s
  else if c.mode = 2 && 26 / 1000 < rabs x then
    faultedDwell t i 4 (s.modInput t i (fun y => { y with shuntOpen := true }))
  else if 3 ≤ c.mode && c.mode ≤ 5 && x < (rangeSpan c.mode c.range).2 / 100 then faultedDwell t i 2 s
  else if c.mode = 7 then
    let need := [1, 2, 4, 8][c.filter]?.getD 1
    let s := s.modInput t i (fun y => contactStep y x need)
    goodDwell t i (some (fofInt (bit ((s.tile t).input i).contact))) false s
  else
    let r := convertValue open' c snap.table x
    let supervised := c.mode == 2 && c.range == 1 && (decide (x < 36 / 10000) || decide (21 / 1000 < x))
    goodDwell t i (r.1.map fof) (r.2 || supervised) s

/-- A dwell of `ns` on the inputs `l`, the first of which names it, begins: shunt switches are tried again, the record and
table in force are taken, and its excitation starts (R79, R87, R98). -/
def beginDwell (t : Nat) (l : List Nat) (ns : Nat) (s : State) : Snap × State :=
  let s := l.foldl (fun s i => s.modInput t i (fun x => { x with shuntOpen := false })) s
  let x := s.tile t
  let c := (x.input (l.headD 0)).cfg
  ({ cfg := c, exc := c.exc ns, table := vget x.tables c.table none
     spoiled := l.any (fun m => (x.input m).switchOpen) }, s)

/-! ## Circular buffers (R115) -/

/-- Write an entry at a ring's place and its TOTAL to STATE_ADDR; the full ring loses its oldest entry. -/
def Ring.append (r : Ring) (entry : List Byte) (s : State) : Ring × State :=
  let slot := r.total % 2 ^ r.log2Size
  let total := r.total + 1
  let s := s.writeMem r.space (r.base.toNat + entry.length * slot) entry
  ({ r with total := total }, s.writeMem r.space r.stateAddr.toNat (leBytes 8 total))

/-- TOTAL stands at a multiple of NOTIFY. -/
def Ring.due (r : Ring) : Bool := r.notify != 0 && r.total % r.notify == 0

/-- Append to circular buffer `b` of tile `t`; DMA_NOTIFY at each multiple of NOTIFY. -/
def Dma.append (t b : Nat) (entry : List Byte) (s : State) : State :=
  match vget (s.tile t).bufs b none with
  | some r =>
    let p := Ring.append r entry s
    let s := p.2.modTile t (fun x => { x with bufs := vset x.bufs b (some p.1) })
    if p.1.due then Ev.raise (tileSource t 4) 0 (packLe [(1, b), (8, p.1.total)]) s else s
  | none => s

/-! ## Logical channels (R110, R114) -/

/-- Channel `c` of a tile. -/
def Tile.chan (t : Tile) (c : Nat) : Lch := vget t.lch c {}

/-- Change channel `c` of tile `t`. -/
def State.modChan (s : State) (t c : Nat) (f : Lch → Lch) : State :=
  s.modTile t (fun x => { x with lch := vmod x.lch c f })

/-- The next window state (Table 5.4): 0 UNARMED, 1 INSIDE, 2 BELOW, 3 ABOVE. -/
def windowNext (l : Lch) (v : Rat) : Nat :=
  if v < fnum l.lo then 2
  else if fnum l.hi < v then 3
  else if l.win = 2 then (if fnum l.lo + fnum l.hyst ≤ v then 1 else 2)
  else if l.win = 3 then (if v ≤ fnum l.hi - fnum l.hyst then 1 else 3)
  else 1

/-- Judge a channel's window; a transition below or above sets its pending bit and raises WINDOW, whose ARG is the
channel of the first transition since acknowledgement (R114). -/
def Lch.window (t c : Nat) (s : State) : State :=
  let l := (s.tile t).chan c
  let n := windowNext l (fnum l.value)
  let s := s.modChan t c (fun l => { l with win := n })
  if n == l.win || n < 2 || l.winPending then s
  else
    let st := vget s.ev.stat (tileSource t 1) {}
    let first := if st.pending then st.arg.toNat else c
    Ev.raise (tileSource t 1) 0 (packLe [(2, first)]) (s.modChan t c (fun l => { l with winPending := true }))

/-- The 16 bytes of a FORMAT 0 entry (Table 5.5). -/
def lchEntry (c : Nat) (l : Lch) : List Byte :=
  leBytes 6 l.stamp.toNat ++ leBytes 1 c ++ [l.flags] ++ leBytes 4 l.value.toNat ++ leBytes 4 l.seqno.toNat

/-- Each DECIM-th result of a bound channel goes to its buffer (R115). -/
def Lch.buffer (t c : Nat) (s : State) : State :=
  let l := (s.tile t).chan c
  if !l.dmaEn then s
  else if l.decim ≤ l.decimCount + 1 then
    Dma.append t l.buf (lchEntry c l) (s.modChan t c (fun l => { l with decimCount := 0 }))
  else s.modChan t c (fun l => { l with decimCount := l.decimCount + 1 })

/-- Write a channel (R110): a faulted result, or one without a value, keeps VALUE. The value goes to the loop stores that
bind it, the points bound to it, the window and the buffer. -/
def Lch.write (t c : Nat) (v : Option F32) (flags : Nat) (seqno : Option Nat) (s : State) : State :=
  let faulted := flags % 8 != 0
  let good := if faulted then none else v
  let fl := flags + 16 * bit (!s.tb.valid)
  let s := s.modChan t c (fun l => { l with
    value := good.getD l.value
    flags := BitVec.ofNat 8 fl
    stamp := s.stamp48
    seqno := (seqno.map (BitVec.ofNat 32)).getD l.seqno
    writes := l.writes + 1 })
  let l := (s.tile t).chan c
  let s := (importers s t (bindsChan t c)).foldl (fun s d => Cross.push t d (.chan c l.value l.flags) s) s
  let s := Points.deliver (fun src => srcIs 1 t src && srcField src 2 2 == c) (good.map SrcVal.fp)
    { fault := faulted, unreliable := flags.testBit 3 } s
  let s := if l.winEn && good.isSome then Lch.window t c s else s
  Lch.buffer t c s

end Sys2Proof.Machine
end

