-- ==== Sys2Proof/Machine/BusRun.lean ====
section
/-!
DEFINITION. Machine/BusRun.lean: fault confinement (R222, R223), the receive path of a frame (R221, R225 to R227, R231 to
R234), dusk and dawn (R235), and a controller's stop and return (R236).
-/

namespace Sys2Proof.Machine

/-! ## BUS_STAT (Table 10.11) -/

/-- The code of FC. -/
def Fc.code : Fc → Nat
  | .off => 0
  | .active => 1
  | .passive => 2
  | .busOff => 3
  | .recovering => 4

/-- The code of DUSK. -/
def Dusk.code : Dusk → Nat
  | .awake => 0
  | .proposing => 1
  | .agreed => 2
  | .hold => 3
  | .asleep => 4

/-- Pending BUS_SEND messages. -/
def Bus.hostPending (b : Bus) : Nat := (b.tx.filter (fun f => f.key.isSome)).length

/-- BUS_STAT. -/
def Bus.stat (b : Bus) : Nat :=
  b.fc.code + bit b.alone * 2 ^ 3 + bit b.retired * 2 ^ 4 + bit b.rxOverrun * 2 ^ 5 + bit b.tdcFail * 2 ^ 6
    + b.dusk.code * 2 ^ 7 + b.hostPending * 2 ^ 10 + min 255 b.tecCnt * 2 ^ 16 + min 255 b.recCnt * 2 ^ 24

/-! ## Completing frames -/

/-- The final reply of a BUS_SEND: OUTCOME, attempts and the stamp of the end of frame. -/
def Bus.endSend (f : TxBuf) (st : Byte) (outcome : Nat) (s : State) : State :=
  Cmd.finalOpt f.key st (result [(5, 1, outcome), (6, 1, min 255 f.attempts), (7, 6, s.stamp48.toNat)]) s

/-- The final reply of a BUS_SEND that was not sent. -/
def Bus.failSend (f : TxBuf) (st : Byte) (s : State) : State := Cmd.finalOpt f.key st 0 s

/-- Every pending frame completes, each BUS_SEND with a status. -/
def Bus.flush (k : Nat) (st : Byte) (s : State) : State :=
  let l := (s.bus k).tx
  l.foldl (fun s f => Bus.failSend f st s) (s.modBus k (fun b => { b with tx := [], ownWait := [] }.pin))

/-- A waiting BUS_RECOVER ends without recovery. -/
def Bus.endRecover (k : Nat) (st : Byte) (s : State) : State :=
  let key := (s.bus k).recover
  Cmd.finalOpt key st 0 (s.modBus k (fun b => { b with recover := none, fc := if b.fc == .recovering then .busOff else b.fc }))

/-- A waiting BUS_DUSK completes with an OUTCOME. -/
def Bus.endDusk (k : Nat) (outcome : Nat) (s : State) : State :=
  let key := (s.bus k).duskKey
  Cmd.finalOpt key St.ok (result [(5, 1, outcome)]) (s.modBus k (fun b => { b with duskKey := none }))

/-! ## Fault confinement -/

/-- Judge TEC and REC: bus-off when TEC exceeds 255, error-passive when either exceeds 127 (R222). -/
def Bus.confine (k : Nat) (s : State) : State :=
  let b := s.bus k
  if b.fc != .active && b.fc != .passive then s
  else if 255 < b.tecCnt then
    let s := Bus.flush k St.busOff (s.modBus k (fun b => { b with fc := .busOff, tecCnt := 255, reasm := [] }))
    Bus.raise k 3 0 s
  else
    let passive := decide (127 < b.tecCnt) || decide (127 < b.recCnt)
    let s := s.modBus k (fun b => { b with fc := if passive then .passive else .active })
    if passive && b.fc == .active then Bus.raise k 2 0 s else s

/-- Leave ALONE at an acknowledged frame (R223). -/
def Bus.heard (k : Nat) (s : State) : State :=
  if (s.bus k).alone then Bus.raise k 1 0 (s.modBus k (fun b => { b with alone := false })) else s

/-- A frame received without error: counted, REC falls as ISO 11898-1 lays down (from above 127 to a free value from 119
to 127), and ALONE ends. -/
def Bus.received (k : Nat) (s : State) : State :=
  let b := s.bus k
  let high := decide (127 < b.recCnt)
  let n := if high then 119 + Config.nat s.free % 9 else b.recCnt - 1
  let s := if high then s.drawn else s
  Bus.heard k (Bus.confine k (s.modBus k (fun b => { b with rxok := b.rxok + 1, recCnt := n })))

/-- An error during reception: REC rises by 1, or by 8 where a dominant bit follows the error flag, which the happening
does not tell: a free choice. -/
def Bus.receiveError (k : Nat) (s : State) : State :=
  let n := if Config.bool s.free then 8 else 1
  Bus.confine k (s.drawn.modBus k (fun b => { b with recCnt := b.recCnt + n }))

/-! ## Transmission (R220) -/

/-- The place of an identifier in arbitration: base identifiers align with the top bits of extended ones and win a tie. -/
def TxBuf.rank (f : TxBuf) : Nat := if f.ide then 2 * f.id.toNat + 1 else 2 * (f.id.toNat * 2 ^ 18)

/-- The frame that comes first in arbitration; of equal identifiers the one pending longer. -/
def firstFrame : List TxBuf → Option TxBuf
  | [] => none
  | f :: r =>
    match firstFrame r with
    | some g => if g.rank < f.rank then some g else some f
    | none => some f

/-- Change the first frame of a list that equals one. -/
def modFirst (f : TxBuf) (g : TxBuf → TxBuf) : List TxBuf → List TxBuf
  | [] => []
  | x :: r => if x == f then g x :: r else x :: modFirst f g r

/-- Remove the first frame of a list that equals one. -/
def removeFrame (f : TxBuf) : List TxBuf → List TxBuf
  | [] => []
  | x :: r => if x == f then r else x :: removeFrame f r

/-- The frame on the bus. -/
def Bus.flying (b : Bus) : Option TxBuf := b.tx.find? (fun f => f.onBus)

/-! ## The receive ring (R221, Table 10.3) -/

/-- One 80-byte entry. -/
def rxEntry (stamp flags id len filter : Nat) (data : List Byte) : List Byte :=
  leBytes 6 stamp ++ leBytes 2 flags ++ leBytes 4 id ++ leBytes 2 len ++ leBytes 1 filter ++ [0]
    ++ (data ++ List.replicate (64 - data.length) 0)

/-- Append one entry, with RX_NOTIFY at each multiple of NOTIFY. -/
def Bus.ringPut (k : Nat) (entry : List Byte) (s : State) : State :=
  match (s.bus k).ring with
  | some r =>
    let p := Ring.append r entry s
    let s := p.2.modBus k (fun b => { b with ring := some p.1 })
    if p.1.due then Bus.raise k 16 0 s else s
  | none => s

/-- The entries whose writes had stalled go to the ring. -/
def Bus.drain (k : Nat) (s : State) : State :=
  (s.bus k).rx.foldl (fun s e => Bus.ringPut k e s) (s.modBus k (fun b => { b with rx := [] }))

/-- An entry goes to the ring, or stays in its receive buffer while ring writes stall. -/
def Bus.rxPut (k : Nat) (stalled : Bool) (entry : List Byte) (s : State) : State :=
  if stalled then s.modBus k (fun b => { b with rx := b.rx ++ [entry] }) else Bus.ringPut k entry s

/-- Deliver a frame or message to the receive ring; without a ring it is discarded and counted. -/
def Bus.deliver (k : Nat) (f : BusFrame) (reassembled : Bool) (filter : Nat) (data : List Byte) (s : State) : State :=
  if (s.bus k).ring.isNone then Bus.dropFrame k s
  else
    let stamp := s.stamp48.toNat
    let flags := bit f.ide + bit f.fdf * 2 + bit f.brs * 4 + bit f.esi * 8 + bit (!s.tb.valid) * 16 + bit reassembled * 32
    let s := Bus.rxPut k f.stalled (rxEntry stamp flags f.id.toNat data.length filter (data.take 64)) s
    (chunks 64 16 (data.drop 64)).foldl (fun s d => Bus.rxPut k f.stalled (rxEntry stamp 0 0 d.length filter d) s) s

/-- The lowest filter that accepts a frame. -/
def Bus.filterFor (b : Bus) (f : BusFrame) : Option Nat :=
  (List.range 16).find? (fun i =>
    let x := vget b.filters i {}
    x.enable && x.ide == f.ide && ((BitVec.ofNat 32 f.id.toNat ^^^ x.mtch) &&& x.mask) == 0)

/-- Offer a frame to the host filters. -/
def Bus.offer (k : Nat) (f : BusFrame) (s : State) : State :=
  match (s.bus k).filterFor f with
  | some i => Bus.deliver k f false i f.data s
  | none => s

/-! ## Profile frames (Table 10.4) -/

/-- PRIORITY. -/
def idPrio (id : BitVec 29) : Nat := field id.toNat 28 26
/-- CLASS. -/
def idClass (id : BitVec 29) : Nat := field id.toNat 25 21
/-- DEST. -/
def idDest (id : BitVec 29) : Nat := field id.toNat 20 13
/-- SOURCE. -/
def idSource (id : BitVec 29) : Nat := field id.toNat 12 7
/-- EPOCH. -/
def idEpoch (id : BitVec 29) : Nat := field id.toNat 6 5
/-- LAST. -/
def idLast (id : BitVec 29) : Bool := id.getLsbD 4
/-- INDEX. -/
def idIndex (id : BitVec 29) : Nat := field id.toNat 3 0

/-- Classes that the profile engine or the point engine handles (Table 10.5). -/
def engineClass (c : Nat) : Bool := decide (c ≤ 8) || c == 10

/-- Classes that go to the host. -/
def hostClass (c : Nat) : Bool := c == 9 || (decide (11 ≤ c) && decide (c ≤ 13)) || decide (28 ≤ c)

/-- PRIORITY and CLASS agree with Table 10.5. -/
def classOk (id : BitVec 29) : Bool :=
  if 28 ≤ idClass id then idPrio id != 0 else classPriority (idClass id) == some (idPrio id)

/-- DEST is OWN_NODE, every node or one of the group numbers (R227). -/
def Bus.addressed (b : Bus) (dest : Nat) : Bool :=
  dest == b.ownNode || dest == 0xFF || (decide (0x40 ≤ dest) && b.groups.toList.any (fun g => g.toNat == dest))

/-- Node entry `n`. -/
def Bus.node (b : Bus) (n : Nat) : Node := vget b.nodes n {}

/-- Change node entry `n`. -/
def State.modNode (s : State) (k n : Nat) (f : Node → Node) : State :=
  s.modBus k (fun b => { b with nodes := vmod b.nodes n f })

/-- Points whose SOURCE is a node of controller `k`. -/
def nodePoint (k n : Nat) (src : BitVec 128) : Bool := srcField src 0 1 == 4 && srcField src 1 1 == k && srcField src 2 1 == n

/-- Set or clear FAULT on every point bound to a node. -/
def Node.fault (k n : Nat) (b : Bool) (s : State) : State := Points.flag (nodePoint k n) (fun w => putBit w stFault b) s

/-- Set or clear UNRELIABLE on every point bound to a node. -/
def Node.unreliable (k n : Nat) (b : Bool) (s : State) : State :=
  Points.flag (nodePoint k n) (fun w => putBit w stUnreliable b) s

/-! ## Afterimages (R231 to R233) -/

/-- The serial in bytes `off` to `off + 5`. -/
def serialAt (data : List Byte) (off : Nat) : BitVec 48 := BitVec.ofNat 48 (ofLe ((data.drop off).take 6))

/-- A frame of a registered source is from an afterimage. -/
def Node.afterimage (e : Node) (f : BusFrame) : Bool :=
  idEpoch f.id != e.epoch.toNat || (idClass f.id == 0 && serialAt f.data 0 != e.serial)

/-- A serial that RETIRE may not name: the chip's own, or the current one of a registered node. -/
def Bus.liveSerial (b : Bus) (v : BitVec 48) : Bool :=
  v == Config.serial || b.nodes.toList.any (fun e => e.state != .free && e.serial == v)

/-- RETIRE by itself, at the first afterimage beacon and then at most once every 10 s. -/
def Bus.autoRetire (k n : Nat) (v : BitVec 48) (s : State) : State :=
  let b := s.bus k
  let due := match (b.node n).retiredAt with
    | some t => decide (t + 10000000000 ≤ s.tb.elapsed)
    | none => true
  if b.retireAuto && due && !b.liveSerial v then
    Bus.send k 7 0xFF none (leBytes 6 v.toNat) (s.modNode k n (fun e => { e with retiredAt := some s.tb.elapsed }))
  else s

/-- A frame from an afterimage: counted, and for a beacon what R232 and R233 add. -/
def Bus.afterimage (k n : Nat) (f : BusFrame) (s : State) : State :=
  let s := s.modNode k n (fun e => { e with afterimages := e.afterimages + 1 })
  let s := Bus.raise k 7 n s
  if idClass f.id != 0 then s
  else
    let s := if ((s.bus k).node n).version = 1 then
        Node.unreliable k n true (s.modNode k n (fun e => { e with v1Seen := some s.tb.mono }))
      else s
    Bus.autoRetire k n (serialAt f.data 0) s

/-! ## Dusk and dawn (R235) -/

/-- The dusk state changes, and its time begins. -/
def Bus.toDusk (k : Nat) (d : Dusk) (s : State) : State := s.modBus k (fun b => { b with dusk := d, duskAt := s.tb.elapsed })

/-- Every ALIVE node has agreed. -/
def Bus.allAgreed (b : Bus) : Bool := (List.range 64).all (fun n => (b.node n).state != .alive || b.agreed.getLsbD n)

/-- DUSK_COMMIT once every ALIVE node has agreed. -/
def Bus.tryCommit (k : Nat) (s : State) : State :=
  let b := s.bus k
  if b.dusk == .proposing && b.allAgreed then
    Bus.toDusk k .hold (Bus.send k 4 0xFF none (leBytes 2 b.proposal.toNat) s)
  else s

/-- A proposal ends without agreement. -/
def Bus.refused (k outcome : Nat) (s : State) : State :=
  Bus.endDusk k outcome (Bus.raise k 11 0 (Bus.toDusk k .awake s))

/-- Leave HOLD by DAWN: relayed or by a local request. -/
def Bus.leaveHold (k cause : Nat) (s : State) : State :=
  let s := Bus.send k 5 0xFF none (leBytes 1 cause) (Bus.toDusk k .awake s)
  Bus.endDusk k 3 (Bus.raise k 12 0 s)

/-- The controller wakes from ASLEEP: BUS_STB low, and its own beacons begin anew. -/
def Bus.awake (k : Nat) (s : State) : State :=
  Bus.toDusk k .awake (s.modBus k (fun b => { b with stb := false, beaconAt := s.tb.elapsed + b.beaconNs }))

/-- A local wake request. -/
def Bus.localWake (k : Nat) (s : State) : State :=
  match (s.bus k).dusk with
  | .hold => Bus.leaveHold k 0 s
  | .asleep => (Bus.awake k s).modBus k (fun b => { b with dawnDue := true }.pin)
  | .awake => s
  | .proposing => s
  | .agreed => s

/-! ## What the engine does with a message -/

/-- BEACON of a registered node with its EPOCH and SERIAL, or of a FREE one to register (Table 10.6); a version-1 beacon
with an EPOCH is discarded (R232). -/
def Bus.onBeacon (k n : Nat) (f : BusFrame) (s : State) : State :=
  let e := (s.bus k).node n
  let alive (s : State) : State := Bus.raise k 6 n s
  match e.state with
  | .free =>
    if field (((f.data)[6]?.getD 0).toNat) 7 4 = 1 && idEpoch f.id != 0 then Bus.dropFrame k s
    else alive (s.modNode k n (fun _ => {
      state := .alive, serial := serialAt f.data 0, epoch := BitVec.ofNat 2 (idEpoch f.id)
      version := field (((f.data)[6]?.getD 0).toNat) 7 4, lastBeacon := s.tb.mono }))
  | .alive => s.modNode k n (fun e => { e with lastBeacon := s.tb.mono })
  | .waiting => Node.fault k n false (alive (s.modNode k n (fun e => { e with state := .alive, lastBeacon := s.tb.mono })))
  | .dead => Node.fault k n false (alive (s.modNode k n (fun e => { e with state := .alive, lastBeacon := s.tb.mono })))

/-- DUSK_PROPOSE: answered in AWAKE; against a proposal of the device's own, the lower node's stands (Table 10.9). -/
def Bus.onPropose (k n proposal : Nat) (s : State) : State :=
  let b := s.bus k
  let answer (s : State) : State :=
    let ok := b.duskOk && b.hostPending == 0
    let s := Bus.send k (if ok then 2 else 3) n none (leBytes 2 proposal) s
    if ok && (s.bus k).sending then
      Bus.toDusk k .agreed (s.modBus k (fun b => { b with proposal := BitVec.ofNat 16 proposal }))
    else s
  match b.dusk with
  | .awake => answer s
  | .proposing =>
    if n < b.ownNode then answer (Bus.refused k 1 (Bus.dropOwn k (fun f => field f.id.toNat 25 21 == 1) s)) else s
  | .agreed => s
  | .hold => s
  | .asleep => s

/-- ADOPT (R234); an entry of VERSION 1 keeps EPOCH 0 (R232). -/
def Bus.onAdopt (k : Nat) (data : List Byte) (s : State) : State :=
  let node := ((data)[0]?.getD 0).toNat % 64
  let epoch := ((data)[1]?.getD 0).toNat % 4
  if serialAt data 2 == Config.serial then
    (if (s.bus k).mode = 1 then
      Bus.beacon k (s.modBus k (fun b => { b with
        cfg0 := BitVec.ofNat 32 (setField (setField b.cfg0.toNat 15 10 node) 9 8 epoch) }))
     else s)
  else
    let e := (s.bus k).node node
    if e.state != .free && e.serial == serialAt data 8 then
      s.modNode k node (fun e => { e with
        serial := serialAt data 2, epoch := if e.version = 1 then e.epoch else BitVec.ofNat 2 epoch })
    else s

/-- The controller enters RETIRED (R233). -/
def Bus.retire (k : Nat) (s : State) : State :=
  let s := Bus.endRecover k St.busOff (s.modBus k (fun b => { b with retired := true }))
  Bus.raise k 8 0 (Bus.flush k St.noAck s)

/-- One record of a POINT_REPORT (R228). -/
def Bus.record (k n : Nat) (rec : List Byte) (s : State) : State :=
  let object := ofLe (rec.take 2)
  let vtype := ((rec)[2]?.getD 0).toNat
  let value := BitVec.ofNat 32 (ofLe (rec.drop 3))
  let pick (src : BitVec 128) : Bool := nodePoint k n src && srcField src 3 2 == object
  if 2 ≤ vtype % 4 || (boundTo s pick).isEmpty then Bus.dropFrame k s
  else
    Points.deliver pick (some (if vtype % 4 = 0 then .fp value else .uns value))
      { fault := decide (128 ≤ vtype), unreliable := (((s.bus k).node n).v1Seen).isSome } s

/-- POINT_REPORT: its whole records, in order. -/
def Bus.onReport (k n : Nat) (data : List Byte) (s : State) : State :=
  ((chunks 7 data.length data).filter (fun r => r.length == 7)).foldl (fun s r => Bus.record k n r s) s

/-- POINT_WRITE_ACK: the write that waits for it ends; a refused one sets LINK_FAIL (R229). -/
def Bus.onAck (k n : Nat) (data : List Byte) (s : State) : State :=
  let object := ofLe (data.take 2)
  let seq := (data)[2]?.getD 0
  match (s.bus k).links.find? (fun e => e.2.node == n && e.2.object.toNat == object && e.2.seq == seq && e.2.wait.isSome) with
  | some e =>
    let s := s.modBus k (fun b => { b with links := amod b.links e.1 (fun l => { l with wait := none }) })
    if (data)[3]?.getD 0 = 0 then s else Bus.raise k 15 n s
  | none => s

/-- The profile engine consumes a message (R227). -/
def Bus.engine (k : Nat) (f : BusFrame) (data : List Byte) (s : State) : State :=
  let n := idSource f.id
  let b := s.bus k
  let prop := ofLe (data.take 2)
  match idClass f.id with
  | 0 => Bus.onBeacon k n f s
  | 1 => Bus.onPropose k n prop s
  | 2 =>
    if b.dusk == .proposing && b.proposal.toNat == prop then
      Bus.tryCommit k (s.modBus k (fun b => { b with agreed := b.agreed ||| (1#64 <<< n) }))
    else s
  | 3 => if b.dusk == .proposing && b.proposal.toNat == prop then Bus.refused k 1 s else s
  | 4 => if b.dusk == .agreed && b.proposal.toNat == prop then Bus.toDusk k .hold s else s
  | 5 => if b.dusk == .hold then Bus.leaveHold k 1 s else s
  | 6 => Bus.onAdopt k data s
  | 7 => if serialAt data 0 == Config.serial then Bus.retire k s else s
  | 8 => Bus.onReport k n data s
  | 10 => Bus.onAck k n data s
  | _ => s

/-! ## Reassembly (R226) -/

/-- A message in reassembly is put aside. -/
def Bus.setReasm (k : Nat) (head : BitVec 24) (r : List Reasm) (s : State) : State :=
  s.modBus k (fun b => { b with reasm := b.reasm.filter (fun r => r.head != head) ++ r })

/-- Discard a message in reassembly: counted once, however many of its fragments follow. -/
def Bus.loseMessage (k : Nat) (head : BitVec 24) (s : State) : State :=
  Bus.raise k 14 0 (Bus.dropFrame k
    (Bus.setReasm k head [{ head := head, bytes := [], next := 0, lastAt := s.tb.elapsed, lost := true }] s))

/-- A fragment that is not in order: the message is discarded, unless it is already, and LAST ends it. -/
def Bus.strayFragment (k : Nat) (head : BitVec 24) (lost last : Bool) (s : State) : State :=
  let s := if lost then Bus.setReasm k head [{ head := head, bytes := [], next := 0, lastAt := s.tb.elapsed, lost := true }] s
    else Bus.loseMessage k head s
  if last then Bus.setReasm k head [] s else s

/-- Put a fragment to its message: the message where the frame completes it. -/
def Bus.assemble (k : Nat) (f : BusFrame) (s : State) : Option (List Byte) × State :=
  let head := BitVec.ofNat 24 (f.id.toNat / 32)
  let i := idIndex f.id
  let keep (data : List Byte) (s : State) : Option (List Byte) × State :=
    if idLast f.id then (some data, Bus.setReasm k head [] s)
    else (none, Bus.setReasm k head [{ head := head, bytes := data, next := i + 1, lastAt := s.tb.elapsed }] s)
  match (s.bus k).reasm.find? (fun r => r.head == head) with
  | some r =>
    let inTime := decide (s.tb.elapsed ≤ r.lastAt + 100000000)
    if !r.lost && r.next = i && inTime then keep (r.bytes ++ f.data) s
    else if i = 0 then keep f.data (if r.lost then s else Bus.loseMessage k head s)
    else (none, Bus.strayFragment k head (r.lost && inTime) (idLast f.id) s)
  | none => if i = 0 then keep f.data s else (none, Bus.strayFragment k head false (idLast f.id) s)

/-- A profile frame that passed the checks of its source and class. -/
def Bus.profileFrame (k : Nat) (f : BusFrame) (s : State) : State :=
  let b := s.bus k
  let mine := b.addressed (idDest f.id)
  let c := idClass f.id
  let copy (s : State) : State := if b.snoop then Bus.deliver k f false 0xFF f.data s else s
  if mine then
    let r := Bus.assemble k f s
    match r.1 with
    | some data =>
      let multi := idIndex f.id != 0
      if hostClass c then
        let s := Bus.deliver k f multi 0xFF data r.2
        if multi then copy s else s
      else Bus.engine k f data (copy r.2)
    | none => copy r.2
  else copy (Bus.offer k f s)

/-- A profile frame: the check of its source, then of its class (R226, R231, Table 10.6). -/
def Bus.checkFrame (k : Nat) (f : BusFrame) (s : State) : State :=
  let n := idSource f.id
  let b := s.bus k
  let e := b.node n
  if e.state == .free && !b.autoRegister then Bus.dropFrame k s
  else if e.state != .free && e.afterimage f then Bus.afterimage k n f s
  else if !classOk f.id then Bus.dropFrame k s
  else Bus.profileFrame k f s

/-! ## The stop for GLOW (R236) -/

/-- The bus is idle and the controller stopped: pending frames complete with NO_ACK, BUS_STB goes high. -/
def Bus.halt (k : Nat) (s : State) : State := Bus.flush k St.noAck (s.modBus k (fun b => { b with stb := true }))

/-- Stop for GLOW at the next bus idle: a frame on the bus, the device's own or another node's, ends first. Whether another
node's frame is on the bus at that instant is open. -/
def Bus.stop (k : Nat) (s : State) : State :=
  let b := s.bus k
  let foreign := b.receiving && b.flying.isNone && (b.foreign || Config.bool s.free)
  let s := s.drawn.modBus k (fun b => { b with stopped := true, foreign := foreign })
  if b.flying.isSome || foreign then s else Bus.halt k s

/-- Another node's frame has ended, and the bus is idle. -/
def Bus.foreignEnd (k : Nat) (s : State) : State :=
  if (s.bus k).foreign then
    whenever (s.bus k).stopped (Bus.halt k) (s.modBus k (fun b => { b with foreign := false }))
  else s

/-! ## Reception -/

/-- A frame received from the bus: FD frames with FD_EN clear bring a protocol exception only, remote frames are discarded
(R218), and with every receive buffer occupied the frame overruns (R221). A recovering
controller still hears RETIRE (Table 10.9). -/
def Bus.hear (k : Nat) (f : BusFrame) (s : State) : State :=
  let b := s.bus k
  let listens := s.tileOn (k / 16) && (b.receiving || (b.fc == .recovering && f.ide && idClass f.id == 7))
  if !listens || (f.fdf && !b.fdEn) then s
  else
    let s := Bus.received k (if f.stalled then s else Bus.drain k s)
    if 128 ≤ (s.bus k).rx.length then
      Bus.raise k 9 0 (Bus.dropFrame k (s.modBus k (fun b => { b with rxOverrun := true })))
    else if f.rtr then Bus.dropFrame k s
    else if f.ide then Bus.checkFrame k f s else Bus.offer k f s

/-- A frame of another node ends on the bus. -/
def Bus.receive (k : Nat) (f : BusFrame) (s : State) : State := Bus.foreignEnd k (Bus.hear k f s)

/-! ## Power (R236, R14) -/

/-- Return from GLOW in the state held before, HOLD as ASLEEP; node deadlines restart. -/
def Bus.resume (k : Nat) (s : State) : State :=
  let b := s.bus k
  if !b.stopped then s
  else
    let sleeps := b.dusk == .hold || b.dusk == .asleep
    let s := s.modBus k (fun b => { b with
      stopped := false
      stb := b.mode == 0 || sleeps
      dusk := if b.dusk == .hold then .asleep else b.dusk
      beaconAt := s.tb.elapsed + b.beaconNs
      nodes := b.nodes.map (fun e => { e with lastBeacon := s.tb.mono }) })
    if b.dusk == .hold then Bus.endDusk k 0 (Bus.raise k 10 0 s) else s

/-- The controllers of a tile. -/
def tileBuses (t : Nat) : List Nat := (List.range 16).map (fun i => 16 * t + i)

/-- A tile is gated: everything that waits at its controllers completes with TILE_OFF (Table 10.9). -/
def Bus.gate (k : Nat) (s : State) : State :=
  let s := Bus.endRecover k St.tileOff (Bus.flush k St.tileOff s)
  let key := (s.bus k).duskKey
  Cmd.finalOpt key St.tileOff 0 (s.modBus k (fun b => { b with duskKey := none, stb := true, dawnDue := false, txd := .recessive }))

end Sys2Proof.Machine
end

