-- ==== Sys2Proof/Machine/Seq.lean ====
section
/-!
DEFINITION. Machine/Seq.lean: converter sequences: entries (Table 5.2), images (R104 to R107), cycles (R108, R109),
pre-emption (R112, R113), and what frees a converter again.
-/

namespace Sys2Proof.Machine

/-! ## Entries (Table 5.2) -/

/-- LCH. -/
def entLch (e : BitVec 64) : Nat := field e.toNat 63 56
/-- INPUT. -/
def entInput (e : BitVec 64) : Nat := field e.toNat 55 50
/-- KIND: 0 MEASURE, 1 METER, 2 PAUSE. -/
def entKind (e : BitVec 64) : Nat := field e.toNat 49 48
/-- DWELL, in units of 10 us. -/
def entDwell (e : BitVec 64) : Nat := field e.toNat 47 37
/-- DWELL in ns. -/
def entNs (e : BitVec 64) : Nat := entDwell e * 10000
/-- EVERY. -/
def entEvery (e : BitVec 64) : Nat := field e.toNat 36 34
/-- SKIP. -/
def entSkip (e : BitVec 64) : Bool := e.getLsbD 33
/-- LAST. -/
def entLast (e : BitVec 64) : Bool := e.getLsbD 32
/-- PAIR. -/
def entPair (e : BitVec 64) : Nat := field e.toNat 31 29

/-- The gap that follows a dwell, in ns (R108). -/
def gapNs : Nat := 2000

/-- The entries of a cycle: up to the first LAST, or all (R104). -/
def upToLast : List (BitVec 64) → List (BitVec 64)
  | [] => []
  | e :: r => if entLast e then [e] else e :: upToLast r

/-- The entries of an image's cycle. -/
def Image.cycleEntries (m : Image) : List (BitVec 64) := upToLast m.entries.toList

/-- The nominal length of a cycle in ns (R108). -/
def nominalNs (l : List (BitVec 64)) : Nat :=
  (l.filter (fun e => !entSkip e)).foldl (fun a e => a + entNs e + gapNs) 0

/-- CRC-32C over an image and its period (R107). -/
def imageCrc (m : Image) : Word :=
  crc32c (m.entries.toList.flatMap (fun e => leBytes 8 e.toNat) ++ leBytes 4 m.periodMs)

/-! ## Converters -/

/-- Converter `c` of tile `t`. -/
def State.conv (s : State) (t c : Nat) : Conv := vget (s.tile t).convs c {}

/-- Change converter `c` of tile `t`. -/
def State.modConv (s : State) (t c : Nat) (f : Conv → Conv) : State :=
  s.modTile t (fun x => { x with convs := vmod x.convs c f })

/-- Items that hold converter `c` while they are calibrated. -/
def itemsOf (t c : Nat) : List Nat := [calKey c t, calKey 2 t]

/-- A calibration run has begun on converter `c`. -/
def calBegun (s : State) (t c : Nat) : Bool := (itemsOf t c).any (fun k => (s.calItem k).since.isSome)

/-- Converter `c` is calibrating, begun or not (CONV_STAT.CALIBRATING). -/
def calibrating (s : State) (t c : Nat) : Bool := (itemsOf t c).any (calRunning s)

/-- CONV_STAT (Table 5.9). -/
def convStat (s : State) (t c : Nat) : Nat :=
  let x := s.tile t
  let v := s.conv t c
  bit v.running + bit v.waiting.isSome * 2 ^ 1 + bit (v.running && v.suspended) * 2 ^ 2 + bit x.refOn * 2 ^ 3
    + bit x.refReady * 2 ^ 4 + bit (calibrating s t c) * 2 ^ 5 + bit v.calibrated * 2 ^ 6 + bit x.ilvCal * 2 ^ 7

/-- The front end has no power for anything but METER entries (Table 15.4). -/
def inGlow (s : State) : Bool := glowing s

/-- An entry runs in cycle `n` (SKIP and EVERY of R104); in GLOW converter B keeps only its METER entries. -/
def entRuns (glow : Bool) (n : Nat) (e : BitVec 64) : Bool :=
  !entSkip e && n % 2 ^ entEvery e == 0 && (!glow || entKind e == 1)

/-- From a place on: the ns that PAUSE entries and their gaps take first, and the next entry that measures. -/
def seekEntry (glow : Bool) (n : Nat) : List (BitVec 64) → Nat → Nat → Nat × Option Nat
  | [], _, ns => (ns, none)
  | e :: r, i, ns =>
    if !entRuns glow n e then seekEntry glow n r (i + 1) ns
    else if entKind e = 2 then seekEntry glow n r (i + 1) (ns + entNs e + gapNs)
    else (ns, some i)

/-- The next entry of a converter's cycle, from its place on. -/
def nextEntry (s : State) (v : Conv) : Nat × Option Nat :=
  seekEntry (inGlow s) v.cycle (v.active.cycleEntries.drop v.pos) v.pos 0

/-- PAUSE entries run with no command at their ends: `left` ns after the first could start, the place of the first entry
that has not ended, and the entry that started last. -/
def pauseWalk (glow : Bool) (n : Nat) : List (BitVec 64) → Nat → Nat → Nat → Nat × Nat
  | [], i, _, cur => (i, cur)
  | e :: r, i, left, cur =>
    if !entRuns glow n e then pauseWalk glow n r (i + 1) left cur
    else if entKind e != 2 then (i, cur)
    else if left < entNs e then (i, i)
    else if left < entNs e + gapNs then (i + 1, i)
    else pauseWalk glow n r (i + 1) (left - (entNs e + gapNs)) i

/-- Where a converter stands in its cycle: the first entry that has not ended, and the current entry. -/
def cyclePlace (s : State) (v : Conv) : Nat × Nat :=
  let start := v.since + (if v.pos = 0 then 0 else gapNs)
  if v.inDwell then (v.entry, v.entry)
  else if !v.running || !v.inCycle || v.suspended || s.tb.elapsed < start then (v.pos, v.entry)
  else pauseWalk (inGlow s) v.cycle (v.active.cycleEntries.drop v.pos) v.pos (s.tb.elapsed - start) v.entry

/-- Inputs that an image's MEASURE entries name. -/
def imageInputs (l : List (BitVec 64)) : List Nat := (l.filter (fun e => entKind e == 0)).map entInput

/-- A running sequence visits the input (R91); in GLOW only METER entries run, which visit none. -/
def visited (s : State) (t i : Nat) : Bool :=
  !inGlow s && [0, 1].any (fun c => (s.conv t c).running && (((s.conv t c).active.cycleEntries.filter (fun e => !entSkip e &&
    entKind e == 0)).any (fun e => entInput e == i)))

/-- Waiting records of the inputs an image visits take effect (R91). -/
def applyConfigs (t : Nat) (l : List (BitVec 64)) (s : State) : State :=
  (imageInputs l).foldl (fun s i => s.modInput t i (fun x =>
    match x.wait with
    | some c => x.take c
    | none => x)) s

/-- The first multiple of a period at or after a TB time. -/
def startAt (periodMs ns : Nat) : Nat :=
  if periodMs = 0 then ns else ceilDiv ns (periodMs * 1000000) * (periodMs * 1000000)

/-- The first multiple of a period after a TB time. -/
def startAfter (periodMs ns : Nat) : Nat :=
  if periodMs = 0 then ns else (ns / (periodMs * 1000000) + 1) * (periodMs * 1000000)

/-- Make an image active (R104, R106, R107). -/
def Seq.activate (t c : Nat) (m : Image) (s : State) : State :=
  s.modConv t c (fun v => { v with
    active := m, crc := imageCrc m, waiting := none, cycle := 0, nextStart := startAt m.periodMs s.ns })

/-- The waiting image, where there is one, becomes active. -/
def Seq.swap (t c : Nat) (s : State) : State :=
  match (s.conv t c).waiting with
  | some m => Seq.activate t c m s
  | none => s

/-- Stop a sequence now; waiting records, values and image take effect (R91, R294). -/
def Seq.stop (t c : Nat) (s : State) : State :=
  if (s.conv t c).running then
    let entries := (s.conv t c).active.cycleEntries
    let s := s.modConv t c (fun v => { v with
      running := false, stopAtEnd := false, suspended := false, inCycle := false, inDwell := false, rerun := false,
      snap := none })
    Seq.swap t c (Cal.cycleEnd t c (applyConfigs t entries s))
  else s

/-- Count start instants that passed before TB `ns`: SLIP_COUNT and SEQ_SLIP (R109). -/
def Seq.slip (t c ns : Nat) (s : State) : State :=
  let v := s.conv t c
  if v.active.periodMs = 0 || ns ≤ v.nextStart then s
  else
    let next := startAfter v.active.periodMs ns
    let n := (next - v.nextStart) / (v.active.periodMs * 1000000)
    Ev.raise (tileSource t 3) 0 (packLe [(1, c), (4, n)])
      (s.modConv t c (fun v => { v with slips := min (v.slips + n) (2 ^ 32 - 1), nextStart := next }))

/-- The cycle ends: records, values and image that waited for it take effect, the next start is set, and the start
instants that a late cycle has passed are slips whatever comes next (R106, R108, R109). -/
def Seq.cycleEnd (t c : Nat) (s : State) : State :=
  let v := s.conv t c
  let s := s.modConv t c (fun v => { v with
    inCycle := false, cycle := (v.cycle + 1) % 2 ^ 32, since := s.tb.elapsed, gapTo := s.tb.elapsed + gapNs, snap := none })
  let s := Cal.cycleEnd t c (applyConfigs t v.active.cycleEntries s)
  let s := s.modConv t c (fun v => { v with nextStart :=
    if v.active.periodMs = 0 then s.ns + gapNs else v.nextStart + v.active.periodMs * 1000000 })
  let s := Seq.slip t c s.ns s
  if v.stopAtEnd || (v.waiting.isNone && v.active.cycles != 0 && decide (v.active.cycles ≤ v.cycle + 1)) then Seq.stop t c s
  else Seq.swap t c s

/-- After a dwell: the cycle ends where nothing is left of it, no PAUSE either. -/
def Seq.moveOn (t c : Nat) (s : State) : State :=
  let s := s.modConv t c (fun v => { v with
    inDwell := false, rerun := false, snap := none, pos := v.entry + 1, since := s.tb.elapsed })
  match nextEntry s (s.conv t c) with
  | (0, none) => Seq.cycleEnd t c s
  | _ => s

/-- Metering pair `p` of tile `t`. -/
def State.meter (s : State) (t p : Nat) : MeterPair := vget (vget s.mt.pairs t (Vector.replicate 8 {})) p {}

/-- The inputs that a dwell measures: those of the group that its entry names, or the two of its metering pair. -/
def dwellInputs (x : Tile) (m : Option MeterCfg) (e : BitVec 64) : List Nat :=
  match entKind e, m with
  | 1, some c => [c.vInput, c.iInput]
  | _, _ => membersOf x (entInput e)

/-- Start the dwell of entry `i`; excitation starts with it (R79). -/
def Seq.dwell (t c i : Nat) (s : State) : State :=
  let e := vget (s.conv t c).active.entries i 0
  let m := (s.meter t (entPair e)).cfg
  let b := beginDwell t (dwellInputs (s.tile t) m e) (entNs e) s
  b.2.modConv t c (fun v => { v with
    entry := i, pos := i, inDwell := true, since := b.2.tb.elapsed, snap := some b.1, meter := m })

/-- The input that converter `c` excites now in its sequence's dwell (R79, R81). -/
def excited (s : State) (t c : Nat) : Option Nat :=
  let v := s.conv t c
  match v.snap.bind (·.exc) with
  | some e =>
    if v.inDwell && e.on (s.tb.elapsed - v.since) then some (entInput (vget v.active.entries v.entry 0)) else none
  | none => none

/-- B holds an input of the entry's group for an urgent request or a test, or a switch that tripped during a test has not
reclosed, so that A waits (R113). -/
def heldByB (s : State) (t i : Nat) : Bool :=
  let x := s.tile t
  (membersOf x i).any (fun m => (x.input m).heldOpen)
    || (x.urgentOn && (match x.urgent.head? with
        | some u => groupsMeet x u.input i
        | none => false))

/-- The next entry starts after its gap and the PAUSE entries before it; a cycle with none left ends with its last PAUSE,
whose gap stands before the next cycle (R108). A re-run entry has its gap too, unless it is the cycle's first (log 33). -/
def Seq.next (t c : Nat) (s : State) : State :=
  let v := s.conv t c
  let n := nextEntry s v
  let due := v.since + (if v.pos = 0 then 0 else gapNs) + n.1
  match n.2 with
  | some i =>
    let s := untilElapsed due s
    if c = 0 && heldByB s t (entInput (vget v.active.entries i 0)) then s else Seq.dwell t c i s
  | none => Seq.cycleEnd t c (untilElapsed (due - gapNs) s)

/-- Both sequences no longer run: what they have run since the last scan is kept (R118). -/
def Scan.pause (t : Nat) (s : State) : State :=
  s.modTile t (fun x =>
    match x.bothFrom with
    | some a => { x with scanRan := x.scanRan.map (fun n => n + (s.tb.elapsed - a)), bothFrom := none }
    | none => x)

/-- Both sequences have run for 1 ms since the last scan, or there was none (R118). -/
def Tile.gapRan (x : Tile) (now : Nat) : Bool :=
  match x.scanRan with
  | some n => decide (1000000 ≤ n + (match x.bothFrom with
    | some a => now - a
    | none => 0))
  | none => true

/-- Suspend a converter: the entry in its dwell, or the PAUSE that runs, is discarded and will be re-run; entries that have
ended are not repeated (R112). -/
def Seq.suspend (t c : Nat) (s : State) : State :=
  let place := cyclePlace s (s.conv t c)
  (Scan.pause t s).modConv t c (fun v => { v with
    suspended := true, inDwell := false, snap := none, rerun := v.rerun || v.inDwell, pos := place.1, entry := place.2 })

/-- Something still holds converter `c`: a scan, also one that GLOW has put back, a calibration, urgent work for B, and for
A urgent work that a scan or GLOW has kept waiting (R111, R121). -/
def convHeld (s : State) (t c : Nat) : Bool :=
  let x := s.tile t
  x.scanning.isSome || calBegun s t c
    || (!inGlow s && ((x.scanFirst && !x.scans.isEmpty) || ((c == 1 || x.holdA) && !x.urgent.isEmpty)))

/-- Let a converter go on where nothing holds it; start instants that passed meanwhile are slips (R109, R121). -/
def Seq.release (t c : Nat) (s : State) : State :=
  if convHeld s t c || !(s.conv t c).suspended then s
  else
    let s := s.modConv t c (fun v => { v with suspended := false, since := s.tb.elapsed })
    let v := s.conv t c
    if v.running && !v.inCycle then Seq.slip t c s.ns s else s

/-- Both sequences run from now on, where nothing suspends either (R118). -/
def Scan.resume (t : Nat) (s : State) : State :=
  s.modTile t (fun x =>
    if x.bothFrom.isSome || (s.conv t 0).suspended || (s.conv t 1).suspended || convHeld s t 0 || convHeld s t 1 then x
    else { x with bothFrom := some s.tb.elapsed })

/-- Both converters. -/
def Seq.releaseBoth (t : Nat) (s : State) : State := Scan.resume t (Seq.release t 1 (Seq.release t 0 s))

/-! ## SEQ_CYCLE_START and SEQ_ENTRY_START -/

/-- The converter may run an entry now. -/
def convFree (s : State) (t c : Nat) : Bool :=
  let v := s.conv t c
  s.tileOn t && v.running && !v.suspended && !v.inDwell && (!inGlow s || (c == 1 &&
    v.active.cycleEntries.any (fun e => entKind e == 1)))

/-- Start a cycle, not before the gap of the last entry has ended; the image is checked against its CRC first (R107,
R108). -/
def Seq.start (t c : Nat) (s : State) : State :=
  let v := s.conv t c
  let s := untilElapsed v.gapTo (untilTb v.nextStart s)
  if imageCrc v.active != v.crc then
    Ev.raise (tileSource t 2) 0 (packLe [(1, c)])
      ((Seq.stop t c s).modConv t c (fun v => { v with crcFault := true, rewritten := 0 }))
  else
    let s := s.modConv t c (fun v => { v with inCycle := true, pos := 0, since := s.tb.elapsed, rerun := false })
    match nextEntry s (s.conv t c) with
    | (0, some i) =>
      if c = 0 && heldByB s t (entInput (vget v.active.entries i 0)) then s else Seq.dwell t c i s
    | (0, none) => Seq.cycleEnd t c s
    | _ => s

/-- SEQ_CYCLE_START (R107, R108). -/
def execSeqCycleStart (tile conv : Nat) (s : State) : Host.Outcome State Fault Refusal :=
  .next (whenever (convFree s tile conv && !(s.conv tile conv).inCycle) (Seq.start tile conv) s)

/-- SEQ_ENTRY_START (R108): the next entry's dwell starts after the gap, with its excitation. -/
def execSeqEntryStart (tile conv : Nat) (s : State) : Host.Outcome State Fault Refusal :=
  .next (whenever (convFree s tile conv && (s.conv tile conv).inCycle) (Seq.next tile conv) s)

/-- The entry whose dwell converter `c` is in. -/
def dwellEntry (s : State) (t c : Nat) : BitVec 64 := vget (s.conv t c).active.entries (s.conv t c).entry 0

/-- The end of a MEASURE dwell (R110). -/
def Seq.dwellEnd (t c : Nat) (d : Dwell) (s : State) : State :=
  let v := s.conv t c
  let e := dwellEntry s t c
  let s := untilElapsed (v.since + entNs e) s
  match v.snap with
  | some snap =>
    let r := formResult t c (entInput e) snap d s
    let s := Lch.write t (entLch e) r.1.value (r.1.flags + 32 * bit v.rerun) (some v.cycle) r.2
    Seq.moveOn t c s
  | none => s

/-- DWELL_END (R110, R87). -/
def execDwellEnd (tile conv : Nat) (d : Dwell) (s : State) : Host.Outcome State Fault Refusal :=
  .next (whenever (s.tileOn tile && (s.conv tile conv).inDwell && entKind (dwellEntry s tile conv) == 0)
    (Seq.dwellEnd tile conv d) s)

end Sys2Proof.Machine
end

