-- ==== Sys2Proof/Machine/CalRun.lean ====
section
/-!
DEFINITION. Machine/CalRun.lean: calibration runs (R295, R297, R102): starting and ending a run pair, and CAL_RUN_END.
-/

namespace Sys2Proof.Machine

/-- Converters that the runs of a converter item hold (Table 13.1). -/
def itemConvs (kind : Nat) : List Nat := if kind = 0 then [0] else if kind = 1 then [1] else if kind = 2 then [0, 1] else []

/-- A converter item's run belongs to the ITEM 2 command that calibrates both converters. -/
def inBoth (s : State) (t kind : Nat) : Bool :=
  match (s.tile t).calBoth with
  | some b => (s.calItem (calKey kind t)).running == some b.1
  | none => false

/-- The runs of converter item `kind` of tile `t` may begin: no scan runs, B has no urgent work, and with ITEM 2 of
ADC_CALIBRATE converter A comes first (R121, R102). -/
def runMayBegin (s : State) (t kind : Nat) : Bool :=
  let x := s.tile t
  x.scanning.isNone && (kind == 0 || x.urgent.isEmpty)
    && !(kind == 1 && inBoth s t 0 && inBoth s t 1)

/-- Begin the runs of a converter item that waits, where they may begin: its converters are suspended (R102). -/
def Cal.tryBegin (t kind : Nat) (s : State) : State :=
  let i := s.calItem (calKey kind t)
  if i.running.isSome && i.since.isNone && runMayBegin s t kind then
    (itemConvs kind).foldl (fun s c => Seq.suspend t c s)
      (s.modCal (calKey kind t) (fun i => { i with since := some s.tb.elapsed }))
  else s

/-- Begin whatever waits on a tile. -/
def Cal.tryAll (t : Nat) (s : State) : State := Cal.tryBegin t 2 (Cal.tryBegin t 1 (Cal.tryBegin t 0 s))

/-- Put a converter item into calibration. -/
def Cal.hold (t kind : Nat) (k : Key) (s : State) : State :=
  s.modCal (calKey kind t) (fun i => { i with running := some (some k), since := none })

/-- The kinds that ADC_CALIBRATE's ITEM names: 0 A, 1 B, 2 both, 3 interleave. -/
def itemKinds (item : Nat) : List Nat := if item = 0 then [0] else if item = 1 then [1] else if item = 2 then [0, 1] else [2]

/-- ADC_CALIBRATE, and CAL_RUN of KIND 0 to 2 (R100 to R102, R294). -/
def Cal.converters (t item : Nat) (k : Key) (s : State) : Verdict :=
  let kinds := itemKinds item
  let x := s.tile t
  if !x.refReady then failWith St.refNotReady
  else if (kinds.flatMap itemConvs).any (calibrating s t) then failWith St.busyCal
  else if item == 3 && !((s.conv t 0).calibrated && (s.conv t 1).calibrated) then failWith St.adcUncal
  else
    let s := s.modTile t (fun x => { x with calBoth := if item = 2 then some (some k, 0) else x.calBoth })
    .pend (Cal.tryAll t (kinds.foldl (fun s kind => Cal.hold t kind k s) s))

/-! ## Ending a run -/

/-- The largest difference between two runs' values. -/
def runDifference : List Int → List Int → Nat
  | a :: r, b :: q => max (a - b).natAbs (runDifference r q)
  | _, _ => 0

/-- Two runs agree within the item's tolerance (Table 13.2); a link's values are its equaliser taps, then its phase. -/
def runsAgree (kind mode : Nat) (r : CalResult) : Bool :=
  r.run1.length == r.run2.length &&
    (if mode = 1 then r.run1 == r.run2
     else if kind = 4 then
       decide (runDifference r.run1.dropLast r.run2.dropLast ≤ 1)
         && decide (((r.run1.getLast?.getD 0) - (r.run2.getLast?.getD 0)).natAbs ≤ 2)
     else decide (runDifference r.run1 r.run2 ≤ 2))

/-- The opcode that a command in flight was started with. -/
def opOf (s : State) (k : Option Key) : Nat :=
  match k with
  | some k => ((Cmd.find k s).map (fun c => c.echo.toNat % 4096)).getD 0
  | none => 0

/-- The RESULT of a run: CAL_RUN's (Table 13.7), or ADC_CALIBRATE's (Table 5.8) with a residual A kept from before. -/
def runResult (s : State) (k : Option Key) (kind : Nat) (resA : BitVec 16) (r : CalResult) : Nat :=
  if opOf s k = 0xB00 then
    result [(5, 2, r.qualityA.toNat), (7, 2, if kind = 4 then r.qualityB.toNat else 0),
      (9, 1, min 255 (runDifference r.run1 r.run2))]
  else if kind = 0 then result [(5, 2, r.qualityA.toNat)]
  else if kind = 1 then result [(5, 2, resA.toNat), (7, 2, r.qualityA.toNat)]
  else result [(9, 1, r.qualityA.toNat)]

/-- Mark what an agreed run has calibrated (R101). -/
def Cal.mark (t kind : Nat) (both : Bool) (s : State) : State :=
  if kind = 2 then s.modTile t (fun x => { x with ilvCal := true })
  else if kind = 1 && both then
    (s.modConv t 0 (fun v => { v with calibrated := true })).modConv t 1 (fun v => { v with calibrated := true })
  else if kind = 0 && both then s
  else s.modConv t kind (fun v => { v with calibrated := true })

/-- A drive channel is where a new threshold may take force (R209). -/
def driveQuiet (d : Drive) : Bool := d.state == .idle || d.state == .offPhase

/-- The tile of an item of a tile; a link is in the hub. -/
def itemTile (kind index : Nat) : Nat := if kind = 6 then index / 24 else index

/-- A drive channel in its off phase or IDLE takes the values that wait for it (R294). -/
def Cal.takeQuiet (index : Nat) (s : State) : State :=
  if driveQuiet (vget (s.tile (index / 24)).drives (index % 24) {}) then Cal.apply (calKey 6 index) s else s

/-- The values of an agreed run: its trims, and for a converter the shunt measured against RREF_LO (R82, R295). -/
def runValues (kind index mode : Nat) (trims : List Int) (s : State) : CalVal :=
  let v := (s.calItem (calKey kind index)).active
  { v with mode := mode, trims := trims
           shunt := if kind < 2 then some (Config.shunt index (rrefOf s index kind).rlo s.tb.elapsed) else v.shunt }

/-- Set a run's values pending; a drive channel that is quiet takes them at once. -/
def Cal.keep (kind index : Nat) (mode : Nat) (trims : List Int) (s : State) : State :=
  let v := runValues kind index mode trims s
  let s := Cal.setPending kind index v s
  if kind = 6 then Cal.takeQuiet index s else s

/-- After GLOW the values that it kept are applied where their boundary stands already: converters that are stopped, and
drive channels in their off phase or IDLE (R311). -/
def Cal.afterGlow (t : Nat) (s : State) : State :=
  let s := (List.range 4).foldl (fun s k => Cal.takeStopped k t s) s
  (List.range 24).foldl (fun s j => Cal.takeQuiet (24 * t + j) s) s

/-- Take an item out of calibration. -/
def Cal.drop (key : Nat) (s : State) : State := s.modCal key (fun i => { i with running := none, since := none })

/-- Reply to a run's command. -/
def Cal.reply (k : Option Key) (st : Byte) (res : Nat) (s : State) : State := Cmd.finalOpt k st res s

/-- The end of a run pair (R295); a link's eye figures go to LZ_EYE (R298). -/
def Cal.finish (kind index : Nat) (r : CalResult) (s : State) : State :=
  let key := calKey kind index
  let i := s.calItem key
  let k := i.running.getD none
  let t := itemTile kind index
  let both := decide (kind < 2) && inBoth s t kind
  let resA := ((s.tile t).calBoth.map (·.2)).getD 0
  let s := Cal.drop key s
  let s := s.modCal key (fun i => { i with stamp := BitVec.ofNat 64 s.sec })
  let s := if kind = 4 then s.modLink index (fun k => { k with eye := r.qualityB ++ r.qualityA }) else s
  if runsAgree kind i.nextMode r then
    let s := Cal.keep kind index i.nextMode r.run2 (s.modCal key (fun i => { i with
      qualityA := r.qualityA, qualityB := if kind = 4 then r.qualityB else 0 }))
    if kind = 0 && both then
      let s := s.modTile t (fun x => { x with calBoth := some (k, r.qualityA) })
      Cal.tryAll t (Seq.releaseBoth t s)
    else
      let s := if kind < 3 then Cal.mark t kind both s else s
      let s := s.modTile t (fun x => { x with
        calBoth := if both then none else x.calBoth
        launchDelay := if kind = 2 then r.launchDelay else x.launchDelay })
      Cal.reply k St.ok (runResult s k kind resA r) (if kind < 3 then Seq.releaseBoth t s else s)
  else
    let s := if both && kind = 0 then Cal.drop (calKey 1 t) s else s
    let s := s.modTile t (fun x => { x with calBoth := if both then none else x.calBoth })
    Cal.reply k St.calDisagree (runResult s k kind resA r) (if kind < 3 then Cal.tryAll t (Seq.releaseBoth t s) else s)

/-- How long a run pair takes from its beginning, in ns, where the spec fixes it (Table 13.1). -/
def runNs (kind : Nat) : Nat := if kind < 2 then 24000000 else if kind = 2 then 6000000 else if kind = 4 then 400000 else 0

/-- A drive threshold calibration has the 256 measurements of each of its two runs (R295, R300). -/
def measuredEnough (s : State) (index : Nat) : Bool :=
  decide (512 ≤ (vget (s.tile (index / 24)).drives (index % 24) {}).measured)

/-- A panel run has driven its black frames (R299). -/
def framesDriven (s : State) (index : Nat) : Bool := (s.tile index).head.calFrames == 0

/-- CAL_RUN_END (R295). -/
def execCalRunEnd (kind index : Nat) (r : CalResult) (s : State) : Host.Outcome State Fault Refusal :=
  .next (match (s.calItem (calKey kind index)).since with
    | some b =>
      if index < calCount kind && (kind != 6 || measuredEnough s index) && (kind != 5 || framesDriven s index) then
        let drawn := if kind = 5 then (s.head index).frameAt + (s.head index).frameNs else 0
        Cal.finish kind index r (untilElapsed (max drawn (b + runNs kind)) s)
      else s
    | none => s)

/-- End every converter run of a tile early, with a status (R103, R297). -/
def Cal.abortTile (t : Nat) (st : Byte) (s : State) : State :=
  [0, 1, 2].foldl (fun s kind =>
    match (s.calItem (calKey kind t)).running with
    | some k => Cal.reply k st 0 (Cal.drop (calKey kind t) s)
    | none => s) (s.modTile t (fun x => { x with calBoth := none }))

/-- End a run of another item early (R297). -/
def Cal.endRun (key : Nat) (st : Byte) (res : Nat) (s : State) : State :=
  match (s.calItem key).running with
  | some k => Cal.reply k st res (Cal.drop key s)
  | none => s

/-- End it with reason 6. -/
def Cal.abort (key : Nat) (s : State) : State := Cal.endRun key St.badParam (result [(5, 1, 6)]) s

end Sys2Proof.Machine
end

