-- ==== Sys2Proof/Machine/Inputs.lean ====
section
/-!
DEFINITION. Machine/Inputs.lean: the commands of inputs (Table 5.7), protection (Table 4.4) and pulses (R86).
-/

namespace Sys2Proof.Machine

/-- A command on a tile: reason 1 for a tile out of range, TILE_OFF for one that is not powered (R1). -/
def onTile (pk : Packet) (s : State) (f : Nat → Verdict) : Verdict :=
  let t := pk.u8 8
  if 4 ≤ t then badReason 1 else if !s.tileOn t then failWith St.tileOff else f t

/-- A command on input INPUT of a tile. -/
def onInput (pk : Packet) (s : State) (f : Nat → Nat → Verdict) : Verdict :=
  onTile pk s fun t => if 64 ≤ pk.u8 9 then badReason 1 else f t (pk.u8 9)

/-- The tenant of a context; 0 for the owner. -/
def tenantOf (s : State) (ctx : Nat) : Nat := if ctx = 0 then 0 else ((aget s.cl.sessions ctx).map (·.tenant)).getD 0

/-- The right of a context on an access group (Table 3.5): CONFIGURE, 3, for the owner on every group (R58). -/
def rightOn (s : State) (ctx group : Nat) : Nat :=
  if ctx = 0 then 3
  else ((aget s.cl.creds (tenantOf s ctx)).map (fun c => field c.rights.toNat (2 * group + 1) (2 * group))).getD 0

/-! ## INPUT_CONFIG -/

/-- The conversion parameters meet R83; one that the conversion does not use is not checked (log 33). -/
def paramsOk (c : InCfg) : Bool :=
  c.mode == 7
    || (match c.convert with
        | 1 => fPos c.paramA
        | 2 => fPos c.paramA && fPos c.paramB
        | 4 => ffinite c.paramA && ffinite c.paramB
        | _ => true)

/-- Dwells in ns that loaded entries of either converter hold for an input. -/
def loadedDwells (s : State) (t i : Nat) : List Nat :=
  [0, 1].flatMap (fun c =>
    let v := s.conv t c
    let all := v.loaded.toList ++ v.active.entries.toList ++ ((v.waiting.map (·.entries.toList)).getD [])
    (all.filter (fun e => entKind e == 0 && entInput e == i && entDwell e != 0)).map entNs)

/-- A group record names an input that is not the lowest of its group (R77). -/
def misnamed (i : Nat) (c : InCfg) : Bool := i % c.span != 0

/-- By the records that `rec` gives, a record breaks the group rule of R77: the input is a partner, or a partner of it is
not OFF or belongs to another group. -/
def groupBrokenBy (rec : Nat → InCfg) (i : Nat) (c : InCfg) : Bool :=
  (partnerOf rec i).isSome
    || (List.range c.span).any (fun k => k != 0 && ((rec (i + k)).mode != 0
        || ((partnerOf rec (i + k)).isSome && partnerOf rec (i + k) != some i)))

/-- A record breaks the group rule by the records in force, or by those that wait: a group stands until its OFF takes
effect (R77, R91). -/
def groupBroken (x : Tile) (i : Nat) (c : InCfg) : Bool :=
  groupBrokenBy (fun j => (x.input j).cfg) i c || groupBrokenBy (fun j => (x.input j).latestCfg) i c

/-- A partner of the group is in METER mode (Table 4.10). -/
def partnerShaded (s : State) (t i : Nat) (c : InCfg) : Bool :=
  (List.range c.span).any (fun k => isShaded s t (i + k))

/-- The judgement of a record for an input: the status and reason that refuse it, or none. CONVERT 5 to 7 is refused in
CONTACT mode too (log 33). -/
def judgeConfig (s : State) (t i : Nat) (c : InCfg) : Option (Byte × Nat) :=
  if isShaded s t i then some (St.shaded, 0)
  else if c.cfg0.getLsbD 8 || 10 ≤ c.mode || 5 ≤ c.convert then some (St.badParam, 9)
  else if c.mode = 9 then some (St.badParam, 5)
  else if rangeCount c.mode ≤ c.range then some (St.badParam, 9)
  else if !paramsOk c then some (St.badParam, 13)
  else if misnamed i c then some (St.badParam, 11)
  else if partnerShaded s t i c then some (St.shaded, 0)
  else if groupBroken (s.tile t) i c then some (St.badParam, 11)
  else if c.mode != 0 && c.mode != 8 && (loadedDwells s t i).any (fun d => !dwellFits c d) then some (St.badParam, 2)
  else none

/-- Give an input a record: at the cycle end where a running sequence visits it, at once elsewhere (R91). -/
def Input.configure (t i : Nat) (c : InCfg) (s : State) : State :=
  if visited s t i then s.modInput t i (fun x => { x with wait := some c })
  else s.modInput t i (fun x => x.take c)

/-- The record in PARAMS bytes 16 to 31. -/
def packetCfg (pk : Packet) : InCfg :=
  { cfg0 := BitVec.ofNat 32 (pk.u32 16), paramA := pk.f32 20, paramB := pk.f32 24, comp := pk.f32 28 }

def specInputConfig : OpSpec :=
  { op := 0x300, owner := false, rev1 := true, rsv := 9,
    used := [(8, 2, 0xFF), (16, 1, 0xFF), (17, 1, 0xFE), (18, 14, 0xFF)] }

def bodyInputConfig (pk : Packet) (_ : Key) (s : State) : Verdict :=
  onInput pk s fun t i =>
    match judgeConfig s t i (packetCfg pk) with
    | some (st, r) => .fail st (result [(5, 1, r)])
    | none => .ok 0 (Input.configure t i (packetCfg pk) s)

/-- INPUT_CONFIG (R77, R83, R91, R92). -/
def execInputConfig (q : Nat) (pk : Packet) (s : State) : Host.Outcome State Fault Refusal :=
  .next (Cmd.run specInputConfig bodyInputConfig q pk s)

/-! ## INPUT_READ -/

def specInputRead : OpSpec := { op := 0x301, owner := false, rev1 := true, rsv := 9, used := [(8, 2, 0xFF)] }

/-- UI_VALUE; 0 for a shaded input (R92). -/
def uiValue (s : State) (t i : Nat) : Nat := if isShaded s t i then 0 else ((s.tile t).input i).value.toNat

/-- UI_COUNT; 0 for a shaded input. -/
def uiCount (s : State) (t i : Nat) : Nat := if isShaded s t i then 0 else ((s.tile t).input i).count.toNat

def bodyInputRead (pk : Packet) (_ : Key) (s : State) : Verdict :=
  onInput pk s fun t i =>
    let x := (s.tile t).input i
    .ok (result [(5, 4, uiStat s t i), (9, 4, uiValue s t i), (13, 4, uiCount s t i), (17, 4, x.tpass), (21, 4, x.tfail)]) s

/-- INPUT_READ (Table 5.7). -/
def execInputRead (q : Nat) (pk : Packet) (s : State) : Host.Outcome State Fault Refusal :=
  .next (Cmd.run specInputRead bodyInputRead q pk s)

/-! ## Staging parts on a pair (R168) -/

/-- Stage a part on a pair: part 0 discards what was staged; another part must follow the previous one and name the same
object. The result is the state with the part staged. -/
def Stage.put (q : Nat) (kind : StageKind) (tile index part : Nat) (bytes : List Byte) (s : State) : Option State :=
  if part = 0 then
    some (s.modPair q (fun p => { p with stage := some { kind := kind, tile := tile, index := index, next := 1, bytes := bytes } }))
  else
    match (s.pair q).bind (·.stage) with
    | some g =>
      if g.kind == kind && g.tile == tile && g.index == index && g.next == part then
        some (s.modPair q (fun p => { p with stage := some { g with next := part + 1, bytes := g.bytes ++ bytes } }))
      else none
    | none => none

/-- The bytes staged on a pair. -/
def stagedBytes (s : State) (q : Nat) : List Byte := (((s.pair q).bind (·.stage)).map (·.bytes)).getD []

/-- Empty a pair's staging buffer. -/
def Stage.drop (q : Nat) (s : State) : State := s.modPair q (fun p => { p with stage := none })

/-! ## INPUT_TABLE -/

def specInputTable : OpSpec :=
  { op := 0x302, owner := false, rev1 := false, rsv := 9, used := [(8, 3, 0xFF), (16, 32, 0xFF)] }

/-- The (x, y) pairs that bytes spell. -/
def xyPairs (bytes : List Byte) : List (F32 × F32) :=
  (chunks 8 bytes.length bytes).map (fun b => (BitVec.ofNat 32 (ofLe (b.take 4)), BitVec.ofNat 32 (ofLe (b.drop 4))))

/-- The x values of a table rise strictly (R84). -/
def risesStrictly : List (F32 × F32) → Bool
  | (x0, _) :: (x1, y1) :: r => fless x0 x1 && risesStrictly ((x1, y1) :: r)
  | _ => true

def bodyInputTable (pk : Packet) (k : Key) (s : State) : Verdict :=
  onTile pk s fun t =>
    if 32 ≤ pk.u8 9 || 4 ≤ pk.u8 10 then badReason 1
    else
      match Stage.put k.q .table t (pk.u8 9) (pk.u8 10) (pk.bytes 16 32) s with
      | none => badReason 8
      | some u =>
        if pk.u8 10 < 3 then .ok 0 u
        else
          let l := xyPairs (stagedBytes u k.q)
          let u := Stage.drop k.q u
          if risesStrictly l then .ok 0 (u.modTile t (fun x => { x with tables := vset x.tables (pk.u8 9) (some l) }))
          else badReason 8

/-- INPUT_TABLE (R84, R120). -/
def execInputTable (q : Nat) (pk : Packet) (s : State) : Host.Outcome State Fault Refusal :=
  .next (Cmd.run specInputTable bodyInputTable q pk s)

/-! ## INPUT_TEST -/

/-- What urgent work on converter B needs first: the reference, B free of calibration and calibrated (R100, R101). -/
def urgentReady (s : State) (t : Nat) : Option Byte :=
  if !(s.tile t).refReady then some St.refNotReady
  else if calibrating s t 1 then some St.busyCal
  else if !(s.conv t 1).calibrated then some St.adcUncal
  else none

/-- Put urgent work in the queue of eight places (R111). -/
def Urgent.enqueue (t : Nat) (u : Urgent) (s : State) : Verdict :=
  if 8 ≤ (s.tile t).urgent.length then badReason 6
  else .pend (s.modTile t (fun x => { x with urgent := x.urgent ++ [u] }))

def specInputTest : OpSpec :=
  { op := 0x303, owner := false, rev1 := false, rsv := 9,
    used := [(8, 2, 0xFF), (10, 1, 1), (12, 2, 0xFF), (16, 4, 0xFF)] }

/-- LEVEL out of range has reason 1, which Table 5.6 does not list for it (log 33). -/
def bodyInputTest (pk : Packet) (k : Key) (s : State) : Verdict :=
  onInput pk s fun t i =>
    if 4096 ≤ pk.u16 12 then badReason 1
    else
      match urgentReady s t with
      | some st => failWith st
      | none => Urgent.enqueue t { key := some k, input := i, kind := .test (pk.u8 10) (pk.u16 12) (pk.f32 16) } s

/-- INPUT_TEST (R95, R96). -/
def execInputTest (q : Nat) (pk : Packet) (s : State) : Host.Outcome State Fault Refusal :=
  .next (Cmd.run specInputTest bodyInputTest q pk s)

/-! ## Protection (Table 4.4) -/

/-- Spoil a dwell whose group, by the record that it took at its start, holds an input. -/
def Snap.spoil (n : Snap) (j i : Nat) : Snap := { n with spoiled := n.spoiled || (n.members j).contains i }

/-- Spoil the dwell in progress of a converter: a METER entry measures the two inputs of its pair. -/
def Conv.spoil (v : Conv) (i : Nat) : Conv :=
  let e := vget v.active.entries v.entry 0
  if !v.inDwell then v
  else match entKind e, v.meter with
    | 1, some c =>
      { v with snap := v.snap.map (fun n => { n with spoiled := n.spoiled || c.vInput == i || c.iInput == i }) }
    | _, _ => { v with snap := v.snap.map (fun n => n.spoil (entInput e) i) }

/-- Spoil the dwells in progress of the group, or of the metering pair, that holds an input, by the records that the
dwells use (R87, R98). -/
def spoilDwells (t i : Nat) (s : State) : State :=
  s.modTile t (fun x => { x with
    convs := x.convs.map (fun v => v.spoil i)
    urgentSnap := match x.urgentOn, x.urgent.head? with
      | true, some u => x.urgentSnap.map (fun n => n.spoil u.input i)
      | _, _ => x.urgentSnap })

/-- PROT_OPEN is set on the input that names the group, its lowest (log 33). -/
def Input.tripped (t i : Nat) (s : State) : State :=
  let h := groupHead (s.tile t) i
  Input.setFaults t h (((s.tile t).input h).faults ||| 4) (spoilDwells t i s)

/-- PROT_TRIP (R87). -/
def execProtTrip (tile input : Nat) (s : State) : Host.Outcome State Fault Refusal :=
  .next (whenever (s.tileOn tile && decide (input < 64) && !((s.tile tile).input input).switchOpen)
    (fun s => Input.tripped tile input (s.modInput tile input (fun x => { x with switchOpen := true }))) s)

/-- PROT_RECLOSE (R87): the switch recloses; PROT_OPEN stays until a later dwell. -/
def execProtReclose (tile input : Nat) (s : State) : Host.Outcome State Fault Refusal :=
  .next (whenever (s.tileOn tile) (fun s => s.modInput tile input (fun x => { x with switchOpen := false, heldOpen := false })) s)

/-- SHUNT_TRIP (R87): above 26 mA the shunt switch opens and PROT_OPEN is set. -/
def execShuntTrip (tile input : Nat) (s : State) : Host.Outcome State Fault Refusal :=
  .next (whenever (s.tileOn tile && decide (input < 64) && ((s.tile tile).input input).cfg.mode == 2
      && !((s.tile tile).input input).shuntOpen)
    (fun s => Input.tripped tile input (s.modInput tile input (fun x => { x with shuntOpen := true }))) s)

/-! ## Pulses (R86) -/

/-- The shortest level that FILTER accepts, in ns. -/
def pulseNs (filter : Nat) : Nat := [2000, 50000, 1000000, 10000000][filter]?.getD 2000

/-- PULSE_EDGE (R86): an accepted rising edge increments UI_COUNT. -/
def execPulseEdge (tile input heldNs : Nat) (s : State) : Host.Outcome State Fault Refusal :=
  .next (whenever (s.tileOn tile && !inGlow s && ((s.tile tile).input input).cfg.mode == 8
      && decide (pulseNs ((s.tile tile).input input).cfg.filter ≤ heldNs))
    (fun s => s.modInput tile input (fun x => { x with count := x.count + 1 })) s)

/-- Write the rate of one PULSE input to its channel, with the fault flags that stand at the input (R87, log 33). -/
def Pulse.write (t i : Nat) (s : State) : State :=
  let x := (s.tile t).input i
  if x.cfg.mode = 8 then
    Lch.write t x.cfg.pulseLch (some (fofInt (x.count - x.countAt).toNat)) x.faults none
      (s.modInput t i (fun x => { x with countAt := x.count }))
  else s

/-- PULSE_RATE_WRITE (R86): at a whole TB second the count difference goes to PULSE_LCH as a rate. -/
def execPulseRateWrite (tile : Nat) (s : State) : Host.Outcome State Fault Refusal :=
  .next (whenever (s.tileOn tile && !inGlow s)
    (fun s =>
      let s := untilTb ((s.tile tile).rateSec * 1000000000) s
      let s := s.modTile tile (fun x => { x with rateSec := s.sec + 1 })
      (List.range 64).foldl (fun s i => Pulse.write tile i s) s) s)

end Sys2Proof.Machine
end

