-- ==== Sys2Proof/Machine/Converters.lean ====
section
/-!
DEFINITION. Machine/Converters.lean: the converter, sequence, channel, buffer and urgent commands (Table 5.8,
Table 5.10).
-/

namespace Sys2Proof.Machine

/-! ## The reference buffer (R100, R103) -/

def specRefbufOn : OpSpec := { op := 0x310, owner := false, rev1 := true, rsv := 9, used := [(8, 1, 0xFF)] }

def bodyRefbufOn (pk : Packet) (_ : Key) (s : State) : Verdict :=
  onTile pk s fun t =>
    if (s.tile t).refOn then .ok 0 s
    else .ok 0 (s.modTile t (fun x => { x with refOn := true, refReady := false, refAt := s.tb.elapsed }))

/-- REFBUF_ON (R100). -/
def execRefbufOn (q : Nat) (pk : Packet) (s : State) : Host.Outcome State Fault Refusal :=
  .next (Cmd.run specRefbufOn bodyRefbufOn q pk s)

/-- REF_SETTLED (R100): t_REFSET of 3 ms has elapsed. -/
def execRefSettled (tile : Nat) (s : State) : Host.Outcome State Fault Refusal :=
  .next (whenever (s.tileOn tile && (s.tile tile).refOn && !(s.tile tile).refReady)
    (fun s => (untilElapsed ((s.tile tile).refAt + 3000000) s).modTile tile (fun x => { x with refReady := true })) s)

/-- End every urgent request, test and scan of a tile with a status. -/
def Tile.endWork (t : Nat) (st : Byte) (s : State) : State :=
  let x := s.tile t
  let keys := x.urgent.map (·.key) ++ (x.scanning.map (fun p => p.1.key)).toList ++ x.scans.map (·.key)
  let s := s.modTile t (fun x => { x with
    urgent := [], urgentOn := false, urgentSnap := none, scans := [], scanning := none, holdA := false, scanFirst := false
    inputs := x.inputs.map Input.untest })
  keys.foldl (fun s k => Cmd.finalOpt k st 0 s) s

def specRefbufOff : OpSpec := { op := 0x311, owner := false, rev1 := true, rsv := 9, used := [(8, 1, 0xFF)] }

/-- The effect of REFBUF_OFF (R103). -/
def Refbuf.off (t : Nat) (s : State) : State :=
  let s := Seq.stop t 1 (Seq.stop t 0 s)
  let s := s.modTile t (fun x => { x with refOn := false, refReady := false })
  Cal.abortTile t St.refNotReady (Tile.endWork t St.refNotReady s)

def bodyRefbufOff (pk : Packet) (_ : Key) (s : State) : Verdict := onTile pk s fun t => .ok 0 (Refbuf.off t s)

/-- REFBUF_OFF (R103). -/
def execRefbufOff (q : Nat) (pk : Packet) (s : State) : Host.Outcome State Fault Refusal :=
  .next (Cmd.run specRefbufOff bodyRefbufOff q pk s)

/-! ## ADC_CALIBRATE -/

def specAdcCalibrate : OpSpec :=
  { op := 0x312, owner := false, rev1 := true, rsv := 9, used := [(8, 1, 0xFF), (9, 1, 3)] }

def bodyAdcCalibrate (pk : Packet) (k : Key) (s : State) : Verdict :=
  onTile pk s fun t => Cal.converters t (pk.u8 9) k s

/-- ADC_CALIBRATE (R101, R102). -/
def execAdcCalibrate (q : Nat) (pk : Packet) (s : State) : Host.Outcome State Fault Refusal :=
  .next (Cmd.run specAdcCalibrate bodyAdcCalibrate q pk s)

/-! ## SEQ_LOAD, SEQ_START, SEQ_STOP and SEQ_READ -/

/-- An input may not be measured: OFF or PULSE mode, or a partner of a group (Table 5.6 reason 11). -/
def notMeasurable (x : Tile) (i : Nat) : Bool :=
  let m := ((x.input i).latestCfg).mode
  m == 0 || m == 8 || (partnerOf (fun j => (x.input j).latestCfg) i).isSome

/-- A MEASURE of an input for a dwell of `n` units is refused: SHADED, reason 11 or reason 2 (R105, R111). -/
def judgeMeasure (s : State) (t i n : Nat) : Option (Byte × Nat) :=
  if isShaded s t i then some (St.shaded, 0)
  else if notMeasurable (s.tile t) i then some (St.badParam, 11)
  else if !dwellFits ((s.tile t).input i).latestCfg (n * 10000) then some (St.badParam, 2)
  else none

/-- A METER entry is refused: reason 12 where its pair is not bound or its input is not the pair's voltage input, reason
2 where it is shorter than 8 ms (R127). -/
def judgeMeter (s : State) (t : Nat) (e : BitVec 64) : Option (Byte × Nat) :=
  let m := s.meter t (entPair e)
  match m.cfg with
  | some c =>
    if !m.bound || c.vInput != entInput e then some (St.badParam, 12)
    else if entDwell e < 800 then some (St.badParam, 2)
    else none
  | none => some (St.badParam, 12)

/-- The checks of R105 on an entry, in their order. -/
def judgeEntry (s : State) (t c : Nat) (e : BitVec 64) : Option (Byte × Nat) :=
  if e.toNat % 2 ^ 29 != 0 || entKind e == 3 || (entKind e != 1 && entPair e != 0) then some (St.badParam, 9)
  else if entDwell e < (if entKind e = 2 then 1 else 50) || 1600 < entDwell e then some (St.badParam, 2)
  else if entKind e = 1 then (if c = 0 then some (St.badParam, 5) else judgeMeter s t e)
  else if entKind e = 0 then judgeMeasure s t (entInput e) (entDwell e)
  else none

/-- The first refusal of a list of checks. -/
def firstRefusal (l : List (Option (Byte × Nat))) : Option (Byte × Nat) := (l.find? Option.isSome).bind id

/-- A refusal as a verdict. -/
def refuse (r : Byte × Nat) : Verdict := .fail r.1 (result [(5, 1, r.2)])

def specSeqLoad : OpSpec :=
  { op := 0x320, owner := false, rev1 := true, rsv := 9,
    used := [(8, 1, 0xFF), (9, 1, 1), (10, 2, 0xFF), (16, 40, 0xFF)] }

/-- Put entries into the pending image from a place on. -/
def Seq.load (t c : Nat) : List (BitVec 64) → Nat → State → State
  | [], _, s => s
  | e :: r, i, s => Seq.load t c r (i + 1) (s.modConv t c (fun v => { v with
      loaded := vset v.loaded i e, rewritten := v.rewritten ||| (1#128 <<< i) }))

/-- The entries are judged one after the other, each by every check (log 33). -/
def bodySeqLoad (pk : Packet) (_ : Key) (s : State) : Verdict :=
  onTile pk s fun t =>
    let c := pk.u8 9
    let n := pk.u8 11
    if 128 ≤ pk.u8 10 || n = 0 || 5 < n || 128 < pk.u8 10 + n then badReason 1
    else if pk.le (16 + 8 * n) (40 - 8 * n) != 0 then badReason 9
    else
      let es := (List.range n).map (fun i => BitVec.ofNat 64 (pk.le (16 + 8 * i) 8))
      match firstRefusal (es.map (judgeEntry s t c)) with
      | some r => refuse r
      | none =>
        .ok 0 ((Seq.load t c es (pk.u8 10) s).modConv t c (fun v => { v with
          crcFault := v.crcFault && v.rewritten != BitVec.allOnes 128 }))

/-- SEQ_LOAD (R105, R107). -/
def execSeqLoad (q : Nat) (pk : Packet) (s : State) : Host.Outcome State Fault Refusal :=
  .next (Cmd.run specSeqLoad bodySeqLoad q pk s)

/-- The MEASURE entries of a cycle that have been loaded. -/
def measures (l : List (BitVec 64)) : List (BitVec 64) := l.filter (fun e => entKind e == 0 && entDwell e != 0)

/-- A logical channel is the PULSE_LCH of a PULSE input. -/
def pulseChannel (x : Tile) (ch : Nat) : Bool :=
  (List.range 64).any (fun i => ((x.input i).latestCfg).mode == 8 && ((x.input i).latestCfg).pulseLch == ch)

/-- One channel is the target of two entries of a list. -/
def lchTwice : List Nat → Bool
  | [] => false
  | c :: r => r.contains c || lchTwice r

/-- An input or a channel is used twice (R106). -/
def imageClash (s : State) (t c : Nat) (l : List (BitVec 64)) : Bool :=
  let x := s.tile t
  let mine := measures l
  let other := measures (s.conv t (1 - c)).active.cycleEntries
  mine.any (fun e => other.any (fun o => groupsMeet x (entInput e) (entInput o)))
    || lchTwice (mine.map entLch ++ other.map entLch) || mine.any (fun e => pulseChannel x (entLch e))

def specSeqStart : OpSpec :=
  { op := 0x321, owner := false, rev1 := true, rsv := 9,
    used := [(8, 1, 0xFF), (9, 1, 1), (12, 4, 0xFF), (16, 4, 0xFF)] }

def bodySeqStart (pk : Packet) (_ : Key) (s : State) : Verdict :=
  onTile pk s fun t =>
    let c := pk.u8 9
    let v := s.conv t c
    let m : Image := { entries := v.loaded, periodMs := pk.u32 12, cycles := pk.u32 16 }
    let l := m.cycleEntries
    if !(s.tile t).refReady then failWith St.refNotReady
    else if calibrating s t c then failWith St.busyCal
    else if !v.calibrated then failWith St.adcUncal
    else if v.crcFault then failWith St.crcFail
    else if m.periodMs != 0 && (m.periodMs < 10 || 600000 < m.periodMs) then badReason 1
    else
      match firstRefusal (l.map (judgeEntry s t c)) with
      | some r => if r.1 = St.shaded then failWith St.shaded else refuse r
      | none =>
        if imageClash s t c l then badReason 3
        else if m.periodMs != 0 && m.periodMs * 1000000 < nominalNs l then badReason 4
        else if v.running then
          .ok 0 (s.modConv t c (fun v => { v with waiting := some m, stopAtEnd := false }))
        else
          .ok 0 ((Seq.activate t c m s).modConv t c (fun v => { v with
            running := true, stopAtEnd := false, inCycle := false, inDwell := false, rerun := false
            suspended := convHeld s t c, since := s.tb.elapsed }))

/-- SEQ_START (R106, R108). -/
def execSeqStart (q : Nat) (pk : Packet) (s : State) : Host.Outcome State Fault Refusal :=
  .next (Cmd.run specSeqStart bodySeqStart q pk s)

def specSeqStop : OpSpec :=
  { op := 0x322, owner := false, rev1 := true, rsv := 9, used := [(8, 1, 0xFF), (9, 1, 1), (10, 1, 1)] }

def bodySeqStop (pk : Packet) (_ : Key) (s : State) : Verdict :=
  onTile pk s fun t =>
    let c := pk.u8 9
    let v := s.conv t c
    if !v.running then .ok 0 s
    else if pk.u8 10 = 1 || !v.inCycle then .ok 0 (Seq.stop t c s)
    else .ok 0 (s.modConv t c (fun v => { v with stopAtEnd := true }))

/-- SEQ_STOP (Table 5.8). -/
def execSeqStop (q : Nat) (pk : Packet) (s : State) : Host.Outcome State Fault Refusal :=
  .next (Cmd.run specSeqStop bodySeqStop q pk s)

def specSeqRead : OpSpec :=
  { op := 0x323, owner := false, rev1 := false, rsv := 9, used := [(8, 1, 0xFF), (9, 1, 1)] }

def bodySeqRead (pk : Packet) (_ : Key) (s : State) : Verdict :=
  onTile pk s fun t =>
    let v := s.conv t (pk.u8 9)
    .ok (result [(5, 4, convStat s t (pk.u8 9)), (9, 4, v.cycle), (13, 4, v.slips),
      (17, 1, (cyclePlace s v).2)]) s

/-- SEQ_READ (Table 5.8). -/
def execSeqRead (q : Nat) (pk : Packet) (s : State) : Host.Outcome State Fault Refusal :=
  .next (Cmd.run specSeqRead bodySeqRead q pk s)

/-! ## Logical channels -/

/-- A command on logical channel LCH of a tile. -/
def onChannel (pk : Packet) (s : State) (f : Nat → Nat → Verdict) : Verdict :=
  onTile pk s fun t => if 256 ≤ pk.u16 10 then badReason 1 else f t (pk.u16 10)

/-- Thresholds of a window are consistent: LO + HYST < HI - HYST and HYST >= 0 (R114). -/
def windowOk (lo hi hyst : F32) : Bool :=
  ffinite lo && ffinite hi && fNonNeg hyst && decide (fnum lo + fnum hyst < fnum hi - fnum hyst)

def specLchConfig : OpSpec :=
  { op := 0x330, owner := false, rev1 := false, rsv := 9,
    used := [(8, 1, 0xFF), (10, 2, 0xFF), (12, 1, 3), (13, 3, 0xFF), (16, 12, 0xFF)] }

def bodyLchConfig (pk : Packet) (_ : Key) (s : State) : Verdict :=
  onChannel pk s fun t c =>
    let win := (pk.u8 12).testBit 0
    let dma := (pk.u8 12).testBit 1
    if win && !windowOk (pk.f32 16) (pk.f32 20) (pk.f32 24) then badReason 7
    else if dma && (64 ≤ pk.u8 13 || pk.u16 14 == 0) then badReason 1
    else if dma && ((vget (s.tile t).bufs (pk.u8 13) none).map (·.format)) != some 0 then badReason 10
    else .ok 0 (s.modChan t c (fun l => { l with
      winEn := win, dmaEn := dma, buf := pk.u8 13, decim := pk.u16 14, lo := pk.f32 16, hi := pk.f32 20
      hyst := pk.f32 24, win := 0, decimCount := 0 }))

/-- LCH_CONFIG (R114). -/
def execLchConfig (q : Nat) (pk : Packet) (s : State) : Host.Outcome State Fault Refusal :=
  .next (Cmd.run specLchConfig bodyLchConfig q pk s)

def specLchRead : OpSpec :=
  { op := 0x331, owner := false, rev1 := true, rsv := 9, used := [(8, 1, 0xFF), (10, 2, 0xFF)] }

def bodyLchRead (pk : Packet) (_ : Key) (s : State) : Verdict :=
  onChannel pk s fun t c =>
    let l := (s.tile t).chan c
    .ok (result [(5, 4, l.value.toNat), (9, 1, l.flags.toNat), (10, 1, l.win), (11, 6, l.stamp.toNat),
      (17, 4, l.seqno.toNat)]) s

/-- LCH_READ (Table 5.10). -/
def execLchRead (q : Nat) (pk : Packet) (s : State) : Host.Outcome State Fault Refusal :=
  .next (Cmd.run specLchRead bodyLchRead q pk s)

def specLchWinack : OpSpec :=
  { op := 0x332, owner := false, rev1 := false, rsv := 9, used := [(8, 1, 0xFF), (9, 1, 1), (16, 16, 0xFF)] }

/-- The window pending bits of half of the channels. -/
def winBits (x : Tile) (half : Nat) : Nat :=
  (List.range 128).foldl (fun a i => a + bit (x.chan (128 * half + i)).winPending * 2 ^ i) 0

def bodyLchWinack (pk : Packet) (_ : Key) (s : State) : Verdict :=
  onTile pk s fun t =>
    let h := pk.u8 9
    let mask := pk.le 16 16
    .ok (result [(5, 16, winBits (s.tile t) h)])
      ((List.range 128).foldl (fun s i =>
        if mask.testBit i then s.modChan t (128 * h + i) (fun l => { l with winPending := false }) else s) s)

/-- LCH_WINACK (R114): pending bits of the half before clearing. -/
def execLchWinack (q : Nat) (pk : Packet) (s : State) : Host.Outcome State Fault Refusal :=
  .next (Cmd.run specLchWinack bodyLchWinack q pk s)

/-! ## Circular buffers -/

def specDmaCreate : OpSpec :=
  { op := 0x340, owner := false, rev1 := false, rsv := 9,
    used := [(8, 4, 0xFF), (12, 1, 1), (16, 8, 0xFF), (24, 8, 0xFF), (32, 4, 0xFF)] }

/-- A ring of `n`-byte entries fits its memory with its state word, and BASE is 64-byte aligned. -/
def ringFits (r : Ring) (n : Nat) : Bool :=
  r.base.toNat % 64 == 0 && spanFits r.space r.base.toNat (n * 2 ^ r.log2Size) && spanFits r.space r.stateAddr.toNat 8

def bodyDmaCreate (pk : Packet) (_ : Key) (s : State) : Verdict :=
  onTile pk s fun t =>
    let r : Ring := {
      format := pk.u8 10, log2Size := pk.u8 11, space := spaceOf (pk.u8 12), base := BitVec.ofNat 64 (pk.le 16 8)
      stateAddr := BitVec.ofNat 64 (pk.le 24 8), notify := pk.u32 32, total := 0 }
    if 64 ≤ pk.u8 9 then badReason 1
    else if 2 ≤ r.format then badReason 9
    else if r.log2Size < 6 || 20 < r.log2Size || !ringFits r 16 then badReason 1
    else if (vget (s.tile t).bufs (pk.u8 9) none).isSome then badReason 10
    else .ok 0 (s.modTile t (fun x => { x with bufs := vset x.bufs (pk.u8 9) (some r) }))

/-- DMA_CREATE (R115). -/
def execDmaCreate (q : Nat) (pk : Packet) (s : State) : Host.Outcome State Fault Refusal :=
  .next (Cmd.run specDmaCreate bodyDmaCreate q pk s)

def specDmaDelete : OpSpec := { op := 0x341, owner := false, rev1 := false, rsv := 9, used := [(8, 2, 0xFF)] }

/-- A channel binds the buffer, or a scan that has not ended names it. -/
def bufBound (x : Tile) (b : Nat) : Bool :=
  x.lch.toList.any (fun l => l.dmaEn && l.buf == b) || x.scans.any (fun n => n.rawBuf == some b)
    || ((x.scanning.map (fun p => p.1.rawBuf == some b)).getD false)

def bodyDmaDelete (pk : Packet) (_ : Key) (s : State) : Verdict :=
  onTile pk s fun t =>
    let b := pk.u8 9
    if 64 ≤ b then badReason 1
    else if (vget (s.tile t).bufs b none).isNone || bufBound (s.tile t) b then badReason 10
    else .ok 0 (s.modTile t (fun x => { x with bufs := vset x.bufs b none }))

/-- DMA_DELETE (R121). -/
def execDmaDelete (q : Nat) (pk : Packet) (s : State) : Host.Outcome State Fault Refusal :=
  .next (Cmd.run specDmaDelete bodyDmaDelete q pk s)

/-! ## Urgent work (R111, R113, R95) -/

def specUrgentConvert : OpSpec :=
  { op := 0x350, owner := false, rev1 := false, rsv := 9, used := [(8, 2, 0xFF), (10, 2, 0xFF), (12, 2, 0xFF)] }

def bodyUrgentConvert (pk : Packet) (k : Key) (s : State) : Verdict :=
  onInput pk s fun t i =>
    let n := pk.u16 10
    let ch := pk.u16 12
    if 256 ≤ ch && ch != 0xFFFF then badReason 1
    else
      match urgentReady s t with
      | some st => failWith st
      | none =>
        if n < 50 || 1600 < n then badReason 2
        else
          match judgeMeasure s t i n with
          | some r => if r.1 = St.shaded then failWith St.shaded else refuse r
          | none => Urgent.enqueue t { key := some k, input := i, kind := .convert n ch } s

/-- URGENT_CONVERT (R111). -/
def execUrgentConvert (q : Nat) (pk : Packet) (s : State) : Host.Outcome State Fault Refusal :=
  .next (Cmd.run specUrgentConvert bodyUrgentConvert q pk s)

/-- The dwell of urgent work, in ns: 0.5 ms for a test (R95). -/
def urgentNs (u : Urgent) : Nat :=
  match u.kind with
  | .convert n _ => n * 10000
  | .test _ _ _ => 500000

/-- Converter A dwells on the input that urgent work names (R113). -/
def dwellsOn (s : State) (t i : Nat) : Bool :=
  let v := s.conv t 0
  v.inDwell && groupsMeet (s.tile t) i (entInput (dwellEntry s t 0))

/-- Start the head of the urgent queue: B's sequence is pre-empted, and a test opens the protection switch. -/
def Urgent.start (t : Nat) (u : Urgent) (s : State) : State :=
  let s := if (s.conv t 1).suspended then s else Seq.suspend t 1 s
  let b := beginDwell t (membersOf (s.tile t) u.input) (urgentNs u) s
  let s := b.2
  let s := match u.kind with
    | .test _ _ _ => s.modInput t u.input (fun x => { x with testing := true })
    | .convert _ _ => s
  let snap := match u.kind with
    | .test _ _ _ => { b.1 with exc := none }
    | .convert _ _ => b.1
  s.modTile t (fun x => { x with urgentOn := true, urgentAt := s.tb.elapsed, urgentSnap := some snap })

/-- URGENT_START (R111, R113, R121). -/
def execUrgentStart (tile : Nat) (s : State) : Host.Outcome State Fault Refusal :=
  .next (match (s.tile tile).urgent with
    | u :: _ =>
      whenever (s.tileOn tile && !(s.tile tile).urgentOn && (s.tile tile).scanning.isNone && !inGlow s
        && !calBegun s tile 1 && !dwellsOn s tile u.input) (Urgent.start tile u) s
    | [] => s)

/-- Take the head off the urgent queue; an empty queue lets calibration begin or B's sequence go on (R111). -/
def Urgent.pop (t : Nat) (s : State) : State :=
  let s := s.modTile t (fun x => { x with
    urgent := x.urgent.drop 1, urgentOn := false, urgentSnap := none, holdA := x.holdA && decide (1 < x.urgent.length) })
  Seq.releaseBoth t (Cal.tryAll t s)

/-- What a test measured, in volts or amperes (R95). -/
def testReading (s : State) (t kind : Nat) (d : Dwell) : Rat :=
  if kind = 0 then volts d.vs else quotient s (volts d.vs) (shuntOf s t 1)

/-- What a test injected: steps of 305 uV, or of 5.86 uA. -/
def testLevel (kind level : Nat) : Rat := if kind = 0 then 305 / 1000000 * (level : Rat) else 586 / 100000000 * (level : Rat)

/-- The end of a test: PASS within TOL, one count, and the reading except for a METER input (R95, R96). A tolerance that is
not finite fails the test, and a test's dwell clears no fault flag (log 33). -/
def Urgent.endTest (t : Nat) (u : Urgent) (kind level : Nat) (tol : F32) (d : Dwell) (s : State) : State :=
  let m := testReading s t kind d
  let pass := ffinite tol && decide (rabs (m - testLevel kind level) ≤ fnum tol)
  let s := s.modInput t u.input (fun x => { x.untest with
    tpass := if pass then satInc 32 x.tpass else x.tpass
    tfail := if pass then x.tfail else satInc 32 x.tfail })
  Cmd.finalOpt u.key St.ok
    (result [(5, 1, bit pass), (9, 4, if isShaded s t u.input then 0 else (fof m).toNat)]) (Urgent.pop t s)

/-- The end of an urgent conversion (R111). -/
def Urgent.endConvert (t : Nat) (u : Urgent) (ch : Nat) (snap : Snap) (d : Dwell) (s : State) : State :=
  let r := formResult t 1 u.input snap d s
  let fl := r.1.flags + 64
  let s := r.2
  let s := if ch < 256 then Lch.write t ch r.1.value fl none s else s
  let v := if isShaded s t u.input then 0 else (r.1.value).getD ((s.tile t).input u.input).value
  Cmd.finalOpt u.key St.ok
    (result [(5, 4, v.toNat), (9, 1, fl + 16 * bit (!s.tb.valid)), (10, 6, s.stamp48.toNat)]) (Urgent.pop t s)

/-- URGENT_DWELL_END (R111). -/
def execUrgentDwellEnd (tile : Nat) (d : Dwell) (s : State) : Host.Outcome State Fault Refusal :=
  .next (match (s.tile tile).urgent, (s.tile tile).urgentSnap with
    | u :: _, some snap =>
      if s.tileOn tile && (s.tile tile).urgentOn then
        let s := untilElapsed ((s.tile tile).urgentAt + urgentNs u) s
        match u.kind with
        | .convert _ ch => Urgent.endConvert tile u ch snap d s
        | .test kind level tol => Urgent.endTest tile u kind level tol d s
      else s
    | _, _ => s)

end Sys2Proof.Machine
end

