-- ==== Sys2Proof/Machine/Buses.lean ====
section
/-!
DEFINITION. Machine/Buses.lean: the BUS group (Tables 10.12 and 10.13) and what happens at a bus controller.
-/

namespace Sys2Proof.Machine

/-- A command on a controller: reason 1, then TILE_OFF. -/
def onCtrl (pk : Packet) (s : State) (f : Nat → Verdict) : Verdict :=
  let k := pk.u8 8
  if 64 ≤ k then badReason 1 else if !s.tileOn (k / 16) then failWith St.tileOff else f k

/-- The same with a right on the controller's GROUP. -/
def onCtrlRight (right : Nat) (pk : Packet) (s : State) (f : Nat → Verdict) : Verdict :=
  onCtrl pk s fun k => if rightOn s pk.ctx (s.bus k).group < right then failWith St.noRight else f k

/-! ## BUS_CONFIG (R219) -/

def specBusConfig : OpSpec :=
  { op := 0x800, owner := true, rev1 := true, rsv := 2, used := [(8, 1, 0xFF), (16, 24, 0xFF)] }

/-- A reserved bit or code, or a field outside its range (reason 2). -/
def busFieldsBad (c0 c1 c2 c3 : Nat) (groups : List Byte) : Bool :=
  field c0 1 0 == 3 || field c0 23 16 == 0 || field c1 4 0 != 0 || field c2 5 0 != 0 || field c3 14 0 != 0
    || decide (field c3 31 24 < 5) || decide (field c3 23 16 < 2)
    || groups.any (fun g => g != 0 && (decide (g.toNat < 0x40) || g == 0xFF))

/-- 12.5 ns quanta of a bit: prescaler times the bit's quanta. -/
def bitQuanta (brp seg1 seg2 : Nat) : Nat := brp * (1 + seg1 + seg2)

/-- The bit timing breaks R219 (reason 3): the rates are 80 MHz over the quanta of a bit. -/
def timingBad (c1 c2 : Nat) : Bool :=
  let seg1 := field c1 26 19 + 1
  let seg2 := field c1 18 12 + 1
  let n := bitQuanta (field c1 31 27 + 1) seg1 seg2
  let d := bitQuanta (field c2 31 27 + 1) (field c2 26 22 + 1) (field c2 21 18 + 1)
  decide (seg1 < 2) || decide (seg2 < 2)
    || decide (80000000 < 125000 * n) || decide (1000000 * n < 80000000)
    || decide (n < d) || decide (5000000 * d < 80000000)
    || decide (seg2 < field c1 11 5 + 1) || decide (field c2 21 18 < field c2 17 14)
    || (decide (1000000 * d < 80000000) && field c2 6 6 == 0)

/-- A configuration takes force: MODE OFF ends what waits, and leaving OFF starts error-active with both counts 0. -/
def Bus.configure (k : Nat) (c0 c1 c2 c3 : Word) (groups : List Byte) (s : State) : State :=
  let old := s.bus k
  let mode := field c0.toNat 1 0
  let s := if mode = 1 then s else Bus.flush k St.noAck s
  let s := if mode = 0 then Bus.endDusk k 3 (Bus.endRecover k St.busOff s) else s
  s.modBus k (fun b => { b with
    cfg0 := c0, cfg1 := c1, cfg2 := c2, cfg3 := c3
    groups := Vector.ofFn (fun i => groups.getD i.val 0)
    retired := b.retired && mode != 1
    fc := if mode = 0 then .off else if b.fc == .off then .active else b.fc
    tecCnt := if b.fc == .off then 0 else b.tecCnt
    recCnt := if b.fc == .off then 0 else b.recCnt
    stb := if mode = 0 then true else if b.stopped || b.dusk == .asleep then b.stb else false
    dusk := if mode = 0 then .awake else b.dusk
    alone := b.alone && mode != 0
    tdcFail := b.tdcFail && mode != 0
    rxOverrun := b.rxOverrun && mode != 0
    reasm := if mode = 0 then [] else b.reasm
    dawnDue := b.dawnDue && mode != 0
    foreign := b.foreign && mode != 0
    txd := if mode = 0 then .recessive else b.txd
    beaconAt := if mode = 1 && (old.mode != 1 || c3 != old.cfg3) then s.tb.elapsed + field c3.toNat 31 24 * 100000000 else b.beaconAt
    rx := if mode = 0 then [] else b.rx })

/-- BUS_CONFIG's own part: shared with a window write. -/
def Bus.command (k : Nat) (c0 c1 c2 c3 : Word) (groups : List Byte) (s : State) : Verdict :=
  if busFieldsBad c0.toNat c1.toNat c2.toNat c3.toNat groups then badReason 2
  else if timingBad c1.toNat c2.toNat then badReason 3
  else .ok 0 (Bus.configure k c0 c1 c2 c3 groups s)

def bodyBusConfig (pk : Packet) (_ : Key) (s : State) : Verdict :=
  onCtrl pk s fun k => Bus.command k (pk.f32 16) (pk.f32 20) (pk.f32 24) (pk.f32 28) (pk.bytes 32 8) s

/-- BUS_CONFIG (R219). -/
def execBusConfig (q : Nat) (pk : Packet) (s : State) : Host.Outcome State Fault Refusal :=
  .next (Cmd.run specBusConfig bodyBusConfig q pk s)

/-! ## BUS_STATUS -/

def specBusStatus : OpSpec :=
  { op := 0x801, owner := false, rev1 := true, rsv := 2, used := [(8, 1, 0xFF), (9, 1, 1)] }

def bodyBusStatus (pk : Packet) (_ : Key) (s : State) : Verdict :=
  onCtrlRight 1 pk s fun k =>
    let b := s.bus k
    .ok (result [(5, 4, b.stat), (9, 4, b.cause.toNat), (13, 4, b.txok.toNat), (17, 4, b.rxok.toNat), (21, 4, b.drop.toNat)])
      (if pk.u8 9 = 1 then s.modBus k (fun b => { b with cause := 0 }) else s)

/-- BUS_STATUS (R238). -/
def execBusStatus (q : Nat) (pk : Packet) (s : State) : Host.Outcome State Fault Refusal :=
  .next (Cmd.run specBusStatus bodyBusStatus q pk s)

/-! ## BUS_SEND and BUS_CANCEL -/

def specBusSend : OpSpec :=
  { op := 0x802, owner := false, rev1 := true, rsv := 2,
    used := [(8, 1, 0xFF), (9, 1, 0x1F), (10, 1, 0xFF), (12, 4, 0xFF), (16, 8, 0xFF), (32, 24, 0xFF)] }

/-- LEN is a frame length of its format. -/
def lenOk (fdf : Bool) (n : Nat) : Bool := if fdf then [12, 16, 20, 24, 32, 48, 64].contains n else decide (n ≤ 8)

/-- A bit of byte 9. -/
def sendBit (pk : Packet) (n : Nat) : Bool := (pk.u8 9).testBit n

/-- The data of a message: the first 24 bytes from the packet, the others from memory. -/
def sendData (pk : Packet) (s : State) : List Byte :=
  let n := pk.u8 10
  pk.bytes 32 (min n 24) ++ s.readMem (spaceOf (bit (sendBit pk 3))) (pk.le 16 8) (n - 24)

/-- The identifier of a message: with PROFILE the device fills SOURCE and EPOCH. -/
def sendId (b : Bus) (pk : Packet) : BitVec 29 :=
  BitVec.ofNat 29 (if sendBit pk 4 then setField (setField (pk.u32 12) 12 7 b.ownNode) 6 5 b.sendEpoch else pk.u32 12)

/-- What a message breaks: reason 2, 4, 5 or 9. -/
def sendFault (b : Bus) (pk : Packet) : Option Nat :=
  let ide := sendBit pk 0
  let fdf := sendBit pk 1
  let id := sendId b pk
  if decide ((if ide then 2 ^ 29 else 2 ^ 11) ≤ pk.u32 12) || (sendBit pk 4 && !ide) || (sendBit pk 2 && !fdf) then some 2
  else if !lenOk fdf (pk.u8 10) || (fdf && !b.fdEn) then some 4
  else if ide && (decide (idClass id ≤ 10) || idPrio id == 0) then some 5
  else if decide (24 < pk.u8 10) && !spanFits (spaceOf (bit (sendBit pk 3))) (pk.le 16 8) (pk.u8 10 - 24) then some 9
  else none

def bodyBusSend (pk : Packet) (k : Key) (s : State) : Verdict :=
  onCtrlRight 2 pk s fun c =>
    let b := s.bus c
    match sendFault b pk with
    | some r => badReason r
    | none =>
      if b.fc == .busOff || b.fc == .recovering then failWith St.busOff
      else if b.mode != 1 || b.retired || b.stopped then failWith St.noAck
      else if 56 ≤ b.hostPending then badReason 6
      else
        .pend (Bus.enqueue c {
          key := some k, link := none, ctx := pk.ctx, fdf := sendBit pk 1, brs := sendBit pk 2, ide := sendBit pk 0
          id := sendId b pk, data := sendData pk s, attempts := 0, ackErrors := 0, onBus := false } (Bus.localWake c s))

/-- BUS_SEND (R220, R240); in HOLD or ASLEEP it is a local wake request too (R235). -/
def execBusSend (q : Nat) (pk : Packet) (s : State) : Host.Outcome State Fault Refusal :=
  .next (Cmd.run specBusSend bodyBusSend q pk s)

def specBusCancel : OpSpec :=
  { op := 0x803, owner := false, rev1 := false, rsv := 2, used := [(8, 1, 0xFF), (10, 4, 0xFF)] }

def bodyBusCancel (pk : Packet) (_ : Key) (s : State) : Verdict :=
  onCtrlRight 2 pk s fun c =>
    let named (f : TxBuf) : Bool := match f.key with
      | some k => k.q == pk.u16 10 && k.tag == pk.u16 12
      | none => false
    match (s.bus c).tx.find? named with
    | none => badReason 7
    | some f =>
      if !pk.owner && f.ctx != pk.ctx then failWith St.noRight
      else if f.onBus then failWith St.notCancellable
      else
        .ok 0 (Bus.endSend f St.ok 1 (Bus.modTx c (removeFrame f) s))

/-- BUS_CANCEL (R224). -/
def execBusCancel (q : Nat) (pk : Packet) (s : State) : Host.Outcome State Fault Refusal :=
  .next (Cmd.run specBusCancel bodyBusCancel q pk s)

/-! ## BUS_RECOVER -/

def specBusRecover : OpSpec := { op := 0x804, owner := true, rev1 := true, rsv := 2, used := [(8, 1, 0xFF)] }

def bodyBusRecover (pk : Packet) (k : Key) (s : State) : Verdict :=
  onCtrl pk s fun c =>
    if (s.bus c).fc != .busOff then badReason 7
    else .pend (s.modBus c (fun b => { b with fc := .recovering, recover := some k }))

/-- BUS_RECOVER (R222). -/
def execBusRecover (q : Nat) (pk : Packet) (s : State) : Host.Outcome State Fault Refusal :=
  .next (Cmd.run specBusRecover bodyBusRecover q pk s)

/-- BUS_RECOVERY_DONE (R222): error-active with TEC and REC at 0, RECOVERED, and BUS_RECOVER's final OK. -/
def execBusRecoveryDone (bus : Nat) (s : State) : Host.Outcome State Fault Refusal :=
  .next (whenever (s.tileOn (bus / 16) && (s.bus bus).fc == .recovering && !(s.bus bus).stopped) (fun s =>
    let key := (s.bus bus).recover
    let s := s.modBus bus (fun b => { b with fc := .active, tecCnt := 0, recCnt := 0, recover := none })
    Cmd.finalOpt key St.ok 0 (Bus.raise bus 4 0 s)) s)

/-! ## BUS_FILTER and BUS_RXRING -/

def specBusFilter : OpSpec :=
  { op := 0x805, owner := true, rev1 := false, rsv := 2,
    used := [(8, 2, 0xFF), (10, 1, 3), (12, 4, 0xFF), (16, 4, 0xFF)] }

def bodyBusFilter (pk : Packet) (_ : Key) (s : State) : Verdict :=
  onCtrl pk s fun c =>
    if 16 ≤ pk.u8 9 then badReason 1
    else .ok 0 (s.modBus c (fun b => { b with filters := vset b.filters (pk.u8 9) {
      enable := (pk.u8 10).testBit 0, ide := (pk.u8 10).testBit 1, mtch := pk.f32 12, mask := pk.f32 16 } }))

/-- BUS_FILTER (R221). -/
def execBusFilter (q : Nat) (pk : Packet) (s : State) : Host.Outcome State Fault Refusal :=
  .next (Cmd.run specBusFilter bodyBusFilter q pk s)

def specBusRxring : OpSpec :=
  { op := 0x806, owner := true, rev1 := false, rsv := 2,
    used := [(8, 2, 0xFF), (10, 1, 1), (16, 8, 0xFF), (24, 8, 0xFF), (32, 4, 0xFF)] }

def bodyBusRxring (pk : Packet) (_ : Key) (s : State) : Verdict :=
  onCtrl pk s fun c =>
    let r : Ring := {
      format := 0, log2Size := pk.u8 9, space := spaceOf (pk.u8 10), base := BitVec.ofNat 64 (pk.le 16 8)
      stateAddr := BitVec.ofNat 64 (pk.le 24 8), notify := pk.u32 32, total := 0 }
    if r.log2Size < 6 || 16 < r.log2Size then badReason 1
    else if r.stateAddr.toNat % 8 != 0 || !ringFits r 80 then badReason 9
    else .ok 0 (s.modBus c (fun b => { b with ring := some r }))

/-- BUS_RXRING (R221). -/
def execBusRxring (q : Nat) (pk : Packet) (s : State) : Host.Outcome State Fault Refusal :=
  .next (Cmd.run specBusRxring bodyBusRxring q pk s)

/-! ## BUS_NODE, BUS_NODE_READ and BUS_ADOPT -/

def specBusNode : OpSpec :=
  { op := 0x810, owner := true, rev1 := false, rsv := 2, used := [(8, 3, 0xFF), (16, 8, 0xFF)] }

def bodyBusNode (pk : Packet) (_ : Key) (s : State) : Verdict :=
  onCtrl pk s fun c =>
    let n := pk.u8 9
    let epoch := pk.u8 22
    let ver := pk.u8 23
    if 64 ≤ n then badReason 1
    else if pk.u8 10 = 1 then .ok 0 (s.modNode c n (fun _ => {}))
    else if pk.u8 10 != 0 || 4 ≤ epoch || (ver != 1 && ver != 2) || (ver == 1 && epoch != 0) then badReason 2
    else .ok 0 (s.modNode c n (fun _ => {
      state := .waiting, serial := BitVec.ofNat 48 (pk.le 16 6), epoch := BitVec.ofNat 2 epoch, version := ver
      lastBeacon := s.tb.mono }))

/-- BUS_NODE (R230, Table 10.6). -/
def execBusNode (q : Nat) (pk : Packet) (s : State) : Host.Outcome State Fault Refusal :=
  .next (Cmd.run specBusNode bodyBusNode q pk s)

/-- The code of a node entry's state. -/
def NodeState.code : NodeState → Nat
  | .free => 0
  | .waiting => 1
  | .alive => 2
  | .dead => 3

def specBusNodeRead : OpSpec := { op := 0x811, owner := false, rev1 := false, rsv := 2, used := [(8, 2, 0xFF)] }

def bodyBusNodeRead (pk : Packet) (_ : Key) (s : State) : Verdict :=
  onCtrlRight 1 pk s fun c =>
    let e := (s.bus c).node (pk.u8 9)
    if 64 ≤ pk.u8 9 then badReason 1
    else .ok (result [(5, 1, e.state.code), (6, 1, e.epoch.toNat), (7, 1, e.version), (8, 6, e.serial.toNat),
      (14, 4, e.afterimages.toNat), (18, 4, if e.state == .free then 0 else (s.tb.mono - e.lastBeacon) / 1000000000)]) s

/-- BUS_NODE_READ (R230). -/
def execBusNodeRead (q : Nat) (pk : Packet) (s : State) : Host.Outcome State Fault Refusal :=
  .next (Cmd.run specBusNodeRead bodyBusNodeRead q pk s)

def specBusAdopt : OpSpec :=
  { op := 0x812, owner := true, rev1 := false, rsv := 2, used := [(8, 2, 0xFF), (16, 6, 0xFF)] }

def bodyBusAdopt (pk : Packet) (_ : Key) (s : State) : Verdict :=
  onCtrl pk s fun c =>
    let n := pk.u8 9
    let b := s.bus c
    let e := b.node n
    let spare := BitVec.ofNat 48 (pk.le 16 6)
    if 64 ≤ n then badReason 1
    else if e.state == .free || b.nodes.toList.any (fun x => x.state != .free && x.serial == spare) then badReason 8
    else
      let epoch := if e.version = 2 then e.epoch + 1 else e.epoch
      let s := Bus.send c 6 0xFF none
        (leBytes 1 n ++ leBytes 1 epoch.toNat ++ leBytes 6 spare.toNat ++ leBytes 6 e.serial.toNat) s
      .ok (result [(5, 1, epoch.toNat)]) (s.modNode c n (fun e => { e with
        epoch := epoch, serial := spare, state := .waiting, lastBeacon := s.tb.mono }))

/-- BUS_ADOPT (Table 10.6, R232). -/
def execBusAdopt (q : Nat) (pk : Packet) (s : State) : Host.Outcome State Fault Refusal :=
  .next (Cmd.run specBusAdopt bodyBusAdopt q pk s)

/-! ## BUS_RETIRE and BUS_LINK -/

def specBusRetire : OpSpec :=
  { op := 0x813, owner := true, rev1 := false, rsv := 2, used := [(8, 1, 0xFF), (16, 6, 0xFF)] }

def bodyBusRetire (pk : Packet) (_ : Key) (s : State) : Verdict :=
  onCtrl pk s fun c =>
    let v := BitVec.ofNat 48 (pk.le 16 6)
    if (s.bus c).liveSerial v then badReason 8 else .ok 0 (Bus.send c 7 0xFF none (leBytes 6 v.toNat) s)

/-- BUS_RETIRE (R233). -/
def execBusRetire (q : Nat) (pk : Packet) (s : State) : Host.Outcome State Fault Refusal :=
  .next (Cmd.run specBusRetire bodyBusRetire q pk s)

def specBusLink : OpSpec :=
  { op := 0x814, owner := true, rev1 := false, rsv := 2, used := [(8, 7, 0xFF), (16, 5, 0xFF)] }

def bodyBusLink (pk : Packet) (_ : Key) (s : State) : Verdict :=
  onCtrl pk s fun c =>
    let i := pk.u8 9
    let drop (s : State) : State := Bus.dropOwn c (fun f => f.link == some i) s
    if pk.u8 10 = 1 then .ok 0 ((drop s).modBus c (fun b => { b with links := aerase b.links i }))
    else if pk.u8 10 != 0 then badReason 2
    else if 64 ≤ pk.u8 11 || pk.u8 14 = 0 || 16 < pk.u8 14 then badReason 1
    else if 256 ≤ (s.bus c).links.length then badReason 6
    else
      let l := Point.loadAt (pk.point 16) s
      if !l.1 then .cond St.crcFail 0 l.2
      else if !(((s.point (pk.point 16)).map (fun p => p.kind == 0)).getD false) then badReason 1
      else .ok 0 ((drop l.2).modBus c (fun b => { b with links := aset b.links i {
        point := BitVec.ofNat 40 (pk.point 16), node := pk.u8 11, object := BitVec.ofNat 16 (pk.u16 12), level := pk.u8 14
        seq := 0, wait := none } }))

/-- BUS_LINK (R229). -/
def execBusLink (q : Nat) (pk : Packet) (s : State) : Host.Outcome State Fault Refusal :=
  .next (Cmd.run specBusLink bodyBusLink q pk s)

/-! ## BUS_DUSK and BUS_DAWN -/

def specBusDusk : OpSpec := { op := 0x820, owner := false, rev1 := false, rsv := 2, used := [(8, 1, 0xFF)] }

def bodyBusDusk (pk : Packet) (k : Key) (s : State) : Verdict :=
  onCtrlRight 2 pk s fun c =>
    let b := s.bus c
    if b.dusk != .awake then badReason 7
    else
      let s := s.modBus c (fun b => { b with proposal := b.proposal + 1, agreed := 0, duskKey := some k })
      let s := Bus.send c 1 0xFF none (leBytes 2 (b.proposal + 1).toNat) s
      .pend (Bus.tryCommit c (Bus.toDusk c .proposing s))

/-- BUS_DUSK (R235). -/
def execBusDusk (q : Nat) (pk : Packet) (s : State) : Host.Outcome State Fault Refusal :=
  .next (Cmd.run specBusDusk bodyBusDusk q pk s)

def specBusDawn : OpSpec := { specBusDusk with op := 0x821 }

def bodyBusDawn (pk : Packet) (_ : Key) (s : State) : Verdict :=
  onCtrlRight 2 pk s fun c => .ok 0 (Bus.localWake c s)

/-- BUS_DAWN (R235). -/
def execBusDawn (q : Nat) (pk : Packet) (s : State) : Host.Outcome State Fault Refusal :=
  .next (Cmd.run specBusDawn bodyBusDawn q pk s)

/-! ## Transmission -/

/-- Change the frame on the bus. -/
def Bus.modFlying (k : Nat) (f : TxBuf) (g : TxBuf → TxBuf) (s : State) : State :=
  Bus.modTx k (modFirst f g) s

/-- TRANSMIT_START (R220): at bus idle the pending frame with the lowest identifier is on the bus; after the wake-up
pattern none starts before the 1 ms is over and DAWN waits (R235). -/
def execTransmitStart (bus : Nat) (s : State) : Host.Outcome State Fault Refusal :=
  .next (
    let b := s.bus bus
    if !s.tileOn (bus / 16) || !b.sending || b.dawnDue || b.foreign || b.flying.isSome then s
    else
      match firstFrame b.tx with
      | some f => Bus.modFlying bus f (fun f => { f with onBus := true, attempts := f.attempts + 1 }) s
      | none => s)

/-- An attempt ended in an acknowledge error (R223): TEC rises only while error-active, and the BUS_RETRY_LIMIT-th one
completes the frame with NO_ACK and enters ALONE. -/
def Bus.ackError (k : Nat) (f : TxBuf) (s : State) : State :=
  let b := s.bus k
  let n := f.ackErrors + 1
  let s := s.modBus k (fun b => { b with tecCnt := if b.fc == .active then b.tecCnt + 8 else b.tecCnt })
  let s :=
    if b.retryLimit ≤ n then
      let s := Bus.failSend f St.noAck (Bus.modTx k (removeFrame f) s)
      if b.alone then s else Bus.raise k 0 0 (s.modBus k (fun b => { b with alone := true }))
    else Bus.modFlying k f (fun f => { f with onBus := false, ackErrors := n }) s
  Bus.confine k s

/-- An attempt ended in another error: TEC rises by 8, and the frame is pending again. -/
def Bus.txError (k : Nat) (f : TxBuf) (s : State) : State :=
  Bus.confine k ((Bus.modFlying k f (fun f => { f with onBus := false }) s).modBus k (fun b => { b with tecCnt := b.tecCnt + 8 }))

/-- The frame was acknowledged. -/
def Bus.sent (k : Nat) (f : TxBuf) (s : State) : State :=
  let s := (Bus.modTx k (removeFrame f) s).modBus k (fun b => { b with txok := b.txok + 1, tecCnt := b.tecCnt - 1 })
  Bus.heard k (Bus.endSend f St.ok 0 (Bus.confine k s))

/-- The attempt of a frame on the bus ends; where it lost the arbitration, the winner's frame goes on. -/
def Bus.attemptEnd (k : Nat) (f : TxBuf) (how : TxEnd) (s : State) : State :=
  match how with
  | .acked => Bus.sent k f s
  | .lostArbitration => (Bus.modFlying k f (fun f => { f with onBus := false }) s).modBus k (fun b => { b with foreign := true })
  | .ackError => Bus.ackError k f s
  | .otherError => Bus.txError k f s
  | .delayFail => Bus.txError k f (s.modBus k (fun b => { b with tdcFail := true }))

/-- TRANSMIT_COMPLETE (R220, R222, R223): the attempt of the frame on the bus ends; a controller that GLOW stops has reached
its bus idle (R236). -/
def execTransmitComplete (bus : Nat) (how : TxEnd) (s : State) : Host.Outcome State Fault Refusal :=
  .next (
    match (s.bus bus).flying with
    | none => s
    | some f =>
      if !s.tileOn (bus / 16) then s
      else whenever ((s.bus bus).stopped && how != .lostArbitration) (Bus.halt bus) (Bus.attemptEnd bus f how s))

/-- RECEIVE_ERROR (R222). -/
def execReceiveError (bus : Nat) (s : State) : Host.Outcome State Fault Refusal :=
  .next (whenever (s.tileOn (bus / 16) && (s.bus bus).receiving) (fun s => Bus.foreignEnd bus (Bus.receiveError bus s)) s)

/-! ## Frames received: each row is the frame of its class -/

/-- A profile frame of a class. -/
def isClass (c : Nat) (f : BusFrame) : Bool := f.ide && idClass f.id == c

/-- HOST_FRAME (R221, R227): a base frame, or a profile frame of a class that the engine does not handle. -/
def execHostFrame (bus : Nat) (f : BusFrame) (s : State) : Host.Outcome State Fault Refusal :=
  .next (whenever (!f.ide || !engineClass (idClass f.id)) (Bus.receive bus f) s)

/-- BEACON (R230, R231). -/
def execBeacon (bus : Nat) (f : BusFrame) (s : State) : Host.Outcome State Fault Refusal :=
  .next (whenever (isClass 0 f) (Bus.receive bus f) s)

/-- DUSK_PROPOSE (R235). -/
def execDuskPropose (bus : Nat) (f : BusFrame) (s : State) : Host.Outcome State Fault Refusal :=
  .next (whenever (isClass 1 f) (Bus.receive bus f) s)

/-- DUSK_AGREE (R235). -/
def execDuskAgree (bus : Nat) (f : BusFrame) (s : State) : Host.Outcome State Fault Refusal :=
  .next (whenever (isClass 2 f) (Bus.receive bus f) s)

/-- DUSK_REFUSE (R235). -/
def execDuskRefuse (bus : Nat) (f : BusFrame) (s : State) : Host.Outcome State Fault Refusal :=
  .next (whenever (isClass 3 f) (Bus.receive bus f) s)

/-- DUSK_COMMIT (R235). -/
def execDuskCommit (bus : Nat) (f : BusFrame) (s : State) : Host.Outcome State Fault Refusal :=
  .next (whenever (isClass 4 f) (Bus.receive bus f) s)

/-- DAWN (R235). -/
def execDawn (bus : Nat) (f : BusFrame) (s : State) : Host.Outcome State Fault Refusal :=
  .next (whenever (isClass 5 f) (Bus.receive bus f) s)

/-- ADOPT (R234). -/
def execAdopt (bus : Nat) (f : BusFrame) (s : State) : Host.Outcome State Fault Refusal :=
  .next (whenever (isClass 6 f) (Bus.receive bus f) s)

/-- RETIRE (R233). -/
def execRetire (bus : Nat) (f : BusFrame) (s : State) : Host.Outcome State Fault Refusal :=
  .next (whenever (isClass 7 f) (Bus.receive bus f) s)

/-- POINT_REPORT (R228). -/
def execPointReport (bus : Nat) (f : BusFrame) (s : State) : Host.Outcome State Fault Refusal :=
  .next (whenever (isClass 8 f) (Bus.receive bus f) s)

/-- POINT_WRITE_ACK (R229). -/
def execPointWriteAck (bus : Nat) (f : BusFrame) (s : State) : Host.Outcome State Fault Refusal :=
  .next (whenever (isClass 10 f) (Bus.receive bus f) s)

/-! ## Timers -/

/-- BEACON_TIMER (R230): the device's own BEACON at each BEACON_PERIOD, on a controller in MODE NORMAL. -/
def execBeaconTimer (bus : Nat) (s : State) : Host.Outcome State Fault Refusal :=
  .next (whenever (s.tileOn (bus / 16) && (s.bus bus).sending) (fun s =>
    let at' := (s.bus bus).beaconAt
    let s := untilElapsed at' s
    let next := at' + (s.bus bus).beaconNs
    Bus.beacon bus (s.modBus bus (fun b => { b with beaconAt := if next ≤ s.tb.elapsed then s.tb.elapsed + b.beaconNs else next }))) s)

/-- The check of one node (R230, R232): DEAD when its deadline has passed, and the end of a version-1 afterimage. -/
def Node.check (k n : Nat) (s : State) : State :=
  let b := s.bus k
  let e := b.node n
  let s :=
    match e.v1Seen with
    | some t => if t + b.deadlineNs < s.tb.mono then Node.unreliable k n false (s.modNode k n (fun e => { e with v1Seen := none })) else s
    | none => s
  if (e.state == .alive || e.state == .waiting) && decide (e.lastBeacon + b.deadlineNs < s.tb.mono) then
    let s := Bus.raise k 5 n (s.modNode k n (fun e => { e with state := .dead }))
    if e.state == .alive then Node.fault k n true s else s
  else s

/-- The check of every node; a node declared DEAD is not waited for in PROPOSING (Table 10.9). -/
def Bus.checkNodes (k : Nat) (s : State) : State :=
  Bus.tryCommit k ((List.range 64).foldl (fun s n => Node.check k n s) s)

/-- NODE_CHECK (R230): every 100 ms. -/
def execNodeCheck (bus : Nat) (s : State) : Host.Outcome State Fault Refusal :=
  .next (whenever (s.tileOn (bus / 16) && !(s.bus bus).stopped) (Bus.checkNodes bus) s)

/-- FRAGMENT_TIMEOUT (R226): the message waiting longest has had no fragment for 100 ms. -/
def execFragmentTimeout (bus : Nat) (s : State) : Host.Outcome State Fault Refusal :=
  .next (
    match (s.bus bus).reasm.find? (fun r => !r.lost) with
    | some r => Bus.loseMessage bus r.head (untilElapsed (r.lastAt + 100000001) s)
    | none => s)

/-- LINK_ACK_TIMEOUT (R229): 100 ms without an acknowledgement; the write is sent again, at most three times, and the
fourth silence sets LINK_FAIL. -/
def execLinkAckTimeout (bus link : Nat) (s : State) : Host.Outcome State Fault Refusal :=
  .next (
    match aget (s.bus bus).links link with
    | some l =>
      match l.wait with
      | some (v, n, t) =>
        let s := untilElapsed (t + 100000000) s
        if n < 4 then
          let l := { l with wait := some (v, n + 1, s.tb.elapsed) }
          Bus.linkFrame bus link l v (s.modBus bus (fun b => { b with links := aset b.links link l }))
        else
          Bus.raise bus 15 l.node (s.modBus bus (fun b => { b with links := aset b.links link { l with wait := none } }))
      | none => s
    | none => s)

/-- DUSK_PROPOSE_TIMEOUT (R235). -/
def execDuskProposeTimeout (bus : Nat) (s : State) : Host.Outcome State Fault Refusal :=
  .next (whenever ((s.bus bus).dusk == .proposing && !(s.bus bus).stopped) (fun s =>
    Bus.refused bus 2 (untilElapsed ((s.bus bus).duskAt + 200000000) s)) s)

/-- DUSK_AGREE_TIMEOUT (R235). -/
def execDuskAgreeTimeout (bus : Nat) (s : State) : Host.Outcome State Fault Refusal :=
  .next (whenever ((s.bus bus).dusk == .agreed && !(s.bus bus).stopped) (fun s =>
    Bus.toDusk bus .awake (untilElapsed ((s.bus bus).duskAt + 400000000) s)) s)

/-- DUSK_HOLD_END (R235): the controller stops, BUS_STB high, ASLEEP. -/
def execDuskHoldEnd (bus : Nat) (s : State) : Host.Outcome State Fault Refusal :=
  .next (whenever ((s.bus bus).dusk == .hold && !(s.bus bus).stopped) (fun s =>
    let s := untilElapsed ((s.bus bus).duskAt + 100000000) s
    let s := (Bus.toDusk bus .asleep s).modBus bus (fun b => { b with stb := true })
    Bus.endDusk bus 0 (Bus.raise bus 10 0 s)) s)

/-- DAWN_DELAY_END (R235): 1 ms after the wake-up pattern DAWN is sent. -/
def execDawnDelayEnd (bus : Nat) (s : State) : Host.Outcome State Fault Refusal :=
  .next (whenever ((s.bus bus).dawnDue && !(s.bus bus).stopped) (fun s =>
    let s := untilElapsed ((s.bus bus).duskAt + 1000000) s
    Bus.send bus 5 0xFF none (leBytes 1 0) (s.modBus bus (fun b => { b with dawnDue := false }.pin))) s)

/-- A low on BUS_WAKE in OFF: an enabled cause drives PWR_EN high, and WAKE is raised after RDY (R336, Table 16.7). -/
def Power.offWake (cause arg : Nat) (enabled : Bool) (s : State) : State :=
  if s.pw.boot == .off && enabled && !s.pw.pwrEn then
    { s with pw := { s.pw with pwrEn := true, lastWake := cause + 1, wakeReport := some (cause, arg) } }
  else s

/-- BUS_WAKE (R235, R236, R335): wakes a controller that is ASLEEP; in GLOW, with WAKE_EN, raises WAKE_PIN and is the BUS
wake cause; in OFF it is a wake cause of a controller whose WAKE_EN was copied. -/
def execBusWake (bus : Nat) (s : State) : Host.Outcome State Fault Refusal :=
  .next (
    if s.pw.boot == .off then Power.offWake wakeBus bus (s.pw.aonBus.getLsbD bus) s
    else if !s.live || !s.tileOn (bus / 16) then s
    else if (s.bus bus).stopped then
      (if (s.bus bus).wakeEn then Power.wake wakeBus bus (Bus.raise bus 13 0 s) else s)
    else if (s.bus bus).dusk == .asleep then Bus.raise bus 13 0 (Bus.awake bus s)
    else s)

end Sys2Proof.Machine
end

