-- ==== Sys2Proof/Machine/DriveOps.lean ====
section
/-!
DEFINITION. Machine/DriveOps.lean: drive channels, analogue outputs and fan ports: registers (Tables 9.6, 9.7), profile
runs (R198 to R200), demands (R201, R203, R211, R212), fallback and the safe state (R205, R206), bands (R204).
-/

namespace Sys2Proof.Machine

/-! ## Registers -/

/-- MODE: 0 OFF, 1 SWITCH, 2 TPROP, 3 FLOAT. -/
def DrvCfg.mode (c : DrvCfg) : Nat := field c.cfg0.toNat 2 0
/-- PARALLEL. -/
def DrvCfg.parallel (c : DrvCfg) : Bool := c.cfg0.getLsbD 4
/-- WATCHDOG_S. -/
def DrvCfg.watchdogS (c : DrvCfg) : Nat := field c.cfg0.toNat 15 8
/-- FALLBACK. -/
def DrvCfg.fallback (c : DrvCfg) : Nat := field c.cfg0.toNat 19 18
/-- PROFILE. -/
def DrvCfg.profile (c : DrvCfg) : Nat := field c.cfg0.toNat 23 20
/-- GROUP. -/
def DrvCfg.group (c : DrvCfg) : Nat := field c.cfg0.toNat 31 24
/-- MIN_PULSE_MS in ns. -/
def DrvCfg.minPulseNs (c : DrvCfg) : Nat := field c.cfg1.toNat 15 0 * 1000000
/-- OFF_SETTLE in us. -/
def DrvCfg.offSettle (c : DrvCfg) : Nat := field c.cfg1.toNat 31 16
/-- CYCLE_S of TPROP. -/
def DrvCfg.cycleS (c : DrvCfg) : Nat := field c.cfg2.toNat 31 20
/-- STROKE_S of FLOAT. -/
def DrvCfg.strokeS (c : DrvCfg) : Nat := field c.cfg2.toNat 31 22
/-- OVERTRAVEL of FLOAT. -/
def DrvCfg.overtravel (c : DrvCfg) : Nat := field c.cfg2.toNat 21 14
/-- DEADBAND of FLOAT, in 0.1 %. -/
def DrvCfg.deadband (c : DrvCfg) : Nat := field c.cfg2.toNat 13 6

/-- Channel `j` of a tile. -/
def Tile.drive (t : Tile) (j : Nat) : Drive := vget t.drives j {}

/-- Change channel `j` of tile `t`. -/
def State.modDrive (s : State) (t j : Nat) (f : Drive → Drive) : State :=
  s.modTile t (fun x => { x with drives := vmod x.drives j f })

/-- Channel `j` is channel 2k+1 of a paralleled or floating pair. -/
def isSlave (x : Tile) (j : Nat) : Bool :=
  j % 2 == 1 && ((x.drive (j - 1)).cfg.parallel || (x.drive (j - 1)).cfg.mode == 3)

/-- Channel `j` is the slave of a paralleled pair. -/
def isParallelSlave (x : Tile) (j : Nat) : Bool := j % 2 == 1 && (x.drive (j - 1)).cfg.parallel

/-- The channel whose configuration governs channel `j`. -/
def masterOf (x : Tile) (j : Nat) : Nat := if isSlave x j then j - 1 else j

/-- The configuration that governs channel `j`. -/
def cfgOf (x : Tile) (j : Nat) : DrvCfg := (x.drive (masterOf x j)).cfg

/-- The channels that run one profile in lockstep with channel `j` (R202). -/
def lockstep (x : Tile) (j : Nat) : List Nat :=
  let m := if isParallelSlave x j then j - 1 else j
  if (x.drive m).cfg.parallel && m % 2 == 0 then [m, m + 1] else [m]

/-- The pair of channel `j`, or the channel alone. -/
def pairMembers (x : Tile) (j : Nat) : List Nat :=
  let m := masterOf x j
  if isSlave x (m + 1) && m % 2 == 0 then [m, m + 1] else [m]

/-- The code of STATE. -/
def DrvState.code : DrvState → Nat
  | .idle => 0
  | .on => 1
  | .offPhase => 2
  | .latched => 3
  | .safe => 4

/-- DRV_STAT (Table 9.6). -/
def drvStat (s : State) (t j : Nat) : Nat :=
  let x := s.tile t
  let d := x.drive j
  d.state.code + d.phase * 2 ^ 4 + bit d.watchdog * 2 ^ 7 + d.band * 2 ^ 8 + bit d.fallback * 2 ^ 10
    + bit x.band.held * 2 ^ 11 + bit d.peakLate * 2 ^ 12 + bit d.openLoad * 2 ^ 13 + bit d.overcurrent * 2 ^ 14
    + bit s.pw.gateLow * 2 ^ 15 + bit d.posValid * 2 ^ 16 + bit (d.move == .opening) * 2 ^ 17
    + bit (d.move == .closing) * 2 ^ 18 + bit (s.calItem (calKey 6 (24 * t + j))).pending.isSome * 2 ^ 19
    + bit (isSlave x j) * 2 ^ 20 + bit (outputBound s 5 t j) * 2 ^ 21

/-- DRV_ISENSE. -/
def drvIsense (d : Drive) : Nat := d.valley + d.peak * 2 ^ 16

/-- Raise DRIVE_FAULT for the rise of a status bit. -/
def driveFault (t code kind index stat : Nat) (s : State) : State :=
  Ev.raise (tileSource t 14) code (packLe [(1, kind), (1, index), (4, stat)]) s

/-! ## Phase entries (Table 9.2) -/

/-- TARGET. -/
def phTarget (e : BitVec 48) : Nat := field e.toNat 47 38
/-- END: 0 TIME, 1 PEAK, 2 HOLD. -/
def phEnd (e : BitVec 48) : Nat := field e.toNat 37 36
/-- CHOP_DECAY is FAST. -/
def phChop (e : BitVec 48) : Bool := e.getLsbD 35
/-- END_DECAY is FAST. -/
def phEndDecay (e : BitVec 48) : Bool := e.getLsbD 34
/-- CHOP_OFF in us. -/
def phChopOff (e : BitVec 48) : Nat := field e.toNat 33 28
/-- UNIT. -/
def phUnit (e : BitVec 48) : Nat := field e.toNat 27 26
/-- DURATION. -/
def phDuration (e : BitVec 48) : Nat := field e.toNat 25 10
/-- The duration in ns. -/
def phNs (e : BitVec 48) : Nat := phDuration e * ([10000, 1000000, 100000000][phUnit e]?.getD 0)

/-- The phase in progress. -/
def Drive.entry (d : Drive) : BitVec 48 := (d.run[d.phase]?).getD 0

/-- The gate state of a decay. -/
def decayGate (fast low : Bool) : Gate := if low || fast then .fast else .slow

/-! ## Runs (R198, R200) -/

/-- The set in use and the profile for channel `j` now: the band's, or set 0 where it is empty there. -/
def profileFor (x : Tile) (j : Nat) : Nat × List (BitVec 48) :=
  let p := (cfgOf x j).profile
  let mine := vget x.profiles (16 * x.band.band + p) []
  if mine.isEmpty then (0, vget x.profiles p []) else (x.band.band, mine)

/-- Count `us10` tenths of a microsecond in TCLK cycles from now on (R208). -/
def Drive.count (d : Drive) (us10 now mhz : Nat) : Drive := { d with tickAt := now, ticks := us10 * mhz / 10 }

/-- Elapsed time at which the cycles counted end. -/
def Drive.ticksEnd (d : Drive) (mhz : Nat) : Nat := d.tickAt + ceilDiv (d.ticks * 1000) mhz

/-- GL turns on, and the comparator is blanked for 500 ns (R199); a low VGATE holds the gate off. -/
def Drive.onEdge (d : Drive) (now mhz : Nat) (low : Bool) : Drive :=
  { (d.count 5 now mhz) with gate := if low then .off else .drive, blanked := !low }

/-- A channel at the start of a profile. -/
def Drive.started (d : Drive) (p : Nat × List (BitVec 48)) (now mhz : Nat) (low : Bool) : Drive :=
  { (d.onEdge now mhz low) with
    state := .on, run := p.2, phase := 0, phaseAt := now, band := p.1, boostPeak := 0, stepDown := none
    starts := d.starts + 1 }

/-- Start a profile on one channel, where it is neither latched nor in the safe state. -/
def Drv.start (t m : Nat) (p : Nat × List (BitVec 48)) (s : State) : State :=
  s.modDrive t m (fun d =>
    if d.state != .latched && d.state != .safe then d.started p s.tb.elapsed (tclkNow s t) s.pw.gateLow else d)

/-- A TCLK step from `mhz`: what is being counted keeps the cycles it has left (R208). -/
def Drv.rescale (t mhz : Nat) (s : State) : State :=
  s.modTile t (fun x => { x with drives := x.drives.map (fun d => { d with
    tickAt := s.tb.elapsed, ticks := d.ticks - (s.tb.elapsed - d.tickAt) * mhz / 1000 }) })

/-- A channel may start: it is neither latched nor in the safe state. -/
def Drive.free (d : Drive) : Bool := d.state != .latched && d.state != .safe

/-- Start the profile of channel `j`, from the boost phase, on every channel in lockstep with it. -/
def Drv.on (t j : Nat) (s : State) : State :=
  (lockstep (s.tile t) j).foldl (fun s m =>
    Drv.start t m (profileFor (s.tile t) j) s) s

/-- The decay in which a run ends now. -/
def Drive.offDecay (d : Drive) : Bool := d.stepDown.getD (phEndDecay d.entry)

/-- Take a pending threshold where the channel is in its off phase or IDLE (R209). -/
def Drv.takeCal (t j : Nat) (s : State) : State := Cal.apply (calKey 6 (24 * t + j)) s

/-- End the run of channel `j`: the off phase, in the decay of the phase that was running. -/
def Drv.off (t j : Nat) (s : State) : State :=
  (lockstep (s.tile t) j).foldl (fun s m =>
    if ((s.tile t).drive m).state == .on then
      Drv.takeCal t m (s.modDrive t m (fun d => { d with
        state := .offPhase, gate := decayGate d.offDecay s.pw.gateLow, phaseAt := s.tb.elapsed, stepDown := none
        blanked := false }))
    else s) s

/-! ## The position estimate (R203) -/

/-- Percent of the stroke driven in `ns`. -/
def travel (c : DrvCfg) (ns : Nat) : Rat := if c.strokeS = 0 then 0 else (100 * ns : Nat) / ((c.strokeS * 1000000000 : Nat) : Rat)

/-- Let a move of `p` percent pass: first to the goal, then the overtravel. -/
def Drive.moved (d : Drive) (p : Rat) : Drive :=
  let goal := d.goal.getD d.pos
  let left := rabs (goal - d.pos)
  if p < left then { d with pos := rclamp 0 100 (if d.move == .opening then d.pos + p else d.pos - p) }
  else { d with pos := goal, overTravel := rmax 0 (d.overTravel - (p - left)) }

/-- The channel that drives a move's output. -/
def moveChannel (j : Nat) (opens : Bool) : Nat := if opens then j else j + 1

/-- The output that a FLOAT pair moves by is on. -/
def moveDriven (x : Tile) (j : Nat) : Bool := (x.drive (moveChannel j ((x.drive j).move == .opening))).state == .on

/-- Bring POS_EST of channel 2k up to now; only time in which its output is driven counts. -/
def Drv.advance (t j : Nat) (s : State) : State :=
  s.modDrive t j (fun d =>
    if d.move == .opening || d.move == .closing then
      let d := if s.pw.gateLow || !moveDriven (s.tile t) j then d else d.moved (travel d.cfg (s.tb.elapsed - d.movedTo))
      { d with movedTo := s.tb.elapsed }
    else d)

/-- Stop a move: its output turns off, and POS_EST keeps the time driven. -/
def Drv.stopMove (t j : Nat) (s : State) : State :=
  let s := Drv.advance t j s
  match ((s.tile t).drive j).move with
  | .opening => Drv.off t j (s.modDrive t j (fun d => { d with move := .still, nextOpen := true, movedTo := s.tb.elapsed }))
  | .closing => Drv.off t (j + 1) (s.modDrive t j (fun d => { d with move := .still, nextOpen := false, movedTo := s.tb.elapsed }))
  | .reversing => s.modDrive t j (fun d => { d with move := .still, nextOpen := !d.nextOpen })
  | .still => s

/-- Drive one output of a FLOAT pair; one that is latched or safe moves nothing. -/
def Drv.drive (t j : Nat) (opens : Bool) (s : State) : State :=
  let m := moveChannel j opens
  if !((s.tile t).drive m).free then s.modDrive t j (fun d => { d with move := .still, goal := none })
  else
    Drv.start t m (profileFor (s.tile t) j) (s.modDrive t j (fun d =>
      { d with move := if opens then .opening else .closing, nextOpen := opens, movedTo := s.tb.elapsed }))

/-- The target of a FLOAT pair and the overtravel that follows it; before POS_VALID the first move drives CLOSE through
the whole stroke and the overtravel. -/
def Drive.aim (d : Drive) : Rat × Rat :=
  if !d.posValid then (0, 100 + (d.cfg.overtravel : Rat) - d.pos)
  else
    let g := rclamp 0 100 (fnum d.demand)
    (g, if g = 0 || g = 100 then (d.cfg.overtravel : Rat) else 0)

/-- A FLOAT pair is to move: the difference exceeds DEADBAND / 2 and the drive time reaches MIN_PULSE_MS; the first demand
always moves. -/
def Drive.wantsMove (d : Drive) : Bool :=
  let held := d.fallback && d.cfg.fallback != 2
  d.isOn && !held && d.wait.isNone &&
    (!d.posValid ||
      (let diff := rabs (d.aim.1 - d.pos)
       decide (((d.cfg.deadband : Nat) : Rat) / 20 < diff)
        && decide (((d.cfg.minPulseNs : Nat) : Rat) ≤ diff * ((d.cfg.strokeS * 10000000 : Nat) : Rat))))

/-- Start a move towards the aim; both outputs stay off for 200 ms between the two directions. -/
def Drv.startMove (t j : Nat) (s : State) : State :=
  let d := (s.tile t).drive j
  let opens := d.posValid && decide (d.pos < d.aim.1)
  let s := s.modDrive t j (fun d => { d with goal := some d.aim.1, overTravel := d.aim.2 })
  if opens != d.nextOpen && d.movedTo != 0 && s.tb.elapsed < d.movedTo + 200000000 then
    s.modDrive t j (fun d => { d with move := .reversing, nextOpen := opens })
  else Drv.drive t j opens s

/-- A move under way: it ends at its goal, follows a demand that lies further on, and stops for one that lies behind. -/
def Drv.followMove (t j : Nat) (s : State) : State :=
  let d := (s.tile t).drive j
  let g := d.goal.getD d.pos
  let behind := if d.move == .opening then decide (d.aim.1 < d.pos) else decide (d.pos < d.aim.1)
  if d.pos = g && d.overTravel ≤ 0 then
    let s := (Drv.stopMove t j s).modDrive t j (fun d => { d with posValid := true, goal := none })
    if ((s.tile t).drive j).wantsMove then Drv.startMove t j s else s
  else if !d.posValid || d.aim.1 = g then s
  else if behind then
    let s := Drv.stopMove t j s
    if ((s.tile t).drive j).wantsMove then Drv.startMove t j s else s
  else s.modDrive t j (fun d => { d with goal := some d.aim.1, overTravel := d.aim.2 })

/-- The comparison of every 10 ms. -/
def Drv.floatCheck (t j : Nat) (s : State) : State :=
  let s := Drv.advance t j s
  let d := (s.tile t).drive j
  match d.move with
  | .still => if d.wantsMove && !s.pw.gateLow then Drv.startMove t j s else s
  | .reversing => s
  | .opening => Drv.followMove t j s
  | .closing => Drv.followMove t j s

/-! ## Demands -/

/-- Turn a SWITCH channel on or off; only a change starts or ends a profile (R201). -/
def Drv.switch (t j : Nat) (b : Bool) (s : State) : State :=
  if ((s.tile t).drive j).isOn == b then s
  else
    let s := s.modDrive t j (fun d => { d with isOn := b })
    if b then Drv.on t j s else Drv.off t j s

/-- Record a demand: it ends a fallback (R205). -/
def Drv.note (t j : Nat) (v : F32) (s : State) : State :=
  s.modDrive t j (fun d => { d with demand := v, fallback := false, watchdog := false })

/-- A setting command restarts the watchdog (R205). -/
def Drv.heard (t j : Nat) (s : State) : State := s.modDrive t j (fun d => { d with setAt := s.tb.elapsed })

/-- A demand acts by the mode (R201, R203); while a configuration waits, by the new one once that applies (R210). -/
def Drv.act (t j : Nat) (s : State) : State :=
  let d := (s.tile t).drive j
  if d.wait.isSome then s.modDrive t j (fun d => { d with isOn := true })
  else if d.cfg.mode = 1 then Drv.switch t j (decide (50 ≤ fnum d.demand)) s
  else if d.cfg.mode = 3 then s.modDrive t j (fun d => { d with isOn := true })
  else s

/-- Give channel `j` a demand in percent. -/
def Drv.demand (t j : Nat) (v : F32) (s : State) : State := Drv.act t j (Drv.note t j v s)

/-- The demand that a loop's output gives: clamped to 0 to 100. -/
def clampDemand (v : F32) : F32 := if ffinite v then fof (rclamp 0 100 (fnum v)) else if fneg v then 0 else fof 100

/-! ## Fallback (Table 9.3) and the safe state -/

/-- A channel goes to its fallback. -/
def Drv.fallback (t j : Nat) (s : State) : State :=
  let c := ((s.tile t).drive j).cfg
  let s := s.modDrive t j (fun d => { d with fallback := true })
  if c.mode = 0 then s
  else if c.fallback = 2 then Drv.act t j (s.modDrive t j (fun d => { d with demand := d.cfg.cfg3 }))
  else if c.mode = 3 then Drv.stopMove t j s
  else if c.fallback = 1 then s
  else Drv.off t j (s.modDrive t j (fun d => { d with demand := 0, isOn := false, onUntil := none }))

/-- Every drive channel of a tile enters the safe state: both gates off, POS_EST keeping the time driven (R206). -/
def Drv.safe (t : Nat) (s : State) : State :=
  let s := (List.range 12).foldl (fun s k => Drv.advance t (2 * k) s) s
  s.modTile t (fun x => { x with
    safe := true
    drives := x.drives.map (fun d => { d with
      state := .safe, gate := .off, move := .still, goal := none, isOn := false, onUntil := none, stepDown := none
      blanked := false }) })

/-! ## Analogue outputs -/

/-- LO. -/
def Ao.lo (a : Ao) : Nat := field a.cfg0.toNat 11 0
/-- HI. -/
def Ao.hi (a : Ao) : Nat := field a.cfg0.toNat 23 12
/-- GROUP. -/
def Ao.group (a : Ao) : Nat := field a.cfg0.toNat 31 24
/-- WATCHDOG_S. -/
def Ao.watchdogS (a : Ao) : Nat := field a.cfg1.toNat 15 8
/-- RAMP. -/
def Ao.ramp (a : Ao) : Nat := field a.cfg1.toNat 29 16
/-- FALLBACK. -/
def Ao.fallbackCode (a : Ao) : Nat := field a.cfg1.toNat 31 30

/-- Output `k` of a tile. -/
def Tile.ao (t : Tile) (k : Nat) : Ao := vget t.aos k {}

/-- Change an output. -/
def State.modAo (s : State) (t k : Nat) (f : Ao → Ao) : State := s.modTile t (fun x => { x with aos := vmod x.aos k f })

/-- AO_STAT (Table 9.7). -/
def aoStat (s : State) (t k : Nat) : Nat :=
  let a := (s.tile t).ao k
  bit a.fallback + bit a.overload * 2 + bit (outputBound s 6 t k) * 2 ^ 2 + a.code * 2 ^ 16

/-- Move to a code: at once, or by AO_RAMP_STEPs where RAMP is not 0. -/
def Ao.toCode (a : Ao) (c : Nat) : Ao := { a with target := c, code := if a.ramp = 0 then c else a.code }

/-- The code of a demand (R211). -/
def Ao.codeOf (a : Ao) (v : F32) : Nat :=
  min 4095 (roundNat ((a.lo : Rat) + (((a.hi : Int) - (a.lo : Int) : Int) : Rat) * fnum v / 100))

/-- Give an output a demand in percent. -/
def Ao.demanded (a : Ao) (v : F32) : Ao := { (a.toCode (a.codeOf v)) with demand := v, fallback := false }

/-- A setting command gives an output a demand, and restarts its watchdog (R205). -/
def Ao.commanded (a : Ao) (v : F32) (now : Nat) : Ao := { (a.demanded v) with setAt := now }

/-- An output at its fallback. -/
def Ao.fallen (a : Ao) : Ao :=
  if a.fallbackCode = 2 then { (a.toCode (a.codeOf a.cfg2)) with demand := a.cfg2, fallback := true }
  else if a.fallbackCode = 1 then { a with target := a.code, fallback := true }
  else { (a.toCode 0) with fallback := true }

/-! ## Fan ports -/

/-- KICK, in 100 ms. -/
def Fan.kick (f : Fan) : Nat := field f.cfg0.toNat 8 1
/-- STALL_S. -/
def Fan.stallS (f : Fan) : Nat := field f.cfg0.toNat 12 9
/-- MIN_DUTY. -/
def Fan.minDuty (f : Fan) : Nat := field f.cfg0.toNat 19 13
/-- Pulses per revolution. -/
def Fan.ppr (f : Fan) : Nat := field f.cfg0.toNat 21 20 + 1
/-- FALLBACK. -/
def Fan.fallbackCode (f : Fan) : Nat := field f.cfg0.toNat 23 22
/-- GROUP. -/
def Fan.group (f : Fan) : Nat := field f.cfg0.toNat 31 24
/-- WATCHDOG_S. -/
def Fan.watchdogS (f : Fan) : Nat := field f.cfg1.toNat 15 8
/-- STALL_RPM. -/
def Fan.stallRpm (f : Fan) : Nat := field f.cfg1.toNat 31 16

/-- Port `k` of a tile. -/
def Tile.fan (t : Tile) (k : Nat) : Fan := vget t.fans k {}

/-- Change a port. -/
def State.modFan (s : State) (t k : Nat) (f : Fan → Fan) : State := s.modTile t (fun x => { x with fans := vmod x.fans k f })

/-- FAN_STAT (Table 9.7). -/
def fanStat (s : State) (t k : Nat) : Nat :=
  let f := (s.tile t).fan k
  bit f.fallback + bit f.stall * 2 + bit f.kicking * 2 ^ 2 + bit (outputBound s 7 t k) * 2 ^ 3

/-- The duty of a demand, in 0.1 %: a non-zero one below MIN_DUTY is raised to it (R212). -/
def Fan.dutyOf (f : Fan) (v : F32) : Nat :=
  if fnum v ≤ 0 then 0 else max (10 * f.minDuty) (min 1000 (roundNat (10 * fnum v)))

/-- Run at a demand: a start from 0 kicks first, and a kick goes on until its end or duty 0. -/
def Fan.run (f : Fan) (v : F32) (now : Nat) : Fan :=
  let w := f.dutyOf v
  let f := { f with demand := v }
  if w = 0 then { f with duty := 0, kicking := false }
  else if f.kicking then f
  else if f.duty = 0 && f.kick != 0 then { f with duty := 1000, kicking := true, kickAt := now }
  else { f with duty := w }

/-- Give a port a duty in percent. -/
def Fan.demanded (f : Fan) (v : F32) (now : Nat) : Fan := { (f.run v now) with fallback := false }

/-- A setting command gives a port a duty, and restarts its watchdog (R205). -/
def Fan.commanded (f : Fan) (v : F32) (now : Nat) : Fan := { (f.demanded v now) with setAt := now }

/-- A port at its fallback. -/
def Fan.fallen (f : Fan) (now : Nat) : Fan :=
  if f.fallbackCode = 2 then { (f.run f.cfg2 now) with fallback := true }
  else if f.fallbackCode = 1 then { f with fallback := true }
  else { (f.run 0 now) with fallback := true }

/-! ## Outputs of a tile, and of a binding -/

/-- Every analogue output and fan port of a tile goes to its fallback. -/
def Out.fallbackRest (t : Nat) (s : State) : State :=
  s.modTile t (fun x => { x with
    aos := x.aos.map Ao.fallen
    fans := x.fans.map (fun f => f.fallen s.tb.elapsed) })

/-- Every output of a tile goes to its fallback (R205). -/
def Out.fallbackAll (t : Nat) (s : State) : State :=
  Out.fallbackRest t ((List.range 24).foldl (fun s j =>
    if isSlave (s.tile t) j then s else Drv.fallback t j s) s)

/-- An output binding's target goes to its fallback. -/
def Out.fallback (b : Nat) (s : State) : State :=
  let t := bTile b
  let k := bByte b 2
  if !s.tileOn t then s
  else if bKind b = 5 then Drv.fallback t k s
  else if bKind b = 6 then s.modAo t k Ao.fallen
  else if bKind b = 7 then s.modFan t k (fun f => f.fallen s.tb.elapsed)
  else s

/-- A value reaches an output target of kind 5, 6 or 7; in GLOW the fallback holds (R205). -/
def Out.deliver (kind t k : Nat) (v : F32) (s : State) : State :=
  let v := clampDemand v
  if !s.tileOn t || glowing s then s
  else if kind = 5 then Drv.demand t k v s
  else if kind = 6 then s.modAo t k (fun a => a.demanded v)
  else if kind = 7 then s.modFan t k (fun f => f.demanded v s.tb.elapsed)
  else s

/-! ## Bands (R204, R272) -/

/-- The value a point gives a loop, a zone or a band, as a number: none where the point is faulted by R162; and whether it
is unreliable. -/
def pointInput (s : State) (id : Nat) : Option F32 × Bool :=
  match s.point id with
  | some p =>
    let v := if p.type = 0 then p.value else fofInt p.value.toNat
    let bad := p.status.getLsbD stFault || p.status.getLsbD stStale || !ffinite v
      || !pointSound s id p
    (if bad then none else some v, p.status.getLsbD stUnreliable)
  | none => (none, false)

/-- The target of an output binding is gated or reports a fault (R164, R207): a POINT that is gone, does not verify,
is no longer commanded or carries FAULT. -/
def Out.faulted (s : State) (b : Nat) : Bool :=
  let t := bTile b
  let k := bByte b 2
  let x := s.tile t
  if bKind b = 2 then
    (match s.point (bPoint b) with
      | some p => !pointSound s (bPoint b) p || p.kind != 0 || p.status.getLsbD stFault
      | none => true)
  else if bKind b = 5 then
    !s.tileOn t || s.pw.gateLow || (pairMembers x k).any (fun m => !(x.drive m).free)
  else if bKind b = 6 then !s.tileOn t || (x.ao k).overload
  else if bKind b = 7 then !s.tileOn t || (x.fan k).stall
  else false

/-- One evaluation of a band at a temperature. -/
def BandUnit.judge (b : BandUnit) (temp : Rat) : BandUnit :=
  let bound (n : Nat) : Rat := fnum (if n = 1 then b.b1 else if n = 2 then b.b2 else b.b3)
  { b with
    held := false
    band := if b.band < 3 && decide (bound (b.band + 1) ≤ temp) then b.band + 1
      else if 0 < b.band && decide (temp < bound b.band - 2) then b.band - 1 else b.band }

/-- The record that a band unit follows is loaded for its sample. -/
def BandUnit.load (b : BandUnit) (s : State) : State := if b.fromPoint then Point.check b.point.toNat s else s

/-- One evaluation of a band unit: a faulted point holds the band. -/
def BandUnit.sample (s : State) (b : BandUnit) : BandUnit :=
  if b.fromPoint then
    match (pointInput s b.point.toNat).1 with
    | some v => b.judge (fnum v)
    | none => { b with held := true }
  else
    match dieMax s with
    | some m => b.judge ((m.1 : Rat) / 4)
    | none => b

/-- Boundaries of a band in order and at least 4 C apart. -/
def bandsOk (b1 b2 b3 : F32) : Bool :=
  ffinite b1 && ffinite b2 && ffinite b3 && decide (fnum b1 + 4 ≤ fnum b2) && decide (fnum b2 + 4 ≤ fnum b3)

end Sys2Proof.Machine
end

