-- ==== Sys2Proof/Machine/Drives.lean ====
section
/-!
DEFINITION. Machine/Drives.lean: the DRIVE group (Table 9.9) and what happens at drive channels, analogue outputs and fan
ports (R198 to R212).
-/

namespace Sys2Proof.Machine

/-- A command on an output numbered at offset 9: reason 1, then TILE_OFF (R215). -/
def onOutput (n : Nat) (pk : Packet) (s : State) (f : Nat → Nat → Verdict) : Verdict :=
  let t := pk.u8 8
  if 4 ≤ t || n ≤ pk.u8 9 then badReason 1 else if !s.tileOn t then failWith St.tileOff else f t (pk.u8 9)

/-- A percentage from 0 to 100. -/
def percentOk (v : F32) : Bool := ffinite v && decide (0 ≤ fnum v) && decide (fnum v ≤ 100)

/-- A setting command may set an output: COMMAND on its group, and no loop binds it (R150, R215). -/
def maySet (s : State) (ctx group kind t k : Nat) : Bool := decide (2 ≤ rightOn s ctx group) && !outputBound s kind t k

/-! ## DRV_CONFIG (R210) -/

/-- Fields of a configuration out of range (reason 6). -/
def drvFieldsOut (c : DrvCfg) : Bool :=
  c.offSettle == 0 || !percentOk c.cfg3
    || (c.mode == 2 && (c.cycleS == 0 || decide (3600 < c.cycleS)))
    || (c.mode == 3 && (c.strokeS == 0 || decide (600 < c.strokeS) || decide (100 < c.overtravel) || c.deadband == 0
      || decide (200 < c.deadband)))

/-- The pair rule is broken (reason 3). -/
def pairBroken (s : State) (t j : Nat) (c : DrvCfg) : Bool :=
  (c.parallel || c.mode == 3) &&
    (j % 2 == 1 || (c.parallel && c.mode == 3) || ((s.tile t).drive (j + 1)).cfg.mode != 0 || outputBound s 5 t (j + 1))

/-- DRV_CFG2 with the fields of other modes read as 0 (Table 9.6). -/
def DrvCfg.trimmed (c : DrvCfg) : DrvCfg :=
  { c with cfg2 := if c.mode = 2 then c.cfg2 &&& 0xFFF00000#32 else if c.mode = 3 then c.cfg2 else 0 }

/-- The change needs the channel to pass through OFF (R210). -/
def needsOff (a b : DrvCfg) : Bool := a.mode != b.mode || a.parallel != b.parallel || a.profile != b.profile

/-- The channel is ON or moving, its pair with it. -/
def drvBusy (x : Tile) (j : Nat) : Bool :=
  (pairMembers x j).any (fun m => (x.drive m).state == .on) || (x.drive j).move != .still

/-- A configuration sets FLOAT or changes STROKE_S (R203). -/
def strokeNew (old c : DrvCfg) : Bool := c.mode == 3 && (old.mode != 3 || old.strokeS != c.strokeS)

/-- A configuration takes force. A change of STROKE_S ends a move: the next one finds the closed end (log 27). -/
def Drv.take (t j : Nat) (c : DrvCfg) (s : State) : State :=
  let old := ((s.tile t).drive j).cfg
  let fresh := needsOff old c
  let unknown := strokeNew old c
  let s := if unknown then Drv.stopMove t j s else s
  s.modDrive t j (fun d => { d with
    cfg := c, wait := none
    isOn := if fresh || unknown then false else d.isOn
    posValid := if unknown then false else d.posValid
    move := if fresh then .still else d.move
    onUntil := if fresh then none else d.onUntil
    cycleAt := if c.mode = 2 then startAfter (c.cycleS * 1000) s.ns else d.cycleAt })

/-- A configuration applies: the demand of a loop, or one that has arrived while it waited, acts in the new mode (R210,
Table 9.11). -/
def Drv.apply (t j : Nat) (c : DrvCfg) (s : State) : State :=
  let d := (s.tile t).drive j
  let again := needsOff d.cfg c && ((d.wait.isSome && d.isOn) || outputBound s 5 t j)
  let s := Drv.take t j c s
  if again then Drv.act t j s else s

/-- A waiting configuration applies once its channel and the pair partner are IDLE. -/
def Drv.takeWait (t j : Nat) (s : State) : State :=
  let m := masterOf (s.tile t) j
  match ((s.tile t).drive m).wait with
  | some c =>
    if (pairMembers (s.tile t) m).all (fun i => ((s.tile t).drive i).state == .idle) then Drv.apply t m c s else s
  | none => s

/-- Take a configuration: through OFF where R210 asks for it, its other fields at once. -/
def Drv.configure (t j : Nat) (c : DrvCfg) (s : State) : State :=
  let old := ((s.tile t).drive j).cfg
  if needsOff old c && drvBusy (s.tile t) j then
    let keep : Word := 0x00F00017#32
    let now : DrvCfg := { c with
      cfg0 := (c.cfg0 &&& ~~~keep) ||| (old.cfg0 &&& keep)
      cfg2 := if c.mode = old.mode then c.cfg2 else old.cfg2 }
    let s := Drv.off t j (Drv.stopMove t j s)
    Drv.takeWait t j (s.modDrive t j (fun d => { d with
      cfg := now, wait := some c, isOn := false, onUntil := none, posValid := d.posValid && !strokeNew old now }))
  else Drv.apply t j c s

/-- The judgement of a configuration: the reason that refuses it, or none. -/
def judgeDrv (s : State) (t j : Nat) (c : DrvCfg) : Option Nat :=
  let x := s.tile t
  if isSlave x j then some 7
  else if 4 ≤ c.mode || c.fallback = 3 || c.cfg0.toNat / 8 % 2 = 1 || field c.cfg0.toNat 7 5 != 0 || field c.cfg2.toNat 5 0 != 0
  then some 2
  else if pairBroken s t j c then some 3
  else if c.mode != 0 && (vget x.profiles c.profile []).isEmpty then some 4
  else if drvFieldsOut c then some 6
  else none

/-- A configuration command on a channel, from a packet or a window write. -/
def Drv.command (t j : Nat) (c : DrvCfg) (s : State) : Verdict :=
  match judgeDrv s t j c with
  | some r => badReason r
  | none =>
    if calRunning s (calKey 6 (24 * t + j)) then failWith St.busyCal
    else .ok 0 (Drv.configure t j c.trimmed s)

def specDrvConfig : OpSpec :=
  { op := 0x700, owner := true, rev1 := true, rsv := 2,
    used := [(8, 2, 0xFF), (16, 1, 0x17), (17, 7, 0xFF), (24, 1, 0xC0), (25, 7, 0xFF)] }

/-- The configuration record of a packet. -/
def packetDrv (pk : Packet) : DrvCfg :=
  { cfg0 := BitVec.ofNat 32 (pk.u32 16), cfg1 := BitVec.ofNat 32 (pk.u32 20), cfg2 := BitVec.ofNat 32 (pk.u32 24)
    cfg3 := BitVec.ofNat 32 (pk.u32 28) }

def bodyDrvConfig (pk : Packet) (_ : Key) (s : State) : Verdict :=
  onOutput 24 pk s fun t j => Drv.command t j (packetDrv pk) s

/-- DRV_CONFIG (R202, R210). -/
def execDrvConfig (q : Nat) (pk : Packet) (s : State) : Host.Outcome State Fault Refusal :=
  .next (Cmd.run specDrvConfig bodyDrvConfig q pk s)

/-! ## DRV_PROFILE (R197) -/

def specDrvProfile : OpSpec :=
  { op := 0x701, owner := true, rev1 := true, rsv := 2, used := [(8, 4, 0xFF), (16, 36, 0xFF)] }

/-- A phase entry lies within Table 9.2; `last` says it is the profile's last. -/
def phaseOk (last : Bool) (e : BitVec 48) : Bool :=
  decide (8 ≤ phTarget e) && decide (phEnd e < 3) && (last || phEnd e != 2) && decide (1 ≤ phChopOff e)
    && e.toNat % 1024 == 0
    && (if phEnd e = 2 then phUnit e == 0 && phDuration e == 0 else decide (phUnit e < 3) && decide (1 ≤ phDuration e))

/-- Every entry of a profile is valid, a HOLD standing only last. -/
def profileOk : List (BitVec 48) → Bool
  | [] => true
  | [e] => phaseOk true e
  | e :: f :: r => phaseOk false e && profileOk (f :: r)

def bodyDrvProfile (pk : Packet) (_ : Key) (s : State) : Verdict :=
  let n := pk.u8 11
  if 4 ≤ pk.u8 8 || 4 ≤ pk.u8 9 || 16 ≤ pk.u8 10 then badReason 1
  else if !s.tileOn (pk.u8 8) then failWith St.tileOff
  else if n = 0 || 6 < n then badReason 6
  else if pk.le (16 + 6 * n) (36 - 6 * n) != 0 then badReason 2
  else
    let es := (List.range n).map (fun i => BitVec.ofNat 48 (pk.le (16 + 6 * i) 6))
    if !profileOk es then badReason 4
    else .ok 0 (s.modTile (pk.u8 8) (fun x => { x with profiles := vset x.profiles (16 * pk.u8 9 + pk.u8 10) es }))

/-- DRV_PROFILE (R197, R198). -/
def execDrvProfile (q : Nat) (pk : Packet) (s : State) : Host.Outcome State Fault Refusal :=
  .next (Cmd.run specDrvProfile bodyDrvProfile q pk s)

/-! ## DRV_COMMAND, DRV_READ, DRV_CLEAR and DRV_BAND -/

def specDrvCommand : OpSpec :=
  { op := 0x702, owner := false, rev1 := true, rsv := 2, used := [(8, 3, 0xFF), (16, 4, 0xFF)] }

/-- A bare ON restarts the profile, a bare OFF ends it (R200). -/
def Drv.bare (t j : Nat) (b : Bool) (s : State) : State :=
  let s := Drv.note t j (if b then fof 100 else 0) s
  if ((s.tile t).drive j).wait.isSome then Drv.act t j s
  else if ((s.tile t).drive j).cfg.mode = 1 then
    let s := s.modDrive t j (fun d => { d with isOn := b })
    if b then Drv.on t j s else Drv.off t j s
  else s

def bodyDrvCommand (pk : Packet) (_ : Key) (s : State) : Verdict :=
  onOutput 24 pk s fun t j =>
    let c := ((s.tile t).drive j).cfg
    if !maySet s pk.ctx (cfgOf (s.tile t) j).group 5 t j then failWith St.noRight
    else if isSlave (s.tile t) j then badReason 7
    else if 3 ≤ pk.u8 10 then badReason 2
    else if pk.u8 10 = 0 then (if percentOk (pk.f32 16) then .ok 0 (Drv.demand t j (pk.f32 16) (Drv.heard t j s)) else badReason 6)
    else if 2 ≤ c.mode then badReason 6
    else .ok 0 (Drv.bare t j (pk.u8 10 == 1) (Drv.heard t j s))

/-- DRV_COMMAND (R200, R201). -/
def execDrvCommand (q : Nat) (pk : Packet) (s : State) : Host.Outcome State Fault Refusal :=
  .next (Cmd.run specDrvCommand bodyDrvCommand q pk s)

def specDrvRead : OpSpec := { op := 0x703, owner := false, rev1 := true, rsv := 2, used := [(8, 2, 0xFF)] }

/-- POS_EST now. -/
def posNow (s : State) (t j : Nat) : F32 := fof ((Drv.advance t j s).tile t |>.drive j).pos

def bodyDrvRead (pk : Packet) (_ : Key) (s : State) : Verdict :=
  onOutput 24 pk s fun t j =>
    let d := (s.tile t).drive j
    if rightOn s pk.ctx (cfgOf (s.tile t) j).group = 0 then failWith St.noRight
    else .ok (result [(5, 4, drvStat s t j), (9, 4, d.demand.toNat), (13, 4, drvIsense d), (17, 4, (posNow s t j).toNat),
      (21, 4, d.starts.toNat)]) s

/-- DRV_READ (R215). -/
def execDrvRead (q : Nat) (pk : Packet) (s : State) : Host.Outcome State Fault Refusal :=
  .next (Cmd.run specDrvRead bodyDrvRead q pk s)

def specDrvClear : OpSpec := { op := 0x704, owner := true, rev1 := false, rsv := 2, used := [(8, 2, 0xFF)] }

/-- A channel freed from a latch or the safe state is IDLE: it takes a pending threshold and a waiting configuration, and
its TPROP cycles go on at the next whole multiple of CYCLE_S. -/
def Drv.freed (t j : Nat) (s : State) : State :=
  Drv.takeWait t j (Drv.takeCal t j (s.modDrive t j (fun d => { d with
    state := .idle, gate := .off, onUntil := none, isOn := if d.cfg.mode = 1 || d.cfg.mode = 2 then false else d.isOn
    cycleAt := if d.cfg.mode = 2 then startAfter (d.cfg.cycleS * 1000) s.ns else d.cycleAt })))

/-- Clear the latched faults of channel `j` and its pair partner. -/
def Drv.clear (t j : Nat) (s : State) : State :=
  (pairMembers (s.tile t) j).foldl (fun s m =>
    let s' := s.modDrive t m (fun d => { d with overcurrent := false, openLoad := false })
    if ((s.tile t).drive m).state == .latched then Drv.freed t m s' else s') s

/-- End the safe state of a tile: its channels are IDLE. -/
def Drv.endSafe (t : Nat) (s : State) : State :=
  (List.range 24).foldl (fun s j => if ((s.tile t).drive j).state == .safe then Drv.freed t j s else s)
    (s.modTile t (fun x => { x with safe := false }))

def bodyDrvClear (pk : Packet) (_ : Key) (s : State) : Verdict :=
  let t := pk.u8 8
  if 4 ≤ t || (24 ≤ pk.u8 9 && pk.u8 9 != 0xFF) then badReason 1
  else if !s.tileOn t then failWith St.tileOff
  else if s.pw.crit then badReason 9
  else if pk.u8 9 = 0xFF then .ok 0 (Drv.endSafe t ((List.range 24).foldl (fun s j => Drv.clear t j s) s))
  else .ok 0 (Drv.clear t (pk.u8 9) s)

/-- DRV_CLEAR (R206, R207). -/
def execDrvClear (q : Nat) (pk : Packet) (s : State) : Host.Outcome State Fault Refusal :=
  .next (Cmd.run specDrvClear bodyDrvClear q pk s)

def specDrvBand : OpSpec :=
  { op := 0x705, owner := true, rev1 := false, rsv := 2, used := [(8, 2, 0xFF), (16, 5, 0xFF), (24, 12, 0xFF)] }

/-- The point of a band source is not there or not of TYPE 0. -/
def bandPointBad (s : State) (id : Nat) : Bool := ((s.point id).map (fun p => p.type != 0)).getD true

/-- The points whose records a band packet uses. -/
def bandPoints (pk : Packet) : List Nat := if pk.u8 9 = 1 then [pk.point 16] else []

/-- The band unit that a packet sets. -/
def packetBand (pk : Packet) (b : BandUnit) : BandUnit :=
  { b with
    fromPoint := pk.u8 9 == 1, point := BitVec.ofNat 40 (pk.point 16), b1 := pk.f32 24, b2 := pk.f32 28, b3 := pk.f32 32
    held := false }

def bodyDrvBand (pk : Packet) (_ : Key) (s : State) : Verdict :=
  let t := pk.u8 8
  if 4 ≤ t then badReason 1
  else if !s.tileOn t then failWith St.tileOff
  else if 2 ≤ pk.u8 9 then badReason 2
  else if pk.u8 9 = 1 && !(decide (pk.point 16 / 2 ^ 24 < 10240) && decide (pk.point 16 % 2 ^ 24 < 5242880)) then badReason 1
  else
    onRecords (bandPoints pk) s s fun s =>
      if (pk.u8 9 = 1 && bandPointBad s (pk.point 16)) || !bandsOk (pk.f32 24) (pk.f32 28) (pk.f32 32) then badReason 5
      else .ok (result [(5, 1, (s.tile t).band.band)]) (s.modTile t (fun x => { x with band := packetBand pk x.band }))

/-- DRV_BAND (R204). -/
def execDrvBand (q : Nat) (pk : Packet) (s : State) : Host.Outcome State Fault Refusal :=
  .next (Cmd.run specDrvBand bodyDrvBand q pk s)

/-! ## Analogue outputs (R211) -/

def specAoConfig : OpSpec :=
  { op := 0x710, owner := true, rev1 := false, rsv := 2,
    used := [(8, 2, 0xFF), (16, 4, 0xFF), (21, 3, 0xFF), (24, 4, 0xFF)] }

/-- A configuration of an output, from a packet or a window write. -/
def Ao.command (t k : Nat) (c0 c1 c2 : Word) (s : State) : Verdict :=
  let a : Ao := { (s.tile t).ao k with cfg0 := c0, cfg1 := c1, cfg2 := c2 }
  if a.fallbackCode = 3 || field c1.toNat 7 0 != 0 then badReason 2
  else if a.hi ≤ a.lo || !percentOk c2 then badReason 6
  else .ok 0 (s.modAo t k (fun _ => a))

def bodyAoConfig (pk : Packet) (_ : Key) (s : State) : Verdict :=
  onOutput 8 pk s fun t k =>
    Ao.command t k (BitVec.ofNat 32 (pk.u32 16)) (BitVec.ofNat 32 (pk.u32 20)) (BitVec.ofNat 32 (pk.u32 24)) s

/-- AO_CONFIG (R211). -/
def execAoConfig (q : Nat) (pk : Packet) (s : State) : Host.Outcome State Fault Refusal :=
  .next (Cmd.run specAoConfig bodyAoConfig q pk s)

def specAoSet : OpSpec := { op := 0x711, owner := false, rev1 := true, rsv := 2, used := [(8, 2, 0xFF), (16, 4, 0xFF)] }

def bodyAoSet (pk : Packet) (_ : Key) (s : State) : Verdict :=
  onOutput 8 pk s fun t k =>
    if !maySet s pk.ctx ((s.tile t).ao k).group 6 t k then failWith St.noRight
    else if !percentOk (pk.f32 16) then badReason 6
    else .ok 0 (s.modAo t k (fun a => a.commanded (pk.f32 16) s.tb.elapsed))

/-- AO_SET (R211). -/
def execAoSet (q : Nat) (pk : Packet) (s : State) : Host.Outcome State Fault Refusal :=
  .next (Cmd.run specAoSet bodyAoSet q pk s)

def specAoRead : OpSpec := { op := 0x712, owner := false, rev1 := false, rsv := 2, used := [(8, 2, 0xFF)] }

def bodyAoRead (pk : Packet) (_ : Key) (s : State) : Verdict :=
  onOutput 8 pk s fun t k =>
    let a := (s.tile t).ao k
    if rightOn s pk.ctx a.group = 0 then failWith St.noRight
    else .ok (result [(5, 4, aoStat s t k), (9, 4, a.demand.toNat)]) s

/-- AO_READ (R215). -/
def execAoRead (q : Nat) (pk : Packet) (s : State) : Host.Outcome State Fault Refusal :=
  .next (Cmd.run specAoRead bodyAoRead q pk s)

/-! ## Fan ports (R212) -/

def specFanConfig : OpSpec :=
  { op := 0x720, owner := true, rev1 := false, rsv := 2,
    used := [(8, 2, 0xFF), (16, 4, 0xFF), (21, 3, 0xFF), (24, 4, 0xFF)] }

/-- A configuration of a port, from a packet or a window write. -/
def Fan.command (t k : Nat) (c0 c1 c2 : Word) (s : State) : Verdict :=
  let f : Fan := { (s.tile t).fan k with cfg0 := c0, cfg1 := c1, cfg2 := c2 }
  if f.fallbackCode = 3 || field c1.toNat 7 0 != 0 then badReason 2
  else if 100 < f.minDuty || !percentOk c2 then badReason 6
  else .ok 0 (s.modFan t k (fun _ => f))

def bodyFanConfig (pk : Packet) (_ : Key) (s : State) : Verdict :=
  onOutput 4 pk s fun t k =>
    Fan.command t k (BitVec.ofNat 32 (pk.u32 16)) (BitVec.ofNat 32 (pk.u32 20)) (BitVec.ofNat 32 (pk.u32 24)) s

/-- FAN_CONFIG (R212). -/
def execFanConfig (q : Nat) (pk : Packet) (s : State) : Host.Outcome State Fault Refusal :=
  .next (Cmd.run specFanConfig bodyFanConfig q pk s)

def specFanSet : OpSpec := { op := 0x721, owner := false, rev1 := true, rsv := 2, used := [(8, 2, 0xFF), (16, 4, 0xFF)] }

def bodyFanSet (pk : Packet) (_ : Key) (s : State) : Verdict :=
  onOutput 4 pk s fun t k =>
    if !maySet s pk.ctx ((s.tile t).fan k).group 7 t k then failWith St.noRight
    else if !percentOk (pk.f32 16) then badReason 6
    else .ok 0 (s.modFan t k (fun f => f.commanded (pk.f32 16) s.tb.elapsed))

/-- FAN_SET (R212). -/
def execFanSet (q : Nat) (pk : Packet) (s : State) : Host.Outcome State Fault Refusal :=
  .next (Cmd.run specFanSet bodyFanSet q pk s)

def specFanRead : OpSpec := { op := 0x722, owner := false, rev1 := false, rsv := 2, used := [(8, 2, 0xFF)] }

def bodyFanRead (pk : Packet) (_ : Key) (s : State) : Verdict :=
  onOutput 4 pk s fun t k =>
    let f := (s.tile t).fan k
    if rightOn s pk.ctx f.group = 0 then failWith St.noRight
    else .ok (result [(5, 4, fanStat s t k), (9, 4, f.rpm), (13, 4, (fof ((f.duty : Rat) / 10)).toNat)]) s

/-- FAN_READ (R215). -/
def execFanRead (q : Nat) (pk : Packet) (s : State) : Host.Outcome State Fault Refusal :=
  .next (Cmd.run specFanRead bodyFanRead q pk s)

/-! ## Phases and chops (R198, R199) -/

/-- Latch channels off in a gate state, the faulted ones among them with their flag, 13 OPEN_LOAD or 14 OVERCURRENT; a
move whose output is latched ends (Table 9.4). -/
def Drv.latch (t code : Nat) (members faulted : List Nat) (gate : Gate) (s : State) : State :=
  let m0 := masterOf (s.tile t) (members.headD 0)
  let s := Drv.advance t m0 s
  let d0 := (s.tile t).drive m0
  let ends := members.contains (moveChannel m0 (d0.move == .opening)) || decide (1 < members.length)
  let s := members.foldl (fun s m => s.modDrive t m (fun d => { d with
    state := .latched, gate := gate, phaseAt := s.tb.elapsed, stepDown := none, onUntil := none, blanked := false })) s
  let s := s.modDrive t m0 (fun d => if ends then { d with move := .still, goal := none } else d)
  faulted.foldl (fun s m =>
    let s := s.modDrive t m (fun d => { d with
      overcurrent := d.overcurrent || code == 14, openLoad := d.openLoad || code == 13 })
    driveFault t code 1 m (drvStat s t m) s) s

/-- The next phase of one channel: an ending phase with a higher target lends its END_DECAY to the off times that follow. -/
def Drive.nextPhase (d : Drive) (now : Nat) : Drive :=
  let e := d.entry
  let d := { d with phase := d.phase + 1, phaseAt := now }
  { d with stepDown := if phTarget d.entry < phTarget e then some (phEndDecay e) else none }

/-- What the shunts of channel `j` and its partner have reached counts for the peak of a boost phase (Table 9.4). -/
def Drv.sawPeaks (t j : Nat) (c : Shunts) (s : State) : State :=
  (lockstep (s.tile t) j).foldl (fun s m => s.modDrive t m (fun d =>
    if d.phase = 0 then { d with boostPeak := max d.boostPeak (if m = j then c.code else c.partner) } else d)) s

/-- The channels in lockstep with channel `j` whose boost phase ends with a peak below TARGET / 16 (Table 9.4). -/
def openLoads (x : Tile) (j : Nat) : List Nat :=
  if (x.drive j).phase = 0 then
    (lockstep x j).filter (fun m => decide ((x.drive m).boostPeak * 16 < phTarget (x.drive j).entry))
  else []

/-- The phase in progress ends: OPEN_LOAD for a boost phase without current, the next phase, or after the last one the off
phase with that phase's END_DECAY (R197). -/
def Drv.endPhase (t j : Nat) (s : State) : State :=
  let d := (s.tile t).drive j
  let pair := lockstep (s.tile t) j
  let bad := openLoads (s.tile t) j
  if !bad.isEmpty then Drv.latch t 13 pair bad (decayGate (phEndDecay d.entry) s.pw.gateLow) s
  else if d.phase + 1 < d.run.length then
    pair.foldl (fun s m => s.modDrive t m (fun d => d.nextPhase s.tb.elapsed)) s
  else
    Drv.off t j (pair.foldl (fun s m => s.modDrive t m (fun d => { d with stepDown := none }))
      (Drv.advance t (masterOf (s.tile t) j) s))

/-- PHASE_END (R198): DURATION ends; a PEAK phase sets PEAK_LATE. -/
def execPhaseEnd (tile : Nat) (ending : PhaseEnding) (s : State) : Host.Outcome State Fault Refusal :=
  let channel := ending.channel
  .next (whenever (s.tileOn tile && ((s.tile tile).drive channel).state == .on && phEnd ((s.tile tile).drive channel).entry != 2)
    (fun s =>
      let d := (s.tile tile).drive channel
      let s := Drv.sawPeaks tile channel ending.peaks (untilElapsed (d.phaseAt + phNs d.entry) s)
      let s := if phEnd d.entry = 1 then
          (lockstep (s.tile tile) channel).foldl (fun s m => s.modDrive tile m (fun d => { d with peakLate := true })) s
        else s
      Drv.endPhase tile channel s) s)

/-- The shunt reaches TARGET: PEAK_LATE clears in a boost phase (R198), a PEAK phase ends, and the chop's off time begins,
counted in TCLK (R208). -/
def Drv.trip (t j : Nat) (c : Shunts) (s : State) : State :=
  let code := c.code
  let s := Drv.sawPeaks t j c (s.modDrive t j (fun d => { d with peak := code }))
  let d := (s.tile t).drive j
  let s := if d.phase = 0 then
      (lockstep (s.tile t) j).foldl (fun s m => s.modDrive t m (fun d => { d with peakLate := false })) s
    else s
  let s := if phEnd d.entry = 1 then Drv.endPhase t j s else s
  s.modDrive t j (fun d =>
    if d.state == .on && decide (phTarget d.entry ≤ code) then
      { (d.count (10 * phChopOff d.entry) s.tb.elapsed (tclkNow s t)) with
        gate := decayGate (d.stepDown.getD (phChop d.entry)) s.pw.gateLow }
    else d)

/-- GL of a channel that runs is on. -/
def chopOn (s : State) (t j : Nat) : Bool :=
  let d := (s.tile t).drive j
  s.tileOn t && d.state == .on && d.gate == .drive

/-- CURRENT_TRIP (R199): after blanking. -/
def execCurrentTrip (tile channel : Nat) (shunts : Shunts) (s : State) : Host.Outcome State Fault Refusal :=
  .next (whenever (chopOn s tile channel && !((s.tile tile).drive channel).blanked
      && decide (phTarget ((s.tile tile).drive channel).entry ≤ shunts.code))
    (Drv.trip tile channel shunts) s)

/-- CHOP_OFF_END (R199): CHOP_OFF has passed, and GL turns on again. -/
def execChopOffEnd (tile channel : Nat) (s : State) : Host.Outcome State Fault Refusal :=
  .next (whenever (s.tileOn tile && ((s.tile tile).drive channel).state == .on
      && ((s.tile tile).drive channel).gate != .drive && !s.pw.gateLow)
    (fun s =>
      let s := untilElapsed (((s.tile tile).drive channel).ticksEnd (tclkNow s tile)) s
      s.modDrive tile channel (fun d => d.onEdge s.tb.elapsed (tclkNow s tile) false)) s)

/-- A measurement of a threshold run at elapsed time `now` (R300): the 256th ends the first of the two runs. -/
def Drive.countMeasure (d : Drive) (now : Nat) : Drive :=
  { d with measured := d.measured + 1, measureAt := if d.measured + 1 = 256 then now else d.measureAt }

/-- The comparator of a channel in these states is not in use, and threshold runs measure (R300). -/
def Drive.spare (d : Drive) : Bool := d.state == .idle || d.state == .offPhase || d.state == .latched || d.state == .safe

/-- A measurement window of channel `j` of tile `t` closes: a threshold run under way counts it. -/
def Drv.countMeasure (t j : Nat) (s : State) : State :=
  if calRunning s (calKey 6 (24 * t + j)) then s.modDrive t j (fun d => d.countMeasure s.tb.elapsed) else s

/-- BLANKING_END (R199, R300): the valley code; a current below TARGET ends the step-down. The window that closes gives a
threshold run a measurement, and so does each that closes while the channel's comparator is not in use (log 36). -/
def execBlankingEnd (tile channel code : Nat) (s : State) : Host.Outcome State Fault Refusal :=
  .next (if chopOn s tile channel && ((s.tile tile).drive channel).blanked then
      Drv.countMeasure tile channel
        ((untilElapsed (((s.tile tile).drive channel).ticksEnd (tclkNow s tile)) s).modDrive tile channel (fun d => { d with
          blanked := false
          valley := code
          boostPeak := if d.phase = 0 then max d.boostPeak code else d.boostPeak
          stepDown := if code < phTarget d.entry then none else d.stepDown }))
    else whenever (s.tileOn tile && decide (channel < 24) && ((s.tile tile).drive channel).spare) (Drv.countMeasure tile channel) s)

/-- OVERCURRENT (Table 9.4): after blanking; both gates off, the channel and its pair partner latched. -/
def execOvercurrent (tile channel : Nat) (s : State) : Host.Outcome State Fault Refusal :=
  .next (whenever (chopOn s tile channel && !((s.tile tile).drive channel).blanked)
    (Drv.latch tile 14 (pairMembers (s.tile tile) channel) [channel] .off) s)

/-- The channel is IDLE: a waiting configuration applies once its whole pair is. -/
def Drv.settled (t j : Nat) (s : State) : State :=
  Drv.takeWait t j (Drv.takeCal t j (s.modDrive t j (fun d => { d with state := .idle, gate := .off })))

/-- OFF_SETTLE_END (R200): the off phase ends after OFF_SETTLE; a latched channel's decay ends with both gates off. -/
def execOffSettleEnd (tile channel : Nat) (s : State) : Host.Outcome State Fault Refusal :=
  .next (whenever (s.tileOn tile)
    (fun s =>
      let d := (s.tile tile).drive channel
      let wait (s : State) : State := untilElapsed (d.phaseAt + (cfgOf (s.tile tile) channel).offSettle * 1000) s
      if d.state == .offPhase then Drv.settled tile channel (wait s)
      else if d.state == .latched && d.gate != .off then
        (wait s).modDrive tile channel (fun d => { d with gate := .off })
      else s) s)

/-! ## TPROP (R201) -/

/-- On time of a cycle in ns: too short an on time gives no pulse, too short an off time the whole cycle. -/
def tpropOn (d : Drive) : Nat :=
  let cycle := d.cfg.cycleS * 1000000000
  let on := floorNat (fnum d.demand * (cycle : Rat) / 100)
  if on < d.cfg.minPulseNs then 0 else if cycle - on < d.cfg.minPulseNs then cycle else on

/-- A TPROP cycle starts, at a whole multiple of CYCLE_S; one that comes while the channel is latched, safe or waits for a
configuration gives no pulse. -/
def Drv.cycle (t j : Nat) (s : State) : State :=
  let d := (s.tile t).drive j
  let s := untilTb d.cycleAt s
  let cycle := d.cfg.cycleS * 1000000000
  let base := s.ns / cycle * cycle
  let s := s.modDrive t j (fun d => { d with cycleAt := base + cycle })
  if !d.free || d.wait.isSome then s
  else
    let on := tpropOn d
    let s := s.modDrive t j (fun d => { d with
      isOn := on != 0, onUntil := if on = 0 || cycle ≤ on then none else some (base + on) })
    if on = 0 then Drv.off t j s else Drv.on t j s

/-- TPROP_CYCLE_START (R201). -/
def execTpropCycleStart (tile channel : Nat) (s : State) : Host.Outcome State Fault Refusal :=
  .next (whenever (s.tileOn tile && ((s.tile tile).drive channel).cfg.mode == 2
      && !isSlave (s.tile tile) channel)
    (Drv.cycle tile channel) s)

/-- TPROP_ON_END (R201). -/
def execTpropOnEnd (tile channel : Nat) (s : State) : Host.Outcome State Fault Refusal :=
  .next (match ((s.tile tile).drive channel).onUntil with
    | some e =>
      if s.tileOn tile then
        let s := untilTb e s
        Drv.off tile channel (s.modDrive tile channel (fun d => { d with onUntil := none, isOn := false }))
      else s
    | none => s)

/-! ## FLOAT (R203) -/

/-- FLOAT_CHECK (R203): at the next whole 10 ms of TB. -/
def execFloatCheck (tile channel : Nat) (s : State) : Host.Outcome State Fault Refusal :=
  .next (whenever (s.tileOn tile && ((s.tile tile).drive channel).cfg.mode == 3)
    (fun s => Drv.floatCheck tile channel (untilTb ((s.ns / 10000000 + 1) * 10000000) s)) s)

/-- REVERSAL_WAIT_END (R203): the 200 ms between the two outputs have passed. -/
def execReversalWaitEnd (tile channel : Nat) (s : State) : Host.Outcome State Fault Refusal :=
  .next (whenever (s.tileOn tile && ((s.tile tile).drive channel).move == .reversing)
    (fun s =>
      let d := (s.tile tile).drive channel
      let s := untilElapsed (d.movedTo + 200000000) s
      if d.wantsMove && !s.pw.gateLow && (d.posValid && decide (d.pos < d.aim.1)) == d.nextOpen then
        Drv.drive tile channel d.nextOpen (s.modDrive tile channel (fun d => { d with goal := some d.aim.1, overTravel := d.aim.2 }))
      else s.modDrive tile channel (fun d => { d with move := .still, nextOpen := !d.nextOpen })) s)

/-! ## Bands, watchdogs, VGATE -/

/-- DRIVE_BAND_SAMPLE (R204): every 1 ms. -/
def execDriveBandSample (tile : Nat) (s : State) : Host.Outcome State Fault Refusal :=
  .next (whenever (s.tileOn tile) (fun s =>
    let s := (s.tile tile).band.load s
    s.modTile tile (fun x => { x with band := x.band.sample s })) s)

/-- A watchdog that may expire: its time, counted from the last setting command; none where it is off, bound or expired.
That of an analogue output or a fan port has no flag, and changes nothing while the fallback stands. -/
def watchdogAt (s : State) (t kind k : Nat) : Option Nat :=
  let x := s.tile t
  if kind = 1 then
    (if (x.drive k).cfg.watchdogS = 0 || outputBound s 5 t k || (x.drive k).watchdog || isSlave x k then none
     else some ((x.drive k).setAt + (x.drive k).cfg.watchdogS * 1000000000))
  else if kind = 2 then
    (if (x.ao k).watchdogS = 0 || outputBound s 6 t k || (x.ao k).fallback then none
     else some ((x.ao k).setAt + (x.ao k).watchdogS * 1000000000))
  else if kind = 3 then
    (if (x.fan k).watchdogS = 0 || outputBound s 7 t k || (x.fan k).fallback then none
     else some ((x.fan k).setAt + (x.fan k).watchdogS * 1000000000))
  else none

/-- OUTPUT_WATCHDOG_EXPIRY (R205). -/
def execOutputWatchdogExpiry (tile kind index : Nat) (s : State) : Host.Outcome State Fault Refusal :=
  .next (match watchdogAt s tile kind index with
    | some e =>
      if s.tileOn tile then
        let s := untilElapsed e s
        if kind = 1 then Drv.fallback tile index (s.modDrive tile index (fun d => { d with watchdog := true }))
        else if kind = 2 then s.modAo tile index Ao.fallen
        else s.modFan tile index (fun f => f.fallen s.tb.elapsed)
      else s
    | none => s)

/-- The powered tiles. -/
def tilesOn (s : State) : List Nat := (List.range 4).filter (fun t => s.tileOn t)

/-- VGATE_LOW (Table 9.4): every gate of the device turns off, and GATE_LOW rises on every channel; before RDY the
level is taken, with no tile powered. -/
def execVgateLow (s : State) : Host.Outcome State Fault Refusal :=
  .next (whenever (!s.pw.gateLow)
    (fun s =>
      let s := (tilesOn s).foldl (fun s t => (List.range 12).foldl (fun s k => Drv.advance t (2 * k) s) s) s
      let s := { s with pw := { s.pw with gateLow := true } }
      let s := (tilesOn s).foldl (fun s t => s.modTile t (fun x => { x with
        drives := x.drives.map (fun d => { d with gate := .off, blanked := false }) })) s
      (tilesOn s).foldl (fun s t => (List.range 24).foldl (fun s j => driveFault t 15 1 j (drvStat s t j) s) s) s) s)

/-- VGATE_RECOVER (Table 9.4): GATE_LOW clears, every ON channel restarts from the boost phase, FLOAT moves resume. -/
def execVgateRecover (s : State) : Host.Outcome State Fault Refusal :=
  .next (whenever s.pw.gateLow
    (fun s =>
      let s := { s with pw := { s.pw with gateLow := false } }
      (tilesOn s).foldl (fun s t => (List.range 24).foldl (fun s j =>
        s.modDrive t j (fun d =>
          let d := { d with movedTo := if d.move == .opening || d.move == .closing then s.tb.elapsed else d.movedTo }
          if d.state == .on then d.started (profileFor (s.tile t) j) s.tb.elapsed (tclkNow s t) false else d)) s) s) s)

/-! ## Analogue outputs and fans -/

/-- AO_OVERLOAD (Table 9.4). -/
def execAoOverload (tile output : Nat) (s : State) : Host.Outcome State Fault Refusal :=
  .next (whenever (s.tileOn tile && !((s.tile tile).ao output).overload)
    (fun s =>
      let s := s.modAo tile output (fun a => { a with overload := true })
      driveFault tile 1 2 output (aoStat s tile output) s) s)

/-- AO_OVERLOAD_CLEAR (Table 9.4). -/
def execAoOverloadClear (tile output : Nat) (s : State) : Host.Outcome State Fault Refusal :=
  .next (whenever (s.tileOn tile) (fun s => s.modAo tile output (fun a => { a with overload := false })) s)

/-- Move a code towards its target by at most `r`. -/
def rampStep (code target r : Nat) : Nat := if code < target then min target (code + r) else max target (code - r)

/-- AO_RAMP_STEP (R211): at the next whole ms. -/
def execAoRampStep (tile output : Nat) (s : State) : Host.Outcome State Fault Refusal :=
  .next (whenever (s.tileOn tile && ((s.tile tile).ao output).code != ((s.tile tile).ao output).target)
    (fun s => (untilElapsed ((s.tb.elapsed / 1000000 + 1) * 1000000) s).modAo tile output (fun a =>
      { a with code := if a.ramp = 0 then a.target else rampStep a.code a.target a.ramp })) s)

/-- FAN_KICK_END (R212). -/
def execFanKickEnd (tile port : Nat) (s : State) : Host.Outcome State Fault Refusal :=
  .next (whenever (s.tileOn tile && ((s.tile tile).fan port).kicking)
    (fun s =>
      let f := (s.tile tile).fan port
      (untilElapsed (f.kickAt + f.kick * 100000000) s).modFan tile port (fun f =>
        { f with kicking := false, duty := f.dutyOf f.demand })) s)

/-- FAN_TACH_EDGE (R212). -/
def execFanTachEdge (tile port : Nat) (s : State) : Host.Outcome State Fault Refusal :=
  .next (whenever (s.tileOn tile) (fun s => s.modFan tile port (fun f => { f with pulses := f.pulses + 1 })) s)

/-- The speed of a second, and its stall judgement (R212, Table 9.4); the Bool says that STALL rose. -/
def Fan.second (f : Fan) (sec elapsed : Nat) : Fan × Bool :=
  let rpm := min (2 ^ 32 - 1) (60 * f.pulses / f.ppr)
  let ran := f.duty != 0 && !f.kicking && decide (f.kickAt + f.kick * 100000000 + 1000000000 ≤ elapsed)
  let slow := if f.stallS != 0 && ran && rpm < f.stallRpm then min 15 (f.slow + 1) else 0
  let rises := f.stallS != 0 && decide (f.stallS ≤ slow) && !f.stall
  ({ f with
     rpm := rpm, pulses := 0, slow := slow, nextSec := sec + 1
     stall := if f.stallRpm ≤ rpm then false else f.stall || rises }, rises)

/-- FAN_SPEED_UPDATE (R212): at each TB second, for every port of the tile. -/
def execFanSpeedUpdate (tile : Nat) (s : State) : Host.Outcome State Fault Refusal :=
  .next (whenever (s.tileOn tile)
    (fun s =>
      let s := untilTb (((s.tile tile).fan 0).nextSec * 1000000000) s
      (List.range 4).foldl (fun s k =>
        let r := ((s.tile tile).fan k).second s.sec s.tb.elapsed
        let s := s.modFan tile k (fun _ => r.1)
        if r.2 then driveFault tile 1 3 k (fanStat s tile k) s else s) s) s)

end Sys2Proof.Machine
end

