-- ==== Sys2Proof/Machine/CommitStart.lean ====
section
/-!
DEFINITION. Machine/CommitStart.lean: the pages of a commit (R312, R316), its start and its staging into the journal log
(R314, R317), and the metering checkpoints that start by themselves (R138, R139). Which pages hold the device's own records,
and how a journal record and a profile are laid out, is the model's (log 12).
-/

namespace Sys2Proof.Machine

/-! ## Pages -/

/-- The bytes of a stored profile: the 640 readings in 16 bits each and their CRC-32C, in six pages (R287); zeros for none. -/
def profileBytes : Option (List Int) → List Byte
  | some l =>
    let data := l.flatMap (fun v => leBytes 2 (toBits 16 v))
    data ++ leBytes 4 (crc32c data).toNat ++ List.replicate (1532 - data.length) 0
  | none => List.replicate 1536 0

/-- The stored profile of a head; none where its CRC-32C does not match (R287). -/
def Nv.profile (s : State) (h : Nat) : Option (List Int) :=
  let data := memRead s.nv.cells (12 * 131072 + 1536 * h) 1280
  if (crc32c data).toNat = ofLe (memRead s.nv.cells (12 * 131072 + 1536 * h + 1280) 4) then
    some ((chunks 2 640 data).map (fun b => (BitVec.ofNat 16 (ofLe b)).toInt))
  else none

/-- The pages of a commit: the region, the first page in it and their number; region 16 stands for the system pages. -/
def commitPages : CommitKind → Nat × Nat × Nat
  | .write r off d => (r, off / 256, pagesOf off d.length)
  | .clear r step => if step < 8 then (r, 64 * step, 64) else (16, 1 + r / 4, 1)
  | .install t _ => (15, t / 2, 1)
  | .rights t _ _ => (15, t / 2, 1)
  | .remove t => (15, t / 2, 1)
  | .identity _ => (13, 0, 1)
  | .tariff place _ _ => (14, 33 * place, 33)
  | .meter t p _ => (14, 66 + (8 * t + p) / 4, 1)
  | .checkpoint j => (14, 74 + 16 * j.slot, 16)
  | .profile h _ => (12, 6 * h, 6)
  | .bp _ => (16, 0, 1)
  | .password r _ _ => (16, 1 + r / 4, 1)
  | .holdup _ => (16, 4, 1)

/-- The global numbers of a commit's target pages; those of the system pages follow the user array (log 12). -/
def targetPages (c : CommitKind) : List Nat :=
  let p := commitPages c
  (List.range p.2.2).map (fun i => 512 * p.1 + p.2.1 + i)

/-- The bytes that a commit writes, with their address, where the spec lays its pages out as bytes. -/
def commitBytes : CommitKind → Option (Nat × List Byte)
  | .write r off d => some (r * 131072 + off, d)
  | .clear r step => if step < 8 then some (r * 131072 + 16384 * step, List.replicate 16384 0) else none
  | .profile h p => some (12 * 131072 + 1536 * h, profileBytes p)
  | .bp _ => none
  | .password _ _ _ => none
  | .holdup _ => none
  | .install _ _ => none
  | .rights _ _ _ => none
  | .remove _ => none
  | .identity _ => none
  | .meter _ _ _ => none
  | .tariff _ _ _ => none
  | .checkpoint _ => none

/-- A commit's pages as it will leave them; the bytes of the device's own records are free (log 5). -/
def stagedPages (s : State) (c : CommitKind) : List (List Byte) :=
  match commitBytes c with
  | some (a, d) =>
    let m := memWrite s.nv.cells a d
    (targetPages c).map (fun page => memRead m (256 * page) 256)
  | none => (List.range (targetPages c).length).map (fun i => (List.range 256).map (fun j => Config.pageByte s.free (256 * i + j)))

/-! ## The journal (R314) -/

/-- The bytes of a journal record that its CRC covers. -/
def journalBytes (seq : Nat) (targets : List (Nat × Nat × Word)) : List Byte :=
  leBytes 4 seq ++ targets.flatMap (fun t => leBytes 4 t.1 ++ leBytes 4 t.2.1 ++ leBytes 4 t.2.2.toNat)

/-- Step 2 of R314: a commit's pages go to the journal log, and the record of step 3 is formed. -/
def Nv.stage (c : CommitKind) (s : State) : State :=
  let pages := targetPages c
  let at' (i : Nat) : Nat := (s.nv.logAt + i) % 1024
  let copies := stagedPages s c
  let targets := (List.range pages.length).map (fun i => (pages.getD i 0, at' i, crc32c (copies.getD i [])))
  let s := if (commitBytes c).isNone then s.drawn else s
  { s with nv := { s.nv with
    log := (List.range pages.length).foldl (fun l i => aset l (at' i) (copies.getD i [])) s.nv.log
    logAt := at' pages.length
    logPrograms := s.nv.logPrograms + pages.length
    commitSeq := s.nv.commitSeq + 1
    record := some { seq := s.nv.commitSeq, targets := targets, crc := crc32c (journalBytes s.nv.commitSeq targets) } } }

/-! ## Starting a commit -/

/-- The hold-up energy lets a commit start (R317, R139). -/
def energyOk (s : State) : Bool := decide ((eReserve s : Rat) ≤ energyNow s)

/-- The hold-up energy lets a commit start; NV_HOLDUP's own is judged by the values it carries (R317). -/
def commitPowered (s : State) (c : CommitKind) : Bool :=
  match c with
  | .holdup h => decide ((h.eReserve : Rat) ≤ holdEnergy h s.pw.mon.holdmon)
  | .write _ _ _ => energyOk s
  | .bp _ => energyOk s
  | .password _ _ _ => energyOk s
  | .clear _ _ => energyOk s
  | .install _ _ => energyOk s
  | .rights _ _ _ => energyOk s
  | .remove _ => energyOk s
  | .identity _ => energyOk s
  | .meter _ _ _ => energyOk s
  | .profile _ _ => energyOk s
  | .tariff _ _ _ => energyOk s
  | .checkpoint _ => energyOk s

/-- A checkpoint of the store as it stands (R138). -/
def Meter.snapshot (s : State) : Checkpoint :=
  { pairs := s.mt.pairs.toList.map Vector.toList, tariff := s.mt.tariff, activeBank := s.mt.activeIdx, stamp := s.ns
    stampValid := s.tb.valid, len := s.mt.len }

/-- The power-fail checkpoint does not start for want of energy: METER_COMMIT_LOST (R139). -/
def Meter.commitLost (s : State) : State :=
  Ev.raise 11 0 (packLe [(2, energyMj s)]) { s with mt := { s.mt with tailDue := true } }

/-- A queued commit is the power-fail checkpoint. -/
def isPowerFail (c : Commit) : Bool :=
  match c.what with
  | .checkpoint j => j.power
  | _ => false

/-- A queued commit is a metering checkpoint. -/
def isCheckpoint (c : Commit) : Bool :=
  match c.what with
  | .checkpoint _ => true
  | _ => false

/-- The bytes of a bank: eight rates, then its entries in use. -/
def Bank.bytes (b : Bank) : List Byte :=
  (List.range 8).flatMap (fun i => leBytes 4 (vget b.price i 0).toNat ++ leBytes 4 (vget b.limit i 0).toNat)
    ++ (List.range b.used).flatMap (fun i => leBytes 8 ((aget b.entries i).getD 0).toNat)

/-- The first `n` entries rise strictly in WHEN; an entry never loaded is all zero. -/
def Bank.rises (b : Bank) (n : Nat) : Bool :=
  let w (i : Nat) : Nat := field ((aget b.entries i).getD 0).toNat 63 24
  (List.range (n - 1)).all (fun i => decide (w i < w (i + 1)))

/-- A bank as its rebuild leaves it: its entries in use, and its CRC-32C (R135). -/
def Bank.rebuilt (b : Bank) (n : Nat) : Bank :=
  let b := { b with used := n }
  { b with crc := crc32c b.bytes }

/-- What a commit writes is assembled at its start (R314): a checkpoint takes the next slot and, but for the power-fail one,
the store as it stands; a tariff bank is rebuilt from the shadow bank. -/
def Commit.assembled (s : State) (c : Commit) : Commit :=
  match c.what with
  | .checkpoint j =>
    { c with what := .checkpoint { j with slot := s.mt.slotNext, image := some (j.image.getD (Meter.snapshot s)) } }
  | .tariff _ n _ => { c with what := .tariff (1 - s.mt.activeIdx) n (some (s.mt.shadow.rebuilt n)) }
  | _ => c

/-- A commit of a tariff bank whose entries do not rise is refused before it starts (R135). -/
def bankRises (s : State) (c : Commit) : Bool :=
  match c.what with
  | .tariff _ n _ => s.mt.shadow.rises n
  | _ => true

/-- The queue's first commit ends without an effect. -/
def Nv.refuseFirst (c : Commit) (rest : List Commit) (st : Byte) (res : Nat) (s : State) : State :=
  let n (rd : NvRead) : Nat := overlapCount rd.region rd.offset rd.len c.what
  let s := { s with nv := { s.nv with
    queue := rest, reads := s.nv.reads.map (fun rd => { rd with ahead := rd.ahead - n rd }) } }
  let s := if isPowerFail c then Meter.commitLost s else s
  Nv.serve (Cmd.finalOpt c.key st res (Tariff.dropJob c s))

/-- Steps 1 and 2 of R314 on the queue's first commit. CLIENT_REMOVE closes the tenant's sessions here (log 18). -/
def Nv.start (c : Commit) (rest : List Commit) (s : State) : State :=
  if bpRefuses s c.what then Nv.refuseFirst c rest St.nvLocked 0 s
  else if !bankRises s c then Nv.refuseFirst c rest St.badParam (result [(5, 1, 5)]) s
  else if !commitPowered s c.what then Nv.refuseFirst c rest St.nvLowEnergy 0 s
  else
    let c := c.assembled s
    let s := Nv.stage c.what { s with nv := { s.nv with queue := rest, running := some c, recorded := false } }
    match c.what with
    | .remove t => (ctxsOf s t).foldl (fun s x => closeSession x s) s
    | _ => s

/-- A metering checkpoint that stands first starts by itself once nothing runs (R138, R318). -/
def Nv.kick (s : State) : State :=
  match s.nv.queue with
  | c :: rest => if s.live && s.nv.running.isNone && isCheckpoint c then Nv.start c rest s else s
  | [] => s

/-- The checkpoint of an interval close waits for its turn among the commits (R138, R314). -/
def Meter.checkpoint (s : State) : State :=
  Nv.kick (Nv.enqueue none 0 (.checkpoint { at' := s.ns, power := false, image := none }) s)

/-- Put a commit in front of the queue; the power-fail checkpoint stays ahead of it (R314). -/
def queueFront (c : Commit) : List Commit → List Commit
  | p :: r => if isPowerFail p then p :: c :: r else c :: p :: r
  | [] => [c]

end Sys2Proof.Machine
end

