-- ==== Sys2Proof/Machine/MeterOps.lean ====
section
/-!
DEFINITION. Machine/MeterOps.lean: energy accounting (R128, R129), demand intervals (R132, R133), tariffs (R134 to R136),
checkpoints (R138, R139) and what start-up restores (R140).
-/

namespace Sys2Proof.Machine

/-- Change metering pair `p` of tile `t`. -/
def State.modMeter (s : State) (t p : Nat) (f : MeterPair → MeterPair) : State :=
  { s with mt := { s.mt with pairs := vmod s.mt.pairs t (fun v => vmod v p f) } }

/-- Change every pair of the chip. -/
def State.modMeters (s : State) (f : MeterPair → MeterPair) : State :=
  { s with mt := { s.mt with pairs := s.mt.pairs.map (fun v => v.map f) } }

/-- The numbers of all pairs. -/
def allPairs : List (Nat × Nat) := (List.range 4).flatMap (fun t => (List.range 8).map (fun p => (t, p)))

/-! ## Interval flags (Table 6.5) -/

/-- The bit numbers of a record's FLAGS. -/
def flInterrupted : Nat := 0
def flSplit : Nat := 1
def flFault : Nat := 2
def flStampInvalid : Nat := 3
def flResized : Nat := 4
def flReconfig : Nat := 5
def flTailLost : Nat := 6

/-- Set a flag of an interval. -/
def Interval.mark (i : Interval) (n : Nat) : Interval := { i with flags := i.flags ||| (1#16 <<< n) }

/-- Length codes in seconds (R132). -/
def lenSeconds (code : Nat) : Nat := [60, 300, 600, 900, 1800, 3600][code]?.getD 900

/-! ## Accounting (R128) -/

/-- One unit of energy, 0.1 Wh, in uW*ns. -/
def energyUnit : Nat := 360000000000000000

/-- The interval that takes a pair's energy: the pending one until TB_VALID is set. -/
def MeterPair.modOpen (m : MeterPair) (f : Interval → Interval) : MeterPair :=
  match m.pend with
  | some i => { m with pend := some (f i) }
  | none => { m with interval := f m.interval }

/-- Add energy at the power in force for `ns`. -/
def MeterPair.addEnergy (m : MeterPair) (tariff ns : Nat) : MeterPair :=
  if 0 ≤ m.power then
    let e := m.remImp + m.power.toNat * ns
    let n := e / energyUnit
    ({ m with
      remImp := e % energyUnit
      eImp := vset m.eImp tariff ((vget m.eImp tariff 0 + n) % 2 ^ 48) }).modOpen (fun i => { i with eImp := i.eImp + n })
  else
    let e := m.remExp + (-m.power).toNat * ns
    let n := e / energyUnit
    ({ m with remExp := e % energyUnit, eExp := (m.eExp + n) % 2 ^ 48 }).modOpen (fun i => { i with eExp := i.eExp + n })

/-- Account a pair up to TB `t`: time without a bound pair, and time of a faulted dwell, is gap; of the rest at most 10 s
counts. A restored interval waits for its pair to resume, and a pending one takes the energy until TB is valid (R140). -/
def MeterPair.account (m : MeterPair) (tariff t : Nat) (faulted : Bool) : MeterPair :=
  if m.cfg.isNone || (m.restored && m.pend.isNone) then m
  else
    let dt := t - m.lastEnd
    let m := { m with lastEnd := t }
    if !m.bound then m.modOpen (fun i => { i with gap := i.gap + dt })
    else if faulted then m.modOpen (fun i => ({ i with gap := i.gap + dt }).mark flFault)
    else
      let acct := min dt 10000000000
      (m.addEnergy tariff acct).modOpen (fun i => { i with
        gap := i.gap + (dt - acct), accounted := i.accounted + acct })

/-- A close instant: every configured pair is accounted up to it (R129). -/
def Meter.closeInstant (t : Nat) (s : State) : State := s.modMeters (fun m => m.account s.mt.tariff t false)

/-- A scale; a value that is not finite leaves the product open, and it is free (log 5). -/
def scaleOf (s : State) (x : F32) : Rat := if ffinite x then fnum x else fnum (Config.fp s.free)

/-- A list's element by a signed place, held within the list. -/
def heldAt (l : List Int) (k : Int) : Int := l.getD (min k.toNat (l.length - 1)) 0

/-- The shift in ns that a PHASE_CORR stands for: 0.001 degree of a mains period a unit (R126). -/
def phaseShift (corr : BitVec 16) : Rat := (corr.toInt : Rat) / 360000 * (Config.mainsNs : Rat)

/-- The current at the instant of voltage sample `k`: its own samples, 8 ns apart, stand off by 4 ns plus PHASE_CORR's
shift, and it is interpolated across that offset (R127; a straight line between two samples, log 34). -/
def currentAt (l : List Int) (shift : Rat) (k : Nat) : Rat :=
  let d := -(4 + shift) / 8
  let a := heldAt l (k + d.floor)
  let b := heldAt l (k + d.floor + 1)
  (a : Rat) + (d - (d.floor : Rat)) * ((b : Rat) - (a : Rat))

/-- The mean of v times i over a dwell, aligned (R127), in nV squared. -/
def meanPower (c : MeterCfg) (d : MeterDwell) : Rat :=
  let shift := phaseShift c.phaseCorr
  ((List.range d.v.length).foldl (fun (a : Rat) k => a + (d.v.getD k 0 : Rat) * currentAt d.i shift k) 0) / (d.v.length : Rat)

/-- The rms of samples. -/
def rmsOf (l : List Int) : Rat := rsqrt (((l.foldl (fun (a : Int) x => a + x * x) 0 : Int) : Rat) / (l.length : Rat))

/-- A sample stands at full scale of its pin (Table 6.1, R128). -/
def fullScale (c : MeterCfg) (d : MeterDwell) : Bool :=
  d.v.any (fun x => decide (12000000000 ≤ x.natAbs))
    || d.i.any (fun x => decide ((if c.iRange = 0 then 100000000 else 1250000000) ≤ x.natAbs))

/-- The power of a dwell in uW, and its vrms in 0.01 V and irms in 0.1 A (R126, R128; rounding by log 19). -/
def dwellPower (s : State) (c : MeterCfg) (d : MeterDwell) : Int × Nat × Nat :=
  let v := scaleOf s c.vScale
  let i := scaleOf s c.iScale
  (roundAway (meanPower c d * v * i / 1000000000000),
   roundNat (rabs (rmsOf d.v * v / 10000000)), roundNat (rabs (rmsOf d.i * i / 100000000)))

/-- Take a dwell's power and its minima and maxima. -/
def MeterPair.take (m : MeterPair) (p : Int × Nat × Nat) : MeterPair :=
  ({ m with power := p.1 }).modOpen (fun i => { i with
    vmin := if i.seen then min i.vmin p.2.1 else p.2.1
    vmax := if i.seen then max i.vmax p.2.1 else p.2.1
    imax := if i.seen then max i.imax p.2.2 else p.2.2
    seen := true })

/-! ## Records (R133) -/

/-- The record of a closing interval (Table 6.5). -/
def Interval.record (i : Interval) : MeterRec :=
  { start := i.start, flags := i.flags, eImp := i.eImp, eExp := i.eExp, outageS := i.outageS, vmin := min 65535 i.vmin
    vmax := min 65535 i.vmax, imax := min 65535 i.imax
    coverage := i.accounted * 10000 / (lenSeconds i.len * 1000000000), tariff := i.tariff, len := i.len
    gapS := min 65535 (i.gap / 1000000000) }

/-- The 32 bytes of a record. -/
def MeterRec.bytes (r : MeterRec) : List Byte :=
  leBytes 6 r.start ++ leBytes 2 r.flags.toNat ++ leBytes 4 r.eImp ++ leBytes 4 r.eExp ++ leBytes 4 r.outageS
    ++ leBytes 2 r.vmin ++ leBytes 2 r.vmax ++ leBytes 2 r.imax ++ leBytes 2 r.coverage ++ leBytes 1 r.tariff
    ++ leBytes 1 r.len ++ leBytes 2 r.gapS

/-- The demand of a record, W (R133). -/
def MeterRec.demand (r : MeterRec) : Nat := r.eImp * 360 / lenSeconds r.len

/-- Close a pair's interval: the record goes to the history ring, and a new peak is kept. -/
def MeterPair.close (m : MeterPair) : MeterPair :=
  if m.cfg.isSome && m.interval.opened && !m.restored then
    let r := m.interval.record
    { m with
      last := some r
      history := (r :: m.history).take 64
      interval := {}
      peakDemand := if m.peakDemand < r.demand then r.demand else m.peakDemand
      peakStart := if m.peakDemand < r.demand then r.start else m.peakStart }
  else m

/-- A fresh open interval. -/
def freshInterval (start tariff len : Nat) : Interval := { start := start, tariff := tariff, len := len, opened := true }

/-- Open a pair's interval where none is open. -/
def MeterPair.openAt (m : MeterPair) (start tariff len : Nat) : MeterPair :=
  if m.cfg.isSome && !m.interval.opened && !m.restored then { m with interval := freshInterval start tariff len } else m

/-- A point is bound to result `code` of a pair. -/
def meterPoint (t p code : Nat) (src : BitVec 128) : Bool :=
  srcIs 6 t src && srcField src 2 1 == p && srcField src 3 1 == code

/-- Deliver one result of a pair (Table 6.4). -/
def Meter.deliver (t p code : Nat) (v : Rat) (s : State) : State :=
  Points.deliver (meterPoint t p code) (some (.fp (fof v))) {} s

/-- The results that an interval close updates: codes 3 to 7. -/
def Meter.closeResults (t p : Nat) (s : State) : State :=
  let m := s.meter t p
  match m.last with
  | some r =>
    if !m.bound then s
    else
      let s := Meter.deliver t p 3 ((r.demand : Rat) / 1000) s
      let s := Meter.deliver t p 4 ((m.peakDemand : Rat) / 1000) s
      let s := Meter.deliver t p 5 ((r.vmin : Rat) / 100) s
      let s := Meter.deliver t p 6 ((r.vmax : Rat) / 100) s
      Meter.deliver t p 7 ((r.imax : Rat) / 10) s
  | none => s

/-- Pairs whose interval has closed since a state update the results of a close (Table 6.4). -/
def Meter.deliverClosed (old s : State) : State :=
  allPairs.foldl (fun s x =>
    if (s.meter x.1 x.2).last = (old.meter x.1 x.2).last then s else Meter.closeResults x.1 x.2 s) s

/-- The tariff in force changes: result 8 of every bound pair follows (Table 6.4). -/
def Meter.setTariff (tariff : Nat) (s : State) : State :=
  if tariff = s.mt.tariff then s
  else
    let s := { s with mt := { s.mt with tariff := tariff } }
    allPairs.foldl (fun s x =>
      if (s.meter x.1 x.2).bound then
        Points.deliver (meterPoint x.1 x.2 8) (some (.uns (BitVec.ofNat 32 (tariff + 1)))) {} s
      else s) s

/-- The energy results of a TB second: codes 0 to 2, in kWh. -/
def Meter.energyResults (t p : Nat) (s : State) : State :=
  let m := s.meter t p
  if !m.bound then s
  else
    let kwh (n : Nat) : Rat := (n : Rat) / 10000
    let s := Meter.deliver t p 0 (kwh (m.eImp.toList.foldl (fun a n => a + n) 0)) s
    let s := Meter.deliver t p 1 (kwh (vget m.eImp s.mt.tariff 0)) s
    Meter.deliver t p 2 (kwh m.eExp) s

/-! ## Closing and opening intervals -/

/-- The first boundary of a length after a TB second. -/
def boundaryAfter (len sec : Nat) : Nat := (sec / lenSeconds len + 1) * lenSeconds len

/-- Close every pair's interval at its boundary, and open the next one (R132, R133, R138). -/
def Meter.closeAll (s : State) : State :=
  let b := s.mt.boundary
  let s := Meter.closeInstant (b * 1000000000) s
  let s := Meter.deliverClosed s (s.modMeters MeterPair.close)
  let len := s.mt.newLen.getD s.mt.len
  let s := { s with mt := { s.mt with len := len, newLen := none, boundary := boundaryAfter len b } }
  let s := s.modMeters (fun m => m.openAt b s.mt.tariff len)
  if b % 900 = 0 then Meter.checkpoint s else s

/-- The tariff that a bank gives a TB second (R134). -/
def Bank.tariffAt (b : Bank) (sec : Nat) : Nat :=
  (b.entries.filter (fun e => decide (e.1 < b.used) && decide (field e.2.toNat 63 24 ≤ sec))).foldl
    (fun _ e => e.2.toNat % 8) 0

/-- The first switch of a bank after a TB second. -/
def Bank.nextWhen (b : Bank) (sec : Nat) : Option Nat :=
  ((b.entries.filter (fun e => decide (e.1 < b.used) && decide (sec < field e.2.toNat 63 24))).head?).map
    (fun e => field e.2.toNat 63 24)

/-- The interval that takes a switch at TB second `sec`: one that opens there takes the new tariff, another is split
(R136, R137). -/
def Interval.switched (i : Interval) (sec tariff : Nat) : Interval :=
  if !i.opened then i else if i.start = sec then { i with tariff := tariff } else i.mark flSplit

/-- A tariff switch at TB second `sec`: every pair is accounted up to it first (R129, R134). An interval that start-up has
restored ended before it (R140). -/
def Meter.switchTo (tariff sec : Nat) (s : State) : State :=
  if tariff = s.mt.tariff then s
  else
    let s := Meter.closeInstant (sec * 1000000000) s
    Meter.setTariff tariff (s.modMeters (fun m =>
      if m.restored then m else { m with interval := m.interval.switched sec tariff }))

/-! ## TB steps and TB_VALID (R20, R140) -/

/-- Seconds of a span, to the nearest. -/
def nearestSec (ns : Nat) : Nat := (ns + 500000000) / 1000000000

/-- Every pair's interval is interrupted and closes, and the one that holds TB opens, marked as after an outage. -/
def MeterPair.interrupt (m : MeterPair) (outage start tariff len : Nat) : MeterPair :=
  if m.restored || m.cfg.isNone then m
  else
  let m := ({ m with interval := { m.interval.mark flInterrupted with outageS := outage } }).close
  (m.openAt start tariff len).modOpen (fun i => { i.mark flInterrupted with outageS := outage })

/-- A forward step of TB from `old` to `new` ns, TB_VALID set: the interval that contains it closes at the new TB (R20), a
length that waits for it takes force (R132), and the tariff switches once (Table 6.15). -/
def Meter.stepForward (old new : Nat) (s : State) : State :=
  let sec := new / 1000000000
  let s := Meter.closeInstant old s
  let s := s.modMeters (fun m => { m with lastEnd := new })
  let tariff := s.mt.active.tariffAt sec
  let s :=
    if s.mt.running then
      let len := s.mt.newLen.getD s.mt.len
      let b := boundaryAfter len sec
      let s := Meter.deliverClosed s
        (s.modMeters (fun m => m.interrupt (nearestSec (new - old)) (b - lenSeconds len) tariff len))
      { s with mt := { s.mt with len := len, newLen := none, boundary := b } }
    else s
  Meter.setTariff tariff s

/-- The outage in seconds: from the PFAIL stamp to RDY; free where the stamp was not valid (R140). -/
def outageOf (s : State) : Nat :=
  match s.mt.outageFrom with
  | some t => nearestSec (s.ns - (s.tb.elapsed - s.mt.rdyAt) - t)
  | none => Config.nat s.free

/-- A bound pair resumes once TB is valid (R140): the interval that held PFAIL carries INTERRUPTED and closes where its
end has passed, or where a METER_CONFIG has changed the pair; the one that holds the current TB takes the pending energy
with its flags. -/
def MeterPair.resume (m : MeterPair) (outage : Nat) (tail : Bool) (sec tariff len : Nat) : MeterPair :=
  let start := sec / lenSeconds len * lenSeconds len
  let held := m.interval.opened
  let back := m.restored
  let mk (i : Interval) : Interval := { i.mark flInterrupted with outageS := outage }
  let m := { m with restored := false }
  let m := if back && held then
      { m with interval := if tail then (mk m.interval).mark flTailLost else mk m.interval }
    else m
  let ended := decide (m.interval.start + lenSeconds m.interval.len ≤ sec) || m.interval.flags.getLsbD flReconfig
  let m := if back && held && ended then m.close else m
  let fresh := !m.interval.opened
  let m := m.openAt start tariff len
  let m := if back && held && fresh then { m with interval := mk m.interval } else m
  match m.pend with
  | some p => { m with
      pend := none
      interval := { m.interval with
        flags := m.interval.flags ||| p.flags
        eImp := m.interval.eImp + p.eImp, eExp := m.interval.eExp + p.eExp
        accounted := m.interval.accounted + p.accounted, gap := m.interval.gap + p.gap
        vmin := if m.interval.seen && p.seen then min m.interval.vmin p.vmin else if p.seen then p.vmin else m.interval.vmin
        vmax := max m.interval.vmax p.vmax, imax := max m.interval.imax p.imax, seen := m.interval.seen || p.seen } }
  | none => m

/-- TB_VALID is set, or start-up ends with it set: pairs are accounted up to then (R129), intervals run, the tariff is
recomputed, bound pairs resume. -/
def Meter.validate (s : State) : State :=
  let outage := outageOf s
  let s := Meter.closeInstant s.ns s
  let s := Meter.setTariff (s.mt.active.tariffAt s.sec) { s with mt := { s.mt with
    running := true, boundary := boundaryAfter s.mt.len s.sec } }
  Meter.deliverClosed s (s.modMeters (fun m =>
    if m.bound then { m.resume outage s.mt.tailLost s.sec s.mt.tariff s.mt.len with lastEnd := s.ns } else m))

/-- The PFAIL stamp that an outage is measured from: the newest whole slot's, or the always-on one where that is newer
(R140, R340). -/
def outageStart (s : State) (c : Checkpoint) : Option Nat :=
  if s.pw.pfailStampValid && (!c.stampValid || decide (c.stamp < s.pw.pfailStamp.toNat)) then some s.pw.pfailStamp.toNat
  else if c.stampValid then some c.stamp else none

/-- What start-up restores from the newest whole slot (R139, R140); every pair stays idle until METER_CONFIG. -/
def Meter.restore (s : State) : State :=
  let cfg (t p : Nat) : Option MeterCfg := vget (vget s.mt.stored t (Vector.replicate 8 none)) p none
  match s.mt.slots.findSome? id with
  | some c =>
    let old (t p : Nat) : MeterPair := ((c.pairs[t]?.bind (fun l => l[p]?))).getD {}
    { s with mt := { s.mt with
      pairs := Vector.ofFn (fun t => Vector.ofFn (fun p => { old t.val p.val with
        cfg := cfg t.val p.val, bound := false, claimed := false, history := [], pend := none, power := 0
        restored := true }))
      tariff := c.tariff
      activeIdx := c.activeBank
      active := vget s.mt.banks c.activeBank {}
      shadow := vget s.mt.banks (1 - c.activeBank) {}
      outageFrom := outageStart s c } }
  | none =>
    { s with mt := { s.mt with
      active := vget s.mt.banks 0 {}
      shadow := vget s.mt.banks 1 {}
      pairs := Vector.ofFn (fun t => Vector.ofFn (fun p => { cfg := cfg t.val p.val, restored := true })) } }

/-! ## Binding a pair (R125, R140) -/

/-- METER_CONFIG changes a configured pair: what is stored of it differs (R133, R140; log 34). -/
def cfgChanged (s : State) (t p : Nat) (c : MeterCfg) : Bool :=
  match vget (vget s.mt.stored t (Vector.replicate 8 none)) p none with
  | some x => x != c
  | none => false

/-- The open interval of a pair ends as METER_CONFIG binds it: changed, or restored and past its end. -/
def bindCloses (s : State) (m : MeterPair) (changed : Bool) : Bool :=
  m.interval.opened && (if m.restored then
      s.mt.running && (changed || decide (m.interval.start + lenSeconds m.interval.len ≤ s.sec))
    else changed)

/-- METER_CONFIG has committed: the pair is bound, its inputs are in METER mode and shaded, and a change of a configured
pair closes its interval with RECONFIG, at once or, where start-up has restored it, when the pair resumes (R133). A close is
a close instant of every pair (R129). -/
def Meter.bind (t p : Nat) (c : MeterCfg) (s : State) : State :=
  let changed := cfgChanged s t p c
  let s := if bindCloses s (s.meter t p) changed then Meter.closeInstant s.ns s else s
  let old := s
  let m := (s.meter t p).account s.mt.tariff s.ns false
  let m := if changed && m.interval.opened then { m with interval := m.interval.mark flReconfig }.close else m
  let m := { m with
    cfg := some c, bound := true, claimed := true, lastEnd := s.ns, power := 0
    configCount := if changed then satInc 16 m.configCount else m.configCount }
  let m :=
    if s.mt.running then m.resume (outageOf s) s.mt.tailLost s.sec s.mt.tariff s.mt.len
    else if m.pend.isNone then { m with pend := some (({} : Interval).mark flStampInvalid) }
    else m
  let inputs := [c.vInput, c.iInput]
  let s := { s with mt := { s.mt with
    pairs := vmod s.mt.pairs t (fun v => vset v p m)
    stored := vmod s.mt.stored t (fun v => vset v p (some c)) } }
  let s := Meter.deliverClosed old s
  let s := { s with shaded := vmod s.shaded t (fun b => inputs.foldl (fun b i => b ||| (1#64 <<< i)) b) }
  inputs.foldl (fun s i => s.modInput t i (fun x => { x with
    cfg := { cfg0 := BitVec.ofNat 32 (9 + (if i = c.iInput then c.iRange * 16 else 0)) }, wait := none })) s

end Sys2Proof.Machine
end

