-- ==== Sys2Proof/Machine/Commits.lean ====
section
/-!
DEFINITION. Machine/Commits.lean: what a commit of the non-volatile store leaves, and its end (R314 to R325).
-/

namespace Sys2Proof.Machine

/-! ## What a commit writes -/

/-- A global page is a target of a commit. -/
def commitTargets (c : CommitKind) (page : Nat) : Bool := (targetPages c).contains page

/-- Count the programs of a commit's target pages, `extra` of them repeated (R315, R319, R325). -/
def Nv.count (c : CommitKind) (extra : Nat) (s : State) : State :=
  let p := commitPages c
  if p.1 < 16 then { s with nv := { s.nv with programs := vmod s.nv.programs p.1 (fun x => x + p.2.2 + extra) } }
  else { s with nv := { s.nv with sysPrograms := s.nv.sysPrograms + p.2.2 + extra } }

/-- Steps 3 and 6 of R314: the record and its retire mark take a program of a log page each (R315). -/
def Nv.retire (s : State) : State :=
  { s with nv := { s.nv with
    record := none, recorded := false, logAt := (s.nv.logAt + 1) % 1024, logPrograms := s.nv.logPrograms + 2 } }

/-- Half of a credential's RIGHTS replaced (Table 3.7). -/
def rightsWith (old : BitVec 512) (half : Nat) (r : BitVec 256) : BitVec 512 :=
  let lo := if half = 0 then r.toNat else old.toNat % 2 ^ 256
  let hi := if half = 0 then old.toNat / 2 ^ 256 else r.toNat
  BitVec.ofNat 512 (lo + hi * 2 ^ 256)

/-- Write a region's password hash. -/
def Nv.setPw (r kind : Nat) (h : Option (BitVec 256)) (s : State) : State :=
  { s with nv :=
    if kind = 0 then { s.nv with readPw := vset s.nv.readPw r h } else { s.nv with writePw := vset s.nv.writePw r h } }

/-- A committed federation identity is in force (R241, R244). -/
def Fed.identify (i : Identity) (s : State) : State :=
  { s with fed := { s.fed with
      chip := i.chip, building := i.building, cluster := i.cluster, committed := true, isolated := false } }

/-- The bytes that a commit writes go to the user array. -/
def Nv.storeBytes (c : CommitKind) (s : State) : State :=
  match commitBytes c with
  | some (a, d) => { s with nv := { s.nv with cells := memWrite s.nv.cells a d } }
  | none => s

/-- The next of the 27 slots takes a checkpoint, or nothing that is whole (R138). -/
def Meter.fill (c : Option Checkpoint) (s : State) : State :=
  { s with mt := { s.mt with slots := (c :: s.mt.slots).take 27, slotNext := (s.mt.slotNext + 1) % 27 } }

/-- What the pages of a commit hold once it has been applied. -/
def Nv.store (c : CommitKind) (s : State) : State :=
  match c with
  | .write _ _ _ => Nv.storeBytes c s
  | .profile _ _ => Nv.storeBytes c s
  | .clear r step => if step < 8 then Nv.storeBytes c s else Nv.setPw r 1 none (Nv.setPw r 0 none s)
  | .bp v => { s with nv := { s.nv with bp := v } }
  | .password r kind h => Nv.setPw r kind h s
  | .holdup h => { s with nv := { s.nv with holdup := some h } }
  | .install t x =>
    let rights := ((aget s.cl.creds t).map (·.rights)).getD 0
    { s with cl := { s.cl with creds := aset s.cl.creds t { x with rights := rights } } }
  | .rights t half r =>
    { s with cl := { s.cl with creds := amod s.cl.creds t (fun x => { x with rights := rightsWith x.rights half r }) } }
  | .remove t => { s with cl := { s.cl with creds := aerase s.cl.creds t } }
  | .identity i => { s with nv := { s.nv with identity := some i } }
  | .meter t p c => { s with mt := { s.mt with stored := vmod s.mt.stored t (fun v => vset v p (some c)) } }
  | .tariff place _ b =>
    (match b with
     | some b => { s with mt := { s.mt with banks := vset s.mt.banks place b } }
     | none => s)
  | .checkpoint j => Meter.fill j.image s

/-- The rebuild and the commit of a tariff bank have ended: it waits for its second, or where that has begun for the next
one, with SHADOW_LATE raised (R135). -/
def Tariff.rebuilt (b : Bank) (s : State) : State :=
  match s.mt.job with
  | some j =>
    let late := decide (j.atSecond ≤ s.sec)
    let s := { s with mt := { s.mt with
      shadow := b, job := some { j with rebuilt := true, late := late, atSecond := if late then s.sec + 1 else j.atSecond } } }
    if late then Ev.raise 12 0 (packLe [(8, j.atSecond), (4, s.sec + 1)]) s else s
  | none => s

/-- What follows a commit that has ended well, beside its pages: a changed password ends other contexts' openings, an
identity and a pair's configuration are in force, a tariff bank waits for its swap. -/
def Nv.effect (c : Commit) (s : State) : State :=
  match c.what with
  | .password r kind _ =>
    { s with nv := { s.nv with opens := s.nv.opens.filter (fun o => o.1 == c.ctx || o.2 != (r, kind == 1)) } }
  | .identity i => Fed.identify i s
  | .meter t p x => Meter.bind t p x s
  | .write _ _ _ => s
  | .bp _ => s
  | .clear _ _ => s
  | .holdup _ => s
  | .install _ _ => s
  | .rights _ _ _ => s
  | .remove _ => s
  | .profile _ _ => s
  | .tariff _ _ b => Tariff.rebuilt (b.getD {}) s
  | .checkpoint _ => s

/-! ## The start of a commit -/

/-- NV_COMMIT_START (R314, R317, R321): commits start in fetch order, one at a time. -/
def execNvCommitStart (holdmon : Nat) (s : State) : Host.Outcome State Fault Refusal :=
  .next (match s.nv.queue with
    | c :: rest =>
      if s.live && s.nv.running.isNone then
        Nv.start c rest { s with pw := { s.pw with mon := { s.pw.mon with holdmon := holdmon } } }
      else s
    | [] => s)

/-! ## The end of a commit -/

/-- The RESULT of a commit's command: NV_WRITE reports its pages. -/
def commitResult : CommitKind → Nat
  | .write _ off d => result [(5, 1, pagesOf off d.length)]
  | _ => 0

/-- Reads behind a commit wait for `n` fewer of its commits. -/
def Nv.pass (n : NvRead → Nat) (s : State) : State :=
  { s with nv := { s.nv with reads := s.nv.reads.map (fun rd => { rd with ahead := rd.ahead - n rd }) } }

/-- A commit has been applied and retired: its effect is judged against what its pages held before. The eight page commits
of NV_CLEAR are followed by its next one (R324); a metering checkpoint that stands first starts. -/
def Nv.done (c : Commit) (s : State) : State :=
  let s := Nv.retire (Nv.count c.what 0 { s with nv := { s.nv with running := none } })
  let s := Nv.store c.what (Nv.effect c s)
  let s := Nv.pass (fun rd => min 1 (overlapCount rd.region rd.offset rd.len c.what)) s
  Nv.kick (match c.what with
  | .clear r step =>
    if step < 8 then
      Nv.serve { s with nv := { s.nv with queue := queueFront { c with what := .clear r (step + 1) } s.nv.queue } }
    else Nv.serve (Cmd.finalOpt c.key St.ok 0 s)
  | .tariff _ _ _ => Nv.serve s
  | _ => Nv.serve (Cmd.finalOpt c.key St.ok (commitResult c.what) s))

/-- A tariff bank with a page of undefined contents: the rates and the first 24 entries are in its first page, 32 entries in
each further one, and its CRC is in the last (log 12). -/
def Bank.spoil (b : Bank) (page f : Nat) : Bank :=
  let hit := (List.range 1024).filter (fun i => (64 + 8 * i) / 256 == page)
  { b with
    price := if page = 0 then Vector.ofFn (fun i => Config.fp (f + i.val)) else b.price
    limit := if page = 0 then Vector.ofFn (fun i => Config.fp (f + 8 + i.val)) else b.limit
    entries := hit.foldl (fun m i => aset m i (BitVec.ofNat 64 (Config.nat (f + 16 + i)))) b.entries
    crc := if page = 32 then Config.fp f else b.crc }

/-- A stored configuration record of undefined contents. -/
def MeterCfg.spoiled (f : Nat) : Option MeterCfg :=
  let n (i : Nat) : Nat := Config.nat (f + i)
  if Config.bool f then none
  else some {
    vInput := n 1 % 64, iInput := n 2 % 64, iRange := n 3 % 8, group := BitVec.ofNat 8 (n 4)
    phaseCorr := BitVec.ofNat 16 (n 5), vScale := Config.fp f, iScale := Config.fp (f + 1) }

/-- The undefined contents of a failed page (R319; log 5): a record in it holds a free value. A credential stays as it was
(chapter 3), and a checkpoint with a failed page is not whole. -/
def Nv.spoil (c : CommitKind) (page : Nat) (s : State) : State :=
  let f := s.free
  let s := { s with free := f + 1100 }
  let n (i : Nat) : Nat := Config.nat (f + i)
  let lost := Config.bool f
  let bytes : State := { s with nv := { s.nv with
    cells := memWrite s.nv.cells (256 * page) ((List.range 256).map (Config.pageByte f)) } }
  match c with
  | .write _ _ _ => bytes
  | .profile _ _ => bytes
  | .clear r step =>
    if step < 8 then bytes
    else Nv.setPw r 1 (some (BitVec.ofNat 256 (n 1))) (Nv.setPw r 0 (some (BitVec.ofNat 256 (n 2))) s)
  | .bp _ => { s with nv := { s.nv with bp := BitVec.ofNat 2 (n 1) } }
  | .password r kind _ => Nv.setPw r kind (if lost then none else some (BitVec.ofNat 256 (n 1))) s
  | .holdup _ =>
    let h : HoldUp := { c := Config.fp f, ratio := Config.fp (f + 1), vMin := Config.fp (f + 2),
                        eReserve := n 1 % 65536 }
    { s with nv := { s.nv with holdup := if lost then none else some h } }
  | .identity _ =>
    let i : Identity := { chip := n 1 % 16384, building := n 2 % 64, cluster := n 3 % 128 }
    { s with nv := { s.nv with identity := if lost then none else some i } }
  | .meter t p _ =>
    { s with mt := { s.mt with stored := vmod s.mt.stored t (fun v => (List.range 4).foldl (fun v i =>
      vset v (p / 4 * 4 + i) (MeterCfg.spoiled (f + 10 * i))) v) } }
  | .tariff place _ _ =>
    { s with mt := { s.mt with banks := vmod s.mt.banks place (fun b => b.spoil (page - (512 * 14 + 33 * place)) f) } }
  | .checkpoint _ => Meter.fill none s
  | .install _ _ => s
  | .rights _ _ _ => s
  | .remove _ => s

/-- The pages of a commit as a failed one leaves them: the others hold the new data (R319). -/
def Nv.storeFailed (c : CommitKind) (page : Nat) (s : State) : State :=
  match c with
  | .write _ _ _ => Nv.spoil c page (Nv.store c s)
  | .profile _ _ => Nv.spoil c page (Nv.store c s)
  | .tariff _ _ _ => Nv.spoil c page (Nv.store c s)
  | .clear _ step => Nv.spoil c page (if step < 8 then Nv.store c s else s)
  | _ => Nv.spoil c page s

/-- A target page has failed (R319): NV_PAGE_FAIL, and reason 7. -/
def Nv.failed (c : Commit) (page : Nat) (s : State) : State :=
  let s := Nv.retire (Nv.count c.what 2 { s with nv := { s.nv with running := none, pageFail := true } })
  let s := Nv.storeFailed c.what page s
  let s := Nv.pass (fun rd => overlapCount rd.region rd.offset rd.len c.what) s
  let s := Ev.raise 9 0 (packLe [(2, page)]) s
  let s := if isPowerFail c then { s with mt := { s.mt with tailDue := true } } else s
  Nv.kick (Nv.serve (Cmd.finalOpt c.key St.badParam (result [(5, 1, 7)]) (Tariff.dropJob c s)))

/-- NV_COMMIT_DONE (R314, R319). -/
def execNvCommitDone (failedPage : Option Nat) (s : State) : Host.Outcome State Fault Refusal :=
  .next (match s.nv.running with
    | some c =>
      (match failedPage with
       | none => Nv.done c s
       | some p => if commitTargets c.what p then Nv.failed c p s else s)
    | none => s)

end Sys2Proof.Machine
end

