-- ==== Sys2Proof/Machine/Metering.lean ====
section
/-!
DEFINITION. Machine/Metering.lean: the metering and tariff commands (Table 6.14) and the happenings of the metering
store.
-/

namespace Sys2Proof.Machine

/-- A command on metering pair PAIR of a tile. -/
def onPair (pk : Packet) (s : State) (f : Nat → Nat → Verdict) : Verdict :=
  onTile pk s fun t => if 8 ≤ pk.u8 9 then badReason 1 else f t (pk.u8 9)

/-! ## METER_CONFIG -/

def specMeterConfig : OpSpec :=
  { op := 0x400, owner := true, rev1 := false, rsv := 6,
    used := [(8, 4, 0xFF), (12, 1, 1), (13, 3, 0xFF), (16, 8, 0xFF)] }

/-- The pair of a tile that an input is bound to: one that METER_CONFIG has bound since start-up; a pair that is idle since
then holds no input (R125, R140). -/
def boundPair (s : State) (t i : Nat) : Option Nat :=
  (List.range 8).find? (fun p => match (s.meter t p).cfg with
    | some c => (s.meter t p).claimed && (c.vInput == i || c.iInput == i)
    | none => false)

/-- An input may join pair `p`: it is OFF or bound to that pair, and no partner of a group (R125). -/
def joinsPair (s : State) (t p i : Nat) : Bool :=
  let x := s.tile t
  (partnerOf (fun j => (x.input j).latestCfg) i).isNone
    && (boundPair s t i == some p || (boundPair s t i == none && ((x.input i).latestCfg).mode == 0))

/-- The configuration in PARAMS. -/
def packetMeter (pk : Packet) : MeterCfg :=
  { vInput := pk.u8 10, iInput := pk.u8 11, iRange := pk.u8 12, group := BitVec.ofNat 8 (pk.u8 13)
    phaseCorr := BitVec.ofNat 16 (pk.u16 14), vScale := pk.f32 16, iScale := pk.f32 20 }

def bodyMeterConfig (pk : Packet) (k : Key) (s : State) : Verdict :=
  onPair pk s fun t p =>
    let c := packetMeter pk
    if 64 ≤ c.vInput || 64 ≤ c.iInput then badReason 1
    else if c.vInput = c.iInput then badReason 2
    else if [c.vInput, c.iInput].any (fun i => isShaded s t i && (boundPair s t i).isNone) then failWith St.shaded
    else if ([c.vInput, c.iInput].any (fun i => !joinsPair s t p i)) then badReason 2
    else Nv.submit k pk.ctx (.meter t p c) s

/-- METER_CONFIG (R125): the pair is bound when the commit completes. -/
def execMeterConfig (q : Nat) (pk : Packet) (s : State) : Host.Outcome State Fault Refusal :=
  .next (Cmd.run specMeterConfig bodyMeterConfig q pk s)

/-! ## METER_READ, METER_HISTORY and METER_RESET_PEAK -/

/-- A read of a configured pair: reason 3 where it is not configured, NO_RIGHT without READ on its group. -/
def readPair (pk : Packet) (s : State) (f : Nat → Nat → Verdict) : Verdict :=
  onPair pk s fun t p =>
    match (s.meter t p).cfg with
    | none => badReason 3
    | some c => if rightOn s pk.ctx c.group.toNat = 0 then failWith St.noRight else f t p

def specMeterRead : OpSpec := { op := 0x401, owner := false, rev1 := false, rsv := 6, used := [(8, 3, 0xFF)] }

/-- A register by its number (Table 6.14). -/
def MeterPair.reg (m : MeterPair) (r : Nat) : Nat :=
  if r < 8 then vget m.eImp r 0 else if r = 8 then m.eExp else if r = 9 then m.peakDemand else m.configCount

def bodyMeterRead (pk : Packet) (_ : Key) (s : State) : Verdict :=
  readPair pk s fun t p =>
    if 10 < pk.u8 10 then badReason 1
    else .ok (result [(5, 8, (s.meter t p).reg (pk.u8 10)), (13, 6, (s.meter t p).peakStart)]) s

/-- METER_READ (R130). -/
def execMeterRead (q : Nat) (pk : Packet) (s : State) : Host.Outcome State Fault Refusal :=
  .next (Cmd.run specMeterRead bodyMeterRead q pk s)

def specMeterHistory : OpSpec :=
  { op := 0x402, owner := false, rev1 := false, rsv := 6, used := [(8, 3, 0xFF), (11, 1, 1), (16, 8, 0xFF)] }

def bodyMeterHistory (pk : Packet) (k : Key) (s : State) : Verdict :=
  readPair pk s fun t p =>
    let n := pk.u8 10
    let sp := spaceOf (pk.u8 11)
    if n = 0 || 64 < n then badReason 1
    else if pk.le 16 8 % 32 != 0 || !spanFits sp (pk.le 16 8) (32 * n) then badReason 7
    else .pend { s with mt := { s.mt with copies := vmod s.mt.copies t (fun l => l ++ [{
      key := k, pair := p, count := n, space := sp, dest := BitVec.ofNat 64 (pk.le 16 8) }]) } }

/-- METER_HISTORY (R133). -/
def execMeterHistory (q : Nat) (pk : Packet) (s : State) : Host.Outcome State Fault Refusal :=
  .next (Cmd.run specMeterHistory bodyMeterHistory q pk s)

/-- METER_HISTORY_DONE (R133): the records, newest first, and their number. -/
def execMeterHistoryDone (tile : Nat) (s : State) : Host.Outcome State Fault Refusal :=
  .next (match vget s.mt.copies tile [] with
    | j :: rest =>
      let l := (s.meter tile j.pair).history.take j.count
      let s := s.writeMem j.space j.dest.toNat (l.flatMap MeterRec.bytes)
      Cmd.final j.key St.ok (result [(5, 1, l.length)])
        { s with mt := { s.mt with copies := vset s.mt.copies tile rest } }
    | [] => s)

def specMeterResetPeak : OpSpec := { op := 0x403, owner := true, rev1 := false, rsv := 6, used := [(8, 2, 0xFF)] }

def bodyMeterResetPeak (pk : Packet) (_ : Key) (s : State) : Verdict :=
  onPair pk s fun t p =>
    if (s.meter t p).cfg.isNone then badReason 3
    else .ok 0 (s.modMeter t p (fun m => { m with peakDemand := 0, peakStart := 0 }))

/-- METER_RESET_PEAK (R130). -/
def execMeterResetPeak (q : Nat) (pk : Packet) (s : State) : Host.Outcome State Fault Refusal :=
  .next (Cmd.run specMeterResetPeak bodyMeterResetPeak q pk s)

/-! ## DEMAND_CONFIG -/

def specDemandConfig : OpSpec := { op := 0x410, owner := true, rev1 := false, rsv := 6, used := [(8, 2, 0xFF)] }

def bodyDemandConfig (pk : Packet) (_ : Key) (s : State) : Verdict :=
  let n := pk.u8 9
  if 6 ≤ n then badReason 4
  else if n = s.mt.len && s.mt.newLen.isNone then .ok 0 s
  else if !s.mt.running then .ok 0 { s with mt := { s.mt with len := n } }
  else .ok 0 ({ s with mt := { s.mt with newLen := some n, boundary := boundaryAfter n s.sec } }.modMeters
    (fun m => if m.interval.opened && !m.restored then { m with interval := m.interval.mark flResized } else m))

/-- DEMAND_CONFIG (R132): the open interval closes at the next boundary of the new length, with RESIZED. -/
def execDemandConfig (q : Nat) (pk : Packet) (s : State) : Host.Outcome State Fault Refusal :=
  .next (Cmd.run specDemandConfig bodyDemandConfig q pk s)

/-! ## Tariffs (R134, R135) -/

def specTariffLoad : OpSpec :=
  { op := 0x420, owner := true, rev1 := false, rsv := 6,
    used := [(8, 1, 0xFF), (9, 1, 1), (10, 3, 0xFF), (16, 40, 0xFF)] }

/-- Write rates into a bank from rate `i` on; a rate is PRICE and DEMAND_LIMIT. -/
def Bank.setRates (b : Bank) (pk : Packet) (first : Nat) : Bank :=
  (List.range 4).foldl (fun b i => { b with
    price := vset b.price (first + i) (pk.f32 (16 + 8 * i)), limit := vset b.limit (first + i) (pk.f32 (20 + 8 * i)) }) b

/-- Write entries into a bank from entry `first` on. -/
def Bank.setEntries (b : Bank) (pk : Packet) (first n : Nat) : Bank :=
  (List.range n).foldl (fun b i => { b with
    entries := aset b.entries (first + i) (BitVec.ofNat 64 (pk.le (16 + 8 * i) 8)) }) b

def bodyTariffLoad (pk : Packet) (_ : Key) (s : State) : Verdict :=
  let first := pk.u16 10
  let n := pk.u8 12
  if pk.u8 9 = 0 then
    if first != 0 && first != 4 then badReason 1
    else if pk.le 48 8 != 0 then badReason 6
    else .ok 0 { s with mt := { s.mt with shadow := s.mt.shadow.setRates pk first } }
  else if n = 0 || 5 < n || 1024 < first + n then badReason 1
  else if pk.le (16 + 8 * n) (40 - 8 * n) != 0
      || (List.range n).any (fun i => field (pk.le (16 + 8 * i) 8) 23 3 != 0) then badReason 6
  else .ok 0 { s with mt := { s.mt with shadow := s.mt.shadow.setEntries pk first n } }

/-- TARIFF_LOAD (R135): the shadow bank only. -/
def execTariffLoad (q : Nat) (pk : Packet) (s : State) : Host.Outcome State Fault Refusal :=
  .next (Cmd.run specTariffLoad bodyTariffLoad q pk s)

def specTariffCommit : OpSpec :=
  { op := 0x421, owner := true, rev1 := false, rsv := 6, used := [(8, 1, 0xFF), (12, 2, 0xFF), (16, 8, 0xFF)] }

def bodyTariffCommit (pk : Packet) (k : Key) (s : State) : Verdict :=
  let at' := pk.le 16 8
  if 1024 < pk.u16 12 then badReason 1
  else if (at' != 0 && at' < s.sec) || s.mt.job.isSome then badReason 4
  else .pend (Nv.enqueue (some k) pk.ctx (.tariff (1 - s.mt.activeIdx) (pk.u16 12) none) { s with mt := { s.mt with job := some {
    key := some k, entries := pk.u16 12, atSecond := if at' = 0 then s.sec + 1 else at', rebuilt := false, late := false } } })

/-- TARIFF_COMMIT (R135). -/
def execTariffCommit (q : Nat) (pk : Packet) (s : State) : Host.Outcome State Fault Refusal :=
  .next (Cmd.run specTariffCommit bodyTariffCommit q pk s)

/-- The commit of a tariff bank that has not started is taken out of the queue. -/
def Tariff.unqueue (s : State) : State := Nv.without isTariff s

/-- A failed TARIFF_COMMIT: both banks stay as they were. -/
def Tariff.fail (j : TariffJob) (st : Byte) (res : Nat) (s : State) : State :=
  Cmd.finalOpt j.key st res { s with mt := { s.mt with job := none } }

/-- TARIFF_REBUILD_DONE (R135): the rebuild and the commit of the bank have ended. Entries that do not rise end the command
at once; otherwise the commit has come to its turn (R314), and too little energy at its start ends it (R317). -/
def execTariffRebuildDone (s : State) : Host.Outcome State Fault Refusal :=
  .next (match s.mt.job with
    | some j =>
      if j.rebuilt then s
      else
        match s.nv.running with
        | some c => if isTariff c then Nv.done c s else s
        | none =>
          if !s.mt.shadow.rises j.entries then Tariff.fail j St.badParam (result [(5, 1, 5)]) (Tariff.unqueue s)
          else
            match s.nv.queue with
            | c :: rest =>
              if !isTariff c then s
              else
                let u := Nv.start c rest s
                match u.nv.running with
                | some c => Nv.done c u
                | none => u
            | [] => s
    | none => s)

/-- Close an interval whose boundary TB has reached, as R137 orders it before a switch or a swap. -/
def Meter.closeDue (sec : Nat) (s : State) : State :=
  if s.mt.running && decide (s.mt.boundary ≤ sec) then Meter.closeAll s else s

/-- The banks swap and the tariff follows the new one; the command of the swap completes (R135). -/
def Tariff.swap (j : TariffJob) (s : State) : State :=
  let s := { s with mt := { s.mt with
    active := s.mt.shadow, shadow := s.mt.active, activeIdx := 1 - s.mt.activeIdx, job := none } }
  let s := if s.tb.valid then Meter.switchTo (s.mt.active.tariffAt s.sec) s.sec s else s
  Cmd.finalOpt j.key (if j.late then St.shadowLate else St.ok) 0 s

/-- A bank swap whose second TB has reached. -/
def swapDue (s : State) : Option TariffJob :=
  match s.mt.job with
  | some j => if j.rebuilt && decide (j.atSecond ≤ s.sec) then some j else none
  | none => none

/-- What R359 puts before everything else at the instant that TB has reached: the interval that ends closes, the banks swap
and the tariff switches. -/
def Meter.dueFirst (s : State) : State :=
  let s := if s.tb.valid then Meter.closeDue s.sec s else s
  let s := match swapDue s with
    | some j => Tariff.swap j s
    | none => s
  if s.tb.valid then Meter.switchTo (s.mt.active.tariffAt s.sec) s.sec s else s

/-- TARIFF_SWAP (R135, Table 6.15): at second AT, or at the first second after the end of a late rebuild, an interval that ends
there closes, the banks swap, and the tariff follows the new bank. -/
def execTariffSwap (s : State) : Host.Outcome State Fault Refusal :=
  .next (match s.mt.job with
    | some j =>
      if !j.rebuilt then s
      else
        let s := untilTb (j.atSecond * 1000000000) s
        Tariff.swap j (Meter.closeDue s.sec s)
    | none => s)

def specTariffRead : OpSpec := { op := 0x422, owner := true, rev1 := false, rsv := 6, used := [(8, 1, 0xFF)] }

def bodyTariffRead (_ : Packet) (_ : Key) (s : State) : Verdict :=
  .ok (result [(5, 1, s.mt.tariff), (6, 8, (s.mt.active.nextWhen s.sec).getD 0), (14, 4, s.mt.active.crc.toNat)]) s

/-- TARIFF_READ (Table 6.14): the next WHEN reads 0 where no switch is to come. -/
def execTariffRead (q : Nat) (pk : Packet) (s : State) : Host.Outcome State Fault Refusal :=
  .next (Cmd.run specTariffRead bodyTariffRead q pk s)

/-- TARIFF_SWITCH (R134, R136, R137): at the next TB second that changes the tariff in force. -/
def execTariffSwitch (s : State) : Host.Outcome State Fault Refusal :=
  .next (whenever s.tb.valid (fun s =>
    if s.mt.active.tariffAt s.sec != s.mt.tariff then
      let s := Meter.closeDue s.sec s
      Meter.switchTo (s.mt.active.tariffAt s.sec) s.sec s
    else
      match s.mt.active.nextWhen s.sec with
      | some w =>
        let s := untilTb (w * 1000000000) s
        let s := Meter.closeDue s.sec s
        Meter.switchTo (s.mt.active.tariffAt s.sec) s.sec s
      | none => s) s)

/-! ## Dwells, closes and results -/

/-- METER_DWELL_END (R128): energy at the power of the dwell before, then the dwell's own power. A dwell is faulted where a
protection switch of its pair has stood open in it, or a sample stood at full scale; one that is not clears the fault flags
of its inputs (R87, R98). -/
def execMeterDwellEnd (tile : Nat) (d : MeterDwell) (s : State) : Host.Outcome State Fault Refusal :=
  .next (whenever (s.tileOn tile && (s.conv tile 1).inDwell && entKind (dwellEntry s tile 1) == 1) (fun s =>
    let v := s.conv tile 1
    let e := dwellEntry s tile 1
    let s := untilElapsed (v.since + entNs e) s
    let p := entPair e
    let power := (v.meter.map (fun c => dwellPower s c d)).getD (0, 0, 0)
    let faulted := ((v.snap.map (·.spoiled)).getD false) || ((v.meter.map (fun c => fullScale c d)).getD false)
    let s := s.modMeter tile p (fun m =>
      let m := m.account s.mt.tariff s.ns faulted
      if faulted || !m.bound then m else m.take power)
    let s := if faulted then s else (dwellInputs (s.tile tile) v.meter e).foldl (fun s i => Input.setFaults tile i 0 s) s
    Seq.moveOn tile 1 s) s)

/-- INTERVAL_CLOSE (R133). -/
def execIntervalClose (s : State) : Host.Outcome State Fault Refusal :=
  .next (whenever (s.mt.running && s.tb.valid) (fun s => Meter.closeAll (untilTb (s.mt.boundary * 1000000000) s)) s)

/-- METER_CHECKPOINT_DONE (R138): the checkpoint that programs is whole, and stands in the next of the 27 slots. -/
def execMeterCheckpointDone (s : State) : Host.Outcome State Fault Refusal :=
  .next (match s.nv.running with
    | some c => if isCheckpoint c then Nv.done c s else s
    | none => s)

/-- METER_RESULT_UPDATE (R131): at each TB second the energy results go to their points. -/
def execMeterResultUpdate (s : State) : Host.Outcome State Fault Refusal :=
  .next (whenever s.live (fun s =>
    let s := untilTb (s.mt.resultSec * 1000000000) s
    let s := { s with mt := { s.mt with resultSec := s.sec + 1 } }
    allPairs.foldl (fun s x => Meter.energyResults x.1 x.2 s) s) s)

end Sys2Proof.Machine
end

