-- ==== Sys2Proof/Machine/Points.lean ====
section
/-!
DEFINITION. Machine/Points.lean: the POINT group (Tables 3.13 to 3.16). Its rights depend on the record named, in the
order of R379.
-/

namespace Sys2Proof.Machine

/-! ## Naming a record (R61, R71, R379) -/

/-- An identifier in range (R61). -/
def pointIdOk (id : Nat) : Bool := decide (id / 2 ^ 24 < 10240) && decide (id % 2 ^ 24 < 5242880)

/-- A command on a record that must be there and whole: reason 1, reason 4, then CRC_FAIL with POINT_CRC raised. -/
def onPoint (pk : Packet) (s : State) (f : Nat → Point → State → Verdict) : Verdict :=
  let id := pk.point 8
  if !pointIdOk id then badReason 1
  else
    match s.point id with
    | none => badReason 4
    | some p =>
      let l := Point.load id p s
      if l.1 then f id p l.2 else .cond St.crcFail 0 l.2

/-- The sender may configure a record: CONFIGURE on its group and, for a tenant, its OWNER (R58). -/
def mayConfigure (s : State) (ctx : Nat) (p : Point) : Bool :=
  ctx == 0 || (rightOn s ctx p.group.toNat == 3 && p.owner.toNat == tenantOf s ctx)

/-- PRIO_FLOOR of the sender; it binds tenants only (R59). -/
def prioFloor (s : State) (ctx : Nat) : Nat :=
  if ctx = 0 then 0 else ((aget s.cl.creds (tenantOf s ctx)).map (·.prioFloor)).getD 16

/-! ## POINT_READ -/

def specPointRead : OpSpec :=
  { op := 0x200, owner := false, rev1 := true, rsv := 10, used := [(8, 5, 0xFF), (13, 1, 0xFF)] }

/-- IN_FORCE: 0 where no priority level sets the present value (R67). -/
def Point.levelShown (p : Point) : Nat := if p.oos || p.kind != 0 then 0 else p.inForce

/-- The RESULT of a part (Table 3.13). -/
def pointPart (p : Point) (part : Nat) : Nat :=
  let lvl (i : Nat) : Nat := (vget p.priority (4 * part - 4 + i) 0).toNat
  if part = 0 then
    result [(5, 4, p.value.toNat), (9, 4, p.status.toNat), (13, 6, p.timestamp.toNat), (19, 1, p.levelShown),
      (21, 2, p.prioActive.toNat)]
  else result [(5, 4, lvl 0), (9, 4, lvl 1), (13, 4, lvl 2), (17, 4, lvl 3), (21, 2, p.prioActive.toNat)]

def bodyPointRead (pk : Packet) (_ : Key) (s : State) : Verdict :=
  onPoint pk s fun _ p s =>
    if rightOn s pk.ctx p.group.toNat = 0 then failWith St.noRight
    else if 4 < pk.u8 13 then badReason 10
    else .ok (pointPart p (pk.u8 13)) s

/-- POINT_READ (R379, Table 3.13). -/
def execPointRead (q : Nat) (pk : Packet) (s : State) : Host.Outcome State Fault Refusal :=
  .next (Cmd.run specPointRead bodyPointRead q pk s)

/-! ## POINT_WRITE -/

/-- Loaded MEASURE or METER entries carry a METER input to a channel. -/
def shadedChannel (s : State) (t ch : Nat) : Bool :=
  [0, 1].any (fun c =>
    let v := s.conv t c
    (v.loaded.toList ++ v.active.entries.toList ++ ((v.waiting.map (·.entries.toList)).getD [])).any (fun e =>
      entDwell e != 0 && entKind e < 2 && entLch e == ch && isShaded s t (entInput e)))

/-- A SOURCE binds a logical channel that a METER input reaches (R66). -/
def sourceShaded (s : State) (src : BitVec 128) : Bool :=
  srcField src 0 1 == 1 && shadedChannel s (srcField src 1 1) (srcField src 2 2)

def specPointWrite : OpSpec :=
  { op := 0x201, owner := false, rev1 := true, rsv := 10, used := [(8, 5, 0xFF), (13, 2, 0xFF), (16, 4, 0xFF)] }

/-- The right a write needs: CONFIGURE and OWNER for level 0, else COMMAND within PRIO_FLOOR (R58, R59, R68). -/
def mayWrite (s : State) (ctx level : Nat) (p : Point) : Bool :=
  if level = 0 then mayConfigure s ctx p
  else decide (2 ≤ rightOn s ctx p.group.toNat) && decide (prioFloor s ctx ≤ level)

/-- The reply of a write: the present value and the level in force, read after the resolution. -/
def writeResult (id : Nat) (s : State) : Nat :=
  match s.point id with
  | some p => result [(5, 4, p.value.toNat), (9, 1, p.levelShown)]
  | none => 0

/-- A record with level `n` written or relinquished. -/
def Point.setLevel (p : Point) (n : Nat) (v : Option Word) : Point :=
  { p with
    priority := vset p.priority (n - 1) (v.getD 0)
    prioActive := if v.isSome then p.prioActive ||| (1#16 <<< (n - 1)) else p.prioActive &&& ~~~(1#16 <<< (n - 1)) }

def bodyPointWrite (pk : Packet) (_ : Key) (s : State) : Verdict :=
  onPoint pk s fun id p s =>
    let level := pk.u8 13
    let v : Option Word := if pk.u8 14 = 0 then some (BitVec.ofNat 32 (pk.u32 16)) else none
    if !mayWrite s pk.ctx level p then failWith St.noRight
    else if p.reflection then badReason 9
    else if 16 < level || 1 < pk.u8 14 then badReason 10
    else if sourceShaded s p.source then failWith St.shaded
    else if level = 0 && (!p.oos || v.isNone) then badReason 6
    else if level != 0 && p.kind != 0 then badReason 6
    else if !((v.map (fun w => p.type != 3 && typeAccepts p.type w)).getD true) then badReason 8
    else
      let p2 := if level = 0 then { p with value := v.getD p.value } else p.setLevel level v
      let s := Point.update id p.status p2 s
      .ok (writeResult id s) s

/-- POINT_WRITE (R67, R68). -/
def execPointWrite (q : Nat) (pk : Packet) (s : State) : Host.Outcome State Fault Refusal :=
  .next (Cmd.run specPointWrite bodyPointWrite q pk s)

/-! ## SOURCE (R66, Table 3.11) -/

/-- Bytes of SOURCE that a KIND uses. -/
def sourceBytes (kind : Nat) : Nat := [1, 4, 5, 5, 5, 3, 4][kind]?.getD 0

/-- The fields of a SOURCE lie in the ranges of Table 3.11. -/
def sourceInRange (src : BitVec 128) : Bool :=
  let f := srcField src
  match f 0 1 with
  | 0 => true
  | 1 => decide (f 1 1 < 4) && decide (f 2 2 < 256)
  | 2 => decide (f 1 1 < 4) && decide (f 2 2 < 16384) && decide (f 4 1 < 4)
  | 3 => decide (f 1 1 < 4) && decide (f 2 2 < 4096) && decide (f 4 1 < 4)
  | 4 => decide (f 1 1 < 64) && decide (f 2 1 < 64)
  | 5 => decide (f 1 1 < 32) && decide (f 2 1 < 4)
  | 6 => decide (f 1 1 < 4) && decide (f 2 1 < 8) && decide (f 3 1 < 9)
  | _ => false

/-- The tile that a SOURCE lies in. -/
def sourceTile (src : BitVec 128) : Nat :=
  let k := srcField src 0 1
  if k = 4 then srcField src 1 1 / 16 else if k = 5 then srcField src 1 1 / 8 else srcField src 1 1

/-- A zone output that the zone's M does not reach (R185); a free slot states no M yet. -/
def zoneItemBeyond (s : State) (src : BitVec 128) : Bool :=
  srcField src 0 1 == 3 &&
    (match aget (s.tile (srcField src 1 1)).zones (srcField src 2 2) with
     | some z => decide (z.nm ≤ srcField src 4 1)
     | none => false)

/-- The judgement of a SOURCE for a TYPE: the status and reason that refuse it, or none (R66, R131, R185). -/
def judgeSource (s : State) (ty : BitVec 2) (src : BitVec 128) : Option (Byte × Nat) :=
  let k := srcField src 0 1
  if 7 ≤ k || src.toNat / 256 ^ sourceBytes k != 0 || !sourceInRange src then some (St.badParam, 10)
  else if ty == 3 && !(4 ≤ k && k ≤ 6) then some (St.badParam, 8)
  else if k == 6 && ty != (if srcField src 3 1 = 8 then 2 else 0) then some (St.badParam, 8)
  else if k != 0 && !s.tileOn (sourceTile src) then some (St.tileOff, 0)
  else if sourceShaded s src then some (St.shaded, 0)
  else if zoneItemBeyond s src then some (St.badParam, 4)
  else none

/-! ## POINT_CREATE and POINT_CONFIG -/

/-- RELINQUISH is a value of the TYPE; any for TYPE 3 (R380). -/
def relinquishOk (ty : BitVec 2) (w : Word) : Bool := ty == 3 || typeAccepts ty w

/-- Records pinned, and those that FED_MIRROR has reserved a pin for (R70, R254). -/
def pinCount (s : State) : Nat :=
  (s.pts.recs.filter (fun e => e.2.pinned)).length + (s.fed.reserved.filter (fun e => e.2.pin)).length

/-- SOURCE of a packet. -/
def packetSource (pk : Packet) : BitVec 128 := BitVec.ofNat 128 (pk.le 32 16)

/-- OWNER names another tenant than the sender, which only the owner may do. -/
def ownerRefused (s : State) (pk : Packet) : Bool := pk.ctx != 0 && pk.u16 24 != tenantOf s pk.ctx

def specPointCreate : OpSpec :=
  { op := 0x202, owner := false, rev1 := false, rsv := 10,
    used := [(8, 5, 0xFF), (13, 1, 3), (14, 1, 0xFF), (15, 1, 3), (16, 10, 0xFF), (32, 16, 0xFF)] }

/-- The record of a POINT_CREATE, before its value is resolved. -/
def newPoint (pk : Packet) : Point :=
  { value := BitVec.ofNat 32 (pk.u32 16), covLast := 0, timestamp := 0
    status := BitVec.ofNat 32 (field (pk.u8 15) 0 0 * 2 ^ stOos + field (pk.u8 15) 1 1 * 2 ^ stPinned)
    prioActive := 0, type := BitVec.ofNat 2 (pk.u8 13), owner := BitVec.ofNat 10 (pk.u16 24)
    group := BitVec.ofNat 8 (pk.u8 14), relinquish := BitVec.ofNat 32 (pk.u32 16), covIncrement := pk.f32 20
    priority := Vector.replicate 16 0, source := packetSource pk, crc := 0, latest := none, mirror := none }

/-- Install a new record: its present value is RELINQUISH, and COV_LAST starts at it (Table 3.17), so that the resolution
signals a change of value only where R69 signals every update (R380). -/
def Point.install (id : Nat) (p : Point) (s : State) : State :=
  let p := Point.resolve s { p with value := p.relinquish }
  Point.store id p.status { p with covLast := p.value } (Point.touch id s)

def bodyPointCreate (pk : Packet) (_ : Key) (s : State) : Verdict :=
  let id := pk.point 8
  let ty := BitVec.ofNat 2 (pk.u8 13)
  if !pointIdOk id then badReason 1
  else if (s.point id).isSome then badReason 5
  else if rightOn s pk.ctx (pk.u8 14) != 3 || ownerRefused s pk then failWith St.noRight
  else if id / 2 ^ 24 != s.fed.chip then badReason 9
  else if 5242880 ≤ s.pts.recs.length + s.fed.reserved.length then badReason 2
  else if 1024 ≤ pk.u16 24 then badReason 10
  else if !relinquishOk ty (BitVec.ofNat 32 (pk.u32 16)) || !fNonNeg (pk.f32 20) then badReason 8
  else
    match judgeSource s ty (packetSource pk) with
    | some r => .fail r.1 (result [(5, 1, r.2)])
    | none =>
      if (newPoint pk).pinned && 65536 ≤ pinCount s then badReason 7
      else .ok 0 (Point.install id (newPoint pk) s)

/-- POINT_CREATE (R62, R66, R380). -/
def execPointCreate (q : Nat) (pk : Packet) (s : State) : Host.Outcome State Fault Refusal :=
  .next (Cmd.run specPointCreate bodyPointCreate q pk s)

def specPointConfig : OpSpec :=
  { op := 0x203, owner := false, rev1 := false, rsv := 10,
    used := [(8, 5, 0xFF), (13, 2, 0xFF), (15, 1, 3), (16, 10, 0xFF), (26, 1, 0x3F), (32, 16, 0xFF)] }

/-- MASK bit `n`. -/
def maskBit (pk : Packet) (n : Nat) : Bool := (pk.u8 26).testBit n

/-- The record after a POINT_CONFIG; a new SOURCE starts without a result and without its source's flags (R378). -/
def Point.configured (p : Point) (pk : Packet) : Point :=
  let fl := pk.u8 15
  let p := if maskBit pk 0 then { p with group := BitVec.ofNat 8 (pk.u8 14) } else p
  let p := if maskBit pk 1 then
    { p with status := putBit (putBit p.status stOos (fl.testBit 0)) stPinned (fl.testBit 1) } else p
  let p := if maskBit pk 2 then { p with relinquish := BitVec.ofNat 32 (pk.u32 16) } else p
  let p := if maskBit pk 3 then { p with covIncrement := pk.f32 20 } else p
  let p := if maskBit pk 4 then { p with owner := BitVec.ofNat 10 (pk.u16 24) } else p
  if maskBit pk 5 then
    { p with
      source := packetSource pk, latest := none
      status := putBit (putBit (putBit p.status stFault false) stUnreliable false) stPlanStale false }
  else p

def bodyPointConfig (pk : Packet) (_ : Key) (s : State) : Verdict :=
  onPoint pk s fun id p s =>
    if !mayConfigure s pk.ctx p || (maskBit pk 0 && rightOn s pk.ctx (pk.u8 14) != 3)
      || (maskBit pk 4 && ownerRefused s pk) then failWith St.noRight
    else if p.reflection then badReason 9
    else if maskBit pk 4 && 1024 ≤ pk.u16 24 then badReason 10
    else if maskBit pk 2 && !relinquishOk p.type (BitVec.ofNat 32 (pk.u32 16)) then badReason 8
    else if maskBit pk 3 && !fNonNeg (pk.f32 20) then badReason 8
    else
      match (if maskBit pk 5 then judgeSource s p.type (packetSource pk) else none) with
      | some r => .fail r.1 (result [(5, 1, r.2)])
      | none =>
        if (p.configured pk).pinned && !p.pinned && 65536 ≤ pinCount s then badReason 7
        else .ok 0 (Fed.withdrawAll (Point.update id p.status (p.configured pk) s))

/-- POINT_CONFIG (R66, R68, R380); a point moved into a group that is not exported is withdrawn (R253). -/
def execPointConfig (q : Nat) (pk : Packet) (s : State) : Host.Outcome State Fault Refusal :=
  .next (Cmd.run specPointConfig bodyPointConfig q pk s)

/-! ## POINT_DELETE -/

def specPointDelete : OpSpec := { op := 0x204, owner := false, rev1 := false, rsv := 10, used := [(8, 5, 0xFF)] }

/-- Remove a record: its watches complete with WHY 3 first (Table 3.18), and its widgets turn off (Table 12.13). -/
def Point.remove (id : Nat) (p : Point) (s : State) : State :=
  let s := Panel.forget id (Point.endWatches id 3 p s)
  { s with pts := { s.pts with
    recs := aerase s.pts.recs id, cache := s.pts.cache.filter (fun x => x != id)
    failed := s.pts.failed.filter (fun x => x != id) } }

def bodyPointDelete (pk : Packet) (_ : Key) (s : State) : Verdict :=
  let id := pk.point 8
  if !pointIdOk id then badReason 1
  else
    match s.point id with
    | none => badReason 4
    | some p =>
      let l := Point.load id p s
      if !(if l.1 then mayConfigure s pk.ctx p else pk.ctx == 0) then .cond St.noRight 0 l.2
      else if l.1 && p.reflection then badReason 9
      else if pointBound s id then .cond St.badParam (result [(5, 1, 3)]) l.2
      else .ok 0 (Point.remove id p l.2)

/-- POINT_DELETE (R71, R380). -/
def execPointDelete (q : Nat) (pk : Packet) (s : State) : Host.Outcome State Fault Refusal :=
  .next (Cmd.run specPointDelete bodyPointDelete q pk s)

/-! ## POINT_WATCH -/

def specPointWatch : OpSpec :=
  { op := 0x205, owner := false, rev1 := false, rsv := 10, used := [(8, 5, 0xFF), (16, 4, 0xFF)] }

def bodyPointWatch (pk : Packet) (k : Key) (s : State) : Verdict :=
  onPoint pk s fun id p s =>
    let ms := pk.u32 16
    if rightOn s pk.ctx p.group.toNat = 0 then failWith St.noRight
    else if ms = 0 || 86400000 < ms then badReason 10
    else .pend { s with pts := { s.pts with watches := s.pts.watches ++
      [{ id := id, key := k, deadline := s.tb.elapsed + ms * 1000000 }] } }

/-- POINT_WATCH (R69). -/
def execPointWatch (q : Nat) (pk : Packet) (s : State) : Host.Outcome State Fault Refusal :=
  .next (Cmd.run specPointWatch bodyPointWatch q pk s)

/-- WATCH_TIMEOUT (Table 3.16): the watch of a TAG on a pair completes with WHY 2, or with CRC_FAIL where the record fails
its load (R71). -/
def execWatchTimeout (q tag : Nat) (s : State) : Host.Outcome State Fault Refusal :=
  .next (match s.pts.watches.find? (fun w => w.key.q == q && w.key.tag == tag) with
    | some w =>
      let s := untilElapsed w.deadline s
      let s := { s with pts := { s.pts with watches := s.pts.watches.filter (fun x => x.key != w.key) } }
      let l := Point.loadAt w.id s
      let s := l.2
      let p := s.point w.id
      if !l.1 then Cmd.final w.key St.crcFail 0 s
      else Cmd.final w.key St.ok (result [(5, 4, (p.map (·.value.toNat)).getD 0), (9, 4, (p.map (·.status.toNat)).getD 0),
        (13, 1, 2)]) s
    | none => s)

end Sys2Proof.Machine
end

