-- ==== Sys2Proof/Machine/ZoneOps.lean ====
section
/-!
DEFINITION. Machine/ZoneOps.lean: zones as others read them: PSTAT (Table 8.3), the plan items (R185), and how they reach
points and loops (R184).
-/

namespace Sys2Proof.Machine

/-- Zone `z` of tile `t`, where the slot is in use. -/
def State.zone (s : State) (t z : Nat) : Option Zone := aget (s.tile t).zones z

/-- Change a zone. -/
def State.modZone (s : State) (t z : Nat) (f : Zone → Zone) : State :=
  s.modTile t (fun x => { x with zones := amod x.zones z f })

/-! ## PSTAT (Table 8.3) -/

/-- The bit numbers of PSTAT. -/
def psPlanStale : Nat := 7
def psShadowLate : Nat := 8
def psLearnFrozen : Nat := 9
def psCandidateOk : Nat := 10
def psYFault : Nat := 12
def psDHeld : Nat := 13
def psOccFallback : Nat := 14
def psInfeasible : Nat := 15

/-- Set or clear a PSTAT flag. -/
def Zone.put (z : Zone) (n : Nat) (b : Bool) : Zone := { z with flags := putBit z.flags n b }

/-- A PSTAT flag. -/
def Zone.has (z : Zone) (n : Nat) : Bool := z.flags.getLsbD n

/-- STATE: a zone without a model is NO_MODEL, CRC apart. -/
def Zone.stateCode (z : Zone) : Nat :=
  match z.state with
  | .crc => 5
  | .noModel => 1
  | .paused => if z.model.isNone then 1 else if z.plan.isSome && decide (z.horizon ≤ z.shifts) then 4 else 2
  | .running => if z.model.isNone then 1 else 3
  | .starved => if z.model.isNone then 1 else 4

/-- PSTAT. -/
def Zone.pstat (z : Zone) : Nat :=
  z.stateCode + z.flags.toNat + bit (z.rebuild.isSome && !((z.rebuild.map (·.done)).getD true)) * 2 ^ 11 + z.shifts * 2 ^ 24

/-! ## Arrays of the descriptor (Table 8.1) -/

/-- UMIN of input `i`. -/
def Zone.umin (z : Zone) (i : Nat) : Rat := fnum (z.f32 (120 + 4 * i))
/-- UMAX. -/
def Zone.umax (z : Zone) (i : Nat) : Rat := fnum (z.f32 (136 + 4 * i))
/-- YLO of output `j`. -/
def Zone.ylo (z : Zone) (j : Nat) : Rat := fnum (z.f32 (152 + 4 * j))
/-- YHI. -/
def Zone.yhi (z : Zone) (j : Nat) : Rat := fnum (z.f32 (168 + 4 * j))
/-- POWER of input `i`. -/
def Zone.power (z : Zone) (i : Nat) : Rat := fnum (z.f32 (200 + 4 * i))
/-- SHARE. -/
def Zone.share (z : Zone) : Rat := fnum (z.f32 220)
/-- OPT_START. -/
def Zone.optStart (z : Zone) : Bool := z.zflags.testBit 5
/-- OPT_DIR. -/
def Zone.optDir (z : Zone) : Bool := z.zflags.testBit 6
/-- NO_DEMAND. -/
def Zone.noDemand (z : Zone) : Bool := z.zflags.testBit 4
/-- START_PAUSED. -/
def Zone.startPaused (z : Zone) : Bool := z.zflags.testBit 0
/-- SCHED. -/
def Zone.sched (z : Zone) : Nat := z.le 18 1
/-- n, the states. -/
def Zone.nstates (z : Zone) : Nat := z.np * z.order
/-- q, the coefficients of a row. -/
def Zone.coeffs (z : Zone) : Nat := z.nstates + z.nm + z.nd + 1

/-! ## Plan items (R184, R185) -/

/-- The slot is running: it has a plan with moves left, and is in RUNNING or PAUSED. -/
def Zone.itemsOn (z : Zone) : Bool :=
  (z.state == .running || z.state == .paused) && z.model.isSome && z.plan.isSome && decide (z.shifts < z.horizon)

/-- The move in force. -/
def Zone.move (z : Zone) : Option (List F32) :=
  if z.itemsOn then z.plan.bind (fun p => p.moves[z.shifts]?) else none

/-- A plan item of Table 7.3, or none for a slot that is not running. -/
def Zone.item (z : Zone) (n : Nat) : Option F32 :=
  match z.move with
  | none => none
  | some u =>
    if n < 4 then some (u.getD n 0)
    else if n < 8 then
      let i := n - 4
      let w := z.umax i - z.umin i
      some (fof (if w = 0 then 0 else 100 * (fnum (u.getD i 0) - z.umin i) / w))
    else some z.countdown

/-- An item that the zone does not give: beyond M - 1, or item 8 without OPT_START. -/
def Zone.lacks (z : Zone) (n : Nat) : Bool :=
  if n < 4 then decide (z.nm ≤ n) else if n < 8 then decide (z.nm ≤ n - 4) else n != 8 || !z.optStart

/-- A SOURCE of KIND 3 on a zone. -/
def zonePoint (t z : Nat) (src : BitVec 128) : Bool := srcIs 3 t src && srcField src 2 2 == z

/-- Write the plan items into the points bound to the zone, with PLAN_STALE, or with FAULT where the slot is not
running. -/
def Zone.deliver (t n : Nat) (s : State) : State :=
  match s.zone t n with
  | none => s
  | some z =>
    (List.range 4).foldl (fun s o =>
      let v := z.item o
      Points.deliver (fun src => zonePoint t n src && srcField src 4 1 == o) (v.map SrcVal.fp)
        { fault := v.isNone, planStale := z.has psPlanStale } s) s

/-- A zone of a powered tile has a boundary at or before an instant: its publication precedes the snapshots of the loops
due there (R181). -/
def zoneDueBy (s : State) (b : Nat) : Bool :=
  (List.range 4).any (fun t => s.tileOn t && (s.tile t).zones.any (fun e => decide (e.2.next ≤ b)))

/-- PRICE and DEMAND_LIMIT of the tariff in force at a TB second, from the active bank (R177). -/
def rateAt (s : State) (sec : Nat) : F32 × F32 :=
  let b := s.mt.active
  (vget b.price (b.tariffAt sec) 0, vget b.limit (b.tariffAt sec) 0)

end Sys2Proof.Machine
end

