-- ==== Sys2Proof/Machine/LoopOps.lean ====
section
/-!
DEFINITION. Machine/LoopOps.lean: the loop engine: rates and stretch (R158 to R161), boundaries (R152), inputs (R162), the
control laws (R155 to R157), outputs (R151, R154, R163, R164) and one evaluation.
-/

namespace Sys2Proof.Machine

/-- Loop `d` of tile `t`, where the descriptor is in use. -/
def State.loop (s : State) (t d : Nat) : Option Loop := aget (s.tile t).loops d

/-- Change a loop. -/
def State.modLoop (s : State) (t d : Nat) (f : Loop → Loop) : State :=
  s.modTile t (fun x => { x with loops := amod x.loops d f })

/-! ## Descriptors -/

/-- The CRC at offset 124 matches. -/
def Loop.whole (l : Loop) : Bool := (crc32c (leBytes 124 l.desc.toNat)).toNat == l.le 124 4

/-- A descriptor with a field replaced and its CRC recomputed. -/
def descSet (d : BitVec 1024) (off w v : Nat) : BitVec 1024 :=
  BitVec.ofNat 1024 (setField d.toNat (8 * (off + w) - 1) (8 * off) v)

/-- A descriptor with its CRC recomputed. -/
def descSeal (d : BitVec 1024) : BitVec 1024 := descSet d 124 4 (crc32c (leBytes 124 d.toNat)).toNat

/-- A parameter as a number. -/
def Loop.num (l : Loop) (i : Nat) : Rat := fnum (l.param i)

/-- OUT_MIN, OUT_MAX and OUT_SAFE. -/
def Loop.outMin (l : Loop) : Rat := l.num 4
def Loop.outMax (l : Loop) : Rat := l.num 5
def Loop.outSafe (l : Loop) : F32 := l.param 6

/-! ## Rates and stretch (R158, R161) -/

/-- Steps of an evaluation (Table 7.5). -/
def loopCost (type : Nat) : Nat := [2, 3, 4, 1, 2, 1, 2, 2][type]?.getD 2

/-- The rate of a descriptor, steps/s. -/
def Loop.rate (l : Loop) : Nat := ceilDiv (loopCost l.type * 1000000) l.period

/-- A descriptor as admission takes it in; in state CRC it keeps the rate and class that it has (R165). -/
def Loop.bookRate (l : Loop) : Loop :=
  if l.state == .crc then l else { l with admitted := l.rate, admittedCls := l.cls }

/-- The admitted rate of the descriptors of a class in a tile. -/
def classRate (x : Tile) (c : Nat) : Nat :=
  (x.loops.filter (fun e => e.2.admittedCls == c)).foldl (fun a e => a + e.2.admitted) 0

/-- The admitted rate of all descriptors of a tile. -/
def tileRate (x : Tile) : Nat := x.loops.foldl (fun a e => a + e.2.admitted) 0

/-- The engine's capacity at a TCLK in MHz. -/
def loopCapacity (mhz : Nat) : Nat := 16777216 * mhz / 3000

/-- The stretched load in eighths of a step/s. -/
def stretched8 (x : Tile) (s1 s2 : Nat) : Nat :=
  8 * classRate x 0 + classRate x 1 * 2 ^ (3 - s1) + classRate x 2 * 2 ^ (3 - s2)

/-- The pairs of factor exponents in the order in which R161 tries them. -/
def stretchPairs : List (Nat × Nat) := [(0, 0), (0, 1), (0, 2), (0, 3), (1, 1), (1, 2), (1, 3), (2, 2), (2, 3), (3, 3)]

/-- The factors that R161 chooses for a capacity. -/
def chooseStretch (x : Tile) (cap : Nat) : Nat × Nat :=
  (stretchPairs.find? (fun p => decide (stretched8 x p.1 p.2 ≤ 8 * cap))).getD (3, 3)

/-- The exponent of the factor in force for a loop; class 0 always keeps its period. -/
def stretchOf (x : Tile) (l : Loop) : Nat := if l.admittedCls = 1 then x.s1 else if l.admittedCls = 2 then x.s2 else 0

/-- The effective loop load in 1/10,000, to nearest (R160, Table 7.10). -/
def effectiveLoad (s : State) (t : Nat) : Nat :=
  let x := s.tile t
  let cap := loopCapacity (tclkNow s t)
  (2 * stretched8 x x.s1 x.s2 * 1250 + cap) / (2 * cap)

/-- The effective loop load is at most 90 % (R160). -/
def lightlyLoaded (s : State) (t : Nat) : Bool :=
  let x := s.tile t
  decide (10 * stretched8 x x.s1 x.s2 ≤ 72 * loopCapacity (tclkNow s t))

/-! ## Boundaries (R152) -/

/-- The first boundary after a TB time at which a loop stretched by `2^e` evaluates. -/
def Loop.nextAfter (l : Loop) (e now : Nat) : Nat :=
  let per : Int := ((l.period * 1000 : Nat) : Int)
  let ph : Int := ((l.phase * 1000 : Nat) : Int)
  let k := ((now : Int) - ph) / per + 1
  let m : Int := ((2 ^ e : Nat) : Int)
  let k := (k + m - 1) / m * m
  (ph + k * per).toNat

/-- Realign every loop of a tile to its first boundary after now. -/
def Loops.realign (t : Nat) (s : State) : State :=
  s.modTile t (fun x => { x with loops := x.loops.map (fun e => (e.1, { e.2 with next := e.2.nextAfter (stretchOf x e.2) s.ns })) })

/-- A TCLK step: new stretch factors by R161, with LOOP_STRETCH where they change. -/
def Loops.restretch (t : Nat) (s : State) : State :=
  let x := s.tile t
  let p := chooseStretch x (loopCapacity (tclkMhz (levelInForce s t)))
  if p.1 = x.s1 && p.2 = x.s2 then s
  else
    let s := Loops.realign t (s.modTile t (fun x => { x with s1 := p.1, s2 := p.2 }))
    Ev.raise (tileSource t 6) 0 (packLe [(1, 2 ^ p.1), (1, 2 ^ p.2)]) s

/-! ## Inputs (R162) -/

/-- What a binding gives at a snapshot. -/
structure InVal where
  /-- None where the source is faulted. -/
  v : Option F32
  unreliable : Bool := false
  planStale : Bool := false
  /-- What shows a refresh. -/
  token : Nat := 0
  /-- Taken while TB_VALID was clear. -/
  stampInvalid : Bool := false
deriving DecidableEq, Repr

/-- A value where it is finite. -/
def finiteOnly (v : F32) : Option F32 := if ffinite v then some v else none

/-- A channel's result by its FLAGS (Table 5.3). -/
def chanInput (v : F32) (flags token : Nat) : InVal :=
  { v := if flags % 8 != 0 then none else finiteOnly v, unreliable := flags.testBit 3, token := token
    stampInvalid := flags.testBit 4 }

/-- The value of a loop that another one reads: 0 OUT0, 1 OUT1, 2 SP, 3 PV. -/
def Loop.value (l : Loop) (n : Nat) : F32 := if n = 0 then l.out0 else if n = 1 then l.out1 else if n = 2 then l.sp else l.pv

/-- A loop is faulted as a source. -/
def Loop.badSource (l : Loop) : Bool := l.state == .fault || l.state == .crc

/-- An imported value; a slot that nothing has reached yet reads its source as it stands (log 28). -/
def importInput (s : State) (t slot : Nat) (source : InVal) : InVal :=
  match aget (s.tile t).imports slot with
  | some i =>
    { v := if i.faulted then none else finiteOnly i.v, unreliable := i.unreliable, token := i.writes
      stampInvalid := i.stampInvalid }
  | none => { source with token := 0 }

/-- Channel `ch` of tile `t` as an input. -/
def chanNow (s : State) (t ch : Nat) : InVal :=
  let l := (s.tile t).chan ch
  chanInput l.value l.flags.toNat l.writes

/-- Value `n` of loop `d` of tile `t` as an input. -/
def loopInput (s : State) (t d n : Nat) : InVal :=
  match s.loop t d with
  | some l => { v := if l.badSource then none else finiteOnly (l.value n), token := l.writes }
  | none => { v := none }

/-- The points that bindings name. -/
def pointsOf (bs : List Nat) : List Nat := (bs.filter (fun b => bKind b == 2)).map bPoint

/-- The records that bindings name are loaded for a sample (R71). -/
def loadPoints (bs : List Nat) (s : State) : State :=
  (pointsOf bs).foldl (fun s id => Point.check id s) s

/-- A binding of a loop or zone of tile `t`, read from the state at the snapshot. -/
def readBinding (s : State) (t b : Nat) : InVal :=
  let src := bTile b
  if bKind b = 1 then
    (if !s.tileOn src then { v := none }
     else if src = t then chanNow s t (bIndex b)
     else importInput s t (slotChan src (bIndex b)) (chanNow s src (bIndex b)))
  else if bKind b = 2 then
    let r := pointInput s (bPoint b)
    let p := s.point (bPoint b)
    { v := r.1, unreliable := r.2, token := (p.map (fun p => p.timestamp.toNat * 2 ^ 32 + p.value.toNat)).getD 0
      stampInvalid := (p.map (fun p => p.status.getLsbD stStampInvalid)).getD false }
  else if bKind b = 3 then
    (if !s.tileOn src then { v := none }
     else if src = t then loopInput s t (bIndex b) (bItem b)
     else importInput s t (slotLoop src (bIndex b) (bItem b)) (loopInput s src (bIndex b) (bItem b)))
  else if bKind b = 4 then
    match s.zone t (bIndex b) with
    | some z => { v := (z.item (bItem b)).bind finiteOnly, planStale := z.has psPlanStale, token := z.writes }
    | none => { v := none }
  else { v := none }

/-! ## Controllers (R155, R157) -/

/-- What one controller computes from. -/
structure PidIn where
  kp : Rat
  ti : Rat
  td : Rat
  tf : Rat
  beta : Rat
  lo : Rat
  hi : Rat
  sg : Rat
  sp : Rat
  pv : Rat
  ff : Rat
  dt : Rat
  /-- The first evaluation after admission: PV has no previous value. -/
  first : Bool
  /-- u_prev of a bumpless transfer. -/
  bump : Option Rat
  /-- The commanded u of MANUAL. -/
  manual : Option Rat
  /-- The integral is frozen. -/
  freeze : Bool
deriving DecidableEq, Repr

/-- One evaluation of a controller: its new state, u, and whether u was clamped. -/
def Pid.eval (c : Pid) (x : PidIn) : Pid × Rat × Bool :=
  let prev := if x.first then x.pv else fnum c.pvPrev
  let p := x.kp * x.sg * (x.beta * x.sp - x.pv)
  let d := if 0 < x.td then (x.tf * fnum c.deriv - x.kp * x.td * x.sg * (x.pv - prev)) / (x.tf + x.dt) else 0
  let i := match x.bump with
    | some u => u - p - d - x.ff
    | none => fnum c.integ
  match x.manual with
  | some u => ({ integ := fof (u - p - d - x.ff), deriv := fof d, pvPrev := fof x.pv }, u, false)
  | none =>
    let i := if 0 < x.ti && !x.freeze then i + x.kp * x.dt / x.ti * (x.sg * (x.sp - x.pv)) else i
    let raw := p + i + d + x.ff
    let i := if x.freeze then i else rclamp (x.lo - p - d - x.ff) (x.hi - p - d - x.ff) i
    ({ integ := fof i, deriv := fof d, pvPrev := fof x.pv }, rclamp x.lo x.hi (p + i + d + x.ff),
      decide (raw < x.lo) || decide (x.hi < raw))

/-! ## Evaluating the law (R156) -/

/-- What an evaluation reads. -/
structure LoopIn where
  pv : Rat
  sp : Rat
  /-- AUX, where it is bound and not faulted. -/
  aux : Option Rat
  auxBound : Bool
  /-- The healthy candidates of SELECT, with their input numbers. -/
  cands : List (Rat × Nat)
  dt : Rat
  now : Nat
  freeze : Bool
deriving DecidableEq, Repr

/-- The commanded value of MANUAL. -/
def Loop.manualU (l : Loop) : Option Rat := if l.state == .manual then some (fnum l.manual) else none

/-- u_prev of a bumpless evaluation. -/
def Loop.bumpU (l : Loop) : Option Rat := if l.bumpless then some (fnum l.u) else none

/-- The direction. -/
def Loop.sg (l : Loop) : Rat := if l.direct then -1 else 1

/-- The loop's own controller for a PID, PI_FF or SPLIT. -/
def Loop.pidIn (l : Loop) (x : LoopIn) (ff : Rat) : PidIn :=
  { kp := l.num 0, ti := l.num 1, td := if l.type = 1 then 0 else l.num 2, tf := l.num 3
    beta := if l.type = 0 then l.num 8 else 1
    lo := if l.type = 4 then 0 else l.outMin, hi := if l.type = 4 then 100 else l.outMax
    sg := l.sg, sp := x.sp, pv := x.pv, ff := ff, dt := x.dt, first := l.writes == 0
    bump := l.bumpU, manual := l.manualU, freeze := x.freeze }

/-- The stages of SPLIT from u. -/
def Loop.stages (l : Loop) (u : Rat) : Rat × Rat :=
  let b := l.num 8
  let w := l.num 9
  let a := 100 * rclamp 0 1 ((b - w / 2 - u) / (b - w / 2))
  let c := 100 * rclamp 0 1 ((u - b - w / 2) / (100 - b - w / 2))
  (rclamp l.outMin l.outMax a, rclamp l.outMin l.outMax c)

/-- Outputs that derive from u (Table 7.4); CASCADE and SELECT keep OUT1. -/
def Loop.derive (l : Loop) (u : Rat) : F32 × F32 :=
  if l.type = 4 then (fof (l.stages u).1, fof (l.stages u).2)
  else if l.type = 2 || l.type = 6 then (fof u, l.out1)
  else (fof u, fof u)

/-- Set AT_LIMIT and u, and derive the outputs. -/
def Loop.settle (l : Loop) (u : Rat) (at' : Bool) : Loop :=
  let o := l.derive u
  { l with u := fof u, out0 := o.1, out1 := o.2, flags := putBit l.flags 6 at' }

/-- CASCADE's outer controller, whose output is the inner setpoint (R156). -/
def Loop.outerEval (l : Loop) (x : LoopIn) (freeze : Bool) : Pid × Rat × Bool :=
  l.pid.eval { l.pidIn x 0 with
    beta := 1, lo := l.num 10, hi := l.num 11
    bump := if l.bumpless then some (fnum l.outer) else none
    manual := if l.state == .manual then some (fnum l.outer) else none
    freeze := freeze }

/-- CASCADE's inner controller at a setpoint. -/
def Loop.innerEval (l : Loop) (x : LoopIn) (sp : Rat) : Pid × Rat × Bool :=
  l.inner.eval {
    kp := l.num 8, ti := l.num 9, td := 0, tf := 0, beta := 1, lo := l.outMin, hi := l.outMax, sg := l.sg
    sp := sp, pv := x.aux.getD 0, ff := 0, dt := x.dt, first := l.writes == 0, bump := l.bumpU
    manual := l.manualU, freeze := x.freeze }

/-- CASCADE (R156): where the inner u comes to stand at a limit, the evaluation is that of an outer integral that does not
change in it (log 28). -/
def Loop.cascade (l : Loop) (x : LoopIn) : Loop :=
  let trial := (l.innerEval x (l.outerEval x x.freeze).2.1).2.1
  let o := l.outerEval x (x.freeze || trial == l.outMin || trial == l.outMax)
  let n := l.innerEval x o.2.1
  { l with
    pid := o.1, inner := n.1, outer := fof o.2.1, u := fof n.2.1, out0 := fof n.2.1
    out1 := fof o.2.1, flags := putBit l.flags 6 n.2.2 }

/-- ONOFF (R156). -/
def Loop.onOff (l : Loop) (x : LoopIn) : Loop :=
  let l := match l.bumpU with
    | some u => { l with on := decide ((l.outMin + l.outMax) / 2 ≤ u) }
    | none => l
  match l.manualU with
  | some u => l.settle u false
  | none =>
    let e := l.sg * (x.sp - x.pv)
    let h := l.num 8
    let want := if h / 2 < e then true else if e < -(h / 2) then false else l.on
    let hold : Rat := if l.on then l.num 9 else l.num 10
    let held : Rat := ((x.now - l.switchedAt : Nat) : Rat) / 1000000000
    let l := if want != l.on && decide (hold ≤ held) then { l with on := want, switchedAt := x.now } else l
    l.settle (if l.on then l.outMax else l.outMin) false

/-- RATE (R156). -/
def Loop.rateLimit (l : Loop) (x : LoopIn) : Loop :=
  match l.manualU with
  | some u => l.settle u false
  | none =>
    let raw := fnum l.u + rclamp (-(l.num 9 * x.dt)) (l.num 8 * x.dt) (x.pv - fnum l.u)
    l.settle (rclamp l.outMin l.outMax raw) (decide (raw < l.outMin) || decide (l.outMax < raw))

/-- Put a candidate into a list in rising order. -/
def insertCand (c : Rat × Nat) : List (Rat × Nat) → List (Rat × Nat)
  | [] => [c]
  | d :: r => if c.1 < d.1 then c :: d :: r else d :: insertCand c r

/-- SELECT (R156): minimum, maximum, or the median of three. -/
def Loop.select (l : Loop) (x : LoopIn) : Loop :=
  let v := x.cands.foldl (fun a c => insertCand c a) []
  let pick := if l.num 8 = 1 then v.getLast? else if l.num 8 = 2 && v.length = 3 then v[1]? else v.head?
  let p := pick.getD (0, 0)
  let u := (l.manualU).getD p.1
  { l with u := fof u, out0 := fof u, out1 := fofInt p.2, flags := putBit l.flags 6 false }

/-- One evaluation of a loop's law. -/
def Loop.law (l : Loop) (x : LoopIn) : Loop :=
  match l.type with
  | 1 =>
    let ff := match x.aux with
      | some a => fof (l.num 8 * (a - l.num 9))
      | none => if x.auxBound then l.ffHeld else 0
    let r := l.pid.eval (l.pidIn x (fnum ff))
    { l with pid := r.1, ffHeld := ff }.settle r.2.1 r.2.2
  | 2 => l.cascade x
  | 3 => l.onOff x
  | 5 => l.rateLimit x
  | 6 => l.select x
  | 7 =>
    let occ := decide ((1 : Rat) / 2 ≤ x.pv) || (match x.aux with
      | some a => decide (a ≤ 0)
      | none => false)
    l.settle ((l.manualU).getD (if occ then l.num 8 else l.num 9)) false
  | _ =>
    let r := l.pid.eval (l.pidIn x 0)
    { l with pid := r.1 }.settle r.2.1 r.2.2

/-! ## Outputs -/

/-- Write or relinquish a point's level for a loop; the Bool says that the point took it. -/
def Point.loopWrite (id level : Nat) (v : Option F32) (s : State) : Bool × State :=
  match s.point id with
  | none => (false, s)
  | some p =>
    let l := Point.load id p s
    if !l.1 || p.kind != 0 then (false, l.2)
    else
      let w := v.map (fun v => (sourceValue p.type (.fp v)).getD p.value)
      (true, Point.update id p.status (p.setLevel level w) l.2)

/-- A value on its way is a demand for the target of an output binding. -/
def Cross.isDemand (b : Nat) (e : CrossEntry) : Bool :=
  e.dst == bTile b && (match e.item with
    | .drv j _ => bKind b == 5 && j == bByte b 2
    | .ao k _ => bKind b == 6 && k == bByte b 2
    | .fan k _ => bKind b == 7 && k == bByte b 2
    | _ => false)

/-- RELEASE of one output of a loop in tile `t`: a POINT level is relinquished; another target goes to its fallback, and
no demand still on its way to it arrives later (log 28). -/
def Loop.releaseOne (t : Nat) (s : State) (b : Nat) : State :=
  if bKind b = 2 then (Point.loopWrite (bPoint b) (bLevel b) none s).2
  else Out.fallback b (s.modTile t (fun x => { x with xout := x.xout.filter (fun e => !Cross.isDemand b e) }))

/-- The RELEASE action on a loop's outputs (R163). -/
def Loop.release (t : Nat) (l : Loop) (s : State) : State := l.targets.foldl (Loop.releaseOne t) s

/-- Send a value to an output target: in the same tile at once, to another one through the queues (R154). -/
def Loop.send (t b : Nat) (v : F32) (s : State) : State :=
  let dst := bTile b
  let k := bByte b 2
  if dst = t then Out.deliver (bKind b) t k v s
  else if bKind b = 5 then Cross.push t dst (.drv k v) s
  else if bKind b = 6 then Cross.push t dst (.ao k v) s
  else Cross.push t dst (.fan k v) s

/-- Deliver output `n` of loop `d`: not while its target is faulted; a POINT at its first and at each changed value. -/
def Loop.emit (t d n : Nat) (s : State) : State :=
  match s.loop t d with
  | none => s
  | some l =>
    let b := (l.targets)[n]?.getD 0
    let v := if n = 0 then l.out0 else l.out1
    if bKind b = 0 || l.flags.getLsbD (10 + n) then s
    else if bKind b = 2 then
      (if (if n = 0 then l.wrote0 else l.wrote1) == some v then s
       else
         let r := Point.loopWrite (bPoint b) (bLevel b) (some v) s
         let w := if r.1 then some v else none
         r.2.modLoop t d (fun l => if n = 0 then { l with wrote0 := w } else { l with wrote1 := w }))
    else Loop.send t b v s

/-- Publish a loop's values: to the points bound to it, and to the tiles that bind it. -/
def Loop.publish (t d : Nat) (s : State) : State :=
  match s.loop t d with
  | none => s
  | some l =>
    (List.range 4).foldl (fun s n =>
      let s := (importers s t (fun b => bindsLoop t d b && bItem b == n)).foldl
        (fun s u => Cross.push t u (.loop d n (l.value n) l.badSource) s) s
      Points.deliver (fun src => srcIs 2 t src && srcField src 2 2 == d && srcField src 4 1 == n)
        (some (.fp (l.value n))) { fault := l.badSource } s) s

/-! ## LSTAT and its faults -/

/-- The code of STATE. -/
def LoopState.code : LoopState → Nat
  | .auto => 1
  | .manual => 2
  | .fault => 3
  | .crc => 4

/-- LSTAT (Table 7.6): a loop that GLOW has stopped reads STOPPED until it is evaluated again. -/
def Loop.lstat (l : Loop) : Nat :=
  (if l.stopped && l.state != .crc then 5 else l.state.code) + l.flags.toNat + l.stretch * 2 ^ 16

/-- Raise LOOP_FAULT: 0 entry, 1 leave. -/
def Loop.event (t d code : Nat) (s : State) : State :=
  Ev.raise (tileSource t 7) code (packLe [(2, d), (4, ((s.loop t d).map Loop.lstat).getD 0)]) s

/-! ## One evaluation -/

/-- Judge one input of a loop: its refresh watch and its value, none where it is faulted. -/
def Loop.judge (l : Loop) (i : Nat) (r : InVal) : InputWatch × Option F32 :=
  let w := vget l.watch i {}
  let w : InputWatch := if w.seen = r.token then { w with stale := w.stale + 1 } else { seen := r.token, stale := 0 }
  let stale := l.staleEvals != 0 && decide (l.staleEvals ≤ w.stale)
  (w, if stale || (r.unreliable && l.unrelFault) then none else r.v)

/-- A loop with its inputs judged: flags and watches set; its three inputs' values. -/
def Loop.inputs (s : State) (t : Nat) (l : Loop) : Loop × List (Option F32) :=
  let step (a : Loop × List (Option F32)) (i : Nat) : Loop × List (Option F32) :=
    let b := l.input i
    if bKind b = 0 then (a.1, a.2 ++ [none])
    else
      let r := readBinding s t b
      let j := a.1.judge i r
      let f := putBit a.1.flags (7 + i) j.2.isNone
      let f := if r.unreliable && j.2.isSome then putBit f 14 true else f
      let f := if r.planStale then putBit f 15 true else f
      ({ a.1 with watch := vset a.1.watch i j.1, flags := f }, a.2 ++ [j.2])
  let l0 := { l with flags := l.flags &&& 0x00000040#32 }
  [0, 1, 2].foldl step (l0, [])

/-- An input is bound and faulted. -/
def badInput (l : Loop) (vs : List (Option F32)) (i : Nat) : Bool := bKind (l.input i) != 0 && ((vs[i]?).getD none).isNone

/-- A loop in state FAULT stays in it until every input is healthy again (R163). -/
def Loop.stays (l : Loop) (vs : List (Option F32)) : Bool :=
  l.state == .fault && [0, 1, 2].any (badInput l vs)

/-- The inputs put the loop in state FAULT (R163). -/
def Loop.faulted (l : Loop) (vs : List (Option F32)) : Bool :=
  if l.type = 6 then [0, 1, 2].all (fun i => ((vs[i]?).getD none).isNone)
  else badInput l vs 0 || (l.type != 1 && badInput l vs 2)

/-- SP in use, with SP_FALLBACK for a faulted one. -/
def Loop.setpoint (l : Loop) (vs : List (Option F32)) : F32 := ((vs[1]?).getD none).getD (l.param 7)

/-- The ON_FAULT action at an evaluation (R163). -/
def Loop.onFaultAct (t d : Nat) (l : Loop) (s : State) : State :=
  if l.onFault = 1 then
    let o := l.derive (fnum l.outSafe)
    let s := s.modLoop t d (fun l => { l with u := l.outSafe, out0 := o.1, out1 := o.2, released := false })
    Loop.emit t d 1 (Loop.emit t d 0 s)
  else if l.onFault = 2 then
    (if l.released then s
     else Loop.release t l (s.modLoop t d (fun l => { l with released := true, wrote0 := none, wrote1 := none })))
  else Loop.emit t d 1 (Loop.emit t d 0 s)

/-- TILE_SKEW stands for two tiles, in either quantity. -/
def skewStands (s : State) (t u : Nat) : Bool :=
  (List.range 8).any (fun i => (vget s.pw.skew i {}).stands && (edgeTiles (i / 2) == (t, u) || edgeTiles (i / 2) == (u, t)))

/-- A loop of tile `t` binds across a pair of tiles for which TILE_SKEW stands (R17). -/
def Loop.acrossSkew (s : State) (t : Nat) (l : Loop) : Bool :=
  l.bindings.any (fun b => bKind b != 0 && bKind b != 2 && skewStands s t (bTile b))

/-- The start jitter in 0.1 us (log 5): free, and within the bound of R160 but where R17 gives none. -/
def jitterOf (s : State) (t : Nat) (l : Loop) : Nat :=
  let bound := (if lightlyLoaded s t then 20 else 250) * 3000 / tclkNow s t
  if l.acrossSkew s t then Config.nat s.free else Config.nat s.free % (bound + 1)

/-- The law's inputs. -/
def Loop.lawIn (s : State) (t b : Nat) (l : Loop) (vs : List (Option F32)) : LoopIn :=
  let v (i : Nat) : Option F32 := (vs[i]?).getD none
  { pv := ((v 0).map fnum).getD 0, sp := fnum (l.setpoint vs), aux := (v 2).map fnum, auxBound := bKind (l.input 2) != 0
    cands := [0, 1, 2].filterMap (fun i => (v i).map (fun x => (fnum x, i)))
    dt := ((2 ^ stretchOf (s.tile t) l * l.period : Nat) : Rat) / 1000000
    now := b, freeze := l.flags.getLsbD 10 || l.flags.getLsbD 11 }

/-- Evaluate loop `d` at boundary `b`, its inputs read from the snapshot `snap` (R153, R155 to R157, R163 to R165). -/
def Loop.evaluate (snap : State) (t d b : Nat) (s : State) : State :=
  match s.loop t d with
  | none => s
  | some l =>
    if l.state == .crc then s
    else if !l.whole then
      let s := Loop.release t l (s.modLoop t d (fun l => { l with state := .crc, released := true, wrote0 := none, wrote1 := none }))
      Ev.raise (tileSource t 8) 0 (packLe [(2, d)]) (Loop.publish t d s)
    else
      let r := l.inputs snap t
      let vs := r.2
      let l := { r.1 with stretch := stretchOf (s.tile t) l, jitter := jitterOf s t l, stopped := false }
      let marks (n : Nat) (f : Word) : Word :=
        let o := (l.targets)[n]?.getD 0
        putBit f (10 + n) (bKind o != 0 && Out.faulted s o)
      let l := { l with flags := putBit (putBit (marks 1 (marks 0 l.flags)) 13 (badInput l vs 1)) 12 (l.type == 1 && badInput l vs 2) }
      let l := { l with pv := ((vs[0]?).getD none).getD l.pv, sp := l.setpoint vs }
      let s := s.drawn
      if l.faulted vs || l.stays vs then
        let was := l.state
        let l := { l with
          state := .fault, back := if was == .fault then l.back else was, bumpless := true, writes := l.writes + 1
          flags := putBit l.flags 6 false }
        let s := s.modLoop t d (fun _ => l)
        let s := if was == .fault then s else Loop.event t d 0 s
        Loop.publish t d (Loop.onFaultAct t d l s)
      else
        let was := l.state
        let l := if was == .fault then { l with state := l.back, bumpless := true } else l
        let l := { (l.law (l.lawIn s t b vs)) with bumpless := false, writes := l.writes + 1, released := false }
        let s := s.modLoop t d (fun _ => l)
        let s := if was == .fault then Loop.event t d 1 s else s
        Loop.publish t d (Loop.emit t d 1 (Loop.emit t d 0 s))

/-! ## The loops due at an instant (R153) -/

/-- The loops of a tile that still evaluate. -/
def activeLoops (x : Tile) : List (Nat × Loop) := x.loops.filter (fun e => e.2.state != .crc)

/-- The first boundary due in a tile. -/
def nextLoopBoundary (x : Tile) : Option Nat :=
  (activeLoops x).foldl (fun a e => match a with
    | some m => some (min m e.2.next)
    | none => some e.2.next) none

/-- The loops due at `b`, in class and number order. -/
def dueLoops (x : Tile) (b : Nat) : List Nat :=
  [0, 1, 2].flatMap (fun c => ((activeLoops x).filter (fun e => e.2.next ≤ b && e.2.admittedCls == c)).map (·.1))

/-- The records that a loop's bindings name are loaded. -/
def Loop.loadInputs (t d : Nat) (s : State) : State :=
  match s.loop t d with
  | some l => if l.whole then loadPoints l.bindings s else s
  | none => s

/-- Evaluate some loops at boundary `b` from one snapshot, and set their next boundaries. -/
def Loops.evaluate (t b : Nat) (due : List Nat) (s : State) : State :=
  let s := due.foldl (fun s d => Loop.loadInputs t d s) s
  let snap := s
  let s := due.foldl (fun s d => Loop.evaluate snap t d b s) s
  due.foldl (fun s d => s.modLoop t d (fun l => { l with next := l.nextAfter (stretchOf (s.tile t) l) s.ns })) s

/-- Loops run in RUN and QUIET and stop in GLOW (R166). -/
def loopsRun (s : State) (t : Nat) : Bool := s.tileOn t && !glowing s

/-- The first boundary of a tile's loops may be evaluated: no zone is still to publish at or before it (R181). -/
def loopsMayRun (s : State) (t : Nat) : Bool :=
  loopsRun s t && (match nextLoopBoundary (s.tile t) with
    | some b => !zoneDueBy s b
    | none => false)

end Sys2Proof.Machine
end

