-- ==== Sys2Proof/Machine/Loops.lean ====
section
/-!
DEFINITION. Machine/Loops.lean: the LOOP group (Tables 7.7 and 7.8) with admission (R149 to R151, R158, R159), and
LOOP_EVALUATION.
-/

namespace Sys2Proof.Machine

/-! ## Naming a loop (R167) -/

/-- A command on a descriptor in use: reason 1, TILE_OFF, reason 2. -/
def onLoop (pk : Packet) (s : State) (f : Nat → Nat → Loop → Verdict) : Verdict :=
  let t := pk.u8 8
  let d := pk.u16 10
  if 4 ≤ t then badReason 1
  else if !s.tileOn t then failWith St.tileOff
  else if 16384 ≤ d then badReason 1
  else
    match s.loop t d with
    | none => badReason 2
    | some l => f t d l

/-! ## Import slots (R159) -/

/-- What a binding imports into tile `t`: a POINT, a ZONE item, or another tile's CHANNEL or LOOP value. -/
def importOf (t b : Nat) : Option Nat :=
  let k := bKind b
  if k = 2 || k = 4 then some (b % 256 ^ 7)
  else if (k = 1 || k = 3) && bTile b != t then some (b % 256 ^ 7)
  else none

/-- The sources that a zone imports: Y and D bindings in use. -/
def Zone.sources (z : Zone) : List Nat := (List.range z.np).map z.yBind ++ (List.range z.nd).map z.dBind

/-- Distinct imports of some loops and zones. -/
def importsOf (t : Nat) (ls : List Loop) (zs : List Zone) : List Nat :=
  ((ls.flatMap Loop.sources ++ zs.flatMap Zone.sources).filterMap (importOf t)).eraseDups

/-- Import slots of a tile in use, with one loop or zone set aside. -/
def slotsUsed (s : State) (t : Nat) : Nat :=
  let x := s.tile t
  (importsOf t (x.loops.map (·.2)) (x.zones.map (·.2))).length

/-- The slot in the loop store that a binding reads in tile `t`, for a source of another tile. -/
def slotOf (t b : Nat) : Option Nat :=
  if bTile b = t then none
  else if bKind b = 1 then some (slotChan (bTile b) (bIndex b))
  else if bKind b = 3 then some (slotLoop (bTile b) (bIndex b) (bItem b))
  else none

/-- Free the import slots that nothing in tile `t` reads. -/
def Imports.prune (t : Nat) (s : State) : State :=
  s.modTile t (fun x =>
    let live := (x.loops.flatMap (fun e => e.2.bindings) ++ x.zones.flatMap (fun e => e.2.bindings)).filterMap (slotOf t)
    { x with imports := x.imports.filter (fun e => live.contains e.1) })

/-! ## Fields (Tables 7.1, 7.2 and 7.4, R156) -/

/-- A reserved bit or code (reason 3). -/
def Loop.reservedSet (l : Loop) : Bool :=
  field (l.le 0 1) 7 6 != 0 || l.cls == 3 || decide (7 < l.type) || field (l.le 1 1) 7 5 != 0 || l.onFault == 3
    || l.le 3 1 != 0 || l.le 14 2 != 0 || l.le 104 20 != 0

/-- The first `n` of P1 to P4 are finite. -/
def Loop.finiteP (l : Loop) (n : Nat) : Bool := (List.range n).all (fun i => ffinite (l.param (8 + i)))

/-- The parameters meet the ranges of the TYPE. -/
def Loop.typeOk (l : Loop) : Bool :=
  let p (i : Nat) : Rat := l.num (7 + i)
  match l.type with
  | 0 => l.finiteP 1 && decide (0 ≤ p 1) && decide (p 1 ≤ 1)
  | 1 => l.finiteP 2
  | 2 => l.finiteP 4 && decide (0 ≤ p 2) && decide (p 3 < p 4)
  | 3 => l.finiteP 3 && decide (0 ≤ p 1) && decide (0 ≤ p 2) && decide (0 ≤ p 3)
  | 4 => l.finiteP 2 && decide (0 ≤ p 2) && decide (0 < p 1 - p 2 / 2) && decide (p 1 + p 2 / 2 < 100)
  | 5 => l.finiteP 2 && decide (0 < p 1) && decide (0 < p 2)
  | 6 => l.finiteP 1 && (p 1 == 0 || p 1 == 1 || p 1 == 2)
  | _ => l.finiteP 2

/-- The parameters are consistent (reason 6). -/
def Loop.consistent (l : Loop) : Bool :=
  decide (1000 ≤ l.period) && decide (l.period ≤ 3600000000) && decide (l.phase < l.period)
    && [0, 1, 4, 5, 6, 7].all (fun i => ffinite (l.param i))
    && decide (0 ≤ l.num 1) && decide (l.outMin < l.outMax)
    && decide (l.outMin ≤ l.num 6) && decide (l.num 6 ≤ l.outMax)
    && (l.type == 1 || (ffinite (l.param 2) && ffinite (l.param 3) && decide (0 ≤ l.num 2)
      && (l.num 2 == 0 || decide (0 < l.num 3))))
    && l.typeOk

/-! ## Bindings (R149) -/

/-- A refusal with a reason. -/
def why (r : Nat) : Option (Byte × Nat) := some (St.badParam, r)

/-- Judge a binding into tile `u` whose source or target is number `i` of `n`, its bytes from `rsv` on reserved. -/
def judgePlace (s : State) (b u i n rsv : Nat) (more : Option (Byte × Nat)) : Option (Byte × Nat) :=
  if 4 ≤ u then why 4
  else if !s.tileOn u then some (St.tileOff, 0)
  else if b / 256 ^ rsv != 0 then why 3
  else if n ≤ i then why 4
  else more

/-- Judge the binding of a slot: 0 IN_PV, 1 IN_SP, 2 IN_AUX, 3 OUT0, 4 OUT1. -/
def judgeBinding (s : State) (t slot b : Nat) : Option (Byte × Nat) :=
  let k := bKind b
  let out := decide (3 ≤ slot)
  let u := bTile b
  if 7 < k then why 3
  else if k = 0 then (if slot = 0 then why 4 else if b != 0 then why 3 else none)
  else if (if out then k != 2 && k < 5 else decide (4 < k)) then why 4
  else if k = 2 then
    (if bByte b 7 != 0 then why 3
     else if (if out then bLevel b = 0 || decide (16 < bLevel b) else bLevel b != 0) then why 4
     else
       match s.point (bPoint b) with
       | none => why 4
       | some p => if out && pointSound s (bPoint b) p && p.reflection then why 4 else none)
  else if k = 1 then judgePlace s b u (bIndex b) 256 4 none
  else if k = 3 then
    judgePlace s b u (bItem b) 4 5 (if (s.loop u (bIndex b)).isSome then none else why 4)
  else if k = 4 then
    (if u != t then why 4
     else judgePlace s b u (bItem b) 9 5 (match s.zone t (bIndex b) with
       | some z => if z.lacks (bItem b) then why 4 else none
       | none => why 4))
  else if k = 5 then
    judgePlace s b u (bByte b 2) 24 3 (if isSlave (s.tile u) (bByte b 2) then why 4 else none)
  else if k = 6 then judgePlace s b u (bByte b 2) 8 3 none
  else judgePlace s b u (bByte b 2) 4 3 none

/-- Output targets bound by descriptors other than `d` of tile `t`, a POINT with its level (R150). -/
def targetsTaken (s : State) (t d : Nat) : List Nat :=
  (List.range 4).flatMap (fun u => ((s.tile u).loops.filter (fun e => u != t || e.1 != d)).flatMap (fun e => e.2.targets))

/-- Step 2 of R168: fields, bindings and single writers. -/
def judgeLoop (s : State) (t d : Nat) (l : Loop) : Option (Byte × Nat) :=
  if l.reservedSet then why 3
  else if !l.consistent then why 6
  else
    match firstRefusal ((List.range 5).map (fun i => judgeBinding s t i (l.le (16 + 8 * i) 8))) with
    | some r => some r
    | none =>
      let outs := l.targets.filter (fun b => bKind b != 0)
      if l.type = 2 && bKind (l.input 2) = 0 then why 4
      else if outs.any (fun b => (targetsTaken s t d).contains b) || (outs.length = 2 && l.output 0 == l.output 1) then why 5
      else none

/-- Step 3 of R168: CONFIGURE on the groups, READ on the points read, COMMAND within PRIO_FLOOR on those written
(R151, R167). -/
def loopRights (s : State) (ctx : Nat) (l : Loop) (old : Option Loop) : Bool :=
  let group (b : Nat) : Nat := ((s.point (bPoint b)).map (fun p => rightOn s ctx p.group.toNat)).getD 0
  rightOn s ctx l.group == 3 && ((old.map (fun o => rightOn s ctx o.group == 3)).getD true)
    && l.sources.all (fun b => bKind b != 2 || decide (1 ≤ group b))
    && l.targets.all (fun b => bKind b != 2 || (decide (2 ≤ group b) && decide (prioFloor s ctx ≤ bLevel b)))

/-- Step 4 of R168: the tile's rates and import slots with the new descriptor in the place of the old one (R159). -/
def admits (s : State) (t d : Nat) (l : Loop) : Bool :=
  let x := s.tile t
  let x := { x with loops := aset x.loops d l.bookRate }
  decide (tileRate x ≤ 16777216) && decide (classRate x 0 ≤ 2097152)
    && decide ((importsOf t (x.loops.map (·.2)) (x.zones.map (·.2))).length ≤ 32768)

/-! ## LOOP_CREATE (R168) -/

def specLoopCreate : OpSpec :=
  { op := 0x500, owner := false, rev1 := true, rsv := 3,
    used := [(8, 1, 0xFF), (10, 2, 0xFF), (12, 1, 0xFF), (13, 1, 1), (16, 32, 0xFF)] }

/-- A descriptor as its parts give it, not admitted yet. -/
def newLoop (bytes : List Byte) : Loop :=
  let l : Loop := { desc := BitVec.ofNat 1024 (ofLe bytes), state := .auto, back := .auto, out0 := 0, out1 := 0, u := 0, outer := 0, next := 0 }
  let v := l.outSafe
  let st : LoopState := if l.startManual then .manual else .auto
  { l with state := st, back := st, out0 := v, out1 := v, u := v, outer := v, manual := v }

/-- A replacement: the loop's run goes on bumplessly; a change of TYPE begins new controllers. -/
def Loop.replaceWith (old new : Loop) : Loop :=
  let same := old.type == new.type
  let crc := old.state == .crc
  { old with
    desc := new.desc
    state := if crc then new.state else old.state
    back := if crc then new.back else old.back
    manual := if crc then new.manual else old.manual
    pid := if same then old.pid else {}
    inner := if same then old.inner else {}
    bumpless := true
    wrote0 := if old.output 0 = new.output 0 then old.wrote0 else none
    wrote1 := if old.output 1 = new.output 1 then old.wrote1 else none
    flags := if crc then 0 else old.flags
    released := false
    watch := Vector.replicate 3 {} }

/-- Step 5 of R168: install a descriptor; its first evaluation comes at the next boundary. -/
def Loop.install (t d : Nat) (l : Loop) (s : State) : State :=
  let l := l.bookRate
  let l := { l with next := l.nextAfter (stretchOf (s.tile t) l) s.ns }
  Imports.prune t (s.modTile t (fun x => { x with loops := aset x.loops d l }))

/-- Release the outputs that a replacement no longer binds. -/
def Loop.releaseDropped (t : Nat) (old new : Loop) (s : State) : State :=
  (old.targets.filter (fun b => bKind b != 0 && !new.targets.contains b)).foldl (Loop.releaseOne t) s

/-- The RESULT of LOOP_CREATE. -/
def createResult (s : State) (t d rate : Nat) : Nat :=
  result [(5, 2, d), (7, 4, tileRate (s.tile t)), (11, 4, classRate (s.tile t) 0), (15, 4, rate)]

/-- PART 3, for descriptor `d` with the one it replaces; `before` is the state without the part. -/
def Loop.place (pk : Packet) (k : Key) (t d : Nat) (old : Option Loop) (l : Loop) (before s : State) : Verdict :=
  match judgeLoop s t d l with
  | some r => refuse r
  | none =>
    onRecords (pointsOf l.bindings) before s fun s =>
    if !loopRights s pk.ctx l old then failWith St.noRight
    else if 16384 ≤ d then .fail St.loadExceeded (createResult s t 65535 l.rate)
    else if !admits s t d l then .fail St.loadExceeded (createResult s t d l.rate)
    else
      let s := Stage.drop k.q s
      let s := match old with
        | some o => Loop.install t d (o.replaceWith l) (Loop.releaseDropped t o l s)
        | none => Loop.install t d l s
      .ok (createResult s t d l.rate) s

def bodyLoopCreate (pk : Packet) (k : Key) (s : State) : Verdict :=
  let t := pk.u8 8
  let part := pk.u8 12
  let d := pk.u16 10
  let replace := pk.u8 13 == 1
  if 4 ≤ t then badReason 1
  else if !s.tileOn t then failWith St.tileOff
  else if 4 ≤ part then badReason 1
  else
    match Stage.put k.q .loop t d part (pk.bytes 16 32) s with
    | none => badReason 7
    | some u =>
      if part < 3 then .ok 0 u
      else
        let l := newLoop (stagedBytes u k.q)
        if !l.whole then failWith St.crcFail
        else if d = 65535 then
          (if replace then badReason 2
           else Loop.place pk k t ((lowestFree (s.tile t).loops 16384 0).getD 16384) none l s u)
        else if 16384 ≤ d then badReason 1
        else if (s.loop t d).isSome != replace then badReason 2
        else Loop.place pk k t d (s.loop t d) l s u

/-- LOOP_CREATE (R168). -/
def execLoopCreate (q : Nat) (pk : Packet) (s : State) : Host.Outcome State Fault Refusal :=
  .next (Cmd.run specLoopCreate bodyLoopCreate q pk s)

/-! ## LOOP_DELETE, LOOP_READ and LOOP_LOAD -/

def specLoopDelete : OpSpec :=
  { op := 0x501, owner := false, rev1 := true, rsv := 3, used := [(8, 1, 0xFF), (10, 2, 0xFF)] }

/-- Another loop's binding, a zone's, or a point's SOURCE names the descriptor (reason 8). -/
def loopNamed (s : State) (t d : Nat) : Bool :=
  zoneBinds s (bindsLoop t d) || (List.range 4).any (fun u => (s.tile u).loops.any (fun e => (u != t || e.1 != d) && e.2.sources.any (bindsLoop t d)))
    || !(boundTo s (fun src => srcIs 2 t src && srcField src 2 2 == d)).isEmpty

def bodyLoopDelete (pk : Packet) (_ : Key) (s : State) : Verdict :=
  onLoop pk s fun t d l =>
    if rightOn s pk.ctx l.group != 3 then failWith St.noRight
    else if loopNamed s t d then badReason 8
    else
      let s := if l.released then s else Loop.release t l s
      .ok 0 (Imports.prune t (s.modTile t (fun x => { x with loops := aerase x.loops d })))

/-- LOOP_DELETE (R167): RELEASE, then the descriptor is free. -/
def execLoopDelete (q : Nat) (pk : Packet) (s : State) : Host.Outcome State Fault Refusal :=
  .next (Cmd.run specLoopDelete bodyLoopDelete q pk s)

def specLoopRead : OpSpec :=
  { op := 0x502, owner := false, rev1 := true, rsv := 3, used := [(8, 1, 0xFF), (10, 2, 0xFF), (12, 1, 0xFF)] }

/-- The RESULT of a part. -/
def loopPart (l : Loop) (part : Nat) : Nat :=
  if part = 0 then
    result [(5, 4, l.lstat), (9, 4, l.out0.toNat), (13, 4, l.out1.toNat), (17, 4, l.pv.toNat), (21, 4, l.sp.toNat),
      (25, 2, min l.jitter 65535)]
  else result [(5, 16, l.le (16 * (part - 1)) 16)]

def bodyLoopRead (pk : Packet) (_ : Key) (s : State) : Verdict :=
  onLoop pk s fun _ _ l =>
    if rightOn s pk.ctx l.group = 0 then failWith St.noRight
    else if 8 < pk.u8 12 then badReason 1
    else .ok (loopPart l (pk.u8 12)) s

/-- LOOP_READ (R167). -/
def execLoopRead (q : Nat) (pk : Packet) (s : State) : Host.Outcome State Fault Refusal :=
  .next (Cmd.run specLoopRead bodyLoopRead q pk s)

def specLoopLoad : OpSpec :=
  { op := 0x505, owner := false, rev1 := false, rsv := 3, used := [(8, 1, 0xFF), (10, 2, 0xFF)] }

def bodyLoopLoad (pk : Packet) (_ : Key) (s : State) : Verdict :=
  onTile pk s fun t =>
    let x := s.tile t
    .ok (result [(5, 4, tileRate x), (9, 4, classRate x 0), (13, 4, loopCapacity (tclkNow s t)), (17, 2, x.loops.length),
      (19, 2, slotsUsed s t), (21, 1, 2 ^ x.s1), (22, 1, 2 ^ x.s2), (23, 2, min 65535 (effectiveLoad s t))]) s

/-- LOOP_LOAD (R167). -/
def execLoopLoad (q : Nat) (pk : Packet) (s : State) : Host.Outcome State Fault Refusal :=
  .next (Cmd.run specLoopLoad bodyLoopLoad q pk s)

/-! ## LOOP_MANUAL and LOOP_TUNE -/

def specLoopManual : OpSpec :=
  { op := 0x503, owner := false, rev1 := true, rsv := 3,
    used := [(8, 1, 0xFF), (10, 2, 0xFF), (12, 1, 0xFF), (16, 4, 0xFF)] }

/-- A commanded value lies within the limits of u. -/
def Loop.manualOk (l : Loop) (v : F32) : Bool :=
  let lo := if l.type = 4 then 0 else l.outMin
  let hi := if l.type = 4 then 100 else l.outMax
  ffinite v && decide (lo ≤ fnum v) && decide (fnum v ≤ hi)

/-- A loop with its mode commanded; in FAULT the mode it returns to, and CRC is left alone (R165). -/
def Loop.commanded (l : Loop) (manual : Bool) (v : F32) : Loop :=
  let st : LoopState := if manual then .manual else .auto
  let l := if manual then { l with manual := v } else l
  match l.state with
  | .fault => { l with back := st, bumpless := true }
  | .crc => { l with back := st }
  | .auto => { l with state := st }
  | .manual => { l with state := st, bumpless := l.bumpless || !manual }

def bodyLoopManual (pk : Packet) (_ : Key) (s : State) : Verdict :=
  onLoop pk s fun t d l =>
    if rightOn s pk.ctx l.group != 3 then failWith St.noRight
    else if 1 < pk.u8 12 then badReason 3
    else if pk.u8 12 = 1 && !l.manualOk (pk.f32 16) then badReason 1
    else .ok 0 (s.modLoop t d (fun l => l.commanded (pk.u8 12 == 1) (pk.f32 16)))

/-- LOOP_MANUAL (R157). -/
def execLoopManual (q : Nat) (pk : Packet) (s : State) : Host.Outcome State Fault Refusal :=
  .next (Cmd.run specLoopManual bodyLoopManual q pk s)

def specLoopTune : OpSpec :=
  { op := 0x504, owner := false, rev1 := false, rsv := 3,
    used := [(8, 1, 0xFF), (10, 2, 0xFF), (12, 1, 0x7F), (16, 28, 0xFF)] }

/-- The fields of LOOP_TUNE: their offsets in the descriptor, by MASK bit. -/
def tuneOffsets : List Nat := [56, 60, 64, 68, 88, 92, 4]

/-- A descriptor with the fields of MASK replaced and its CRC recomputed. -/
def tunedDesc (desc : BitVec 1024) (pk : Packet) : BitVec 1024 :=
  descSeal ((List.range 7).foldl (fun d i =>
    if (pk.u8 12).testBit i then descSet d ((tuneOffsets[i]?).getD 4) 4 (pk.u32 (16 + 4 * i)) else d) desc)

def bodyLoopTune (pk : Packet) (_ : Key) (s : State) : Verdict :=
  onLoop pk s fun t d old =>
    let l := Loop.bookRate { old with desc := tunedDesc old.desc pk, bumpless := true }
    if rightOn s pk.ctx old.group != 3 then failWith St.noRight
    else if !l.consistent then badReason 6
    else if !admits s t d l then .fail St.loadExceeded (result [(5, 4, l.admitted)])
    else
      let l := if l.period = old.period then l else { l with next := l.nextAfter (stretchOf (s.tile t) l) s.ns }
      .ok (result [(5, 4, l.admitted)]) (s.modLoop t d (fun _ => l))

/-- LOOP_TUNE (R157, R159). -/
def execLoopTune (q : Nat) (pk : Packet) (s : State) : Host.Outcome State Fault Refusal :=
  .next (Cmd.run specLoopTune bodyLoopTune q pk s)

/-! ## LOOP_EVALUATION -/

/-- The loops due at the first boundary of a tile run (R153), behind a close, swap or switch of its instant (R359). -/
def Loops.run (t : Nat) (s : State) : State :=
  match nextLoopBoundary (s.tile t) with
  | some b =>
    let s := Meter.dueFirst (untilTb b s)
    Loops.evaluate t b (dueLoops (s.tile t) b) s
  | none => s

/-- LOOP_EVALUATION (R153): the loops due at the tile's next boundary evaluate from one snapshot; the zones due
at or before it publish first (R181, log 8). -/
def execLoopEvaluation (tile : Nat) (s : State) : Host.Outcome State Fault Refusal :=
  .next (whenever (loopsMayRun s tile) (Loops.run tile) s)

end Sys2Proof.Machine
end

