-- ==== Sys2Proof/Machine/ZoneRun.lean ====
section
/-!
DEFINITION. Machine/ZoneRun.lean: what the predictor does at a boundary (R181): swap of a rebuild (R186), publication and
shift (R184), the learner (R187, R188), the snapshot, and the release of a solve with its fit test (R182); and the plan a
solve gives (R176 to R178).
-/

namespace Sys2Proof.Machine

/-! ## Descriptors -/

/-- The CRC at offset 252 matches. -/
def Zone.whole (z : Zone) : Bool := (crc32c (leBytes 252 z.desc.toNat)).toNat == z.le 252 4

/-- A descriptor with a field replaced. -/
def zdescSet (d : BitVec 2048) (off w v : Nat) : BitVec 2048 :=
  BitVec.ofNat 2048 (setField d.toNat (8 * (off + w) - 1) (8 * off) v)

/-- A descriptor with its CRC recomputed. -/
def zdescSeal (d : BitVec 2048) : BitVec 2048 := zdescSet d 252 4 (crc32c (leBytes 252 d.toNat)).toNat

/-- The zone as the changes that wait for a swap will leave its descriptor. -/
def Zone.latest (z : Zone) : Zone := { z with desc := ((z.rebuild.bind (·.desc)).getD z.desc) }

/-- Two descriptors agree in P, ORDER, M, D and HORIZON. -/
def sameDims (a b : Zone) : Bool :=
  a.np == b.np && a.order == b.order && a.nm == b.nm && a.nd == b.nd && a.horizon == b.horizon

/-! ## Cost and capacity (R179, R180, R183) -/

/-- C, the worst-case cost of a step in MAC. -/
def Zone.mac (z : Zone) : Nat :=
  let n := z.nstates
  let m := z.nm
  let d := z.nd
  let p := z.np
  z.iterations * z.horizon * (16 * n ^ 2 + 12 * n * m + 2 * n * d + 2 * n * p + 8 * m ^ 2 + 8 * (m + p))
    + 2 * z.horizon * (n ^ 2 + n * m + n * d) + p * 3 * (n + m + d + 1) ^ 2

/-- C / STEP_S, the rate in MAC/s. -/
def Zone.rate (z : Zone) : Rat := (z.mac : Rat) / (z.stepS : Rat)

/-- A zone as admission takes it in, with the changes that wait for a swap. -/
def Zone.bookRate (z : Zone) : Zone := { z with admitted := z.latest.rate }

/-- A command that tunes a zone in state CRC leaves its rate as admitted (R189). -/
def Zone.rebookRate (z : Zone) : Zone := if z.state == .crc then z else z.bookRate

/-- The admitted rate of a tile's zones. -/
def predRate (x : Tile) : Rat := x.zones.foldl (fun a e => a + e.2.admitted) 0

/-- The admissible sum of rates. -/
def predLimit : Rat := 86400000000

/-- Predictor lanes at the level in force (Table 15.9); none in GLOW (Table 15.4). -/
def lanes (s : State) (t : Nat) : Nat := if glowing s then 0 else if levelInForce s t = 0 then 32 else 16

/-- TCLK cycles in a million nanoseconds, with the down-spread in force. -/
def tclkKilo (s : State) (t : Nat) : Nat := tclkNow s t * (1000 - vget s.pw.spreadNow t 0)

/-- The current capacity in MAC/s. -/
def predCapacity (s : State) (t : Nat) : Nat := lanes s t * tclkKilo s t * 1000

/-- `cycles` fit between now and a deadline. -/
def cyclesFit (s : State) (t cycles deadline : Nat) : Bool :=
  decide (cycles * 1000000 ≤ (deadline - s.ns) * tclkKilo s t)

/-- Cycles of a solve at the present lanes. -/
def solveCycles (s : State) (t mac : Nat) : Nat := ceilDiv mac (max 1 (lanes s t))

/-! ## The order of solves and of boundaries (R182) -/

/-- Time, CLASS, consecutive shifts with the largest first, number: `a` comes before `b`. -/
def ranksBefore (a b : Nat × Nat × Nat × Nat) : Bool :=
  if a.1 != b.1 then decide (a.1 < b.1)
  else if a.2.1 != b.2.1 then decide (a.2.1 < b.2.1)
  else if a.2.2.1 != b.2.2.1 then decide (b.2.2.1 < a.2.2.1)
  else decide (a.2.2.2 < b.2.2.2)

/-- The rank of zone `n` for a time. -/
def Zone.rank (z : Zone) (n time : Nat) : Nat × Nat × Nat × Nat := (time, z.cls, z.shifts, n)

/-- Solves of a tile that have not completed, with their zones' numbers. -/
def openSolves (x : Tile) : List (Nat × Zone × Solve) :=
  x.zones.filterMap (fun e => match e.2.solve with
    | some v => if v.done.isNone then some (e.1, e.2, v) else none
    | none => none)

/-- Put a solve into a list in run order. -/
def insertSolve (e : Nat × Zone × Solve) : List (Nat × Zone × Solve) → List (Nat × Zone × Solve)
  | [] => [e]
  | f :: r =>
    if ranksBefore (e.2.1.rank e.1 e.2.2.deadline) (f.2.1.rank f.1 f.2.2.deadline) then e :: f :: r
    else f :: insertSolve e r

/-- The solves of a tile in run order. -/
def runOrder (x : Tile) : List (Nat × Zone × Solve) := (openSolves x).foldl (fun a e => insertSolve e a) []

/-- The running solve of a tile: it goes on until a solve with an earlier deadline pre-empts it; otherwise the first in
run order runs. -/
def runningSolve (x : Tile) : Option (Nat × Zone × Solve) :=
  let first := (runOrder x).head?
  match (openSolves x).find? (fun e => x.solving == some e.1), first with
  | some e, some f => if f.2.2.deadline < e.2.2.deadline then some f else some e
  | _, f => f

/-- The lanes take up the solve that runs now. -/
def Solves.pick (t : Nat) (s : State) : State :=
  s.modTile t (fun x => { x with solving := (runningSolve x).map (·.1) })

/-- No released solve occupies the lanes: gain rebuilds and PRED_SOLVE run only then (R182). -/
def lanesIdle (s : State) (t : Nat) : Bool := (openSolves (s.tile t)).isEmpty

/-- The fit test at a release: every queued solve with the same or an earlier deadline, the solve's own cycles and one
256-cycle block end by the deadline. -/
def fits (s : State) (t mac deadline : Nat) : Bool :=
  let ahead := ((openSolves (s.tile t)).filter (fun e => decide (e.2.2.deadline ≤ deadline))).foldl
    (fun a e => a + solveCycles s t e.2.2.mac) 0
  cyclesFit s t (ahead + solveCycles s t mac + 256) deadline

/-- A change of capacity: queued solves that no longer fit are removed; the running one goes on (R183). -/
def Zones.refit (t : Nat) (s : State) : State :=
  let step (a : Nat × State) (e : Nat × Zone × Solve) : Nat × State :=
    let c := a.1 + solveCycles s t e.2.2.mac
    if cyclesFit s t (c + 256) e.2.2.deadline then (c, a.2)
    else (a.1, a.2.modZone t e.1 (fun z => { z with solve := none }))
  match runningSolve (s.tile t) with
  | none => s
  | some e => (((runOrder (s.tile t)).filter (fun f => f.1 != e.1)).foldl step (solveCycles s t e.2.2.mac, s)).2

/-- Every zone's unfinished solve is abandoned, on leaving RUN (R190). -/
def Zones.abandon (t : Nat) (s : State) : State :=
  s.modTile t (fun x => { x with solving := none, zones := x.zones.map (fun e =>
    (e.1, if ((e.2.solve.bind (·.done)).isSome) then e.2 else { e.2 with solve := none })) })

/-- The predictor runs in RUN only (R190). -/
def predictorRuns (s : State) : Bool := s.pw.pstate == .run && ((s.pw.trans.map (fun t => t.target == 0)).getD true)

/-! ## Models (R171) -/

/-- Sum of products. -/
def dot (a b : List Rat) : Rat := (List.zipWith (fun x y => x * y) a b).foldl (fun s x => s + x) 0

/-- The first `n` entries of a list, filled up with 0. -/
def padTo (n : Nat) (l : List Rat) : List Rat := (List.range n).map (fun i => l.getD i 0)

/-- The regressor of a model row: y at one boundary or two, u, d and 1. -/
def Zone.regressor (z : Zone) (y yp u d : List Rat) : List Rat :=
  padTo z.np y ++ (if z.order = 2 then padTo z.np yp else []) ++ padTo z.nm u ++ padTo z.nd d ++ [1]

/-- The rows of a model as numbers. -/
def modelRows (m : Model) : List (List Rat) := m.map (fun r => r.map fnum)

/-- One step of a model. -/
def Zone.modelStep (z : Zone) (rows : List (List Rat)) (y yp u d : List Rat) : List Rat :=
  rows.map (fun r => dot r (z.regressor y yp u d))

/-- The matrix A of the state (R171). -/
def Zone.stateMatrix (z : Zone) (rows : List (List Rat)) : List (List Rat) :=
  rows.map (fun r => padTo z.nstates r)
    ++ (if z.order = 2 then (List.range z.np).map (fun i => (List.range z.nstates).map (fun j => if i = j then 1 else 0)) else [])

/-- A square matrix times itself. -/
def matSquare (a : List (List Rat)) : List (List Rat) :=
  let n := a.length
  let col (j : Nat) : List Rat := a.map (fun r => r.getD j 0)
  a.map (fun r => (List.range n).map (fun j => dot r (col j)))

/-- The infinity norm. -/
def infNorm (a : List (List Rat)) : Rat := (a.map (fun r => r.foldl (fun s x => s + rabs x) 0)).foldl rmax 0

/-- The infinity norm of A^64, formed by six squarings, is below 0.5 (R188). -/
def Zone.stable (z : Zone) (m : Model) : Bool :=
  decide (infNorm (Nat.repeat matSquare 6 (z.stateMatrix (modelRows m))) < 1 / 2)

/-- The response of the outputs after HORIZON steps to a unit step of input `i` from rest. -/
def Zone.stepResponse (z : Zone) (m : Model) (i : Nat) : List Rat :=
  let rows := (modelRows m).map (fun r => r.take (z.coeffs - 1) ++ [0])
  let u := (List.range z.nm).map (fun k => if k = i then 1 else 0)
  (Nat.repeat (fun (a : List Rat × List Rat) => (z.modelStep rows a.1 a.2 u [], a.1)) z.horizon ([], [])).1

/-- The step responses have the signs that SIGNS declares (R188). -/
def Zone.signsOk (z : Zone) (m : Model) (signs : Nat) : Bool :=
  (List.range z.nm).all (fun i =>
    let y := z.stepResponse m i
    (List.range z.np).all (fun j =>
      let c := signs / 2 ^ (8 * j + 2 * i) % 4
      c == 0 || (c == 1 && decide (0 < y.getD j 0)) || (c == 2 && decide (y.getD j 0 < 0))))

/-- Every coefficient of a model is finite. -/
def modelFinite (m : Model) : Bool := m.all (fun r => r.all ffinite)

/-- The conditions of R188 on the model itself. -/
def Zone.modelOk (z : Zone) (m : Model) : Bool :=
  modelFinite m && z.stable m && z.signsOk m z.learner.signs.toNat

/-! ## Gain banks (R170, R186) -/

/-- The gains of a model: the weights, RHO and the model enter them, nothing else does (R178). -/
def Zone.gainsOf (z : Zone) (m : Model) : GainBank :=
  let weights := [z.f32 20, z.f32 216] ++ (List.range z.np).map (fun j => z.f32 (88 + 4 * j))
    ++ (List.range z.nm).map (fun i => z.f32 (104 + 4 * i))
  (List.range (z.horizon * (z.nm * z.nstates + z.nstates ^ 2))).map (Config.gain weights m)

/-- The bank that a completed rebuild leaves in the shadow. -/
def Zone.rebuilt (z : Zone) (r : Rebuild) : GainBank :=
  match r.model.orElse (fun _ => z.model) with
  | some m => ({ z with desc := r.desc.getD z.desc } : Zone).gainsOf m
  | none => []

/-! ## Starting and swapping a rebuild (R186) -/

/-- Start a rebuild, or restart it with every pending change included. -/
def Zone.rebuildWith (z : Zone) (key : Option Key) (model : Option Model) (desc : Option (BitVec 2048))
    (learner : Bool := false) (replacement : Bool := false) : Zone :=
  let r := z.rebuild.getD { keys := [], model := none, desc := none, done := false, late := false, learner := false, replacement := false }
  { z with rebuild := some {
      keys := r.keys ++ key.toList
      model := model.orElse (fun _ => r.model)
      desc := desc.orElse (fun _ => r.desc)
      done := false
      late := false
      learner := if model.isSome then learner else r.learner
      replacement := replacement || r.replacement } }

/-- The covariance that a learner starts from: 100 times the identity. -/
def freshP (z : Zone) : List (List (List F32)) :=
  let q := z.coeffs
  List.replicate z.np ((List.range q).map (fun i => (List.range q).map (fun j => if i = j then fof 100 else 0)))

/-- A zone whose dimensions change: model, learner state and plan are discarded (R191). Y_FAULT stands until the snapshot of
the same boundary, which raises ZONE_FAULT where it changes (R189). -/
def Zone.redimension (z : Zone) (desc : BitVec 2048) : Zone :=
  let z := { z with
    desc := desc, model := none, prevModel := none, plan := none, offPlan := none, shifts := 0, solve := none
    gains := [], shadow := []
    flags := z.flags &&& 0x1000#32, y := [], yPrev := [], d := [], yGood := false, dGood := false, yPrevGood := false
    learner := { signs := z.learner.signs, lambda := z.learner.lambda, accept := z.learner.accept, ubind := z.learner.ubind } }
  { z with state := if z.startPaused then .paused else .running }

/-- A new active model: the learner starts again from it (R187). -/
def Zone.withModel (z : Zone) (m : Model) (adopted : Bool) : Zone :=
  { z with
    model := some m
    prevModel := z.model.orElse (fun _ => z.prevModel)
    flags := putBit z.flags psCandidateOk false
    learner := { z.learner with
      theta := m, p := freshP z, errActive := 0, errCand := 0, sinceTest := 0
      adoptions := if adopted then z.learner.adoptions + 1 else z.learner.adoptions } }

/-- A descriptor takes force; state CRC ends with a replacement (R189). -/
def Zone.withDesc (z : Zone) (desc : BitVec 2048) (replacement : Bool) : Zone :=
  let z := { z with desc := desc }
  if z.state == .crc && replacement then { z with state := if z.startPaused then .paused else .running } else z

/-- The RESULT of a command whose change a swap includes. -/
def swapResult (s : State) (t n : Nat) (k : Key) : Nat :=
  let rate := ((s.zone t n).map (fun z => roundNat z.admitted)).getD 0
  let op := opOf s (some k)
  if op = 0x60B then result [(5, 8, rate)]
  else if op = 0x600 then result [(5, 2, n), (7, 8, roundNat (predRate (s.tile t))), (15, 8, rate)]
  else 0

/-- The swap of a rebuild that has completed: its changes and the bank take force together, and each command gets its reply. -/
def Zone.swap (t n : Nat) (r : Rebuild) (s : State) : State :=
  let s := s.modZone t n (fun z =>
    let z := match r.desc with
      | some d => z.withDesc d r.replacement
      | none => z
    let z := match r.model with
      | some m => z.withModel m r.learner
      | none => z
    { z with rebuild := none, gains := z.shadow, shadow := z.gains }.put psShadowLate r.late)
  r.keys.foldl (fun s k => Cmd.final k (if r.late then St.shadowLate else St.ok) (swapResult s t n k) s) s

/-- A rebuild that has completed swaps; one that has not has missed its boundary (R186). -/
def Zone.swapOrLate (t n : Nat) (r : Rebuild) (s : State) : State :=
  if r.done then Zone.swap t n r s
  else if r.late then s
  else
    let s := s.modZone t n (fun z => { z with rebuild := some { r with late := true } }.put psShadowLate true)
    Ev.raise (tileSource t 10) 0 (packLe [(2, n)]) s

/-- New dimensions take force at a boundary: what the old ones held is discarded; a rebuild asked for since has met its
boundary as any other. -/
def Zone.takeDims (t n : Nat) (r : Rebuild) (d : BitVec 2048) (s : State) : State :=
  if r.keys.isEmpty && r.model.isNone then s.modZone t n (fun z => { z.redimension d with rebuild := none })
  else
    let r := { r with desc := none }
    Zone.swapOrLate t n r (s.modZone t n (fun z => { z.redimension d with shadow := z.shadow, rebuild := some r }))

/-- Step 0 of a boundary: new dimensions, and the swap or the lateness of a rebuild. -/
def Zone.swapDue (t n : Nat) (s : State) : State :=
  match s.zone t n with
  | none => s
  | some z =>
    match z.rebuild with
    | none => s
    | some r =>
      match r.desc with
      | some d => if sameDims z { z with desc := d } then Zone.swapOrLate t n r s else Zone.takeDims t n r d s
      | none => Zone.swapOrLate t n r s

/-! ## Publication and shift (R184, R185) -/

/-- Steps until y_0 lies within its band, simulated with input 0 at its end and the others at the plan's moves. -/
def Zone.stepsToBand (z : Zone) (rows : List (List Rat)) (occ : List Rat) : List (List Rat) → Nat → List Rat → List Rat → Nat
  | [], k, _, _ => k
  | u :: r, k, y, yp =>
    let y0 := y.getD 0 0
    if decide (z.ylo 0 ≤ y0) && decide (y0 ≤ z.yhi 0) then k
    else
      let u := (if z.optDir then z.umin 0 else z.umax 0) :: u.drop 1
      let d := (List.range z.nd).map (fun i =>
        if bByte (z.dBind i) 7 = 1 then occ.getD k 0 else fnum (z.d.getD i 0))
      Zone.stepsToBand z rows occ r (k + 1) (z.modelStep rows y yp u d) y

/-- The optimum-start countdown of a plan whose solve was released from the present snapshot (R185). -/
def Zone.countdownOf (z : Zone) (p : Plan) : Rat :=
  if !z.optStart then 0
  else
    let occ := p.occ.map fnum
    match occ.findIdx? (fun o => decide ((1 : Rat) / 2 ≤ o)) with
    | none => ((z.horizon * z.stepS : Nat) : Rat)
    | some k =>
      let rows := modelRows (z.model.getD [])
      let n := z.stepsToBand rows occ (p.moves.map (fun u => u.map fnum)) 0 (z.y.map fnum) (z.yPrev.map fnum)
      (((k + 1) * z.stepS : Nat) : Rat) - ((n * z.stepS : Nat) : Rat)

/-- Publish a completed plan. -/
def Zone.published (z : Zone) (p : Plan) : Zone :=
  let z := { z with
    plan := some p, shifts := 0, solve := none, countdown := fof (z.countdownOf p)
    state := if z.state == ZoneState.starved then .running else z.state }
  z.put psPlanStale false

/-- Shift the plan in force by one move. -/
def Zone.shifted (z : Zone) : Zone :=
  match z.plan with
  | none => { z with solve := none }
  | some _ =>
    let n := min (z.shifts + 1) z.horizon
    { z with
      shifts := n, solve := none
      state := if n = z.horizon && z.state == ZoneState.running then .starved else z.state }.put psPlanStale true

/-- The plan completed for boundary `b`; a TB step across it gives none (Table 8.8). -/
def Zone.completedFor (z : Zone) (b : Nat) (stepped : Bool) : Option Plan :=
  z.solve.bind (fun v => if v.deadline ≤ b && !stepped then v.done else none)

/-- Step 1: publish the plan completed for boundary `b`, or shift. -/
def Zone.publish (t n b : Nat) (stepped : Bool) (s : State) : State :=
  match s.zone t n with
  | none => s
  | some z =>
    if z.state == .crc then s
    else
      match z.completedFor b stepped with
      | some p => s.modZone t n (fun z => z.published p)
      | none =>
        let s := s.modZone t n Zone.shifted
        if z.plan.isSome && z.shifts == 0 then Ev.raise (tileSource t 9) 0 (packLe [(2, n)]) s else s

/-! ## What a zone reads (R173, R175, R189) -/

/-- The schedule entry in force at a TB second (R174). -/
def schedAt (s : State) (t sched sec : Nat) : Nat :=
  let h := (((sec : Int) - (s.weekOrigin : Int)) / 3600) % 168
  (aget (s.tile t).scheds (168 * sched + h.toNat)).getD 0

/-- A reading at a boundary: Y, D and what the learner needs to know of them. -/
structure ZoneReading where
  y : List F32
  d : List F32
  /-- Some Y binding is faulted. -/
  yFault : Bool
  /-- A FORECAST 0 disturbance is faulted. -/
  dHeld : Bool
  /-- The occupancy binding is faulted or unreliable. -/
  occFallback : Bool
  /-- The learner may use Y, and D. -/
  yGood : Bool
  dGood : Bool
deriving DecidableEq, Repr

/-- Not faulted, not UNRELIABLE, not STAMP_INVALID. -/
def InVal.clean (v : InVal) : Bool := v.v.isSome && !v.unreliable && !v.stampInvalid

/-- A disturbance binding marks the zone's occupancy. -/
def forecasts (b : Nat) : Bool := bByte b 7 == 1

/-- The records that a zone's bindings name are loaded. -/
def Zone.loadInputs (z : Zone) (s : State) : State :=
  loadPoints ((List.range z.np).map z.yBind ++ (List.range z.nd).map (fun i => z.dBind i % 256 ^ 7)
    ++ (List.range z.nm).map (fun i => (vget z.learner.ubind i 0).toNat)) s

/-- Read a zone's bindings at boundary `b`. -/
def Zone.read (s : State) (t b : Nat) (z : Zone) : ZoneReading :=
  let ys := (List.range z.np).map (fun j => readBinding s t (z.yBind j))
  let ds := (List.range z.nd).map (fun i => (z.dBind i, readBinding s t (z.dBind i % 256 ^ 7)))
  let lost (x : Nat × InVal) : Bool := forecasts x.1 && (x.2.v.isNone || x.2.unreliable)
  let sched := fofInt (schedAt s t z.sched (b / 1000000000))
  { y := (List.range z.np).map (fun j => (ys[j]?.bind (·.v)).getD (z.y.getD j 0))
    d := (List.range z.nd).map (fun i =>
      match ds[i]? with
      | some x => if lost x then sched else x.2.v.getD (z.d.getD i 0)
      | none => 0)
    yFault := ys.any (fun v => v.v.isNone)
    dHeld := ds.any (fun x => !forecasts x.1 && x.2.v.isNone)
    occFallback := ds.any lost
    yGood := ys.all InVal.clean
    dGood := ds.all (fun x => x.2.clean && !lost x) }

/-! ## The learner (R187, R188) -/

/-- The applied input over the last step: the U bindings where they are set, else the move that was in force; none where
an element is faulted. -/
def Zone.applied (s : State) (t : Nat) (z : Zone) (move : Option (List F32)) : Option (List Rat) :=
  (List.range z.nm).foldl (fun a i =>
    let b := (vget z.learner.ubind i 0).toNat
    let v : Option F32 :=
      if bKind b != 0 then
        let r := readBinding s t b
        if r.clean then r.v else none
      else move.map (fun u => u.getD i 0)
    match a, v with
    | some l, some v => some (l ++ [fnum v])
    | _, _ => none) (some [])

/-- One row's update of the candidate: its coefficients, its P matrix and its prior error. -/
def rlsRow (lam : Rat) (theta : List Rat) (p : List (List Rat)) (phi : List Rat) (y : Rat) :
    List F32 × List (List F32) × Rat :=
  let e := y - dot theta phi
  let pp := p.map (fun r => dot r phi)
  let den := lam + dot phi pp
  let k := pp.map (fun x => x / den)
  let q := (List.range p.length).map (fun i => (List.range p.length).map (fun j =>
    (((p.getD i []).getD j 0) - k.getD i 0 * pp.getD j 0) / lam))
  let tr := (List.range q.length).foldl (fun a i => a + (q.getD i []).getD i 0) 0
  let q := if (1000000 : Rat) < tr then q.map (fun r => r.map (fun x => x * 1000000 / tr)) else q
  ((List.zipWith (fun a b => fof (a + b * e)) theta k), q.map (fun r => r.map fof), e)

/-- The candidate model; before the first model its coefficients are 0 and each P is 100 times the identity. -/
def Zone.candidate (z : Zone) : Model :=
  if z.learner.theta.isEmpty then List.replicate z.np (List.replicate z.coeffs 0) else z.learner.theta

/-- The covariances of the candidate. -/
def Zone.covariance (z : Zone) : List (List (List F32)) := if z.learner.p.isEmpty then freshP z else z.learner.p

/-- Skip an update. -/
def Zone.skipUpdate (z : Zone) : Zone :=
  { z with learner := { z.learner with skipped := z.learner.skipped + 1 } }.put psLearnFrozen true

/-- Every row's update of the candidate. -/
def Zone.updatedRows (z : Zone) (phi y : List Rat) : List (List F32 × List (List F32) × Rat) :=
  List.zipWith (fun (a : List F32 × List (List F32)) (y : Rat) =>
    rlsRow (fnum z.learner.lambda) (a.1.map fnum) (a.2.map (fun r => r.map fnum)) phi y)
    (List.zip z.candidate z.covariance) y

/-- The squared prior error of the active model. -/
def Zone.activeError (z : Zone) (phi y : List Rat) : Rat :=
  match z.model with
  | some m =>
    let e := List.zipWith (fun r y => y - dot r phi) (modelRows m) y
    dot e e
  | none => 0

/-- Take an update from a regressor and the outputs now. -/
def Zone.learned (z : Zone) (phi y : List Rat) : Zone :=
  let rows := z.updatedRows phi y
  let l := z.learner
  let l := { l with
    theta := rows.map (fun r => r.1)
    p := rows.map (fun r => r.2.1)
    errCand := fof (fnum l.errCand + rows.foldl (fun a r => a + r.2.2 * r.2.2) 0)
    errActive := fof (fnum l.errActive + z.activeError phi y)
    updates := l.updates + 1
    sinceTest := l.sinceTest + 1 }
  { z with learner := l }.put psLearnFrozen false

/-- The acceptance test of R188. -/
def Zone.passes (z : Zone) : Bool :=
  let l := z.learner
  (z.model.isNone || decide (fnum l.errCand ≤ (1 - fnum l.accept) * fnum l.errActive)) && z.modelOk l.theta

/-- Test the candidate after ACCEPT_STEPS updates: CANDIDATE_OK, MODEL_READY, and in ADOPT the commit. -/
def Zone.acceptTest (t n : Nat) (z : Zone) (s : State) : State :=
  if z.learner.sinceTest < z.le 19 1 then s
  else
    let pass := z.passes
    let cnt : Rat := (z.learner.sinceTest : Rat)
    let hostModel := (z.rebuild.map (fun r => r.model.isSome && !r.learner)).getD false
    let adopt := pass && z.learn == 2 && z.model.isSome
    let s := s.modZone t n (fun z =>
      let z := { z with learner := { z.learner with
        lastActive := fof (fnum z.learner.errActive / cnt), lastCand := fof (fnum z.learner.errCand / cnt)
        errActive := 0, errCand := 0, sinceTest := 0 } }
      let z := z.put psCandidateOk (pass && !(adopt && hostModel))
      if adopt && !hostModel then z.rebuildWith none (some z.learner.theta) none (learner := true) else z)
    if pass then Ev.raise (tileSource t 11) 0 (packLe [(2, n)]) s else s

/-- Step 3: the learner's update at a boundary; a TB step across it skips it (Table 8.8). -/
def Zone.learnStep (t n : Nat) (stepped : Bool) (r : ZoneReading) (move : Option (List F32)) (s : State) : State :=
  match s.zone t n with
  | none => s
  | some z =>
    if z.learn = 0 || z.state == .crc || !predictorRuns s then s
    else if stepped then s.modZone t n Zone.skipUpdate
    else
      match z.applied s t move with
      | some u =>
        if r.yGood && z.yGood && z.dGood && (z.order == 1 || z.yPrevGood) then
          let z2 := z.learned (z.regressor (z.y.map fnum) (z.yPrev.map fnum) u (z.d.map fnum)) (r.y.map fnum)
          Zone.acceptTest t n z2 (s.modZone t n (fun _ => z2))
        else s.modZone t n Zone.skipUpdate
      | none => s.modZone t n Zone.skipUpdate

/-! ## Snapshot and release -/

/-- Step 4: snapshot Y and D; Y_FAULT and its event (R189). -/
def Zone.snapshot (t n b : Nat) (r : ZoneReading) (s : State) : State :=
  match s.zone t n with
  | none => s
  | some z =>
    if z.state == .crc then s
    else
      let s := s.modZone t n (fun z =>
        let z := { z with
          yPrev := if z.y.isEmpty then r.y else z.y, yPrevGood := z.yGood, y := r.y, yGood := r.yGood
          d := r.d, dGood := r.dGood, snapAt := b }
        ((z.put psYFault r.yFault).put psDHeld r.dHeld).put psOccFallback r.occFallback)
      if z.has psYFault != r.yFault then
        Ev.raise (tileSource t 12) 0 (packLe [(2, n), (4, ((s.zone t n).map Zone.pstat).getD 0)]) s
      else s

/-- The counter past `n` draws. -/
def State.drawnN (n : Nat) (s : State) : State := { s with free := s.free + n }

/-- The occupancy forecast of R175 for a solve from the snapshot of boundary `b`. -/
def Zone.forecast (s : State) (t b : Nat) (z : Zone) : List F32 :=
  let here := (List.range z.nd).find? (fun i => forecasts (z.dBind i))
  (List.range z.horizon).map (fun k =>
    let entry := fofInt (schedAt s t z.sched (b / 1000000000 + (k + 1) * z.stepS))
    match here with
    | some i => if k = 0 && !z.has psOccFallback then z.d.getD i 0 else entry
    | none => entry)

/-- A solve from the zone's latest snapshot, taken at boundary `b`; before a plan is in force the move in force is a free
one (log 43). -/
def Zone.solveFrom (s : State) (t b deadline iterations : Nat) (z : Zone) : Solve :=
  let rates := (List.range z.horizon).map (fun k => rateAt s (b / 1000000000 + (k + 1) * z.stepS))
  { deadline := deadline, mac := z.mac, iterations := iterations, y := z.y, yPrev := z.yPrev, d := z.d
    move := z.move.getD ((List.range z.nm).map (fun i => Config.fp (s.free + i)))
    occ := z.forecast s t b, price := rates.map (·.1), limit := rates.map (·.2), done := none }

/-- The zone enters state CRC (R189). -/
def Zone.crcFail (t n : Nat) (s : State) : State :=
  Ev.raise (tileSource t 13) 0 (packLe [(2, n)])
    (Zone.deliver t n (s.modZone t n (fun z => { z with state := .crc, solve := none })))

/-- Step 5: release the next solve, whose deadline is the next boundary. -/
def Zone.release (t n b deadline : Nat) (r : ZoneReading) (s : State) : State :=
  match s.zone t n with
  | none => s
  | some z =>
    if !predictorRuns s || z.state == .crc || z.state == .paused || z.model.isNone then s
    else if !z.whole then Zone.crcFail t n s
    else if r.yFault || !fits s t z.mac deadline then s
    else
      (s.modZone t n (fun _ => { z with solve := some (z.solveFrom s t b deadline z.iterations) })).drawnN
        (if z.move.isSome then 0 else z.nm)

/-! ## A boundary -/

/-- The first boundary of a zone after a TB time (R181). -/
def Zone.nextAfter (z : Zone) (now : Nat) : Nat :=
  let per : Int := ((z.stepS * 1000000000 : Nat) : Int)
  let ph : Int := ((z.phaseS * 1000000000 : Nat) : Int)
  if per = 0 then now else (ph + (((now : Int) - ph) / per + 1) * per).toNat

/-- The boundary `b` of a zone, in the order of R181; a TB step across it skips the learner's update (Table 8.8). -/
def Zone.boundary (t n b : Nat) (stepped : Bool) (s : State) : State :=
  let move := (s.zone t n).bind Zone.move
  let s := Zone.swapDue t n s
  let s := Zone.publish t n b stepped s
  let s := Zone.deliver t n (s.modZone t n (fun z => { z with writes := z.writes + 1 }))
  match s.zone t n with
  | none => s
  | some z =>
    let s := z.loadInputs s
    let r := z.read s t b
    let s := Zone.learnStep t n stepped r move s
    let s := Zone.snapshot t n b r s
    let next := z.nextAfter (max b s.ns)
    let s := Zone.release t n b next r s
    Solves.pick t (s.modZone t n (fun z => { z with next := next }))

/-- SHIFTS as it will stand once the zone's next boundary has published or shifted: the release order counts it. -/
def Zone.shiftsThen (z : Zone) (stepped : Bool) : Nat :=
  if z.state == .crc then z.shifts else if (z.completedFor z.next stepped).isSome then 0 else z.shifted.shifts

/-- The rank of zone `n` at its next boundary. -/
def Zone.rankThen (z : Zone) (n : Nat) (stepped : Bool) : Nat × Nat × Nat × Nat :=
  (z.next, z.cls, z.shiftsThen stepped, n)

/-- No other zone of the tile comes first at its boundary. -/
def firstDue (x : Tile) (n : Nat) (z : Zone) (stepped : Bool := false) : Bool :=
  x.zones.all (fun e => e.1 == n || !ranksBefore (e.2.rankThen e.1 stepped) (z.rankThen n stepped))

/-- Run a zone's boundary where it is due and nothing of its tile comes first; a close, swap or switch of its instant comes
before it (R359). -/
def Zone.runDue (t n : Nat) (s : State) : State :=
  match s.zone t n with
  | some z => if s.tileOn t && firstDue (s.tile t) n z then
      Zone.boundary t n z.next false (Meter.dueFirst (untilTb z.next s))
    else s
  | none => s

/-! ## The programme (R176, R177) -/

/-- A value held between UMIN and UMAX of input `i`. -/
def Zone.inBox (z : Zone) (i : Nat) (v : F32) : F32 :=
  if !ffinite v || decide (fnum v < z.umin i) then z.f32 (120 + 4 * i)
  else if z.umax i < fnum v then z.f32 (136 + 4 * i) else v

/-- The power of a move, kW. -/
def Zone.powerOf (z : Zone) (u : List F32) : Rat := dot ((List.range z.nm).map z.power) (u.map fnum)

/-- UMIN as a move. -/
def Zone.leastMove (z : Zone) : List F32 := (List.range z.nm).map (fun i => z.f32 (120 + 4 * i))

/-- The demand limit of a step; none where the constraint is omitted. -/
def Zone.demandLimit (z : Zone) (limit : F32) : Option Rat :=
  if z.noDemand || !ffinite limit then none
  else if z.share * fnum limit < z.powerOf z.leastMove then none
  else some (z.share * fnum limit)

/-- The box and the demand limit leave no common move at some step (R177). -/
def Zone.infeasible (z : Zone) (limits : List F32) : Bool :=
  !z.noDemand && limits.any (fun l => ffinite l && decide (z.share * fnum l < z.powerOf z.leastMove))

/-- SETBACK of output `j` where the forecast says unoccupied. -/
def Zone.setback (z : Zone) (j : Nat) (occ : F32) : Rat := if fnum occ < 1 / 2 then fnum (z.f32 (184 + 4 * j)) else 0

/-- The comfort band of output `j` that the occupancy selects. -/
def Zone.lo (z : Zone) (j : Nat) (occ : F32) : Rat := z.ylo j - z.setback j occ
def Zone.hi (z : Zone) (j : Nat) (occ : F32) : Rat := z.yhi j + z.setback j occ

/-- The disturbances of plan step `k`: the occupancy forecast, and every other one held at its value at the release. -/
def Zone.dAt (z : Zone) (v : Solve) (k : Nat) : List Rat :=
  (List.range z.nd).map (fun i => fnum (if forecasts (z.dBind i) then v.occ.getD k 0 else v.d.getD i 0))

/-- Outputs that moves give from step `k` on, rolled out by the model. -/
def Zone.rollout (z : Zone) (v : Solve) : List (List F32) → Nat → List F32 → List F32 → List (List F32)
  | [], _, _, _ => []
  | u :: r, k, y, yp =>
    let y2 := (z.modelStep (modelRows (z.model.getD [])) (y.map fnum) (yp.map fnum) (u.map fnum) (z.dAt v k)).map fof
    y2 :: z.rollout v r (k + 1) y2 y

/-- The outputs of moves: one model step with the move already in force gives the state predicted for the first of them. -/
def Zone.outputs (z : Zone) (v : Solve) (moves : List (List F32)) : List (List F32) :=
  let y1 := z.modelStep (modelRows (z.model.getD [])) (v.y.map fnum) (v.yPrev.map fnum) (v.move.map fnum) (v.d.map fnum)
  z.rollout v moves 0 (y1.map fof) v.y

/-- The sum of a function over the first `n` numbers. -/
def sumTo (n : Nat) (f : Nat → Rat) : Rat := (List.range n).foldl (fun a i => a + f i) 0

/-- Entry `i` of row `k` of a table, as a number. -/
def tableNum (m : List (List F32)) (k i : Nat) : Rat := fnum ((m.getD k []).getD i 0)

/-- The comfort terms of step `k`: the band-centre weight and the slack that the band needs. -/
def Zone.comfort (z : Zone) (v : Solve) (ys : List (List F32)) (k : Nat) : Rat :=
  let occ := v.occ.getD k 0
  sumTo z.np (fun j =>
    let y := tableNum ys k j
    let e := y - (z.lo j occ + z.hi j occ) / 2
    let slack := rmax 0 (rmax (z.lo j occ - y) (y - z.hi j occ))
    fnum (z.f32 (88 + 4 * j)) * (e * e) + fnum (z.f32 216) * (slack * slack))

/-- The move and energy terms of step `k`. -/
def Zone.effort (z : Zone) (v : Solve) (moves : List (List F32)) (k : Nat) : Rat :=
  sumTo z.nm (fun i =>
    let du := tableNum moves k i - (if k = 0 then fnum (v.move.getD i 0) else tableNum moves (k - 1) i)
    fnum (z.f32 (104 + 4 * i)) * (du * du))
  + fnum (v.price.getD k 0) * ((z.stepS : Rat) / 3600) * z.powerOf (moves.getD k [])

/-- The objective of R176 at a plan's moves. -/
def Zone.costOf (z : Zone) (v : Solve) (moves : List (List F32)) : Rat :=
  let ys := z.outputs v moves
  sumTo z.horizon (fun k => z.comfort v ys k + z.effort v moves k)

/-! ## The projection (R178) -/

/-- The point of the box that a multiplier of the demand half-space gives. -/
def Zone.moveAt (z : Zone) (v : List F32) (l : Rat) : List F32 :=
  (List.range z.nm).map (fun i => z.inBox i (fof (rclamp (z.umin i) (z.umax i) (fnum (v.getD i 0) - l * z.power i))))

/-- Halvings of the multiplier's bracket, whose upper end meets the limit. -/
def Zone.bisect (z : Zone) (v : List F32) (limit : Rat) : Nat → Rat → Rat → Rat
  | 0, _, hi => hi
  | n + 1, lo, hi =>
    let m := (lo + hi) / 2
    if z.powerOf (z.moveAt v m) ≤ limit then z.bisect v limit n lo m else z.bisect v limit n m hi

/-- The multiplier that takes every input with a POWER to UMIN. -/
def Zone.topMultiplier (z : Zone) (v : List F32) : Rat :=
  ((List.range z.nm).map (fun i => if 0 < z.power i then (fnum (v.getD i 0) - z.umin i) / z.power i else 0)).foldl rmax 0

/-- The projection of a move onto the box and, where it applies, the demand half-space, by 8 steps of bisection: it always
meets the hard constraints. -/
def Zone.lawful (z : Zone) (limit : F32) (v : List F32) : List F32 :=
  let u := (List.range z.nm).map (fun i => z.inBox i (v.getD i 0))
  match z.demandLimit limit with
  | none => u
  | some l =>
    if z.powerOf u ≤ l then u
    else
      let w := z.moveAt u (z.bisect u l 8 0 (z.topMultiplier u))
      if z.powerOf w ≤ l then w else z.leastMove

/-! ## ADMM (R178) -/

/-- The solve in progress: moves and outputs of the equality-constrained part, their split copies, the copies of the
iteration before, and the duals; one row a step. -/
structure Admm where
  xu : List (List F32)
  xy : List (List F32)
  zu : List (List F32)
  zy : List (List F32)
  oldU : List (List F32)
  oldY : List (List F32)
  wu : List (List F32)
  wy : List (List F32)
deriving DecidableEq, Repr

/-- A table of `h` rows of `n` entries. -/
def tableOf (h n : Nat) (f : Nat → Nat → F32) : List (List F32) :=
  (List.range h).map (fun k => (List.range n).map (fun i => f k i))

/-- Entry `i` of row `k`. -/
def tableAt (m : List (List F32)) (k i : Nat) : F32 := (m.getD k []).getD i 0

/-- What enters the linear terms (R176, R178): the state, the disturbances, the move in force, the forecast, then for each
step the price of a unit of each input over STEP_S and the comfort band of each output with its centre. -/
def Zone.linear (z : Zone) (v : Solve) : List F32 :=
  v.y ++ v.yPrev ++ v.d ++ v.move ++ v.occ ++ (List.range z.horizon).flatMap (fun k =>
    let occ := v.occ.getD k 0
    (List.range z.nm).map (fun i => fof (fnum (v.price.getD k 0) * ((z.stepS : Rat) / 3600) * z.power i))
      ++ (List.range z.np).flatMap (fun j =>
        [fof (z.lo j occ), fof ((z.lo j occ + z.hi j occ) / 2), fof (z.hi j occ)]))

/-- One iteration: the equality-constrained part by the gains of the active bank, the projections, the duals. -/
def Zone.iterate (z : Zone) (v : Solve) (a : Admm) : Admm :=
  let rho := z.f32 20
  let xu := tableOf z.horizon z.nm (Config.admmMove z.gains (z.linear v) (a.zu ++ a.zy) (a.wu ++ a.wy))
  let xy := z.outputs v xu
  let zu := (List.range z.horizon).map (fun k => z.lawful (v.limit.getD k 0)
    ((List.range z.nm).map (fun i => Config.admmPoint (tableAt xu k i) (tableAt a.wu k i) rho)))
  let zy := tableOf z.horizon z.np (fun k j => Config.admmSoft (z.lo j (v.occ.getD k 0)) (z.hi j (v.occ.getD k 0)) (z.f32 216) rho
    (Config.admmPoint (tableAt xy k j) (tableAt a.wy k j) rho))
  { xu := xu, xy := xy, zu := zu, zy := zy, oldU := a.zu, oldY := a.zy
    wu := tableOf z.horizon z.nm (fun k i => Config.admmDual (tableAt a.wu k i) (tableAt xu k i) (tableAt zu k i))
    wy := tableOf z.horizon z.np (fun k j => Config.admmDual (tableAt a.wy k j) (tableAt xy k j) (tableAt zy k j)) }

/-- What a solve starts from, which the spec does not give: free copies and duals (log 43). -/
def Zone.admmStart (z : Zone) (n : Nat) : Admm :=
  let free (part k i : Nat) : F32 := Config.fp (n + (part * z.horizon + k) * 4 + i)
  let u (part : Nat) : List (List F32) := tableOf z.horizon z.nm (free part)
  let y (part : Nat) : List (List F32) := tableOf z.horizon z.np (free part)
  { xu := [], xy := [], zu := u 0, zy := y 1, oldU := [], oldY := [], wu := u 2, wy := y 3 }

/-- Free values that a plan draws. -/
def Zone.planDraws (z : Zone) : Nat := 16 * z.horizon + 2

/-- The largest absolute difference of two tables; a free value where an entry is not finite. -/
def largestGap (open' : F32) (scale : Rat) (a b : List (List F32)) : F32 :=
  let x := a.flatten
  let y := b.flatten
  if !(x ++ y).all ffinite then open'
  else fof (scale * (List.zipWith (fun p q => rabs (fnum p - fnum q)) x y).foldl rmax 0)

/-- The plan of a solve: exactly its ITERATIONS, the last act of each a projection, so that the moves meet the hard
constraints; its cost and the two residuals. -/
def Zone.planFrom (s : State) (z : Zone) (v : Solve) : Plan :=
  let a := Nat.repeat (z.iterate v) v.iterations (z.admmStart s.free)
  { moves := a.zu, occ := v.occ, price := v.price, cost := fof (z.costOf v a.zu)
    primal := largestGap (Config.fp (s.free + 16 * z.horizon)) 1 (a.xu ++ a.xy) (a.zu ++ a.zy)
    dual := largestGap (Config.fp (s.free + 16 * z.horizon + 1)) (fnum (z.f32 20)) (a.zu ++ a.zy) (a.oldU ++ a.oldY)
    infeasible := z.infeasible v.limit }

end Sys2Proof.Machine
end

