-- ==== Sys2Proof/Machine/Zones.lean ====
section
/-!
DEFINITION. Machine/Zones.lean: the PRED group (Tables 8.4 and 8.5), with what happens at zone boundaries, solves and
rebuilds.
-/

namespace Sys2Proof.Machine

/-- A command on a zone in use: reason 1, TILE_OFF, reason 2. -/
def onZone (pk : Packet) (s : State) (f : Nat → Nat → Zone → Verdict) : Verdict :=
  let t := pk.u8 8
  let n := pk.u16 10
  if 4 ≤ t then badReason 1
  else if !s.tileOn t then failWith St.tileOff
  else if 4096 ≤ n then badReason 1
  else
    match s.zone t n with
    | none => badReason 2
    | some z => f t n z

/-- A writing command: CONFIGURE on the zone's GROUP too. -/
def onZoneConf (pk : Packet) (s : State) (f : Nat → Nat → Zone → Verdict) : Verdict :=
  onZone pk s fun t n z => if rightOn s pk.ctx z.group != 3 then failWith St.noRight else f t n z

/-! ## Judging a descriptor (R172, R173) -/

/-- A reserved bit or code, or an entry beyond P, M or D that is not 0 (reason 3). -/
def Zone.reservedSet (z : Zone) : Bool :=
  z.zflags / 128 != 0 || z.learn == 3 || z.le 224 28 != 0
    || [88, 152, 168, 184].any (fun o => z.le o 16 / 256 ^ (4 * z.np) != 0)
    || [104, 120, 136, 200].any (fun o => z.le o 16 / 256 ^ (4 * z.nm) != 0)

/-- Dimensions out of range (reason 5). -/
def Zone.dimsOut (z : Zone) : Bool :=
  z.np == 0 || decide (4 < z.np) || z.order == 0 || decide (2 < z.order) || z.nm == 0 || decide (4 < z.nm)
    || decide (4 < z.nd) || z.horizon < 4 || decide (96 < z.horizon)

/-- The step, the phase or the schedule is out of range (reason 1). -/
def Zone.stepOut (z : Zone) : Bool :=
  z.stepS == 0 || decide (3600 < z.stepS) || decide (z.stepS ≤ z.phaseS) || decide (31 < z.sched)

/-- Every entry of an array passes a test. -/
def Zone.allOf (z : Zone) (off n : Nat) (p : F32 → Bool) : Bool := (List.range n).all (fun i => p (z.f32 (off + 4 * i)))

/-- ITERATIONS in range: 16 to 256, or 0 for 64. -/
def iterationsOk (n : Nat) : Bool := n == 0 || (decide (16 ≤ n) && decide (n ≤ 256))

/-- The weights Q, R, W_S and RHO are in range. -/
def Zone.weightsOk (z : Zone) : Bool :=
  z.allOf 88 z.np fNonNeg && z.allOf 104 z.nm fPos && fPos (z.f32 216) && fPos (z.f32 20)

/-- Weights, limits, bands, SHARE, ITERATIONS and ACCEPT_STEPS are in range (reason 6). -/
def Zone.rangesOk (z : Zone) : Bool :=
  z.weightsOk && iterationsOk (z.le 6 2) && decide (8 ≤ z.le 19 1)
    && z.allOf 120 z.nm ffinite && z.allOf 136 z.nm ffinite && (List.range z.nm).all (fun i => decide (z.umin i < z.umax i))
    && z.allOf 152 z.np ffinite && z.allOf 168 z.np ffinite && (List.range z.np).all (fun j => decide (z.ylo j ≤ z.yhi j))
    && z.allOf 184 z.np fNonNeg && z.allOf 200 z.nm fNonNeg
    && ffinite (z.f32 220) && decide (0 ≤ z.share) && decide (z.share ≤ 1)

/-- Judge a binding of KIND 1 or 2 whose byte 7 is at most `top`. -/
def judgeMeasured (s : State) (t b top : Nat) : Option (Byte × Nat) :=
  if 7 < bKind b then why 3
  else if bKind b != 1 && bKind b != 2 then why 4
  else if top < bByte b 7 then why 3
  else judgeBinding s t 0 (b % 256 ^ 7)

/-- Judge a binding that must be unused. -/
def judgeUnused (b : Nat) : Option (Byte × Nat) := if bKind b != 0 then why 4 else if b != 0 then why 3 else none

/-- Judge a descriptor: reserved bits, dimensions, ranges and bindings. -/
def judgeZone (s : State) (t : Nat) (z : Zone) : Option (Byte × Nat) :=
  if z.dimsOut then why 5
  else if z.reservedSet then why 3
  else if z.stepOut then why 1
  else if !z.rangesOk then why 6
  else
    match firstRefusal ((List.range 4).map (fun j => if j < z.np then judgeMeasured s t (z.yBind j) 0 else judgeUnused (z.yBind j))
      ++ (List.range 4).map (fun i => if i < z.nd then judgeMeasured s t (z.dBind i) 1 else judgeUnused (z.dBind i))) with
    | some r => some r
    | none => if 1 < ((List.range z.nd).filter (fun i => forecasts (z.dBind i))).length then why 4 else none

/-- CONFIGURE on the groups, READ on the points bound (R173, R191). -/
def zoneRights (s : State) (ctx : Nat) (z : Zone) (old : Option Zone) : Bool :=
  rightOn s ctx z.group == 3 && ((old.map (fun o => rightOn s ctx o.group == 3)).getD true)
    && z.sources.all (fun b => bKind b != 2
      || decide (1 ≤ ((s.point (bPoint b)).map (fun p => rightOn s ctx p.group.toNat)).getD 0))

/-- The tile's rates and import slots with a zone in its place are admissible (R180, R173). -/
def zoneAdmits (s : State) (t n : Nat) (z : Zone) : Bool :=
  let x := s.tile t
  let x := { x with zones := aset x.zones n z.rebookRate }
  decide (predRate x ≤ predLimit) && decide ((importsOf t (x.loops.map (·.2)) (x.zones.map (·.2))).length ≤ 32768)

/-! ## ZONE_CREATE -/

def specZoneCreate : OpSpec :=
  { op := 0x600, owner := false, rev1 := false, rsv := 3,
    used := [(8, 1, 0xFF), (10, 2, 0xFF), (12, 1, 0xFF), (13, 1, 1), (16, 32, 0xFF)] }

/-- A zone as its parts give it. -/
def newZone (bytes : List Byte) : Zone :=
  let z : Zone := { desc := BitVec.ofNat 2048 (ofLe bytes), state := .running, next := 0 }
  { z with state := if z.startPaused then .paused else .running }

/-- The RESULT of ZONE_CREATE. -/
def zoneResult (s : State) (t n : Nat) (z : Zone) : Nat :=
  result [(5, 2, n), (7, 8, roundNat (predRate (s.tile t))), (15, 8, roundNat z.rate)]

/-- The commands that wait for a rebuild of the old dimensions end: what they asked for is discarded with the model
(log 29). -/
def Zone.endRebuild (z : Zone) (s : State) : State :=
  ((z.rebuild.map (·.keys)).getD []).foldl (fun s k => Cmd.final k St.badParam (result [(5, 1, 5)]) s) s

/-- A replacement: one that keeps the dimensions rebuilds and waits for its swap; another takes force at the next
boundary, and discards a pending rebuild of the old dimensions. -/
def Zone.replace (k : Key) (t n : Nat) (old z : Zone) (s : State) : Verdict :=
  if sameDims old.latest z then .later (s.modZone t n (fun o =>
      (o.rebuildWith (some k) none (some z.desc) (replacement := true)).bookRate))
  else
    let s := (old.endRebuild s).modZone t n (fun o =>
      let o := ({ o with rebuild := none } : Zone).rebuildWith none none (some z.desc) (replacement := true)
      ({ o with rebuild := o.rebuild.map (fun r => { r with done := true }) } : Zone).bookRate)
    .ok (zoneResult s t n z) s

/-- PART 7, for slot `n` with the zone it replaces; `before` is the state without the part. -/
def Zone.place (pk : Packet) (k : Key) (t n : Nat) (old : Option Zone) (z : Zone) (before s : State) : Verdict :=
  match judgeZone s t z with
  | some r => refuse r
  | none =>
    onRecords (pointsOf z.sources) before s fun s =>
    if !zoneRights s pk.ctx z old then failWith St.noRight
    else if 4096 ≤ n then .fail St.loadExceeded (zoneResult s t 65535 z)
    else
      let judged := match old with
        | some o => { o with desc := z.desc, state := z.state, rebuild := none }
        | none => z
      if !zoneAdmits s t n judged then .fail St.loadExceeded (zoneResult s t n z)
      else
        let s := Stage.drop k.q s
        match old with
        | some o => Zone.replace k t n o z s
        | none =>
          let s := s.modTile t (fun x => { x with zones := aset x.zones n { z.bookRate with next := z.nextAfter s.ns } })
          .ok (zoneResult s t n z) s

def bodyZoneCreate (pk : Packet) (k : Key) (s : State) : Verdict :=
  let t := pk.u8 8
  let part := pk.u8 12
  let n := pk.u16 10
  let replace := pk.u8 13 == 1
  if 4 ≤ t then badReason 1
  else if !s.tileOn t then failWith St.tileOff
  else if 8 ≤ part then badReason 1
  else
    match Stage.put k.q .zone t n part (pk.bytes 16 32) s with
    | none => badReason 7
    | some u =>
      if part < 7 then .ok 0 u
      else
        let z := newZone (stagedBytes u k.q)
        if !z.whole then failWith St.crcFail
        else if n = 65535 then
          (if replace then badReason 2
           else Zone.place pk k t ((lowestFree (s.tile t).zones 4096 0).getD 4096) none z s u)
        else if 4096 ≤ n then badReason 1
        else if (s.zone t n).isSome != replace then badReason 2
        else Zone.place pk k t n (s.zone t n) z s u

/-- ZONE_CREATE (R191, R180). -/
def execZoneCreate (q : Nat) (pk : Packet) (s : State) : Host.Outcome State Fault Refusal :=
  .next (Cmd.run specZoneCreate bodyZoneCreate q pk s)

/-! ## ZONE_DELETE and ZONE_READ -/

def specZoneDelete : OpSpec :=
  { op := 0x601, owner := false, rev1 := false, rsv := 3, used := [(8, 1, 0xFF), (10, 2, 0xFF)] }

/-- A loop ZONE binding or a point SOURCE names the zone (reason 8). -/
def zoneNamed (s : State) (t n : Nat) : Bool :=
  tileLoopBinds s t (bindsZone t n) || !(boundTo s (zonePoint t n)).isEmpty

/-- Commands that wait for a zone. -/
def Zone.waiters (z : Zone) : List Key := ((z.rebuild.map (·.keys)).getD []) ++ z.off.map (·.key)

/-- End every command that waits for a zone. -/
def Zone.endWaiters (z : Zone) (st : Byte) (res : Nat) (s : State) : State :=
  z.waiters.foldl (fun s k => Cmd.final k st res s) s

def bodyZoneDelete (pk : Packet) (_ : Key) (s : State) : Verdict :=
  onZoneConf pk s fun t n z =>
    if zoneNamed s t n then badReason 8
    else
      let s := z.endWaiters St.badParam (result [(5, 1, 2)]) s
      .ok 0 (Solves.pick t (Imports.prune t (s.modTile t (fun x => { x with zones := aerase x.zones n }))))

/-- ZONE_DELETE (R191). -/
def execZoneDelete (q : Nat) (pk : Packet) (s : State) : Host.Outcome State Fault Refusal :=
  .next (Cmd.run specZoneDelete bodyZoneDelete q pk s)

def specZoneRead : OpSpec :=
  { op := 0x602, owner := false, rev1 := false, rsv := 3, used := [(8, 1, 0xFF), (10, 2, 0xFF), (12, 1, 0xFF)] }

/-- The RESULT of a part. -/
def zonePart (z : Zone) (part : Nat) : Nat :=
  let fig (f : Plan → F32) : Nat := ((z.plan.map f).getD 0).toNat
  let l := z.learner
  if part = 0 then
    result [(5, 4, z.pstat), (9, 4, fig Plan.primal), (13, 4, fig Plan.dual), (17, 4, fig Plan.cost), (21, 4, z.countdown.toNat)]
  else if part = 1 then
    result [(5, 4, l.lastActive.toNat), (9, 4, l.lastCand.toNat), (13, 4, l.updates), (17, 4, l.skipped), (21, 2, l.adoptions)]
  else result [(5, 16, z.le (16 * (part - 2)) 16)]

def bodyZoneRead (pk : Packet) (_ : Key) (s : State) : Verdict :=
  onZone pk s fun _ _ z =>
    let part := pk.u8 12
    if rightOn s pk.ctx z.group = 0 then failWith St.noRight
    else if 17 < part then badReason 1
    else if part = 0 && z.has psPlanStale then .cond St.planStale (zonePart z part) s
    else .ok (zonePart z part) s

/-- ZONE_READ (R191, R184). -/
def execZoneRead (q : Nat) (pk : Packet) (s : State) : Host.Outcome State Fault Refusal :=
  .next (Cmd.run specZoneRead bodyZoneRead q pk s)

/-! ## ZONE_MODEL -/

def specZoneModel : OpSpec :=
  { op := 0x603, owner := false, rev1 := false, rsv := 3,
    used := [(8, 1, 0xFF), (10, 2, 0xFF), (12, 2, 0xFF), (14, 1, 1), (16, 40, 0xFF)] }

/-- Packets that a row takes. -/
def Zone.halves (z : Zone) : Nat := if 10 < z.coeffs then 2 else 1

/-- The coefficients that the staged bytes hold: 80 bytes a row of two halves, 40 a row of one. -/
def Zone.stagedModel (z : Zone) (bytes : List Byte) : Model :=
  (List.range z.np).map (fun j =>
    let row := (bytes.drop (40 * z.halves * j)).take (40 * z.halves)
    (List.range z.coeffs).map (fun i => BitVec.ofNat 32 (ofLe ((row.drop (4 * i)).take 4))))

def bodyZoneModel (pk : Packet) (k : Key) (s : State) : Verdict :=
  onZoneConf pk s fun t n z =>
    let z := z.latest
    let row := pk.u8 12
    let half := pk.u8 13
    if z.np ≤ row || z.halves ≤ half then badReason 1
    else
      match Stage.put k.q .model t n (row * z.halves + half) (pk.bytes 16 40) s with
      | none => badReason 7
      | some s =>
        if pk.u8 14 = 0 then .ok 0 s
        else if row + 1 != z.np || half + 1 != z.halves then badReason 7
        else
          let m := z.stagedModel (stagedBytes s k.q)
          if !z.modelOk m then badReason 9
          else .pend ((Stage.drop k.q s).modZone t n (fun z => z.rebuildWith (some k) (some m) none))

/-- ZONE_MODEL (R186, R188): at COMMIT the rows are checked and the rebuild starts. -/
def execZoneModel (q : Nat) (pk : Packet) (s : State) : Host.Outcome State Fault Refusal :=
  .next (Cmd.run specZoneModel bodyZoneModel q pk s)

/-! ## PRED_SOLVE and PRED_PLAN_READ -/

def specPredSolve : OpSpec :=
  { op := 0x604, owner := false, rev1 := false, rsv := 3, used := [(8, 1, 0xFF), (10, 2, 0xFF), (12, 2, 0xFF)] }

def bodyPredSolve (pk : Packet) (k : Key) (s : State) : Verdict :=
  onZoneConf pk s fun t n z =>
    if !iterationsOk (pk.u16 12) then badReason 6
    else if z.model.isNone then badReason 10
    else .pend (s.modZone t n (fun z => { z with off := z.off ++ [{
      key := k, iterations := if pk.u16 12 = 0 then z.iterations else pk.u16 12
      deadline := s.tb.elapsed + 2 * z.stepS * 1000000000 }] }))

/-- PRED_SOLVE (R191): an off-line solve from the latest snapshot. -/
def execPredSolve (q : Nat) (pk : Packet) (s : State) : Host.Outcome State Fault Refusal :=
  .next (Cmd.run specPredSolve bodyPredSolve q pk s)

/-- The plan of an off-line solve: that of the latest snapshot's boundary, with the iterations asked for and the active
bank. -/
def Zone.offPlanNow (s : State) (t : Nat) (z : Zone) (o : OffSolve) : Plan :=
  let v := z.solveFrom s t z.snapAt o.deadline o.iterations
  z.planFrom (s.drawnN z.nm) v

/-- PRED_SOLVE_DONE (R191): the oldest PRED_SOLVE of the zone completes on idle lanes, within its two steps and in RUN only; the plan
in force stays. -/
def execPredSolveDone (tile zone : Nat) (s : State) : Host.Outcome State Fault Refusal :=
  .next (match s.zone tile zone with
    | some z =>
      match z.off with
      | o :: r =>
        if predictorRuns s && s.tileOn tile && lanesIdle s tile && decide (s.tb.elapsed ≤ o.deadline) && z.model.isSome then
          let p := z.offPlanNow s tile o
          let s := (s.modZone tile zone (fun z => { z with off := r, offPlan := some p })).drawnN (z.nm + z.planDraws)
          Cmd.final o.key St.ok (result [(5, 4, p.cost.toNat), (9, 4, p.primal.toNat), (13, 4, p.dual.toNat)]) s
        else s
      | [] => s
    | none => s)

/-- PRED_SOLVE_TIMEOUT (R191): the oldest PRED_SOLVE has not completed within two steps. -/
def execPredSolveTimeout (tile zone : Nat) (s : State) : Host.Outcome State Fault Refusal :=
  .next (match s.zone tile zone with
    | some z =>
      match z.off with
      | o :: r =>
        let s := untilElapsed o.deadline s
        Cmd.final o.key St.loadExceeded 0 (s.modZone tile zone (fun z => { z with off := r }))
      | [] => s
    | none => s)

def specPredPlanRead : OpSpec :=
  { op := 0x605, owner := false, rev1 := false, rsv := 3, used := [(8, 1, 0xFF), (10, 2, 0xFF), (12, 2, 0xFF)] }

def bodyPredPlanRead (pk : Packet) (_ : Key) (s : State) : Verdict :=
  onZone pk s fun _ _ z =>
    let which := pk.u8 12
    let k := pk.u8 13
    if rightOn s pk.ctx z.group = 0 then failWith St.noRight
    else if 1 < which then badReason 3
    else if z.horizon ≤ k then badReason 1
    else
      match (if which = 0 then z.plan else z.offPlan) with
      | none => badReason 1
      | some p =>
        let u := (p.moves[k]?).getD []
        let res := result ((List.range 4).map (fun i => (5 + 4 * i, 4, (u.getD i 0).toNat))
          ++ [(21, 1, min 255 (roundNat (fnum (p.occ.getD k 0)))), (22, 4, (p.price.getD k 0).toNat)])
        if which = 0 && z.has psPlanStale then .cond St.planStale res s else .ok res s

/-- PRED_PLAN_READ (R184, R185). -/
def execPredPlanRead (q : Nat) (pk : Packet) (s : State) : Host.Outcome State Fault Refusal :=
  .next (Cmd.run specPredPlanRead bodyPredPlanRead q pk s)

/-! ## The learner's commands and PRED_PAUSE -/

def specPredLearn : OpSpec :=
  { op := 0x606, owner := false, rev1 := false, rsv := 3,
    used := [(8, 1, 0xFF), (10, 2, 0xFF), (12, 44, 0xFF)] }

/-- A code 3 in SIGNS is reserved. -/
def signsReserved (n : Nat) : Bool := (List.range 16).any (fun i => n / 4 ^ i % 4 == 3)

/-- LAMBDA and ACCEPT are in range. -/
def learnOk (lam acc : F32) : Bool :=
  ffinite lam && decide ((99 : Rat) / 100 ≤ fnum lam) && decide (fnum lam ≤ 99999 / 100000)
    && ffinite acc && decide (0 ≤ fnum acc) && decide (fnum acc ≤ 1 / 2)

/-- Judge a U binding: KIND 0 to 3. -/
def judgeApplied (s : State) (t b : Nat) : Option (Byte × Nat) :=
  if bKind b != 0 && decide (3 < bKind b) && decide (bKind b ≤ 7) then why 4 else judgeBinding s t 1 b

def bodyPredLearn (pk : Packet) (_ : Key) (s : State) : Verdict :=
  onZoneConf pk s fun t n z =>
    let u (i : Nat) : Nat := pk.le (24 + 8 * i) 8
    if signsReserved (pk.u32 12) then badReason 3
    else if !learnOk (pk.f32 16) (pk.f32 20) then badReason 6
    else
      match firstRefusal ((List.range 4).map (fun i => if i < z.latest.nm then judgeApplied s t (u i) else judgeUnused (u i))) with
      | some r => refuse r
      | none =>
        if (List.range 4).any (fun i => bKind (u i) == 2
            && ((s.point (bPoint (u i))).map (fun p => rightOn s pk.ctx p.group.toNat)).getD 0 == 0) then failWith St.noRight
        else .ok 0 (s.modZone t n (fun z => { z with learner := { z.learner with
          signs := BitVec.ofNat 32 (pk.u32 12), lambda := pk.f32 16, accept := pk.f32 20
          ubind := Vector.ofFn (fun i => BitVec.ofNat 64 (u i.val)) } }))

/-- PRED_LEARN (R187). -/
def execPredLearn (q : Nat) (pk : Packet) (s : State) : Host.Outcome State Fault Refusal :=
  .next (Cmd.run specPredLearn bodyPredLearn q pk s)

def specPredAccept : OpSpec :=
  { op := 0x607, owner := false, rev1 := false, rsv := 3, used := [(8, 1, 0xFF), (10, 2, 0xFF), (12, 1, 0xFF)] }

/-- A candidate may be adopted: one has passed its test, or the zone has no model and the learner has taken an update
(R188). -/
def Zone.hasCandidate (z : Zone) : Bool := if z.model.isSome then z.has psCandidateOk else decide (0 < z.learner.updates)

def bodyPredAccept (pk : Packet) (k : Key) (s : State) : Verdict :=
  onZoneConf pk s fun t n z =>
    if pk.u8 12 = 0 then
      (if !z.hasCandidate then badReason 10
       else if !z.modelOk z.learner.theta then badReason 9
       else .pend (s.modZone t n (fun z => z.rebuildWith (some k) (some z.learner.theta) none (learner := true))))
    else if pk.u8 12 = 1 then
      (if z.prevModel.isNone then badReason 10
       else .pend (s.modZone t n (fun z => z.rebuildWith (some k) z.prevModel none)))
    else badReason 3

/-- PRED_ACCEPT (R188). -/
def execPredAccept (q : Nat) (pk : Packet) (s : State) : Host.Outcome State Fault Refusal :=
  .next (Cmd.run specPredAccept bodyPredAccept q pk s)

def specPredPause : OpSpec := { specPredAccept with op := 0x608 }

/-- A zone paused, or resumed. -/
def Zone.setPaused (z : Zone) (on : Bool) : Zone :=
  if z.state == .crc then z
  else if on then { z with state := .paused, solve := none }
  else if z.state == .paused then
    { z with state := if z.plan.isSome && decide (z.horizon ≤ z.shifts) then ZoneState.starved else ZoneState.running }
  else z

def bodyPredPause (pk : Packet) (_ : Key) (s : State) : Verdict :=
  onZoneConf pk s fun t n _ =>
    if 1 < pk.u8 12 then badReason 3
    else .ok 0 (Solves.pick t (s.modZone t n (fun z => z.setPaused (pk.u8 12 == 1))))

/-- PRED_PAUSE (R191). -/
def execPredPause (q : Nat) (pk : Packet) (s : State) : Host.Outcome State Fault Refusal :=
  .next (Cmd.run specPredPause bodyPredPause q pk s)

/-! ## PRED_SCHED and PRED_LOAD -/

def specPredSched : OpSpec :=
  { op := 0x609, owner := true, rev1 := false, rsv := 3, used := [(8, 1, 0xFF), (10, 2, 0xFF), (12, 2, 0xFF), (16, 40, 0xFF)] }

/-- Counts that a part holds. -/
def schedCount (part : Nat) : Nat := if part = 4 then 8 else 40

/-- Store a part's counts; an entry of 0 is not listed. -/
def setSched (m : AMap Nat) (base : Nat) : List Byte → AMap Nat
  | [] => m
  | b :: r => setSched (if b = 0 then aerase m base else aset m base b.toNat) (base + 1) r

def bodyPredSched (pk : Packet) (_ : Key) (s : State) : Verdict :=
  onTile pk s fun t =>
    let sched := pk.u8 12
    let part := pk.u8 13
    if sched = 255 then
      (if pk.le 24 32 != 0 then badReason 3 else .ok 0 { s with weekOrigin := pk.le 16 8 })
    else if 32 ≤ sched || 5 ≤ part then badReason 1
    else
      let n := schedCount part
      if pk.le (16 + n) (40 - n) != 0 then badReason 3
      else if (pk.bytes 16 n).any (fun b => decide (63 < b.toNat)) then badReason 1
      else .ok 0 (s.modTile t (fun x => { x with scheds := setSched x.scheds (168 * sched + 40 * part) (pk.bytes 16 n) }))

/-- PRED_SCHED (R174). -/
def execPredSched (q : Nat) (pk : Packet) (s : State) : Host.Outcome State Fault Refusal :=
  .next (Cmd.run specPredSched bodyPredSched q pk s)

def specPredLoad : OpSpec :=
  { op := 0x60A, owner := false, rev1 := false, rsv := 3, used := [(8, 1, 0xFF), (10, 2, 0xFF)] }

/-- The effective load in 1/10,000. -/
def predLoad (s : State) (t : Nat) : Nat :=
  let c := predCapacity s t
  if c = 0 then 65535 else min 65535 (roundNat (predRate (s.tile t) * 10000 / (c : Rat)))

def bodyPredLoad (pk : Packet) (_ : Key) (s : State) : Verdict :=
  onTile pk s fun t =>
    .ok (result [(5, 8, roundNat (predRate (s.tile t))), (13, 8, predCapacity s t), (21, 2, (s.tile t).zones.length),
      (23, 2, predLoad s t), (25, 1, lanes s t)]) s

/-- PRED_LOAD (R180). -/
def execPredLoad (q : Nat) (pk : Packet) (s : State) : Host.Outcome State Fault Refusal :=
  .next (Cmd.run specPredLoad bodyPredLoad q pk s)

/-! ## ZONE_TUNE -/

def specZoneTune : OpSpec :=
  { op := 0x60B, owner := false, rev1 := false, rsv := 3,
    used := [(8, 1, 0xFF), (10, 2, 0xFF), (12, 1, 0x1F), (14, 2, 0xFF), (16, 40, 0xFF)] }

/-- A descriptor with the fields of MASK replaced. -/
def tunedZone (z : Zone) (pk : Packet) : BitVec 2048 :=
  let has (i : Nat) : Bool := (pk.u8 12).testBit i
  let d := z.desc
  let d := if has 0 then zdescSet d 88 (4 * z.np) (pk.le 16 (4 * z.np)) else d
  let d := if has 1 then zdescSet d 104 (4 * z.nm) (pk.le 32 (4 * z.nm)) else d
  let d := if has 2 then zdescSet d 216 4 (pk.u32 48) else d
  let d := if has 3 then zdescSet d 20 4 (pk.u32 52) else d
  zdescSeal (if has 4 then zdescSet d 6 2 (pk.u16 14) else d)

/-- ITERATIONS alone takes force at once, in the descriptor in force and in one that waits. -/
def Zone.withIterations (z : Zone) (n : Nat) : Zone :=
  let put (d : BitVec 2048) : BitVec 2048 := zdescSeal (zdescSet d 6 2 n)
  ({ z with desc := put z.desc, rebuild := z.rebuild.map (fun r => { r with desc := r.desc.map put }) } : Zone).bookRate

def bodyZoneTune (pk : Packet) (k : Key) (s : State) : Verdict :=
  onZoneConf pk s fun t n z =>
    let mask := pk.u8 12
    let w := z.latest
    let z2 : Zone := { w with desc := tunedZone w pk, rebuild := none }
    let res := result [(5, 8, roundNat z2.rebookRate.admitted)]
    if !z2.weightsOk || !iterationsOk (z2.le 6 2) then badReason 6
    else if mask.testBit 4 && !zoneAdmits s t n z2 then .fail St.loadExceeded res
    else if mask % 16 = 0 then
      .ok res (if mask = 16 && z.state != .crc then s.modZone t n (fun z => z.withIterations (pk.u16 14)) else s)
    else .pend (s.modZone t n (fun z => (z.rebuildWith (some k) none (some z2.desc)).rebookRate))

/-- ZONE_TUNE (R186, R180). -/
def execZoneTune (q : Nat) (pk : Packet) (s : State) : Host.Outcome State Fault Refusal :=
  .next (Cmd.run specZoneTune bodyZoneTune q pk s)

/-! ## Boundaries, solves and rebuilds -/

/-- ZONE_BOUNDARY (R181): the zone's next boundary, behind what R359 puts before it. -/
def execZoneBoundary (tile zone : Nat) (s : State) : Host.Outcome State Fault Refusal := .next (Zone.runDue tile zone s)

/-- SOLVE_COMPLETE (R182): the running solve of a tile completes, not after its deadline; its plan waits for the
boundary. -/
def execSolveComplete (tile zone : Nat) (s : State) : Host.Outcome State Fault Refusal :=
  .next (match runningSolve (s.tile tile) with
    | some (n, z, v) =>
      if n = zone && predictorRuns s && s.tileOn tile && decide (s.ns ≤ v.deadline) then
        let p := z.planFrom s v
        Solves.pick tile ((s.modZone tile n (fun z =>
          { z with solve := some { v with done := some p } }.put psInfeasible p.infeasible)).drawnN z.planDraws)
      else s
    | none => s)

/-- A rebuild completes: its bank stands in the shadow and waits for the swap. -/
def Zone.finishRebuild (z : Zone) : Zone :=
  match z.rebuild with
  | some r => { z with shadow := z.rebuilt r, rebuild := some { r with done := true } }
  | none => z

/-- GAIN_REBUILD_DONE (R186): the rebuild has completed, on idle lanes and in RUN (R182, R190), and waits for its swap. A
boundary due by now comes first, so a rebuild that completes in its instant has missed it (Table 8.8). -/
def execGainRebuildDone (tile zone : Nat) (s : State) : Host.Outcome State Fault Refusal :=
  .next (match s.zone tile zone with
    | some z =>
      if predictorRuns s && s.tileOn tile && lanesIdle s tile then
        let s := if z.next ≤ s.ns then Zone.boundary tile zone z.next false (Meter.dueFirst s) else s
        s.modZone tile zone Zone.finishRebuild
      else s
    | none => s)

end Sys2Proof.Machine
end

