-- ==== Sys2Proof/Machine/TimeStep.lean ====
section
/-!
DEFINITION. Machine/TimeStep.lean: steps of TB, forward (R20) and backward (R21), by TB_SET and by PTP, and the setting
of TB_VALID (R18, R140).
-/

namespace Sys2Proof.Machine

/-- Powered tiles. -/
def poweredTiles (s : State) : List Nat := (List.range 4).filter (fun t => s.tileOn t)

/-- Do something to every powered tile, in number order. -/
def onTiles (f : Nat → State → State) (s : State) : State := (poweredTiles s).foldl (fun s t => f t s) s

/-- Whatever comes at each whole TB second comes next at the first one after now: pulse rates (R21), fan speeds, energy
and presence results, and PPS_OUT. -/
def Tb.reseconds (s : State) : State :=
  let sec := s.sec + 1
  let s := { s with
    tb := { s.tb with ppsNext := sec }
    mt := { s.mt with resultSec := sec, presenceSec := sec } }
  onTiles (fun t s => s.modTile t (fun x => { x with
    rateSec := sec, fans := x.fans.map (fun f => { f with nextSec := sec }) })) s

/-- A sequence takes the first start instant after now as its next one; a cycle in progress completes first, and the
instants the step passes are no slips (R109). -/
def Seq.rebase (t c : Nat) (s : State) : State :=
  s.modConv t c (fun v =>
    if v.active.periodMs = 0 then (if v.inCycle then v else { v with nextStart := s.ns })
    else
      let next := startAfter v.active.periodMs s.ns
      { v with nextStart := if v.inCycle then next - v.active.periodMs * 1000000 else next })

/-- Both sequences of a tile. -/
def Seq.rebaseBoth (t : Nat) (s : State) : State := Seq.rebase t 1 (Seq.rebase t 0 s)

/-! ## Forward (R20) -/

/-- Zones of a tile whose boundary a step has passed, the first of them. -/
def passedZone (s : State) (t : Nat) : Option Nat :=
  ((s.tile t).zones.find? (fun e => decide (e.2.next ≤ s.ns) && firstDue (s.tile t) e.1 e.2 true)).map (·.1)

/-- Evaluate the passed zones once each at the new TB, at most `n` of them. -/
def Zones.catchUp (t : Nat) : Nat → State → State
  | 0, s => s
  | n + 1, s =>
    match passedZone s t with
    | some z => Zones.catchUp t n (Zone.boundary t z s.ns true s)
    | none => s

/-- Evaluate the passed loops once each at the new TB, and realign them. -/
def Loops.catchUp (t : Nat) (s : State) : State :=
  if loopsRun s t then Loops.evaluate t s.ns (dueLoops (s.tile t) s.ns) s else Loops.realign t s

/-- A TPROP cycle in progress ends; the next one starts at the first multiple of CYCLE_S after the new TB. -/
def Drv.endCycle (t j : Nat) (s : State) : State :=
  let d := (s.tile t).drive j
  if d.cfg.mode != 2 || isSlave (s.tile t) j then s
  else
    Drv.off t j (s.modDrive t j (fun d => { d with
      isOn := false, onUntil := none, cycleAt := startAfter (d.cfg.cycleS * 1000) s.ns }))

/-- A forward step past the next cycle start ends the TPROP cycle in progress, as a backward step does (log 21). -/
def Drv.passCycle (t j : Nat) (s : State) : State :=
  if ((s.tile t).drive j).cycleAt ≤ s.ns then Drv.endCycle t j s else s

/-- What a forward step does in a tile: zones first, then loops (R181), then its sequences and cycles. -/
def Tb.forwardTile (t : Nat) (s : State) : State :=
  let s := Seq.rebaseBoth t (Loops.catchUp t (Zones.catchUp t (s.tile t).zones.length s))
  (List.range 24).foldl (fun s j => Drv.passCycle t j s) s

/-- Node deadlines are checked against the new TB (Table 10.9). -/
def Tb.checkNodes (t : Nat) (s : State) : State :=
  (tileBuses t).foldl (fun s k => if (s.bus k).stopped then s else Bus.checkNodes k s) s

/-- A forward step that TB has just taken, from `old`. -/
def Tb.forward (old : Nat) (wasValid : Bool) (s : State) : State :=
  let s := { s with tb := { s.tb with mono := s.tb.mono + (s.ns - old) } }
  let s := if wasValid then Meter.stepForward old s.ns s
    else (Meter.closeInstant old s).modMeters (fun m => { m with lastEnd := s.ns })
  onTiles Tb.checkNodes (Tb.reseconds (onTiles Tb.forwardTile s))

/-! ## Backward (R21) -/

/-- Zones take the first boundary after the new TB, a released solve with them. -/
def Zones.realign (t : Nat) (s : State) : State :=
  s.modTile t (fun x => { x with zones := x.zones.map (fun e =>
    let next := e.2.nextAfter s.ns
    (e.1, { e.2 with next := next, solve := e.2.solve.map (fun v => { v with deadline := next }) })) })

/-- What a backward step by `back` ns does in a tile; the least times of ONOFF go on as they were (log 21). -/
def Tb.backTile (back t : Nat) (s : State) : State :=
  let s := Loops.realign t (s.modTile t (fun x => { x with loops := x.loops.map (fun e =>
    (e.1, { e.2 with switchedAt := e.2.switchedAt - back })) }))
  let s := Seq.rebaseBoth t (Zones.realign t s)
  (List.range 24).foldl (fun s j => Drv.endCycle t j s) s

/-- A backward step that TB has just taken, from `old`. -/
def Tb.back (old : Nat) (s : State) : State :=
  let s := (Meter.closeInstant old s).modMeters (fun m => { m with lastEnd := s.ns })
  Tb.reseconds (onTiles (Tb.backTile (old - s.ns)) s)

/-! ## Both -/

/-- Set TB_VALID: intervals run and bound pairs resume (R140). -/
def Tb.validate (was : Bool) (s : State) : State := if was || !s.tb.valid then s else Meter.validate s

/-- TB takes a value, and TB_VALID is set where `mark` says so. TB_STEP is raised first, by TB_SET with code 0 and by PTP
with code 1, and is stamped with the new TB (R355, Table 16.7). -/
def Tb.stepTo (code new : Nat) (mark : Bool) (s : State) : State :=
  let old := s.ns
  let was := s.tb.valid
  let step : Int := (new : Int) - (old : Int)
  let s := { s with tb := { s.tb with now := BitVec.ofNat 64 new, carry := 0, valid := was || mark } }
  let s := Ev.raise 14 code (packLe [(8, toBits 64 step)]) s
  let s := if old < new then Tb.forward old was s else if new < old then Tb.back old s else s
  Tb.validate was s

end Sys2Proof.Machine
end

