-- ==== Sys2Proof/Machine/TimeBase.lean ====
section
/-!
DEFINITION. Machine/TimeBase.lean: the time-base commands (Tables 1.6, 1.7), PPS_OUT and PPS_IN (R21), values between
tiles (R11, R12), and the end of TILE_SKEW (R17).
-/

namespace Sys2Proof.Machine

/-! ## Commands -/

/-- TB_SET and TB_SLEW are refused while the source is PTP (R19). -/
def hostDisciplined (s : State) : Bool := s.tb.source == .host

def specTbSet : OpSpec := { op := 0x030, owner := true, rev1 := true, rsv := 0, used := [(8, 8, 0xFF), (16, 1, 1)] }

def bodyTbSet (pk : Packet) (_ : Key) (s : State) : Verdict :=
  let new := pk.le 8 8
  if !hostDisciplined s then failWith St.noRight
  else if s.tb.valid && decide (new < s.ns) then failWith St.badParam
  else .ok 0 (Tb.stepTo 0 new (pk.u8 16 == 1) s)

/-- TB_SET (Table 1.6, R18 to R21). -/
def execTbSet (q : Nat) (pk : Packet) (s : State) : Host.Outcome State Fault Refusal :=
  .next (Cmd.run specTbSet bodyTbSet q pk s)

def specTbSlew : OpSpec := { op := 0x031, owner := true, rev1 := true, rsv := 0, used := [(8, 4, 0xFF)] }

def bodyTbSlew (pk : Packet) (_ : Key) (s : State) : Verdict :=
  let r := signedOf 32 (pk.u32 8)
  if !hostDisciplined s then failWith St.noRight
  else if r < -500000 || 500000 < r then failWith St.badParam
  else .ok 0 { s with tb := { s.tb with ratePpb := BitVec.ofNat 32 (pk.u32 8) } }

/-- TB_SLEW (Table 1.7, R374). -/
def execTbSlew (q : Nat) (pk : Packet) (s : State) : Host.Outcome State Fault Refusal :=
  .next (Cmd.run specTbSlew bodyTbSlew q pk s)

def specTbRead : OpSpec := { op := 0x032, owner := false, rev1 := true, rsv := 0, used := [] }

def bodyTbRead (_ : Packet) (_ : Key) (s : State) : Verdict :=
  .ok (result [(5, 8, s.ns), (13, 1, bit s.tb.valid + 2 * bit (!hostDisciplined s)), (14, 4, s.tb.ratePpb.toNat),
    (18, 8, s.tb.ppsIn.toNat)]) s

/-- TB_READ (Table 2.14). -/
def execTbRead (q : Nat) (pk : Packet) (s : State) : Host.Outcome State Fault Refusal :=
  .next (Cmd.run specTbRead bodyTbRead q pk s)

/-! ## PPS -/

/-- A close, swap or switch of the meters is due at or before a TB second. -/
def metersDueBy (s : State) (sec : Nat) : Bool :=
  (s.tb.valid && ((s.mt.running && decide (s.mt.boundary ≤ sec)) || s.mt.active.tariffAt sec != s.mt.tariff))
    || (match s.mt.job with
        | some j => j.rebuilt && decide (j.atSecond ≤ sec)
        | none => false)

/-- Nothing is due at or before the next PPS second that R359 puts before the PPS_OUT edge. -/
def ppsComesNext (s : State) : Bool :=
  let b := s.tb.ppsNext * 1000000000
  !metersDueBy s s.tb.ppsNext && !zoneDueBy s b && (List.range 4).all (fun t =>
    !loopsRun s t || (match nextLoopBoundary (s.tile t) with
      | some n => decide (b < n)
      | none => true))

/-- PPS_OUT_RISE (R21): at the next whole TB second, the last of what happens there (R359); in reset the pin is released
(R365). -/
def execPpsOutRise (s : State) : Host.Outcome State Fault Refusal :=
  .next (whenever (aonUp s && s.pw.boot != .held && !s.tb.ppsOut && ppsComesNext s) (fun s =>
    let s := untilTb (s.tb.ppsNext * 1000000000) s
    { s with tb := { s.tb with ppsOut := true, ppsRoseAt := s.tb.elapsed, ppsNext := s.sec + 1 } }) s)

/-- PPS_OUT_FALL (R21): 10 ms later. -/
def execPpsOutFall (s : State) : Host.Outcome State Fault Refusal :=
  .next (whenever s.tb.ppsOut (fun s =>
    let s := untilElapsed (s.tb.ppsRoseAt + 10000000) s
    { s with tb := { s.tb with ppsOut := false } }) s)

/-- PPS_IN_EDGE (R21, R345): a rising edge is stamped with TB at the pin, since the device corrects the stamp for the delay of
the filter in force. -/
def execPpsInEdge (s : State) : Host.Outcome State Fault Refusal :=
  .next (whenever (aonUp s) (fun s => { s with tb := { s.tb with ppsIn := s.tb.now } }) s)

/-! ## Values between tiles -/

/-- Put a value with what its source says of it in an import slot of a tile, counting the write. -/
def putImport (dst slot : Nat) (v : F32) (r : InVal) (s : State) : State :=
  s.modTile dst (fun x =>
    let n := ((aget x.imports slot).map (·.writes)).getD 0
    { x with imports := aset x.imports slot {
        v := v, faulted := r.v.isNone, unreliable := r.unreliable, stampInvalid := r.stampInvalid, writes := n + 1 } })

/-- A value arrives in tile `dst` from tile `src`: a demand takes force as from a loop (R154); a channel or a loop value
goes to its import slot. -/
def Cross.arrive (src dst : Nat) (item : CrossItem) (s : State) : State :=
  match item with
  | .drv j v => Out.deliver 5 dst j v s
  | .ao k v => Out.deliver 6 dst k v s
  | .fan k v => Out.deliver 7 dst k v s
  | .chan ch v fl => putImport dst (slotChan src ch) v (chanInput v fl.toNat 0) s
  | .loop d n v f => putImport dst (slotLoop src d n) v { v := if f then none else some v } s

/-- Remove the first entry for a tile from a queue. -/
def dropFirstFor (dst : Nat) : List CrossEntry → List CrossEntry
  | [] => []
  | e :: r => if e.dst = dst then r else e :: dropFirstFor dst r

/-- CROSS_TILE_DELIVERY (R12): the oldest value that tile `src` sends to tile `dst` arrives; a tile that is not powered
takes none. -/
def execCrossTileDelivery (src dst : Nat) (s : State) : Host.Outcome State Fault Refusal :=
  .next (match (s.tile src).xout.find? (fun e => e.dst == dst) with
    | some e =>
      if s.tileOn src then
        let s := s.modTile src (fun x => { x with xout := dropFirstFor dst x.xout })
        if s.tileOn dst then Cross.arrive src dst e.item s else s
      else s
    | none => s)

/-! ## TILE_SKEW -/

/-- TILE_SKEW_CLEAR (R17): the difference of an edge and quantity has stayed within its limit for 100 ms; the entry that
ends the episode carries its length in ms (Table 16.1). -/
def execTileSkewClear (edge quantity : Nat) (s : State) : Host.Outcome State Fault Refusal :=
  .next (
    let i := 2 * edge + quantity
    let k := vget s.pw.skew i {}
    match k.withinAt with
    | some w =>
      if k.stands && edge < 4 && quantity < 2 then
        let s := untilElapsed (w + 100000000) s
        let s := { s with pw := { s.pw with skew := vset s.pw.skew i {} } }
        Ev.raiseCleared 4 quantity (skewArg s edge quantity ((s.tb.elapsed - k.raisedAt) / 1000000)) s
      else s
    | none => s)

end Sys2Proof.Machine
end

