-- ==== Sys2Proof/Machine/FedRun.lean ====
section
/-!
DEFINITION. Machine/FedRun.lean: what federation does: changes of path (R249, R253, R256), links (R246, R247), peers
(R244, R252, R256), mirror records (R250, R253 to R256) and the PTP servo (R258).
-/

namespace Sys2Proof.Machine

/-! ## Reflections -/

/-- The chip of an identifier. -/
def chipOf (id : Nat) : Nat := id / 2 ^ 24

/-- Reflections of an origin chip. -/
def reflectionsOf (s : State) (chip : Nat) : List Nat :=
  (s.pts.recs.filter (fun e => e.2.reflection && chipOf e.1 == chip)).map (·.1)

/-- Set a reflection STALE; it keeps its last value (R256). -/
def Point.setStale (id : Nat) (s : State) : State := Point.restatus id (fun w => putBit w stStale true) s

/-- Set every reflection of a chip STALE. -/
def Fed.staleAll (chip : Nat) (s : State) : State := (reflectionsOf s chip).foldl (fun s id => Point.setStale id s) s

/-! ## Sweeps and changes of path (R253, R256) -/

/-- Queue one subscribed point with SWEEP set; one that fails its CRC is not sent (R71). -/
def Fed.sweepPoint (chip id : Nat) (s : State) : State :=
  match s.point id with
  | some p =>
    let l := Point.load id p s
    if l.1 then Fed.queueUpdate chip id true l.2 else l.2
  | none => s

/-- Queue every subscribed point of a subscriber with SWEEP set, each in place of an update still queued, so that only the
latest is sent (Table 11.11). -/
def Fed.sweep (chip : Nat) (s : State) : State :=
  let s := { s with fed := { s.fed with sweptAt := aset s.fed.sweptAt chip s.tb.elapsed } }
  (s.fed.subs.filter (fun x => x.1 == chip)).foldl (fun s x => Fed.sweepPoint chip x.2 s) s

/-- The path to a chip may have changed from `old`: a full sweep of a subscriber starts at once; with no path left, its
reflections turn STALE. -/
def Fed.repath (old : Path) (chip : Nat) (s : State) : State :=
  let new := s.fed.path chip
  if new == old then s
  else if new == .none then Fed.staleAll chip s
  else Fed.sweep chip s

/-- Do something that may change the path to a chip. -/
def Fed.withPath (chip : Nat) (f : State → State) (s : State) : State := Fed.repath (s.fed.path chip) chip (f s)

/-- A move between EN0 and EN1 is a path change for every Ethernet peer (R251). -/
def Fed.etherChange (s : State) : State :=
  ((s.fed.peers.map (·.1)).filter (fun c => s.fed.path c == .ether)).foldl (fun s c => Fed.sweep c s) s

/-! ## Peers (R244, R252, R256) -/

/-- Two chips claim this device's CHIP: FED_CONFLICT, and the higher serial is ISOLATED (R244). -/
def Fed.conflict (chip : Nat) (serial : BitVec 48) (s : State) : State :=
  let s := if serial.toNat < Config.serial.toNat then { s with fed := { s.fed with isolated := true, out := [] } } else s
  Ev.raise 200 0 (packLe [(2, chip), (6, serial.toNat)]) s

/-- A new BOOT_ID of an origin: its reflections turn STALE, and each is subscribed anew (R256). -/
def Fed.reboot (chip : Nat) (s : State) : State :=
  let ids := reflectionsOf s chip
  ids.foldl (fun s id => Fed.queue chip (.subscribe (BitVec.ofNat 40 id)) s) (Fed.staleAll chip s)

/-- Note a peer's BOOT_ID, from a training or a datagram. -/
def Fed.noteBoot (chip : Nat) (old : Option Word) (boot : Word) (s : State) : State :=
  match old with
  | some b => if b = boot then s else Fed.reboot chip s
  | none => s

/-- A peer that nothing is known of yet. -/
def newPeer (s : State) (serial : BitVec 48) (boot : Word) (building cluster : Nat) : Peer :=
  { serial := serial, boot := boot, building := building, cluster := cluster, alive := false, heard := false
    seenAt := s.tb.elapsed, recAt := s.tb.elapsed, annSeq := none, recSeq := none, lost := 0, txSeq := 0 }

/-- Put a peer. -/
def State.putPeer (s : State) (chip : Nat) (p : Peer) : State :=
  { s with fed := { s.fed with peers := aset s.fed.peers chip p } }

/-- Peers of this device's building that have announced themselves, other than `chip`. -/
def buildingPeers (s : State) (chip : Nat) : List Nat :=
  (s.fed.peers.filter (fun e => e.2.heard && e.2.building == s.fed.building && e.1 != chip)).map (·.1)

/-- The highest of some chip numbers. -/
def highest (l : List Nat) : Nat := l.foldl max 0

/-- Drop a peer that the limit of a building has no room for (Table 11.1). -/
def Fed.dropPeer (chip : Nat) (s : State) : State :=
  Fed.withPath chip (fun s => { s with fed := { s.fed with peers := amod s.fed.peers chip (fun p =>
    { p with heard := false, alive := false }) } }) s

/-- FED_LIMIT, once while the limit is passed (Table 11.1). -/
def Fed.limit (s : State) : State :=
  if s.fed.limited then s
  else Ev.raise 201 0 (packLe [(1, s.fed.building)]) { s with fed := { s.fed with limited := true } }

/-- Datagrams of one destination that a SEQ shows lost: those between the one due and it. -/
def seqGap (due : Option Word) (seq : Word) : Word :=
  match due with
  | some d => if (seq - d).toNat < 2 ^ 31 then seq - d else 0
  | none => 0

/-- A peer after a valid datagram: ALIVE, with what its header says; gaps in SEQ are counted, but none across a restart,
which a new BOOT_ID shows (R252). -/
def Peer.heardHeader (p : Peer) (h : AmzHeader) (now : Nat) : Peer :=
  let due := if p.boot != h.boot then none else if h.kind = 1 then p.annSeq else p.recSeq
  let p := { p with
    serial := h.serial, boot := h.boot, building := h.building, cluster := h.cluster, alive := true, heard := true
    seenAt := now, lost := p.lost + seqGap due h.seq }
  if h.kind = 1 then { p with annSeq := some (h.seq + 1) } else { p with recSeq := some (h.seq + 1) }

/-- A valid datagram of another chip: the peer is ALIVE, and a new BOOT_ID shows (R252, R256). -/
def Fed.takePeer (h : AmzHeader) (s : State) : State :=
  let old := aget s.fed.peers h.chip
  let p := old.getD (newPeer s h.serial h.boot h.building h.cluster)
  let s := Fed.withPath h.chip (fun s => s.putPeer h.chip (p.heardHeader h s.tb.elapsed)) s
  Fed.noteBoot h.chip (old.map (·.boot)) h.boot s

/-- A valid datagram of another chip, by the limit of a building (R242, Table 11.1). -/
def Fed.welcome (h : AmzHeader) (s : State) : State :=
  if h.building != s.fed.building then Fed.takePeer h s
  else
    let others := buildingPeers s h.chip
    if others.length < 1024 then Fed.takePeer h s
    else if highest others < h.chip then Fed.limit s
    else Fed.limit (Fed.takePeer h (Fed.dropPeer (highest others) s))

/-- A valid ANNOUNCE (R244, R252). -/
def Fed.announced (h : AmzHeader) (s : State) : State :=
  if h.chip = s.fed.chip then
    (if h.serial = Config.serial then s else Fed.conflict h.chip h.serial s)
  else Fed.welcome h s

/-- A datagram passes its checks: the frame check sequence, the UDP checksum and HCRC, and it is an Amiziot datagram of the
KIND for this chip (R252, Table 11.5). -/
def headerOk (h : AmzHeader) (kind : Byte) (f : Fed) : Bool :=
  h.sumsOk && crc32c (headerBytes h) == h.hcrc && h.magic == 0x5A41 && h.version == 1 && h.kind == kind
    && h.dst == (if kind = 1 then 0xFFFF else f.chip) && decide (h.count ≤ 59)

/-- Drop a datagram and count it. -/
def Fed.dropDatagram (s : State) : State := { s with fed := { s.fed with dgDropped := s.fed.dgDropped + 1 } }

/-! ## Links (R246, R247) -/

/-- Raise a link's event: 0 LINK_UP, 1 LINK_DOWN, 2 LINK_MISWIRED. -/
def Link.event (l code chip version : Nat) (s : State) : State :=
  Ev.raise (192 + l) code (packLe [(2, chip), (1, version)]) s

/-- Start a training (R246). -/
def Link.retrain (l : Nat) (s : State) : State :=
  s.modLink l (fun k => { k with state := .training, version := 0, train := k.train + 1, failedAt := s.tb.elapsed })

/-- A link leaves UP or HOLD: a calibration that holds it ends with reason 6 (R297). -/
def Link.leave (l : Nat) (f : State → State) (s : State) : State :=
  let k := s.fed.link l
  let s := if k.carries then Fed.withPath k.peerChip f s else f s
  Cal.abort (calKey 4 l) s

/-- The exchange of a training is wired wrongly (R246). -/
def Link.miswired (s : State) (l : Nat) (p : TrainInfo) : Bool :=
  (decide (l < 7) && p.cluster != s.fed.cluster) || (l == 7 && p.cluster == s.fed.cluster) || p.serial == Config.serial
    || (List.range l).any (fun i => (s.fed.link i).carries && (s.fed.link i).peerSerial == p.serial)

/-- A training has completed (R246, R244, R256). -/
def Link.trained (l : Nat) (p : TrainInfo) (s : State) : State :=
  let version := min (s.fed.link l).maxver p.maxver
  let s := if p.chip = s.fed.chip && p.serial != Config.serial then Fed.conflict p.chip p.serial s else s
  let known (k : Link) : Link := { k with peerChip := p.chip, peerCluster := p.cluster, peerSerial := p.serial }
  if Link.miswired s l p then
    Link.event l 2 p.chip version
      (s.modLink l (fun k => { known k with state := .miswired, failedAt := s.tb.elapsed }))
  else
    let old := aget s.fed.peers p.chip
    let peer := old.getD (newPeer s p.serial p.boot s.fed.building p.cluster)
    let s := Link.event l 0 p.chip version (Fed.withPath p.chip (fun s =>
      (s.putPeer p.chip { peer with serial := p.serial, boot := p.boot, cluster := p.cluster }).modLink l (fun k =>
        { known k with state := .up, version := version, credit := 256, freed := 0 })) s)
    Fed.noteBoot p.chip (old.map (·.boot)) p.boot s

/-- A link is disabled (FED_LINK). -/
def Link.disable (l : Nat) (s : State) : State :=
  Link.leave l (fun s => s.modLink l (fun k => { k with enable := false, state := .down, version := 0 })) s

/-- A link leaves UP: LINK_DOWN, and it trains again (R247). -/
def Link.fall (l : Nat) (s : State) : State :=
  let k := s.fed.link l
  Link.leave l (Link.retrain l) (Link.event l 1 k.peerChip k.version s)

/-- FED_LINK, and a window write of LZ_CFG (R260): OP 0 disables, 1 enables, 2 retrains an enabled link. In GLOW the links
stay in electrical idle, and an enabled one trains on return (R259). -/
def Link.command (l op maxver : Nat) (s : State) : State :=
  let s := s.modLink l (fun k => { k with maxver := maxver })
  if op = 0 then Link.disable l s
  else if glowing s then (if op = 1 then s.modLink l (fun k => { k with enable := true }) else s)
  else if op = 1 then
    (if (s.fed.link l).enable then s else Link.retrain l (s.modLink l (fun k => { k with enable := true })))
  else if (s.fed.link l).enable then Link.leave l (Link.retrain l) s
  else s

/-- LZ_STAT (Table 11.7). -/
def lzStat (s : State) (l : Nat) : Nat :=
  let k := s.fed.link l
  let st : Nat := match k.state with
    | .down => 0
    | .training => 1
    | .up => 2
    | .hold => 3
    | .miswired => 4
  st + (if k.state == .up then k.version else 0) * 2 ^ 4

/-- Entering GLOW, the links go to electrical idle, and PTP stops (R259). -/
def Fed.stop (s : State) : State :=
  (List.range 8).foldl (fun s l =>
    Link.leave l (fun s => s.modLink l (fun k => { k with state := .down, version := 0 })) s)
    { s with fed := { s.fed with ptpReq := none } }

/-- On return, enabled links train, Amiziot announces, and every subscriber is swept (R253, R259). -/
def Fed.resume (s : State) : State :=
  let s := (List.range 8).foldl (fun s l => if (s.fed.link l).enable then Link.retrain l s else s) s
  let s := if s.fed.amz then { s with fed := { s.fed.sendAnnounce with announcedAt := s.tb.elapsed } } else s
  ((s.fed.subs.map (·.1)).eraseDups).foldl (fun s c => Fed.sweep c s)
    { s with fed := { s.fed with syncAt := s.tb.elapsed } }

/-! ## Mirror records (R250) -/

/-- The record's CRC-32C over its bytes 0 to 15 matches (Table 11.4). -/
def recordOk (type : Nat) (r : MirrorRec) : Bool :=
  (crc32c (leBytes 2 (type + r.flags.toNat * 256) ++ leBytes 5 r.point.toNat ++ [r.status]
    ++ leBytes 6 r.timestamp.toNat ++ leBytes 2 r.boot.toNat)) == r.crc

/-- A frame's LCRC matches (Table 11.3). -/
def frameOk (h : FrameHead) : Bool := crc8 ([h.ftype, h.lseq] ++ leBytes 2 h.credit.toNat) == h.lcrc

/-- A frame comes in on an UP link: one that fails its LCRC takes the link down (R247); any other one gives its CREDIT
(R248). -/
def Link.frame (l : Nat) (h : FrameHead) (s : State) : State :=
  if (s.fed.link l).state != .up then s
  else if !frameOk h then Link.fall l s
  else s.modLink l (fun k => { k with credit := min 256 (k.credit + h.credit.toNat), rxLseq := h.lseq })

/-- What brought a record arrives: its frame, or its datagram with the first of its records (R248, R252). -/
def Fed.arrive (via : Via) (s : State) : State :=
  match via with
  | .lomuz l h => Link.frame l h s
  | .ether h first =>
    if !s.fed.amz || !first then s
    else if !headerOk h 0 s.fed then Fed.dropDatagram s
    else if h.chip = s.fed.chip then s
    else Fed.welcome h s

/-- The chip that sent a record, once what brought it has arrived: of a whole record frame on an UP link, or of a valid
datagram of an admitted peer. -/
def senderOf (s : State) (via : Via) : Option Nat :=
  match via with
  | .lomuz l h => if (s.fed.link l).state == .up && frameOk h && h.ftype == 1 then some (s.fed.link l).peerChip else none
  | .ether h _ =>
    if s.fed.amz && headerOk h 0 s.fed && ((aget s.fed.peers h.chip).map (·.heard)).getD false && h.chip != s.fed.chip then
      some h.chip
    else none

/-- A record arrived from a chip; the frame slot that it took is freed (R248). -/
def Fed.heardFrom (via : Via) (chip : Nat) (s : State) : State :=
  let s := { s with fed := { s.fed with peers := amod s.fed.peers chip (fun p => { p with recAt := s.tb.elapsed }) } }
  match via with
  | .lomuz l _ => s.modLink l (fun k => { k with freed := k.freed + 1 })
  | .ether _ _ => s

/-- Count a record: accepted, or with a failed CRC (LZ_RXREC, LZ_DROP). -/
def Fed.countRec (via : Via) (ok : Bool) (s : State) : State :=
  match via with
  | .lomuz l _ => s.modLink l (fun k => if ok then { k with rxrec := k.rxrec + 1 } else { k with drop := k.drop + 1 })
  | .ether _ _ => if ok then s else { s with fed := { s.fed with discarded := s.fed.discarded + 1 } }

/-- Discard a record and count it (R255). -/
def Fed.discard (s : State) : State := { s with fed := { s.fed with discarded := s.fed.discarded + 1 } }

/-- Take a received record: nothing while federation is stopped, a record with a bad CRC is dropped and counted, and any
other one reaches `f` with the chip that sent it. -/
def Fed.receive (via : Via) (type : Nat) (r : MirrorRec) (f : Nat → State → State) (s : State) : State :=
  if !s.live || s.pw.pstate == .glow then s
  else
    let s := Fed.arrive via s
    match senderOf s via with
    | none => s
    | some chip =>
      let s := Fed.heardFrom via chip s
      if recordOk type r then f chip s else Fed.countRec via false s

/-- STATUS bits that a reflection copies (R255). -/
def copiedBits : List Nat := [stFault, stOos, stUnreliable, stStampInvalid, stPlanStale]

/-- STATUS with the copied bits of a record and STALE clear. -/
def copyStatus (w : Word) (st : Byte) : Word :=
  putBit (copiedBits.foldl (fun w n => putBit w n (st.getLsbD n)) w) stStale false

/-- A reflection after a record it accepts. -/
def Point.accept (p : Point) (m : Mirror) (r : MirrorRec) (now : Nat) : Point :=
  { p with
    value := r.value, timestamp := r.timestamp, status := copyStatus p.status r.status
    mirror := some { m with boot := r.boot, acceptedAt := now } }

/-- An UPDATE or GRANT for an existing reflection (R255). -/
def Fed.apply (via : Via) (r : MirrorRec) (s : State) : State :=
  let id := r.point.toNat
  match s.point id with
  | none => Fed.discard s
  | some p =>
    match p.mirror with
    | none => Fed.discard s
    | some m =>
      if m.ended || !(r.boot != m.boot || decide (p.timestamp.toNat ≤ r.timestamp.toNat)) then Fed.discard s
      else
        let l := Point.load id p s
        if l.1 then
          Point.store id p.status (p.accept m r s.tb.elapsed) (Point.touch id (Fed.countRec via true l.2))
        else Fed.discard l.2

/-- The reflection that a GRANT creates (R254). -/
def newReflection (v : Reserve) (r : MirrorRec) (now : Nat) : Point :=
  { value := r.value, covLast := r.value, timestamp := r.timestamp
    status := copyStatus (BitVec.ofNat 32 (2 ^ stReflection + bit v.pin * 2 ^ stPinned)) r.status
    prioActive := 0, type := BitVec.ofNat 2 r.flags.toNat, owner := 0, group := v.group, relinquish := 0
    covIncrement := v.cov, priority := Vector.replicate 16 0, source := BitVec.ofNat 128 (7 + r.point.toNat * 256), crc := 0, latest := none
    mirror := some { boot := r.boot, staleS := v.staleS, acceptedAt := now, ended := false } }

/-- A GRANT: it completes FED_MIRROR; without a reservation it updates an existing reflection, or is answered with CANCEL
(R254, R255, Table 11.11). -/
def Fed.grant (via : Via) (chip : Nat) (r : MirrorRec) (s : State) : State :=
  let id := r.point.toNat
  match aget s.fed.reserved id with
  | some v =>
    let s := Fed.countRec via true { s with fed := { s.fed with reserved := aerase s.fed.reserved id } }
    let s := Point.touch id (s.putPoint id (newReflection v r s.tb.elapsed).seal)
    Cmd.final v.key St.ok 0 s
  | none =>
    if (s.point id).isSome then Fed.apply via r s else Fed.queue chip (.cancel r.point) s

/-- A REFUSE: it fails FED_MIRROR, or ends the subscription of an existing reflection (R254, R256). -/
def Fed.refuse (via : Via) (r : MirrorRec) (s : State) : State :=
  let id := r.point.toNat
  let s := Fed.countRec via true s
  match aget s.fed.reserved id with
  | some v => Cmd.finalBad v.key r.status.toNat { s with fed := { s.fed with reserved := aerase s.fed.reserved id } }
  | none =>
    match s.point id with
    | none => s
    | some p =>
      match p.mirror with
      | none => s
      | some m =>
        if m.ended then s
        else
          let l := Point.load id p s
          let p := { p with mirror := some { m with ended := true } }
          let s :=
            if l.1 then Point.store id p.status { p with status := putBit (putBit p.status stFault true) stStale true } l.2
            else l.2.putPoint id p
          Ev.raise 202 0 (packLe [(5, id), (1, r.status.toNat)]) s

/-- The answer of an origin to a SUBSCRIBE: none for a grant, or the REFUSE reason (R253); a point that fails its CRC is
none to grant (log 30). -/
def Fed.judgeSubscribe (s : State) (chip id : Nat) : Option Nat :=
  match s.point id with
  | none => some 7
  | some p =>
    if chipOf id != s.fed.chip || p.reflection || !pointSound s id p then some 7
    else if !s.fed.exportMask.getLsbD p.group.toNat then some 8
    else if !s.fed.subs.contains (chip, id) && decide (1048576 ≤ s.fed.subs.length) then some 9
    else none

/-- A SUBSCRIBE as received (R253); an ISOLATED device serves none (R244). -/
def Fed.subscribe (via : Via) (chip : Nat) (r : MirrorRec) (s : State) : State :=
  let id := r.point.toNat
  let s := Point.check id (Fed.countRec via true s)
  if s.fed.isolated then s
  else
    match Fed.judgeSubscribe s chip id with
    | some x => Fed.queue chip (.refuse r.point x) s
    | none =>
      let subs := if s.fed.subs.contains (chip, id) then s.fed.subs else s.fed.subs ++ [(chip, id)]
      let swept := if ahas s.fed.sweptAt chip then s.fed.sweptAt else aset s.fed.sweptAt chip s.tb.elapsed
      Fed.queue chip (.grant r.point) { s with fed := { s.fed with subs := subs, sweptAt := swept } }

/-! ## PTP (R257, R258) -/

/-- A Sync's arrival is stamped; TB less the master's time is the difference less the mean path delay, in ns. -/
def Ptp.measure (m : PtpSync) (s : State) : Int × State :=
  let ms : Int := (ptpStampOf s.ns : Int) - (m.origin : Int)
  ((ms - s.fed.ptpDelay) / 10, { s with fed := { s.fed with ptpMs := ms } })

/-- The clock asks for the path delay with a Delay_Req, stamped as it is sent; what a step of TB since `arrival` moved is
moved in the Sync's measurement too. -/
def Ptp.request (arrival : Nat) (s : State) : State :=
  { s with fed := { s.fed with
    ptpReq := some (ptpStampOf s.ns), ptpReqs := s.fed.ptpReqs + 1
    ptpMs := s.fed.ptpMs + 10 * ((s.ns : Int) - (arrival : Int)) } }

/-- A Delay_Resp gives the mean path delay: half of the way here and of the way back, by the last Sync and the request. -/
def Ptp.delayed (received : Nat) (s : State) : State :=
  match s.fed.ptpReq with
  | some sent => { s with fed := { s.fed with ptpReq := none, ptpDelay := (s.fed.ptpMs + ((received : Int) - (sent : Int))) / 2 } }
  | none => s

/-- The master answers a Delay_Req with the time of its arrival. -/
def Ptp.answer (requester : Nat) (s : State) : State :=
  { s with fed := { s.fed with ptpResp := some (requester, ptpStampOf s.ns) } }

/-- Rates within the servo's range. -/
def clampRate (r : Int) : Int := max (-500000) (min 500000 r)

/-- Correct an offset, TB less master: a step, a slew at the least rate, or the servo's rate. -/
def Ptp.correct (offset rate : Int) (s : State) : State :=
  let new := ((s.ns : Int) - offset).toNat
  let setRate (r : Int) (s : State) : State := { s with tb := { s.tb with ratePpb := BitVec.ofInt 32 r } }
  if !s.tb.valid && !s.fed.ptpMet then Tb.stepTo 1 new false (setRate (clampRate rate) s)
  else if offset < -1000000 then Tb.stepTo 1 new false (setRate (clampRate rate) s)
  else if 1000000 < offset && s.tb.valid then setRate (-500000) s
  else setRate (clampRate rate) s

/-- Judge lock: 16 consecutive Sync messages within 1 us; lock sets TB_VALID and raises PTP_LOCK. -/
def Ptp.judge (offset : Int) (s : State) : State :=
  let good := if offset.natAbs ≤ 1000 then min 16 (s.fed.ptpGood + 1) else 0
  let locks := good == 16 && !s.fed.ptpLocked
  let s := { s with fed := { s.fed with ptpGood := good, ptpLocked := good == 16 } }
  if locks then
    let was := s.tb.valid
    let s := Ev.raise 203 0 (packLe [(4, toBits 32 offset)]) { s with tb := { s.tb with valid := true } }
    Tb.validate was s
  else s

/-- A Sync message. -/
def Ptp.sync (offset rate : Int) (s : State) : State :=
  let s := Ptp.correct offset rate s
  Ptp.judge offset { s with fed := { s.fed with
    ptpMet := true, ptpForeign := true, ptpOffset := offset, syncAt := s.tb.elapsed, holdover := false } }

/-- This clock beats the master of a Sync: the lower PRIORITY1, then the better quality, the lower PRIORITY2 and the lower
identity (log 30). -/
def ptpBeats (f : Fed) (m : PtpSync) : Bool :=
  if f.prio1.toNat != m.prio1 then decide (f.prio1.toNat < m.prio1)
  else if Config.ptpQuality != m.quality then decide (Config.ptpQuality < m.quality)
  else if f.prio2.toNat != m.prio2 then decide (f.prio2.toNat < m.prio2)
  else decide (Config.serial.toNat < m.identity)

/-- A Sync that the device takes: of its own domain, and unless it may be master and beats the sender (R257). -/
def ptpTakes (s : State) (m : PtpSync) : Bool := m.domain == s.fed.ptpDomain && !(ptpEligible s && ptpBeats s.fed m)

end Sys2Proof.Machine
end

