-- ==== Sys2Proof/Machine/Fed.lean ====
section
/-!
DEFINITION. Machine/Fed.lean: the FED group (Tables 11.9, 11.10) and the happenings of federation.
-/

namespace Sys2Proof.Machine

/-! ## FED_IDENTITY -/

def specFedIdentity : OpSpec := { op := 0x900, owner := true, rev1 := false, rsv := 2, used := [(8, 4, 0xFF)] }

/-- Local points, reflections or origin subscription entries exist (R243). -/
def fedBusy (s : State) : Bool := !s.pts.recs.isEmpty || !s.fed.subs.isEmpty

def bodyFedIdentity (pk : Packet) (k : Key) (s : State) : Verdict :=
  let chip := pk.u16 8
  if 10240 ≤ chip || 64 ≤ pk.u8 10 || 128 ≤ pk.u8 11 then badReason 1
  else if chip != s.fed.chip && fedBusy s then badReason 3
  else Nv.submit k pk.ctx (.identity { chip := chip, building := pk.u8 10, cluster := pk.u8 11 }) s

/-- FED_IDENTITY (R241 to R243). -/
def execFedIdentity (q : Nat) (pk : Packet) (s : State) : Host.Outcome State Fault Refusal :=
  .next (Cmd.run specFedIdentity bodyFedIdentity q pk s)

/-! ## FED_LINK, FED_NET and FED_PTP -/

def specFedLink : OpSpec := { op := 0x901, owner := true, rev1 := false, rsv := 2, used := [(8, 3, 0xFF)] }

/-- What refuses a FED_LINK: reasons 1, 2 and 11. -/
def judgeLink (s : State) (l op maxver : Nat) : Option Nat :=
  if op = 1 && !s.fed.committed then some 11
  else if 8 ≤ l then some 1
  else if 3 ≤ op || maxver == 0 || 3 ≤ maxver then some 2
  else none

def bodyFedLink (pk : Packet) (_ : Key) (s : State) : Verdict :=
  match judgeLink s (pk.u8 8) (pk.u8 9) (pk.u8 10) with
  | some r => badReason r
  | none => .ok 0 (Link.command (pk.u8 8) (pk.u8 9) (pk.u8 10) s)

/-- FED_LINK (R246). -/
def execFedLink (q : Nat) (pk : Packet) (s : State) : Host.Outcome State Fault Refusal :=
  .next (Cmd.run specFedLink bodyFedLink q pk s)

def specFedNet : OpSpec :=
  { op := 0x910, owner := true, rev1 := false, rsv := 2, used := [(8, 33, 0xFF), (41, 1, 1), (42, 4, 0xFF)] }

def bodyFedNet (pk : Packet) (_ : Key) (s : State) : Verdict :=
  let pfx := pk.u8 40
  let en := pk.u8 41 == 1
  if !s.fed.committed then badReason 11
  else if pfx == 0 || 129 ≤ pfx || pk.u16 44 == 0 || 4095 ≤ pk.u16 44 then badReason 1
  else .ok 0 { s with fed := { s.fed with
    amz := true
    announcedAt := if s.fed.amz then s.fed.announcedAt else s.tb.elapsed
    addr := BitVec.ofNat 128 (pk.le 8 16), mcast := BitVec.ofNat 128 (pk.le 24 16), pfx := pfx, vlanEn := en
    amzPort := pk.u16 42, vlan := pk.u16 44 } }

/-- FED_NET (R251, R252). -/
def execFedNet (q : Nat) (pk : Packet) (s : State) : Host.Outcome State Fault Refusal :=
  .next (Cmd.run specFedNet bodyFedNet q pk s)

def specFedPtp : OpSpec :=
  { op := 0x911, owner := true, rev1 := false, rsv := 2, used := [(8, 2, 0xFF), (10, 1, 1), (11, 5, 0xFF)] }

def bodyFedPtp (pk : Packet) (_ : Key) (s : State) : Verdict :=
  let log := signedOf 8 (pk.u8 13)
  if 2 ≤ pk.u8 8 then badReason 2
  else if 128 ≤ pk.u8 9 || log < -4 || 1 < log then badReason 1
  else
    let s := { s with tb := { s.tb with source := if pk.u8 8 = 1 then .ptp else .host } }
    .ok 0 { s with fed := { s.fed with
      ptpDomain := pk.u8 9, masterOk := pk.u8 10 == 1, prio1 := BitVec.ofNat 8 (pk.u8 11)
      prio2 := BitVec.ofNat 8 (pk.u8 12), logSync := log, asymNs := signedOf 16 (pk.u16 14)
      ptpLocked := false, ptpGood := 0, holdover := false, ptpMet := false, ptpForeign := false
      ptpReq := none, ptpMs := 0, ptpDelay := 0, ptpResp := none
      syncAt := s.tb.elapsed } }

/-- FED_PTP (R257, R258). -/
def execFedPtp (q : Nat) (pk : Packet) (s : State) : Host.Outcome State Fault Refusal :=
  .next (Cmd.run specFedPtp bodyFedPtp q pk s)

/-! ## FED_EXPORT -/

def specFedExport : OpSpec :=
  { op := 0x920, owner := true, rev1 := false, rsv := 2, used := [(8, 2, 0xFF), (16, 32, 0xFF)] }

def bodyFedExport (pk : Packet) (_ : Key) (s : State) : Verdict :=
  let sw := pk.u16 8
  if sw != 0 && (sw < 10 || 600 < sw) then badReason 1
  else
    let s := { s with fed := { s.fed with
      sweepS := if sw = 0 then 60 else sw, exportMask := BitVec.ofNat 256 (pk.le 16 32) } }
    .ok 0 (Fed.withdrawAll s)

/-- FED_EXPORT (R253). -/
def execFedExport (q : Nat) (pk : Packet) (s : State) : Host.Outcome State Fault Refusal :=
  .next (Cmd.run specFedExport bodyFedExport q pk s)

/-! ## FED_MIRROR and FED_UNMIRROR -/

def specFedMirror : OpSpec :=
  { op := 0x921, owner := true, rev1 := false, rsv := 2,
    used := [(8, 6, 0xFF), (14, 1, 1), (16, 2, 0xFF), (20, 4, 0xFF)] }

def bodyFedMirror (pk : Packet) (k : Key) (s : State) : Verdict :=
  let id := pk.point 8
  let pin := pk.u8 14 == 1
  if !s.fed.committed then badReason 11
  else if 5242880 ≤ id % 2 ^ 24 || pk.u16 16 < 10 || 3600 < pk.u16 16 || !fNonNeg (pk.f32 20) then badReason 1
  else if chipOf id == s.fed.chip || 10240 ≤ chipOf id then badReason 4
  else if (s.point id).isSome || ahas s.fed.reserved id then badReason 5
  else if pin && 65536 ≤ pinCount s then badReason 7
  else if 5242880 ≤ s.pts.recs.length + s.fed.reserved.length then badReason 10
  else
    let v : Reserve := { key := k, group := BitVec.ofNat 8 (pk.u8 13), pin := pin, staleS := pk.u16 16, cov := pk.f32 20
                         deadline := s.tb.elapsed + 30000000000 }
    .pend (Fed.queue (chipOf id) (.subscribe (BitVec.ofNat 40 id))
      { s with fed := { s.fed with reserved := aset s.fed.reserved id v } })

/-- FED_MIRROR (R254). -/
def execFedMirror (q : Nat) (pk : Packet) (s : State) : Host.Outcome State Fault Refusal :=
  .next (Cmd.run specFedMirror bodyFedMirror q pk s)

def specFedUnmirror : OpSpec := { op := 0x922, owner := true, rev1 := false, rsv := 2, used := [(8, 5, 0xFF)] }

def bodyFedUnmirror (pk : Packet) (_ : Key) (s : State) : Verdict :=
  let id := pk.point 8
  if 5242880 ≤ id % 2 ^ 24 then badReason 1
  else if chipOf id == s.fed.chip || 10240 ≤ chipOf id then badReason 4
  else
    match s.point id with
    | none => badReason 6
    | some p =>
      let l := Point.load id p s
      if !l.1 then .cond St.crcFail 0 l.2
      else if !p.reflection then badReason 6
      else if pointBound s id then .cond St.badParam (result [(5, 1, 3)]) l.2
      else .ok 0 (Point.remove id p (Fed.queue (chipOf id) (.cancel (BitVec.ofNat 40 id)) l.2))

/-- FED_UNMIRROR (R261, Table 11.9, R71): CANCEL is sent and the reflection removed, unless something binds it. -/
def execFedUnmirror (q : Nat) (pk : Packet) (s : State) : Host.Outcome State Fault Refusal :=
  .next (Cmd.run specFedUnmirror bodyFedUnmirror q pk s)

/-! ## FED_STATUS and FED_PEER_READ -/

def specFedStatus : OpSpec := { op := 0x930, owner := false, rev1 := false, rsv := 2, used := [] }

/-- The link STATEs, four bits a link, LZ0 lowest. -/
def linkStates (s : State) : Nat := (List.range 8).foldl (fun a l => a + lzStat s l % 8 * 16 ^ l) 0

/-- Reflections that the store holds. -/
def reflectionCount (s : State) : Nat := (s.pts.recs.filter (fun e => e.2.reflection)).length

def bodyFedStatus (_ : Packet) (_ : Key) (s : State) : Verdict :=
  let f := s.fed
  .ok (result [(5, 2, f.chip), (7, 1, f.building), (8, 1, f.cluster),
    (9, 1, bit f.isolated + 2 * bit f.ptpLocked + 4 * bit f.holdover + 8 * bit f.en1), (10, 4, linkStates s),
    (14, 2, (f.peers.filter (fun e => e.2.alive)).length), (16, 4, reflectionCount s), (20, 4, f.subs.length),
    (24, 4, toBits 32 f.ptpOffset)]) s

/-- FED_STATUS (Table 11.10). -/
def execFedStatus (q : Nat) (pk : Packet) (s : State) : Host.Outcome State Fault Refusal :=
  .next (Cmd.run specFedStatus bodyFedStatus q pk s)

def specFedPeerRead : OpSpec := { op := 0x931, owner := false, rev1 := false, rsv := 2, used := [(8, 2, 0xFF)] }

/-- A peer's state: 0 unknown, 1 ALIVE, 2 LOST. -/
def Peer.code (p : Peer) : Nat := if p.alive then 1 else if p.heard then 2 else 0

def bodyFedPeerRead (pk : Packet) (_ : Key) (s : State) : Verdict :=
  let chip := pk.u16 8
  if 10240 ≤ chip then badReason 4
  else
    let path := s.fed.path chip
    let link := (s.fed.linkTo chip).getD 0
    let code : Nat := match path with
      | .none => 0
      | .lomuz _ => 1
      | .ether => 2
    let head := result [(6, 1, code), (7, 1, link), (22, 4, (reflectionsOf s chip).length)]
    match aget s.fed.peers chip with
    | some p => .ok (head + result [(5, 1, p.code), (8, 6, p.serial.toNat), (14, 4, p.boot.toNat),
        (18, 4, (s.tb.elapsed - p.recAt) / 1000000000)]) s
    | none => .ok head s

/-- FED_PEER_READ (R249, Table 11.10). -/
def execFedPeerRead (q : Nat) (pk : Packet) (s : State) : Host.Outcome State Fault Refusal :=
  .next (Cmd.run specFedPeerRead bodyFedPeerRead q pk s)

/-! ## Links -/

/-- Federation runs: RDY, and RUN or QUIET (R259). -/
def fedRuns (s : State) : Bool := s.live && s.pw.pstate != .glow

/-- LINK_TRAINING_DONE (R246, R244). -/
def execLinkTrainingDone (link : Nat) (peer : TrainInfo) (s : State) : Host.Outcome State Fault Refusal :=
  .next (whenever (fedRuns s && (s.fed.link link).enable && (s.fed.link link).state == .training) (Link.trained link peer) s)

/-- LINK_RETRY (R246): a failed or miswired training is tried again 1 s after it began. -/
def execLinkRetry (link : Nat) (s : State) : Host.Outcome State Fault Refusal :=
  .next (whenever (fedRuns s && (s.fed.link link).enable
      && ((s.fed.link link).state == .training || (s.fed.link link).state == .miswired))
    (fun s => Link.retrain link (untilElapsed ((s.fed.link link).failedAt + 1000000000) s)) s)

/-- LINK_DOWN (R247, R297): a link in UP or HOLD trains again; a run that holds it ends with reason 6. -/
def execLinkDown (link : Nat) (s : State) : Host.Outcome State Fault Refusal :=
  .next (whenever (fedRuns s && ((s.fed.link link).state == .up || (s.fed.link link).state == .hold)) (Link.fall link) s)

/-- LOMUZ_FRAME (R248): an idle or credit frame returns frame slots, 256 at most; one that fails its LCRC takes the link
down (R247). A reserved FTYPE is no frame of the link's. -/
def execLomuzFrame (link : Nat) (head : FrameHead) (s : State) : Host.Outcome State Fault Refusal :=
  .next (whenever (fedRuns s && (!frameOk head || head.ftype == 0 || head.ftype == 2)) (Link.frame link head) s)

/-- HOLD_ORDERED_SET (R298): the peer recalibrates; the link holds. -/
def execHoldOrderedSet (link : Nat) (s : State) : Host.Outcome State Fault Refusal :=
  .next (whenever (fedRuns s && (s.fed.link link).state == .up)
    (fun s => s.modLink link (fun k => { k with state := .hold, holdAt := s.tb.elapsed })) s)

/-- LINK_HOLD_END (R298): after 400 us, and the end of a run of its own, the link is UP again with the new values in
force. -/
def execLinkHoldEnd (link : Nat) (s : State) : Host.Outcome State Fault Refusal :=
  .next (whenever (fedRuns s && (s.fed.link link).state == .hold && !calRunning s (calKey 4 link)) (fun s =>
    let s := untilElapsed ((s.fed.link link).holdAt + 400000) s
    (Cal.apply (calKey 4 link) s).modLink link (fun k => { k with state := .up })) s)

/-! ## Mirror records -/

/-- UPDATE (R255). -/
def execUpdate (via : Via) (r : MirrorRec) (s : State) : Host.Outcome State Fault Refusal :=
  .next (Fed.receive via 1 r (fun chip s => if chipOf r.point.toNat = chip then Fed.apply via r s else Fed.discard s) s)

/-- SUBSCRIBE (R253). -/
def execSubscribe (via : Via) (r : MirrorRec) (s : State) : Host.Outcome State Fault Refusal :=
  .next (Fed.receive via 2 r (fun chip s => Fed.subscribe via chip r s) s)

/-- GRANT (R254, R255). -/
def execGrant (via : Via) (r : MirrorRec) (s : State) : Host.Outcome State Fault Refusal :=
  .next (Fed.receive via 3 r (fun chip s => if chipOf r.point.toNat = chip then Fed.grant via chip r s else Fed.discard s) s)

/-- REFUSE (R254, R256). -/
def execRefuse (via : Via) (r : MirrorRec) (s : State) : Host.Outcome State Fault Refusal :=
  .next (Fed.receive via 4 r (fun chip s => if chipOf r.point.toNat = chip then Fed.refuse via r s else Fed.discard s) s)

/-- CANCEL (R250): the sender's subscription entry ends. -/
def execCancel (via : Via) (r : MirrorRec) (s : State) : Host.Outcome State Fault Refusal :=
  .next (Fed.receive via 5 r (fun chip s =>
    let s := Fed.countRec via true s
    { s with fed := { s.fed with subs := s.fed.subs.filter (fun x => x != (chip, r.point.toNat)) } }) s)

/-- SWEEP (R253): SWEEP_S seconds after the last one, every subscribed point is queued with SWEEP set, behind the records
that are no sweep's. -/
def execSweep (chip : Nat) (s : State) : Host.Outcome State Fault Refusal :=
  .next (whenever (fedRuns s && s.fed.subs.any (fun x => x.1 == chip)) (fun s =>
    Fed.sweep chip (untilElapsed ((aget s.fed.sweptAt chip).getD 0 + s.fed.sweepS * 1000000000) s)) s)

/-- MIRROR_TIMEOUT (R254): 30 s without an answer. -/
def execMirrorTimeout (id : Nat) (s : State) : Host.Outcome State Fault Refusal :=
  .next (match aget s.fed.reserved id with
    | some v =>
      let s := untilElapsed v.deadline s
      Cmd.final v.key St.noAck 0 { s with fed := { s.fed with reserved := aerase s.fed.reserved id } }
    | none => s)

/-- REFLECTION_STALE (R256): no record accepted for STALE_S seconds. -/
def execReflectionStale (id : Nat) (s : State) : Host.Outcome State Fault Refusal :=
  .next (match (s.point id).bind (·.mirror) with
    | some m => Point.setStale id (untilElapsed (m.acceptedAt + m.staleS * 1000000000) s)
    | none => s)

/-! ## Amiziot and the Ethernet ports -/

/-- ANNOUNCE (R244, R252): a datagram that fails its checks is dropped and counted. -/
def execAnnounce (h : AmzHeader) (s : State) : Host.Outcome State Fault Refusal :=
  .next (whenever (fedRuns s && s.fed.amz) (fun s =>
    if headerOk h 1 s.fed then Fed.announced h s else Fed.dropDatagram s) s)

/-- ANNOUNCE_TIMER (R252): every 5 s. -/
def execAnnounceTimer (s : State) : Host.Outcome State Fault Refusal :=
  .next (whenever (fedRuns s && s.fed.amz) (fun s =>
    let s := untilElapsed (s.fed.announcedAt + 5000000000) s
    { s with fed := { s.fed.sendAnnounce with announcedAt := s.tb.elapsed } }) s)

/-- PEER_LOST (R252): 15 s without a valid datagram. -/
def execPeerLost (chip : Nat) (s : State) : Host.Outcome State Fault Refusal :=
  .next (match aget s.fed.peers chip with
    | some p =>
      if s.live && p.alive then
        Fed.withPath chip (fun s => { s with fed := { s.fed with peers := amod s.fed.peers chip (fun p =>
          { p with alive := false }) } }) (untilElapsed (p.seenAt + 15000000000) s)
      else s
    | none => s)

/-- Traffic moves to a port: EN_SWITCH, and a path change for every Ethernet peer (R251). -/
def Fed.usePort (en1 : Bool) (s : State) : State :=
  Fed.etherChange (Ev.raise 205 0 (bit en1) { s with fed := { s.fed with en1 := en1 } })

/-- EN_LINK_LOSS (R251): EN0 loses link; traffic moves to EN1. -/
def execEnLinkLoss (s : State) : Host.Outcome State Fault Refusal :=
  .next (whenever (s.live && s.fed.en0Link) (fun s =>
    let s := { s with fed := { s.fed with en0Link := false } }
    if s.fed.en1 then s else Fed.usePort true s) s)

/-- EN_LINK_RETURN (R251): EN0 regains link, and must hold it for 10 s. -/
def execEnLinkReturn (s : State) : Host.Outcome State Fault Refusal :=
  .next (whenever (s.live && !s.fed.en0Link)
    (fun s => { s with fed := { s.fed with en0Link := true, en0At := s.tb.elapsed } }) s)

/-- EN_RETURN (R251): EN0 has held link for 10 s; traffic returns to it. -/
def execEnReturn (s : State) : Host.Outcome State Fault Refusal :=
  .next (whenever (s.live && s.fed.en0Link && s.fed.en1)
    (fun s => Fed.usePort false (untilElapsed (s.fed.en0At + 10000000000) s)) s)

/-! ## PTP -/

/-- PTP disciplines the time base (R257, R259). -/
def ptpRuns (s : State) : Bool := fedRuns s && s.tb.source == .ptp

/-- ROUTER_ADVERTISEMENT (R251): the default router is learned; a Delay_Req is answered by a master, and a Delay_Resp gives
the path delay (R257); a frame that is none of Amiziot, PTP and Neighbour Discovery is dropped by frame steering, which counts
it. -/
def execRouterAdvertisement (frame : EnFrame) (s : State) : Host.Outcome State Fault Refusal :=
  .next (whenever (fedRuns s) (fun s =>
    match frame with
    | .advertisement a => { s with fed := { s.fed with router := some a } }
    | .delayReq domain requester => whenever (ptpMaster s && domain == s.fed.ptpDomain) (Ptp.answer requester) s
    | .delayResp domain received => whenever (ptpRuns s && domain == s.fed.ptpDomain) (Ptp.delayed received) s
    | .foreign => { s with fed := { s.fed with enDropped := s.fed.enDropped + 1 } }) s)

/-- SYNC (R257, R258): the offset by the timestamps and the path delay, corrected by ASYM_NS; then the clock measures the
path again. -/
def execSync (m : PtpSync) (ratePpb : Int) (s : State) : Host.Outcome State Fault Refusal :=
  .next (whenever (ptpRuns s && ptpTakes s m) (fun s =>
    let r := Ptp.measure m s
    Ptp.request s.ns (Ptp.sync (r.1 - s.fed.asymNs) ratePpb r.2)) s)

/-- HOLDOVER (R258): 10 Sync intervals without Sync; the last rate and TB_VALID are kept. -/
def execHoldover (s : State) : Host.Outcome State Fault Refusal :=
  .next (whenever (ptpRuns s && !s.fed.holdover) (fun s =>
    let s := untilElapsed (s.fed.syncAt + 10 * syncNs s.fed.logSync) s
    Ev.raise 204 0 (packLe [(4, s.tb.ratePpb.toNat)])
      { s with fed := { s.fed with holdover := true, ptpForeign := false, ptpLocked := false, ptpGood := 0 } }) s)

end Sys2Proof.Machine
end

