-- ==== Sys2Proof/Machine/Calibration.lean ====
section
/-!
DEFINITION. Machine/Calibration.lean: the CAL group (Tables 13.6, 13.7) and the fuse burn (R304 to R309).
-/

namespace Sys2Proof.Machine

/-- A command on an item: reason 1, then TILE_OFF where the item's tile is off (R310). -/
def onItem (pk : Packet) (s : State) (f : Nat → Nat → Verdict) : Verdict :=
  let kind := pk.u8 8
  let index := pk.u16 10
  if calCount kind ≤ index then badReason 1
  else if kind != 4 && !s.tileOn (itemTile kind index) then failWith St.tileOff
  else f kind index

/-! ## CAL_RUN -/

def specCalRun : OpSpec := { op := 0xB00, owner := true, rev1 := false, rsv := 2, used := [(8, 1, 0xFF), (10, 2, 0xFF)] }

/-- Start the run pair of an item that no converter holds. -/
def Cal.begin (key : Nat) (k : Key) (s : State) : State :=
  s.modCal key (fun i => { i with running := some (some k), since := some s.tb.elapsed })

/-- A run of a link, a head or a drive channel (R297 to R300). -/
def Cal.startOther (kind index : Nat) (k : Key) (s : State) : Verdict :=
  let key := calKey kind index
  if calRunning s key then failWith St.busyCal
  else if kind = 4 then
    (if (s.fed.link index).state != .up then badReason 5
     else .pend ((Cal.begin key k s).modLink index (fun l => { l with state := .hold, holdAt := s.tb.elapsed })))
  else if kind = 5 then
    (if s.pw.pstate == .quiet || (s.head index).state != .lit then badReason 5
     else .pend ((Cal.begin key k s).modHead index (fun h => { h with calFrames := 2 })))
  else .pend ((Cal.begin key k s).modDrive (index / 24) (index % 24) (fun d => { d with
      measured := 0, measureAt := s.tb.elapsed }))

def bodyCalRun (pk : Packet) (k : Key) (s : State) : Verdict :=
  onItem pk s fun kind index =>
    if glowing s then badReason 5
    else if kind = 3 then badReason 3
    else if kind < 3 then Cal.converters index (if kind = 2 then 3 else kind) k s
    else Cal.startOther kind index k s

/-- CAL_RUN (R295, R297 to R300). -/
def execCalRun (q : Nat) (pk : Packet) (s : State) : Host.Outcome State Fault Refusal :=
  .next (Cmd.run specCalRun bodyCalRun q pk s)

/-- CAL_MEASURE_TIMEOUT (R297, R300): 10 s of a run have passed without 256 measurements. -/
def execCalMeasureTimeout (channel : Nat) (s : State) : Host.Outcome State Fault Refusal :=
  .next (match (s.calItem (calKey 6 channel)).since with
    | some _ =>
      if channel < 96 && !measuredEnough s channel then
        Cal.abort (calKey 6 channel) (untilElapsed (((s.tile (channel / 24)).drive (channel % 24)).measureAt + 10000000000) s)
      else s
    | none => s)

/-! ## CAL_MODE, CAL_READ and CAL_SET_RREF -/

def specCalMode : OpSpec :=
  { op := 0xB01, owner := true, rev1 := false, rsv := 2, used := [(8, 1, 0xFF), (10, 2, 0xFF), (12, 1, 0xFF)] }

def bodyCalMode (pk : Packet) (_ : Key) (s : State) : Verdict :=
  onItem pk s fun kind index =>
    let m := pk.u8 12
    if 2 ≤ m then badReason 2
    else if kind = 3 || (kind = 2 && m = 1) then badReason 3
    else if calRunning s (calKey kind index) then failWith St.busyCal
    else .ok 0 (s.modCal (calKey kind index) (fun i => { i with nextMode := m }))

/-- CAL_MODE (R296). -/
def execCalMode (q : Nat) (pk : Packet) (s : State) : Host.Outcome State Fault Refusal :=
  .next (Cmd.run specCalMode bodyCalMode q pk s)

def specCalRead : OpSpec := { op := 0xB02, owner := false, rev1 := false, rsv := 2, used := [(8, 1, 0xFF), (10, 2, 0xFF)] }

/-- The RESULT of CAL_READ. -/
def calReadResult (i : CalItem) : Nat :=
  result [(5, 1, i.nextMode), (6, 1, i.source), (7, 1, bit i.pending.isSome + 2 * bit i.running.isSome),
    (8, 2, i.qualityA.toNat), (10, 2, i.qualityB.toNat), (12, 8, i.stamp.toNat)]

def bodyCalRead (pk : Packet) (_ : Key) (s : State) : Verdict :=
  onItem pk s fun kind index => .ok (calReadResult (s.calItem (calKey kind index))) s

/-- CAL_READ (Table 13.7). -/
def execCalRead (q : Nat) (pk : Packet) (s : State) : Host.Outcome State Fault Refusal :=
  .next (Cmd.run specCalRead bodyCalRead q pk s)

def specCalSetRref : OpSpec :=
  { op := 0xB03, owner := true, rev1 := false, rsv := 2, used := [(8, 1, 0xFF), (10, 2, 0xFF), (12, 8, 0xFF)] }

/-- A resistance lies within a range of ohms. -/
def ohmsWithin (lo hi : Rat) (r : F32) : Bool := ffinite r && decide (lo ≤ fnum r) && decide (fnum r ≤ hi)

def bodyCalSetRref (pk : Packet) (_ : Key) (s : State) : Verdict :=
  onItem pk s fun kind index =>
    let lo := pk.f32 12
    let hi := pk.f32 16
    if kind != 3 then badReason 1
    else if !ohmsWithin 999 1001 lo || !ohmsWithin 39960 40040 hi then badReason 4
    else .ok 0 (Cal.setPending 3 index { (s.calItem (calKey 3 index)).active with rlo := lo, rhi := hi } s)

/-- CAL_SET_RREF (R301, R303). -/
def execCalSetRref (q : Nat) (pk : Packet) (s : State) : Host.Outcome State Fault Refusal :=
  .next (Cmd.run specCalSetRref bodyCalSetRref q pk s)

/-! ## The fuse array -/

/-- What a commit takes of an item: its pending values or its active ones, and its CAL_MODE (R306, R308). -/
def CalItem.committed (i : CalItem) : CalVal := { i.pending.getD i.active with calMode := i.nextMode }

/-- The image of a commit (R308). -/
def calImage (s : State) : AMap CalVal := calKeys.foldl (fun m k => aset m k (s.calItem k).committed) []

/-- The lowest blank slot, 0 for generation 1. -/
def blankSlot (s : State) : Option Nat := (List.range 8).find? (fun i => !(vget s.cal.slots i {}).used)

/-- Energy in mJ at a HOLDMON reading; C is 0 until NV_HOLDUP has completed (R317). -/
def energyAt (s : State) (holdmon : Nat) : Rat :=
  match s.nv.holdup with
  | some h => holdEnergy h holdmon
  | none => 0

def specCalCommit : OpSpec :=
  { op := 0xB04, owner := true, rev1 := false, rsv := 2, used := [(8, 1, 0xFF), (10, 2, 0xFF)] }

def bodyCalCommit (m : Monitors) (_ : Packet) (k : Key) (s : State) : Verdict :=
  if glowing s then badReason 5
  else if s.cal.burn.isSome then failWith St.busyCal
  else
    match blankSlot s with
    | none => failWith St.fuseExhausted
    | some slot =>
      if m.vfuse < 1710 || 1890 < m.vfuse then badReason 7
      else if s.pw.pfail || s.pw.pfailInt then badReason 8
      else if energyAt s m.holdmon < (eReserve s : Rat) + 20 then failWith St.nvLowEnergy
      else
        .pend { s with
          pw := { s.pw with mon := m }
          cal := { s.cal with
            burn := some (k, slot, calImage s, if s.tb.valid then s.sec else 0)
            slots := vmod s.cal.slots slot (fun x => { x with used := true }) } }

/-- CAL_COMMIT (R308, R309), with the monitors as the command samples them. -/
def execCalCommit (q : Nat) (pk : Packet) (m : Monitors) (s : State) : Host.Outcome State Fault Refusal :=
  .next (Cmd.run specCalCommit (bodyCalCommit m) q pk s)

/-- The items in force: the links', and those of powered tiles; a gated tile's reload at TILE_POWER (R302). -/
def calInForce (s : State) : List Nat :=
  calKeys.filter (fun k => k / 256 == 4 || s.tileOn (itemTile (k / 256) (k % 256)))

/-- List every item in force as it stands, so that a newer fuse image leaves the active values as they are. -/
def Cal.materialise (s : State) : State :=
  { s with cal := { s.cal with items := (calInForce s).foldl (fun m k => aset m k (s.calItem k)) s.cal.items } }

/-- A burned slot that reads back right is the fuse image in force (R307, R308). -/
def Fuse.take (slot : Nat) (image : AMap CalVal) (stamp : Nat) (s : State) : State :=
  let s := Cal.materialise s
  { s with cal := { s.cal with
    slots := vset s.cal.slots slot (FuseSlot.burned (slot + 1) stamp image)
    gen := slot + 1 } }

/-- A word that is not `w`: the one given, or its complement where that one is `w`. -/
def otherThan (w v : Word) : Word := if v = w then ~~~v else v

/-- A burned slot that reads back wrong: what its CRC word holds is free, and does not match (R308, log 5). -/
def Fuse.spoil (slot : Nat) (image : AMap CalVal) (stamp : Nat) (s : State) : State :=
  let x := FuseSlot.burned (slot + 1) stamp image
  { s.drawn with cal := { s.cal with
    slots := vset s.cal.slots slot { x with crc := otherThan x.crc (Config.fp s.free) } } }

/-- FUSE_BURN_DONE (R308): the slot is read back. -/
def execFuseBurnDone (good : Bool) (s : State) : Host.Outcome State Fault Refusal :=
  .next (match s.cal.burn with
    | some (k, slot, image, stamp) =>
      let s := { s with cal := { s.cal with burn := none } }
      if good then Cmd.final k St.ok (result [(5, 1, slot + 1)]) (Fuse.take slot image stamp s)
      else Cmd.finalBad k 9 (Ev.raise 8 0 (packLe [(1, slot + 1)]) (Fuse.spoil slot image stamp s))
    | none => s)

def specFuseInfo : OpSpec := { op := 0xB05, owner := false, rev1 := false, rsv := 2, used := [(8, 1, 0xFF), (10, 2, 0xFF)] }

/-- The RESULT of FUSE_INFO. -/
def fuseInfoResult (s : State) : Nat :=
  let slots := s.cal.slots.toList
  let mask := (List.range 8).foldl (fun a i => a + bit (slotValid s i) * 2 ^ i) 0
  result [(5, 1, s.cal.gen), (6, 1, (slots.filter (·.used)).length), (7, 1, mask), (8, 6, Config.serial.toNat),
    (14, 8, ofLe (fuseIdent.take 8))]

def bodyFuseInfo (_ : Packet) (_ : Key) (s : State) : Verdict := .ok (fuseInfoResult s) s

/-- FUSE_INFO (Table 13.7). -/
def execFuseInfo (q : Nat) (pk : Packet) (s : State) : Host.Outcome State Fault Refusal :=
  .next (Cmd.run specFuseInfo bodyFuseInfo q pk s)

end Sys2Proof.Machine
end

