-- ==== Sys2Proof/Machine/Presence.lean ====
section
/-!
DEFINITION. Machine/Presence.lean: frame ports and the presence engine (R141 to R146).
-/

namespace Sys2Proof.Machine

/-! ## Ports -/

/-- Frame port `p` of tile `t`. -/
def State.port (s : State) (t p : Nat) : Port := vget (s.tile t).ports p {}

/-- Change a frame port. -/
def State.modPort (s : State) (t p : Nat) (f : Port → Port) : State :=
  s.modTile t (fun x => { x with ports := vmod x.ports p f })

/-- FRAME_PIX. -/
def Port.pix (p : Port) : Nat := field p.cfg0.toNat 31 18
/-- WIDTH. -/
def Port.width (p : Port) : Nat := field p.cfg0.toNat 17 10
/-- BG_SHIFT. -/
def Port.bgShift (p : Port) : Nat := field p.cfg0.toNat 9 6
/-- GLOW_EN. -/
def Port.glowEn (p : Port) : Bool := p.cfg0.getLsbD 5
/-- ENABLE. -/
def Port.enable (p : Port) : Bool := p.cfg0.getLsbD 4

/-- The code of STATE. -/
def PortState.code : PortState → Nat
  | .off => 0
  | .learning => 1
  | .run => 2
  | .mismatch => 3

/-- FP_STAT (Table 6.12). -/
def fpStat (s : State) (t p : Nat) : Nat :=
  let x := s.port t p
  x.state.code + bit x.unreliable * 2 ^ 4 + bit x.saturated * 2 ^ 5 + bit (!x.test.isEmpty) * 2 ^ 6
    + bit (glowing s && x.enable && x.glowEn) * 2 ^ 7 + x.missRun * 2 ^ 8

/-- A SOURCE of KIND 5 bound to a port; result `r`, or any. -/
def presencePoint (t p : Nat) (r : Option Nat) (src : BitVec 128) : Bool :=
  srcField src 0 1 == 5 && srcField src 1 1 == 8 * t + p && (match r with
    | some n => srcField src 2 1 == n
    | none => true)

/-- Set or clear UNRELIABLE of a port and of its points. -/
def Port.setUnreliable (t p : Nat) (b : Bool) (s : State) : State :=
  Points.flag (presencePoint t p none) (fun w => putBit w stUnreliable b) (s.modPort t p (fun x => { x with unreliable := b }))

/-- Enter LEARNING: the background is built anew, and results are UNRELIABLE meanwhile (Table 6.8). -/
def Port.learn (t p : Nat) (s : State) : State :=
  Port.setUnreliable t p true (s.modPort t p (fun x => { x with
    state := .learning, rightRun := 0, missRun := 0, bg := [], learned := [], age := [], prev := [] }))

/-! ## PRESENCE_CONFIG -/

/-- A command on port PORT of a tile: reason 1, then TILE_OFF. -/
def onPort (pk : Packet) (s : State) (f : Nat → Nat → Verdict) : Verdict :=
  let t := pk.u8 8
  if 4 ≤ t || 8 ≤ pk.u8 9 then badReason 1 else if !s.tileOn t then failWith St.tileOff else f t (pk.u8 9)

def specPresenceConfig : OpSpec :=
  { op := 0x430, owner := true, rev1 := false, rsv := 6,
    used := [(8, 5, 0xFF), (13, 1, 3), (14, 26, 0xFF)] }

/-- A value of PRESENCE_CONFIG is out of range (reason 4). -/
def presenceOut (pk : Packet) : Bool :=
  pk.u16 10 == 0 || decide (8192 < pk.u16 10) || pk.u8 12 == 0 || decide (128 < pk.u8 12) || decide (pk.u8 14 < 4)
    || decide (15 < pk.u8 14) || !ffinite (pk.f32 16) || !ffinite (pk.f32 20) || !ffinite (pk.f32 24)
    || !ffinite (pk.f32 28) || pk.u16 34 == 0

/-- Take the fields of a PRESENCE_CONFIG. -/
def Port.configured (x : Port) (pk : Packet) : Port :=
  { x with
    cfg0 := BitVec.ofNat 32 (pk.u16 10 * 2 ^ 18 + pk.u8 12 * 2 ^ 10 + pk.u8 14 * 2 ^ 6
      + field (pk.u8 13) 1 1 * 2 ^ 5 + field (pk.u8 13) 0 0 * 2 ^ 4)
    group := BitVec.ofNat 8 (pk.u8 15), gain := pk.f32 16, offset := pk.f32 20, fgDelta := pk.f32 24
    actDelta := pk.f32 28, minArea := pk.u16 32, maxArea := pk.u16 34, fgHold := pk.u32 36 }

def bodyPresenceConfig (pk : Packet) (_ : Key) (s : State) : Verdict :=
  onPort pk s fun t p =>
    if presenceOut pk then badReason 4
    else if pk.u16 10 % pk.u8 12 != 0 then badReason 8
    else
      let s := s.modPort t p (fun x => x.configured pk)
      if (pk.u8 13).testBit 0 then .ok 0 (Port.learn t p (s.modPort t p (fun x => { x with lastStart := none, second := [] })))
      else .ok 0 (s.modPort t p (fun x => { x with state := .off, missRun := 0, rightRun := 0, lastStart := none, second := [] }))

/-- PRESENCE_CONFIG (R141, R142). -/
def execPresenceConfig (q : Nat) (pk : Packet) (s : State) : Host.Outcome State Fault Refusal :=
  .next (Cmd.run specPresenceConfig bodyPresenceConfig q pk s)

/-! ## PRESENCE_READ, PRESENCE_TEST and PRESENCE_REBASE -/

def specPresenceRead : OpSpec := { op := 0x431, owner := false, rev1 := false, rsv := 6, used := [(8, 2, 0xFF)] }

def bodyPresenceRead (pk : Packet) (_ : Key) (s : State) : Verdict :=
  onPort pk s fun t p =>
    let x := s.port t p
    if rightOn s pk.ctx x.group.toNat = 0 then failWith St.noRight
    else if x.state == .off then badReason 3
    else .ok (result [(5, 4, fpStat s t p), (9, 1, x.count), (10, 2, x.activity), (12, 4, x.tmin.toNat),
      (16, 4, x.tmax.toNat)]) s

/-- PRESENCE_READ (R146). -/
def execPresenceRead (q : Nat) (pk : Packet) (s : State) : Host.Outcome State Fault Refusal :=
  .next (Cmd.run specPresenceRead bodyPresenceRead q pk s)

def specPresenceTest : OpSpec := { op := 0x432, owner := false, rev1 := false, rsv := 6, used := [(8, 2, 0xFF)] }

def bodyPresenceTest (pk : Packet) (k : Key) (s : State) : Verdict :=
  onPort pk s fun t p =>
    if (s.port t p).state == .off then badReason 3
    else .pend (s.modPort t p (fun x => { x with test := x.test ++ [k] }))

/-- PRESENCE_TEST (R146): the port is held for two frame times. -/
def execPresenceTest (q : Nat) (pk : Packet) (s : State) : Host.Outcome State Fault Refusal :=
  .next (Cmd.run specPresenceTest bodyPresenceTest q pk s)

def specPresenceRebase : OpSpec := { op := 0x433, owner := false, rev1 := false, rsv := 6, used := [(8, 2, 0xFF)] }

def bodyPresenceRebase (pk : Packet) (_ : Key) (s : State) : Verdict :=
  onPort pk s fun t p => if (s.port t p).state == .off then badReason 3 else .ok 0 (Port.learn t p s)

/-- PRESENCE_REBASE (Table 6.8). -/
def execPresenceRebase (q : Nat) (pk : Packet) (s : State) : Host.Outcome State Fault Refusal :=
  .next (Cmd.run specPresenceRebase bodyPresenceRebase q pk s)

/-! ## The engine (R143) -/

/-- One pixel: its temperature, background, age, and whether it is foreground after the frame. -/
structure Pix where
  bg : Rat
  age : Nat
  fg : Bool
deriving DecidableEq, Repr

/-- The update of one pixel of R143; `hold` and `dt` in ns. -/
def pixStep (delta : Rat) (hold dt shift : Nat) (t bg : Rat) (age : Nat) : Pix :=
  let fg := decide (delta < t - bg)
  if fg && (hold == 0 || decide (age < hold)) then { bg := bg, age := age + dt, fg := fg }
  else { bg := fnum (fof (bg + (t - bg) / ((2 ^ shift : Nat) : Rat))), age := 0, fg := fg }

/-- The pixel updates of a frame. -/
def pixSteps (f : Rat → Rat → Nat → Pix) : List Rat → List Rat → List Nat → List Pix
  | t :: ts, b :: bs, a :: as => f t b a :: pixSteps f ts bs as
  | t :: ts, b :: bs, [] => f t b 0 :: pixSteps f ts bs []
  | _, _, _ => []

/-- Pixels of a frame that touch one, itself among them (8-connected, rows of `w`). -/
def touching (w i j : Nat) : Bool :=
  let d (a b : Nat) : Nat := (a - b) + (b - a)
  decide (d (i / w) (j / w) ≤ 1) && decide (d (i % w) (j % w) ≤ 1)

/-- Grow a blob from the pixels reached last, until nothing joins or the fuel is spent. -/
def growBlob (w : Nat) : Nat → List Nat → List Nat → Nat → Nat × List Nat
  | 0, _, left, area => (area, left)
  | n + 1, edge, left, area =>
    let joins := left.filter (fun j => edge.any (fun i => touching w i j))
    if joins.isEmpty then (area, left)
    else growBlob w n joins (left.filter (fun j => !edge.any (fun i => touching w i j))) (area + joins.length)

/-- The areas of the 8-connected groups of some pixels. -/
def blobAreas (w : Nat) : Nat → List Nat → List Nat
  | 0, _ => []
  | n + 1, px =>
    match px with
    | [] => []
    | p :: r =>
      let g := growBlob w r.length [p] r 1
      g.1 :: blobAreas w n g.2

/-- The count of R143. -/
def blobCount (minArea maxArea : Nat) (areas : List Nat) : Nat :=
  min 63 ((areas.filter (fun a => decide (minArea ≤ a))).foldl (fun n a => n + ceilDiv a maxArea) 0)

/-- Numbers of the elements of a list that pass a test. -/
def indicesOf (p : Pix → Bool) : Nat → List Pix → List Nat
  | _, [] => []
  | i, x :: r => if p x then i :: indicesOf p (i + 1) r else indicesOf p (i + 1) r

/-- Pixels whose change from the previous frame exceeds ACT_DELTA. -/
def activePixels (delta : Rat) : List Rat → List Rat → Nat
  | t :: ts, p :: ps => bit (decide (delta < rabs (t - p))) + activePixels delta ts ps
  | _, _ => 0

/-- The background in use; one that was never built is free (log 5). -/
def Port.background (x : Port) (s : State) : List Rat :=
  if x.bg.length = x.pix then x.bg else (List.range x.pix).map (fun k => fnum (Config.fp (s.free + k)))

/-- The pixels of a frame after its update. -/
def Port.pixels (x : Port) (ts : List Rat) (dt : Nat) (s : State) : List Pix :=
  pixSteps (pixStep (fnum x.fgDelta) (x.fgHold * 1000000000) dt x.bgShift) ts (x.background s) x.age

/-- The count that the engine finds in some pixels. -/
def Port.countIn (x : Port) (px : List Pix) : Nat :=
  let on := indicesOf (fun p => p.fg) 0 px
  blobCount x.minArea x.maxArea (blobAreas x.width on.length on)

/-- The temperatures of a frame's pixels (R141). -/
def Port.temps (x : Port) (pixels : List (BitVec 16)) : List Rat :=
  pixels.map (fun v => fnum x.gain * (v.toNat : Rat) + fnum x.offset)

/-- The engine meets the known count on the built-in synthetic frame (R146); its background and ages stay. -/
def Port.passes (x : Port) (s : State) : Bool :=
  let ts := x.temps ((List.range x.pix).map (Config.synthPixel x.pix x.width))
  x.countIn (x.pixels ts 0 s) == Config.synthCount x.pix x.width

/-- PRESENCE_TEST_DONE (R146): the oldest test of the tile's lowest port under test replies whether the engine has met the
synthetic frame's count, and the port is released after its last one. -/
def execPresenceTestDone (tile : Nat) (s : State) : Host.Outcome State Fault Refusal :=
  .next (match (List.range 8).find? (fun p => !(s.port tile p).test.isEmpty) with
    | some p =>
      match (s.port tile p).test with
      | k :: rest =>
        Cmd.final k St.ok (result [(5, 1, bit ((s.port tile p).passes s))])
          (s.modPort tile p (fun x => { x with test := rest }))
      | [] => s
    | none => s)

/-- Process a right frame in RUN (R143); `dt` is the frame time in ns. -/
def Port.process (x : Port) (ts : List Rat) (dt : Nat) (s : State) : Port :=
  let px := x.pixels ts dt s
  let n := x.countIn px
  let act := if x.prev.isEmpty then 0 else
    roundNat ((activePixels (fnum x.actDelta) ts x.prev * 1000 : Nat) / (x.pix : Rat))
  let lo := ts.foldl rmin (ts.headD 0)
  let hi := ts.foldl rmax (ts.headD 0)
  { x with
    bg := px.map (fun p => p.bg), age := px.map (fun p => p.age), prev := ts
    second := x.second ++ [(n, act, lo, hi)] }

/-! ## Frames (R142) -/

/-- The port runs: enabled, its tile powered, and in GLOW only with GLOW_EN (R144). -/
def portRuns (s : State) (t p : Nat) : Bool :=
  s.tileOn t && (s.port t p).state != .off && (!glowing s || (s.port t p).glowEn)

/-- A frame of the wrong length: discarded and counted; the eighth in a row enters MISMATCH. -/
def Port.wrongFrame (t p : Nat) (short : Bool) (s : State) : State :=
  let old := (s.port t p).state
  let s := s.modPort t p (fun x => { x with
    shorts := if short then x.shorts + 1 else x.shorts
    longs := if short then x.longs else x.longs + 1
    missRun := min 8 (x.missRun + 1)
    rightRun := if x.state == .mismatch then 0 else x.rightRun })
  if (s.port t p).missRun = 8 && old != .mismatch then
    Ev.raise (tileSource t 5) 0 (packLe [(1, p)])
      (Port.setUnreliable t p true (s.modPort t p (fun x => { x with state := .mismatch, rightRun := 0 })))
  else s

/-- The background that the frames of LEARNING build, pixel by pixel (R142; how they do is free, log 5). -/
def learnedBg (pix : Nat) (frames : List (List Rat)) : List Rat :=
  (List.range pix).map (fun k => fnum (Config.background (frames.reverse.map (fun f => f.getD k 0))))

/-- A frame of the right length. -/
def Port.rightFrame (t p : Nat) (ts : List Rat) (dt : Nat) (s : State) : State :=
  let s := s.modPort t p (fun x => { x with frames := x.frames + 1, missRun := 0 })
  match (s.port t p).state with
  | .off => s
  | .learning =>
    if 32 ≤ (s.port t p).rightRun + 1 then
      Port.setUnreliable t p false (s.modPort t p (fun x => { x with
        state := .run, rightRun := 0, bg := learnedBg x.pix (ts :: x.learned), learned := [], age := [], prev := ts }))
    else s.modPort t p (fun x => { x with rightRun := x.rightRun + 1, learned := ts :: x.learned, prev := ts })
  | .run => { s with free := s.free + (s.port t p).pix }.modPort t p (fun x => x.process ts dt s)
  | .mismatch =>
    if 16 ≤ (s.port t p).rightRun + 1 then
      Port.setUnreliable t p false (s.modPort t p (fun x => { x with state := .run, rightRun := 0 }))
    else s.modPort t p (fun x => { x with rightRun := x.rightRun + 1 })

/-- A whole frame that started at elapsed time `start` (R142, Table 6.8). -/
def Port.frame (t p start bits : Nat) (pixels : List (BitVec 16)) (s : State) : State :=
  let x := s.port t p
  let early := match x.lastStart with
    | some b => decide (start < b + 33300000)
    | none => false
  let s := s.modPort t p (fun x => { x with lastStart := some start })
  if early then s.modPort t p (fun x => { x with overruns := x.overruns + 1 })
  else if bits < 16 * x.pix then Port.wrongFrame t p true s
  else if 16 * x.pix < bits then Port.wrongFrame t p false s
  else
    let ts := x.temps (pixels.take x.pix)
    let ts := ts ++ List.replicate (x.pix - ts.length) (fnum x.offset)
    Port.rightFrame t p ts (match x.lastStart with
      | some b => start - b
      | none => 0) s

/-- FRAME_RECEIVED (R142): a port under test takes no frame, and a port that does not run neither counts nor takes one. -/
def execFrameReceived (port startAgoNs bits : Nat) (pixels : List (BitVec 16)) (s : State) :
    Host.Outcome State Fault Refusal :=
  .next (whenever (portRuns s (port / 8) (port % 8) && (s.port (port / 8) (port % 8)).test.isEmpty)
    (Port.frame (port / 8) (port % 8) (s.tb.elapsed - startAgoNs) bits pixels) s)

/-! ## Seconds (R144) -/

/-- Put a number into a rising list. -/
def insertNat (n : Nat) : List Nat → List Nat
  | [] => [n]
  | m :: r => if n ≤ m then n :: m :: r else m :: insertNat n r

/-- A list in rising order. -/
def sortNat (l : List Nat) : List Nat := l.foldl (fun a n => insertNat n a) []

/-- The median; of an even number of counts, which of the middle two is free (log 5). -/
def medianOf (l : List Nat) (pick : Bool) : Nat :=
  let v := sortNat l
  let n := v.length
  (v[if n % 2 = 1 || pick then n / 2 else n / 2 - 1]?).getD 0

/-- Form the results of a port's second. -/
def Port.results (x : Port) (s : State) : Port :=
  let counts := x.second.map (·.1)
  let n := x.second.length
  { x with
    given := true
    count := medianOf counts (Config.bool s.free)
    activity := roundNat (((x.second.map (·.2.1)).foldl (· + ·) 0 : Nat) / (n : Rat))
    tmin := fof ((x.second.map (·.2.2.1)).foldl rmin ((x.second.map (·.2.2.1)).headD 0))
    tmax := fof ((x.second.map (·.2.2.2)).foldl rmax ((x.second.map (·.2.2.2)).headD 0))
    saturated := counts.any (fun c => c == 63)
    second := [] }

/-- The results of a port with their numbers (Table 6.10), none before its first ones. -/
def Port.outcomes (x : Port) : List (Nat × SrcVal) :=
  if x.given then
    [(0, .uns (BitVec.ofNat 32 x.count)), (1, .uns (BitVec.ofNat 32 x.activity)), (2, .fp x.tmin), (3, .fp x.tmax)]
  else []

/-- Write a port's results to its points; before its first results it has none to give (R378). -/
def Port.deliver (t p : Nat) (s : State) : State :=
  let x := s.port t p
  x.outcomes.foldl (fun s r => Points.deliver (presencePoint t p (some r.1)) (some r.2) { unreliable := x.unreliable } s) s

/-- The latches of the widgets that show a point, fed with a result that the record itself does not take yet (R284). -/
def Point.feed (id : Nat) (v : SrcVal) (f : SrcFlags) (s : State) : State :=
  match s.point id with
  | some p => if pointSound s id p then Panel.latch id (Point.resolve s (p.withSource (some v) f)) s else s
  | none => s

/-- In GLOW a port with GLOW_EN feeds the latches of its points (R284). -/
def Port.feed (t p : Nat) (s : State) : State :=
  let x := s.port t p
  x.outcomes.foldl (fun s r => (boundTo s (presencePoint t p (some r.1))).foldl
    (fun s id => Point.feed id r.2 { unreliable := x.unreliable } s) s) s

/-- The end of a second on one port: results from its right frames, delivered except in GLOW, where they feed the latches
alone; without one the results are
kept and UNRELIABLE is set. In GLOW a count of at least PRESENCE_MIN is a wake cause (Table 15.7). -/
def Port.endSecond (t p : Nat) (s : State) : State :=
  if !portRuns s t p then s
  else if (s.port t p).second.isEmpty then Port.setUnreliable t p true s
  else
    let s := (s.modPort t p (fun x => x.results s)).drawn
    let s := Port.setUnreliable t p ((s.port t p).state != .run) s
    if glowing s then
      let s := Port.feed t p s
      (if s.pw.presenceMin ≤ (s.port t p).count then Power.wake wakePresence (8 * t + p) s else s)
    else Port.deliver t p s

/-- The frame ports of the chip. -/
def allPorts : List (Nat × Nat) := (List.range 4).flatMap (fun t => (List.range 8).map (fun p => (t, p)))

/-- PRESENCE_SECOND (R144): at each whole TB second. -/
def execPresenceSecond (s : State) : Host.Outcome State Fault Refusal :=
  .next (whenever s.live (fun s =>
    let s := untilTb (s.mt.presenceSec * 1000000000) s
    let s := { s with mt := { s.mt with presenceSec := s.sec + 1 } }
    allPorts.foldl (fun s tp => Port.endSecond tp.1 tp.2 s) s) s)

/-- On leaving GLOW: ports that ran write their results, the others enter LEARNING (R144). -/
def Port.afterGlow (t p : Nat) (s : State) : State :=
  let x := s.port t p
  if !s.tileOn t || x.state == .off then s
  else if x.glowEn then Port.deliver t p s
  else Port.learn t p (s.modPort t p (fun x => { x with lastStart := none, second := [] }))

end Sys2Proof.Machine
end

