-- ==== Sys2Proof/Machine/PanelLink.lean ====
section
/-!
DEFINITION. Machine/PanelLink.lean: the panel link (R266 to R268): packets, their header and payload (Table 12.1), what a
frame is made of (R269, R271, R281), and the symbols on the six lanes.
-/

namespace Sys2Proof.Machine

/-! ## Packets (R267, Table 12.1) -/

/-- PTYPE of each packet. -/
def ptEnum : Nat := 1
def ptRegWrite : Nat := 2
def ptFrameStart : Nat := 3
def ptRow : Nat := 4
def ptFrameEnd : Nat := 5

/-- DRIVER of a packet for every driver. -/
def allDrivers : Nat := 0xFF

/-- The 12-byte header, HCRC over its first eleven bytes. -/
def packetHeader (ptype driver row count fseq flags : Nat) : List Byte :=
  let b := leBytes 1 ptype ++ leBytes 1 driver ++ leBytes 2 row ++ leBytes 2 count ++ leBytes 1 fseq ++ leBytes 1 flags
    ++ [0, 0, 0]
  b ++ [crc8 b]

/-- The ENUM packet of a link start: the head sends number 0 (R266). -/
def enumPacket (fseq : Nat) : List Byte := packetHeader ptEnum 0 0 0 fseq 0

/-- A driver register is written. -/
def regWritePacket (fseq driver register value : Nat) : List Byte := packetHeader ptRegWrite driver register value fseq 0

/-- 14-bit codes side by side, the first in the low bits. -/
def packCodes : List Nat → Nat
  | [] => 0
  | c :: r => c % 2 ^ 14 + 2 ^ 14 * packCodes r

/-- The payload of a ROW packet: 42 bits a column, red, green, then blue. -/
def rowPayload (columns : List (Nat × Nat × Nat)) : List Byte :=
  leBytes (ceilDiv (42 * columns.length) 8) (packCodes (columns.flatMap (fun c => [c.1, c.2.1, c.2.2])))

/-! ## Pixels (R269, R271, R281) -/

/-- Red, green and blue of a pixel; bits 31:30 are ignored. -/
def pixelColours (p : Nat) : Nat × Nat × Nat := (field p 29 20, field p 19 10, field p 9 0)

/-- A pixel of the host's frame. -/
def Scene.hostPixel (v : Scene) (hactive x y : Nat) : Nat := ofLe (memRead v.pixels (v.buf * 2 ^ 32 + 4 * (y * hactive + x)) 4)

/-- The colour index of the glow area at a place of the panel, where it covers it. -/
def Scene.glowIndex (v : Scene) (x y : Nat) : Option Nat :=
  if v.glow && v.gx ≤ x && x < v.gx + v.gw && v.gy ≤ y && y < v.gy + v.gh then
    let i := (y - v.gy) * v.gw + (x - v.gx)
    let b := (memGet v.bitmap (i / 2)).toNat
    some (if i % 2 = 0 then field b 3 0 else field b 7 4)
  else none

/-- The pixel at a place: the glow area on black, or over the host's frame with index 0 transparent. -/
def Scene.pixel (v : Scene) (hactive x y : Nat) : Nat :=
  let colour (i : Nat) : Nat := ofLe (memRead v.palette (4 * i) 4)
  match v.glowIndex x y with
  | some i => if v.host && i = 0 then v.hostPixel hactive x y else colour i
  | none => if v.host then v.hostPixel hactive x y else 0

/-- The 14-bit current code of a 10-bit colour value, by the band in force (R271). -/
def Scene.code (v : Scene) (colour value : Nat) : Nat := (aget v.gamma.table ((v.band * 3 + colour) * 1024 + value)).getD 0

/-- The three current codes of a pixel; a frame of code 0 has no scene. -/
def SentFrame.codes (f : SentFrame) (x y : Nat) : Nat × Nat × Nat :=
  match f.scene with
  | some v =>
    let p := pixelColours (v.pixel f.hactive x y)
    (v.code 0 p.1, v.code 1 p.2.1, v.code 2 p.2.2)
  | none => (0, 0, 0)

/-! ## A frame (R268) -/

/-- Columns that driver `d` serves (R264). -/
def SentFrame.columns (f : SentFrame) (d : Nat) : Nat := min 384 (f.hactive - 384 * d)

/-- The packet of row `y` for driver `d`. -/
def SentFrame.row (f : SentFrame) (y d : Nat) : List Byte :=
  let n := f.columns d
  packetHeader ptRow d y n f.fseq 0 ++ rowPayload ((List.range n).map (fun i => f.codes (384 * d + i) y))

/-- FLAGS of FRAME_END: EMIT, or BLACK. -/
def SentFrame.flags (f : SentFrame) : Nat := if f.scene.isSome then 1 else 2

/-- Every packet of a frame, in order. -/
def SentFrame.packets (f : SentFrame) : List (List Byte) :=
  f.irefs.map (fun w => regWritePacket f.fseq w.1 (Config.irefRegister w.2.1) w.2.2)
    ++ [packetHeader ptFrameStart allDrivers 0 0 f.fseq 0]
    ++ (List.range f.vactive).flatMap (fun y => (List.range f.drivers).map (f.row y))
    ++ [packetHeader ptFrameEnd allDrivers 0 0 f.fseq f.flags]

/-! ## The lanes (R266) -/

/-- An 8b/10b symbol. -/
inductive LaneSymbol where
  | k28_5
  | k27_7
  | k29_7
  | data (b : Byte)
deriving DecidableEq, Repr

/-- The same control symbol on all six lanes. -/
def onAllLanes (x : LaneSymbol) : Vector LaneSymbol 6 := Vector.replicate 6 x

/-- A packet on the lanes, one instant an entry: byte n on lane n mod 6, padded with 0x00. -/
def packetLanes (p : List Byte) : List (Vector LaneSymbol 6) :=
  onAllLanes .k27_7
    :: (List.range (ceilDiv p.length 6)).map (fun i => Vector.ofFn (fun (l : Fin 6) => .data (p.getD (6 * i + l.val) 0)))
    ++ [onAllLanes .k29_7]

/-- Symbol instants in the 100 us of K28.5 of a link start: ten bits each at 3.0 Gb/s. -/
def startInstants : Nat := 100 * 3000 / 10

/-- What the lanes carry: a link start, or the packets of a frame with K28.5 between them, which goes on until the next
(how often it stands between two packets is timing). -/
def PanelLink.lanes : PanelLink → List (Vector LaneSymbol 6)
  | .quiet => []
  | .start n => List.replicate startInstants (onAllLanes .k28_5) ++ packetLanes (enumPacket n) ++ [onAllLanes .k28_5]
  | .frame f => f.packets.flatMap (fun p => packetLanes p ++ [onAllLanes .k28_5])

/-! ## Sending a frame -/

/-- The reference current that driver `d` needs for a colour: the code of the band in force and of its place, corrected by
the driver's reference calibration (R271). -/
def irefFor (x : Head) (c : CalVal) (d colour : Nat) : Nat :=
  Config.irefCorrected c.mode c.trims d colour ((aget x.gamma.iref ((x.bandShown * 3 + colour) * 7 + d)).getD 0)

/-- The reference currents that change: driver, colour and value; places at or beyond DRIVERS are not sent. -/
def irefChanges (x : Head) (c : CalVal) (drivers : Nat) : List (Nat × Nat × Nat) :=
  ((List.range drivers).flatMap (fun d => (List.range 3).map (fun k => (d, k, irefFor x c d k)))).filter
    (fun w => aget x.irefSent (3 * w.1 + w.2.1) != some w.2.2)

end Sys2Proof.Machine
end

