-- ==== Sys2Proof/Machine/PanelOps.lean ====
section
/-!
DEFINITION. Machine/PanelOps.lean: panel heads: registers (Table 12.10), modes (R265), rail sequences (R273 to R275),
FAULT, SAFE and CRACKED (R276 to R279), and the frame start (R268).
-/

namespace Sys2Proof.Machine

/-! ## Registers (Table 12.10) -/

/-- GROUP. -/
def Head.group (h : Head) : Nat := field h.cfg0.toNat 31 24
/-- DRIVERS. -/
def Head.drivers (h : Head) : Nat := field h.cfg0.toNat 23 21
/-- VBLANK. -/
def Head.vblank (h : Head) : Nat := field h.cfg0.toNat 19 12
/-- DIS_MS in ns. -/
def Head.disNs (h : Head) : Nat := field h.cfg0.toNat 11 8 * 10000000
/-- CRACK_POS. -/
def Head.crackPos (h : Head) : Nat := field h.cfg0.toNat 7 0
/-- HACTIVE. -/
def Head.hactive (h : Head) : Nat := field h.cfg1.toNat 31 20
/-- VACTIVE. -/
def Head.vactive (h : Head) : Nat := field h.cfg1.toNat 19 8
/-- CRACK_RMAX. -/
def Head.crackRmax (h : Head) : Nat := field h.cfg2.toNat 31 16
/-- CRACK_LEN_CM. -/
def Head.crackLen (h : Head) : Nat := field h.cfg2.toNat 15 0
/-- CRACK_LEAD_CM. -/
def Head.crackLead (h : Head) : Nat := field h.cfg3.toNat 31 16
/-- A small configuration has at most 2 drivers (R264). -/
def Head.small (h : Head) : Bool := decide (h.drivers ≤ 2)

/-- The code of STATE. -/
def HeadState.code : HeadState → Nat
  | .off => 0
  | .rising => 1
  | .lit => 2
  | .falling => 3
  | .cracked => 4
  | .safe => 5
  | .fault => 6

/-- PH_STAT; SMALL reads 0, its reset value, while no drivers are configured (log 32). -/
def phStat (s : State) (h : Nat) : Nat :=
  let x := s.head h
  bit (s.calItem (calKey 5 h)).pending.isSome + bit x.flt * 2 ^ 1 + bit x.lock * 2 ^ 2 + x.pg.toNat * 2 ^ 3
    + bit x.glowShown * 2 ^ 6 + bit x.flip.isSome * 2 ^ 7 + bit x.gammaLate * 2 ^ 8 + bit x.band.held * 2 ^ 9
    + x.bandShown * 2 ^ 10 + x.state.code * 2 ^ 12 + bit (x.small && x.drivers != 0) * 2 ^ 15

/-- Touch scanning goes on: enabled, and in GLOW only with GLOW_SCAN (R285). -/
def touchScans (s : State) (h : Nat) : Bool :=
  s.tileOn h && (s.head h).touchOn && (!glowing s || (s.head h).glowScan)

/-- PH_TSTAT. -/
def phTstat (s : State) (h : Nat) : Nat :=
  let x := s.head h
  bit (touchScans s h) * 2 ^ 1 + bit x.fromProfile * 2 ^ 2 + bit (x.nodes.any (·.stuck)) * 2 ^ 3
    + (x.nodes.filter (·.touched)).length * 2 ^ 16

/-- The source of an event of head `h`. -/
def headSource (h n : Nat) : Nat := 224 + 8 * h + n

/-! ## Modes (R265, R270) -/

/-- Bytes of a driver's packet of a row. -/
def rowPacket (columns : Nat) : Nat := ceilDiv (14 + ceilDiv (columns * 21) 4) 6 * 6

/-- Bytes of a row of a mode. -/
def rowBytes (h : Head) : Nat :=
  (h.drivers - 1) * rowPacket 384 + rowPacket (h.hactive - 384 * (h.drivers - 1))

/-- The mode lies within the limits and the link. -/
def modeOk (h : Head) : Bool :=
  !(h.rate == 60 && (decide (2560 < h.hactive) || decide (1600 < h.vactive)))
    && !(h.rate == 120 && (decide (1920 < h.hactive) || decide (1200 < h.vactive)))
    && decide (h.hactive ≤ 384 * h.drivers) && decide (384 * (h.drivers - 1) < h.hactive)
    && decide (8 ≤ h.vblank) && decide (rowBytes h * h.rate * (h.vactive + h.vblank) ≤ 1620000000)

/-- Bytes of a head's three frame buffers. -/
def bufferBytes (h : Head) : Nat := 3 * h.hactive * h.vactive * 4

/-- The panel region of LPDDR5 in bytes (R64). -/
def panelRegion (s : State) : Nat := (1024 * s.pw.gib - 1984) * 2 ^ 20

/-- The other heads leave room for a head's buffers. -/
def buffersFit (s : State) (h : Nat) (x : Head) : Bool :=
  decide (((List.range 4).filter (fun k => k != h && (s.head k).buffers)).foldl (fun a k => a + bufferBytes (s.head k))
    (bufferBytes x) ≤ panelRegion s)

/-! ## Rails -/

/-- A head whose logic rail falls loses lock, its drivers' fault and that power-good, its lanes fall quiet and its drivers
lose what they were sent; each other rail loses its power-good. -/
def Head.rails (h : Head) (rl rg re : Bool) : Head :=
  let pg := h.pg &&& (BitVec.ofNat 3 (bit rl + 2 * bit rg + 4 * bit re))
  { h with
    rl := rl, rg := rg, re := re, pg := pg, lock := h.lock && rl, flt := h.flt && rl
    link := if rl then h.link else .quiet, irefSent := if rl then h.irefSent else [] }

/-- Take the next step of a sequence. -/
def Panel.step (h : Nat) (st : RailStep) (s : State) : State :=
  s.modHead h (fun x => { x with step := st, stepAt := s.tb.elapsed })

/-- The PANEL_POWER that waits gets its final reply. -/
def Panel.endPower (h : Nat) (st : Byte) (res : Nat) (s : State) : State :=
  let k := (s.head h).powerKey
  Cmd.finalOpt k st res (s.modHead h (fun x => { x with powerKey := none }))

/-- The same, with a reason. -/
def Panel.endPowerBad (h reason : Nat) (s : State) : State := Panel.endPower h St.badParam (result [(5, 1, reason)]) s

/-- A head leaves LIT: a reference calibration ends with reason 6 (R297). A crack check that is being measured goes on into
a power-off sequence (Table 12.13). -/
def Panel.leaveLit (h : Nat) (s : State) : State :=
  Cal.abort (calKey 5 h) (s.modHead h (fun x => { x with calFrames := 0 }))

/-- A head leaves light otherwise: no crack check goes on either. -/
def Panel.leaveLight (h : Nat) (s : State) : State := Panel.leaveLit h (s.modHead h (fun x => { x with crackRun := false }))

/-- Lower the emission rail, and the others of a small configuration, and discharge (Tables 12.3, 12.5). -/
def Panel.discharge (h : Nat) (s : State) : State :=
  let s := s.modHead h (fun x => { (if x.small then x.rails false false false else x.rails x.rl x.rg false) with dis := true })
  Panel.step h .discharge s

/-- OFF is reached. -/
def Panel.reachOff (h : Nat) (s : State) : State :=
  Panel.endPower h St.ok 0 (s.modHead h (fun x => { x with
    state := if x.state == .fault then .fault else .off, step := .none, glowShown := false }))

/-- Enter FAULT for a cause: 0 PANEL_RAIL, 1 PANEL_LINK, 2 PANEL_DRIVER (R276). The gate and logic rails follow. -/
def Panel.fault (h cause : Nat) (s : State) : State :=
  let pg := (s.head h).pg.toNat
  let s := Panel.leaveLight h s
  let s := s.modHead h (fun x => { x.rails x.rl x.rg false with state := .fault, dis := true, glowShown := false })
  let s := Panel.step h .discharge s
  let s := Ev.raise (headSource h cause) 0 (if cause = 0 then packLe [(1, pg)] else 0) s
  Panel.endPowerBad h 4 s

/-- Enter SAFE at T_CRIT (R277). -/
def Panel.safe (h : Nat) (s : State) : State :=
  let x := s.head h
  if s.tileOn h && (x.state == .rising || x.state == .lit || x.state == .falling) then
    let s := Panel.leaveLight h s
    let s := s.modHead h (fun x => { x.rails x.rl x.rg false with
      state := .safe, dis := true, step := .none, glowShown := false })
    Panel.endPowerBad h 9 s
  else s

/-- Enter CRACKED: emission off, discharge on, logic and gate rails up (R279). -/
def Panel.crack (h : Nat) (s : State) : State :=
  let s := Panel.leaveLight h s
  s.modHead h (fun x => { x.rails x.rl x.rg false with state := .cracked, dis := true, step := .none, glowShown := false })

/-- The clear step of a large configuration, two frames at code 0; a small one goes to its crack check (R277). -/
def Panel.clearOrCheck (h : Nat) (s : State) : State :=
  Panel.step h (if (s.head h).small then .crack else .clear 2) s

/-- PANEL_POWER OP 1 from t0 (Tables 12.2, 12.4). -/
def Panel.powerOn (h : Nat) (s : State) : State :=
  let s := s.modHead h (fun x => { (if x.small then x.rails true true true else x.rails true false false) with
    state := .rising, dis := false })
  Panel.step h (if (s.head h).small then .allPg else .logicPg) s

/-- PANEL_POWER OP 1 from SAFE (R277). -/
def Panel.resume (h : Nat) (s : State) : State :=
  Panel.clearOrCheck h (s.modHead h (fun x => { x with state := .rising, dis := false }))

/-- The off sequence without a black frame, from the rails that are up. -/
def Panel.offNow (h : Nat) (s : State) : State :=
  let s := s.modHead h (fun x => { x with state := .falling, glowShown := false })
  if (s.head h).small || (s.head h).rg then Panel.discharge h s
  else Panel.step h .logicWait s

/-! ## Steps -/

/-- How long a step may or must take, in ns. -/
def stepNs (x : Head) : Nat :=
  match x.step with
  | .none => 0
  | .allPg => 5000000
  | .logicPg => 5000000
  | .lock => 1100000
  | .gateWait => 1000000
  | .gatePg => 5000000
  | .clear _ => 0
  | .crack => 1000000
  | .emitPg => 10000000
  | .firstFrame => 0
  | .black => 0
  | .blackEnd => x.frameNs
  | .discharge => x.disNs
  | .logicWait => 1000000

/-- A step waits for a power-good input. -/
def awaitsPg (x : RailStep) : Bool := x == .allPg || x == .logicPg || x == .gatePg || x == .emitPg

/-- The power-good inputs that a step awaits are all high. -/
def pgReached (x : Head) : Bool :=
  match x.step with
  | .allPg => x.pg == 7
  | .logicPg => x.pg.getLsbD 0
  | .gatePg => x.pg.getLsbD 1
  | .emitPg => x.pg.getLsbD 2
  | _ => false

/-- The link start: K28.5 for 100 us, then ENUM (R266). -/
def Panel.linkStart (h : Nat) (s : State) : State :=
  Panel.step h .lock (s.modHead h (fun x => { x with link := .start (x.frames.toNat % 256) }))

/-- A power-good that was awaited has come. -/
def Panel.pgNext (h : Nat) (s : State) : State :=
  match (s.head h).step with
  | .allPg => Panel.linkStart h s
  | .logicPg => Panel.linkStart h s
  | .gatePg => Panel.step h (.clear 2) s
  | .emitPg => Panel.step h .firstFrame s
  | _ => s

/-- A crack check judged in a rail sequence before emission (R273, R279). -/
def Panel.lightCheck (h : Nat) (pass : Bool) (s : State) : State :=
  if !pass then Panel.endPowerBad h 8 (Panel.crack h s)
  else if (s.head h).re then Panel.step h .firstFrame s
  else Panel.step h .emitPg (s.modHead h (fun x => { x.rails x.rl x.rg true with dis := false }))

/-- Raise PANEL_CRACK. -/
def Panel.crackEvent (h ohms : Nat) (s : State) : State := Ev.raise (headSource h 3) 0 (packLe [(4, ohms)]) s

/-- A crack check of a lit head has failed; in a power-off sequence the emission rail falls at once and the sequence
finishes (R279, Table 12.13). -/
def Panel.litCheckFails (h ohms : Nat) (s : State) : State :=
  let x := s.head h
  let s :=
    if x.state == .falling || x.step == .black then
      (if x.step == .black || x.step == .blackEnd then
         Panel.discharge h ((Panel.leaveLit h s).modHead h (fun x => { x with state := .falling, glowShown := false }))
       else s)
    else Panel.crack h s
  Panel.crackEvent h ohms s

/-- A head has power: its tile is on, or is being gated while the head's off sequence runs. -/
def headPowered (s : State) (h : Nat) : Bool :=
  match vget s.tpow h .gated with
  | .on => true
  | .gating _ => true
  | _ => false

/-! ## The frame start (R268, R269, R271, R272, R281) -/

/-- Frames are scanned out: a lit head, and the frames of the power-on sequence. -/
def scansFrames (x : Head) : Bool :=
  x.state == .lit || (x.state == .rising && (match x.step with
    | .clear _ => true
    | .firstFrame => true
    | _ => false))

/-- The flip that is due takes force, and so ends every flip it replaced. -/
def Panel.flipNow (h : Nat) (s : State) : State :=
  let x := s.head h
  match x.flip with
  | some f =>
    let s := s.modHead h (fun x => { x with buf := f.1, flip := none, flipped := [] })
    (x.flipped ++ [f.2]).foldl (fun s k => Cmd.final k St.ok (result [(5, 1, x.frames.toNat % 256)]) s) s
  | none => s

/-- A gamma commit swaps, or is late at its first frame start. -/
def Panel.gammaNow (h : Nat) (s : State) : State :=
  let x := s.head h
  match x.gammaJob with
  | some (k, g, true) =>
    let st := if x.gammaLate then St.shadowLate else St.ok
    Cmd.final k st (result [(5, 4, (gammaCrc g).toNat)])
      (s.modHead h (fun x => { x with gamma := g, gammaJob := none, gammaLate := false }))
  | some (_, _, false) =>
    if x.gammaLate then s
    else Ev.raise (headSource h 4) 0 0 (s.modHead h (fun x => { x with gammaLate := true }))
  | none => s
where
  /-- CRC-32C of a bank: for each band and colour its 1,024 entries, then its seven IREF codes, 2 bytes each (log 23). -/
  gammaCrc (g : Gamma) : Word :=
    crc32c ((List.range 12).flatMap (fun i =>
      (List.range 1024).flatMap (fun e => leBytes 2 ((aget g.table (i * 1024 + e)).getD 0))
        ++ (List.range 7).flatMap (fun p => leBytes 2 ((aget g.iref (i * 7 + p)).getD 0))))

/-- A change of the glow area takes force. -/
def Head.takeGlow (x : Head) : Head :=
  match x.glowNew with
  | some (o, gx, gy, gw, gh) => { x with overlay := o, gx := gx, gy := gy, gw := gw, gh := gh, glowNew := none }
  | none => x

/-- A frame shows the glow area on black and not the host's frame: in QUIET and GLOW, and on the way there; an upload under
way at entry to GLOW comes first (R281, Tables 15.3, 12.13). -/
def glowFrame (s : State) (x : Head) : Bool :=
  match s.pw.trans with
  | some t =>
    if t.target = 0 then s.pw.pstate == .glow
    else if t.target = 1 then true
    else s.pw.pstate != .run || x.uploads.isEmpty
  | none => s.pw.pstate != .run

/-- The glow area lies on the frame: there, and in RUN with OVERLAY (R281). -/
def glowOnPanel (s : State) (x : Head) : Bool := x.overlay || glowFrame s x

/-- What a frame shows as it starts. -/
def sceneNow (s : State) (x : Head) : Scene :=
  { host := !glowFrame s x, glow := glowOnPanel s x, buf := x.buf, pixels := x.pixels, gx := x.gx, gy := x.gy, gw := x.gw
    gh := x.gh, bitmap := x.bitmap, palette := x.palette, gamma := x.gamma, band := x.bandShown }

/-- Send a frame: the REG_WRITEs of what has changed, and the frame, black or of what the head shows (R268). -/
def Panel.send (h : Nat) (black : Bool) (s : State) : State :=
  let w := irefChanges (s.head h) (s.calItem (calKey 5 h)).active (s.head h).drivers
  s.modHead h (fun x => { x with
    link := .frame { fseq := x.frames.toNat % 256, drivers := x.drivers, hactive := x.hactive, vactive := x.vactive, irefs := w
                     scene := if black then none else some (sceneNow s x) }
    irefSent := w.foldl (fun m e => aset m (3 * e.1 + e.2.1) e.2.2) x.irefSent
    frames := x.frames + 1, glowShown := !black && glowOnPanel s x })

/-- Every swap that is due at a frame start. -/
def Panel.swaps (h : Nat) (s : State) : State :=
  let s := Panel.gammaNow h (Panel.flipNow h s)
  let s := Cal.apply (calKey 5 h) s
  let s := { s with pw := { s.pw with spreadNow := vset s.pw.spreadNow (5 + h) (vget s.pw.spread (5 + h) 0) } }
  let s := s.modHead h (fun x => { x.takeGlow with bandShown := x.band.band })
  Panel.redraw h s

/-- What a frame start means to a rail sequence. -/
def Panel.frameStep (h : Nat) (s : State) : State :=
  let x := s.head h
  match x.step with
  | .clear n =>
    if 1 < n then Panel.step h (.clear (n - 1)) s
    else Panel.step h .crack s
  | .firstFrame =>
    Panel.endPower h St.ok 0 ((Panel.step h .none s).modHead h (fun x => { x with state := .lit, crackAt := s.tb.mono }))
  | .black => Panel.step h .blackEnd ((Panel.leaveLit h s).modHead h (fun x => { x with state := .falling }))
  | _ => s

/-- The frame that starts drives code 0: a black frame of a calibration or a power-off, or a clear frame (R274, R275, R299). -/
def blackFrame (x : Head) : Bool :=
  x.calFrames != 0 || x.step == .black || (match x.step with
    | .clear _ => true
    | _ => false)

/-- A frame start: the black frames of a reference calibration come before any swap (Table 12.13). -/
def Panel.frame (h : Nat) (s : State) : State :=
  let s := s.modHead h (fun x => { x with frameAt := s.tb.elapsed })
  let x := s.head h
  let s :=
    if x.calFrames != 0 then s.modHead h (fun x => { x with calFrames := x.calFrames - 1 })
    else Panel.frameStep h (Panel.swaps h s)
  Panel.send h (blackFrame x) s

/-! ## Gating -/

/-- The off sequence of a gated tile, without a black frame: from the rails that are up, or as it runs already. -/
def Panel.gateOff (h : Nat) (s : State) : State :=
  let x := s.head h
  if x.step == .discharge || x.step == .logicWait then s
  else if x.rl || x.rg || x.re then Panel.offNow h s
  else s

/-- A head's tile is being gated: every command that waits there completes with TILE_OFF, and its off sequence runs; mode,
buffers, banks, glow memory and touch state are lost with the tile's power (Table 12.13, R14). -/
def Panel.gate (h : Nat) (s : State) : State :=
  let x := s.head h
  let keys := x.powerKey.toList ++ x.flipped ++ (x.flip.map (·.2)).toList ++ x.uploads.map (·.key)
    ++ x.loads.map (·.key) ++ (x.gammaJob.map (·.1)).toList ++ (x.capture.map (·.1)).toList
  let s := s.modHead h (fun x => { x with
    powerKey := none, flip := none, flipped := [], uploads := [], loads := [], gammaJob := none, gammaLate := false
    capture := none, calFrames := 0, crackRun := false })
  keys.foldl (fun s k => Cmd.final k St.tileOff 0 s) (Panel.gateOff h s)

end Sys2Proof.Machine
end

