-- ==== Sys2Proof/Machine/Panel.lean ====
section
/-!
DEFINITION. Machine/Panel.lean: the PANEL group (Tables 12.11, 12.12), PANEL_CRACK_SCAN aside (Machine/Scans.lean).
-/

namespace Sys2Proof.Machine

/-- A command on a head: reason 1, TILE_OFF, then the right it needs on the head's GROUP (0 for owner-only ones). -/
def onHead (right : Nat) (pk : Packet) (s : State) (f : Nat → Verdict) : Verdict :=
  let h := pk.u8 8
  if 4 ≤ h then badReason 1
  else if !s.tileOn h then failWith St.tileOff
  else if rightOn s pk.ctx (s.head h).group < right then failWith St.noRight
  else f h

/-! ## PANEL_CONFIG -/

/-- A write of PH_CFG0 to PH_CFG3: the judgement and the effect, by command or by the window (R265, R270, R291). -/
def Panel.configure (h : Nat) (c0 c1 c2 c3 : Word) (s : State) : Verdict :=
  let x := { s.head h with cfg0 := c0, cfg1 := c1, cfg2 := c2, cfg3 := c3 }
  if (s.head h).state != .off then badReason 4
  else if field c1.toNat 7 0 != 0 || field c3.toNat 15 0 != 0 || field c0.toNat 11 8 == 0 then badReason 2
  else if 32 ≤ x.crackPos && x.crackPos != 255 then badReason 1
  else if !modeOk x then badReason 3
  else if !buffersFit s h x then badReason 11
  else .ok 0 (s.modHead h (fun y => { y with
    cfg0 := c0, cfg1 := c1, cfg2 := c2, cfg3 := c3, buffers := true, pixels := [] }))

def specPanelConfig : OpSpec :=
  { op := 0xA00, owner := true, rev1 := false, rsv := 2, used := [(8, 1, 0xFF), (16, 16, 0xFF)] }

def bodyPanelConfig (pk : Packet) (_ : Key) (s : State) : Verdict :=
  onHead 0 pk s fun h => Panel.configure h (pk.f32 16) (pk.f32 20) (pk.f32 24) (pk.f32 28) s

/-- PANEL_CONFIG (R265, R270). -/
def execPanelConfig (q : Nat) (pk : Packet) (s : State) : Host.Outcome State Fault Refusal :=
  .next (Cmd.run specPanelConfig bodyPanelConfig q pk s)

/-! ## PANEL_POWER -/

def specPanelPower : OpSpec :=
  { op := 0xA01, owner := true, rev1 := false, rsv := 2, used := [(8, 1, 0xFF), (9, 1, 0xFF)] }

/-- The command waits at its head. -/
def Panel.wait (h : Nat) (k : Key) (s : State) : State := s.modHead h (fun x => { x with powerKey := some k })

/-- OP 1 by the head's state. -/
def Panel.on (h : Nat) (k : Key) (s : State) : Verdict :=
  let x := s.head h
  if s.pw.crit then badReason 9
  else if !x.buffers then badReason 4
  else
    match x.state with
    | .off => .pend (Panel.powerOn h (Panel.wait h k s))
    | .fault => .pend (Panel.powerOn h (Panel.wait h k s))
    | .safe => .pend (Panel.resume h (Panel.wait h k s))
    | .lit => if x.step == .none then .ok 0 s else badReason 4
    | .rising => badReason 4
    | .falling => badReason 4
    | .cracked => badReason 4

/-- OP 0 by the head's state, refused without a mode (R290); during RISING the pending OP 1 completes with reason 4 (Table 12.13). -/
def Panel.off (h : Nat) (k : Key) (s : State) : Verdict :=
  let x := s.head h
  if !x.buffers then badReason 4
  else
  match x.state with
  | .off => .ok 0 s
  | .lit => if x.step == .none then .pend (Panel.step h .black (Panel.wait h k s)) else badReason 4
  | .rising => .pend (Panel.offNow h (Panel.wait h k (Panel.endPowerBad h 4 s)))
  | .cracked => .pend (Panel.offNow h (Panel.wait h k s))
  | .safe => badReason 4
  | .falling => badReason 4
  | .fault => badReason 4

def bodyPanelPower (pk : Packet) (k : Key) (s : State) : Verdict :=
  onHead 0 pk s fun h =>
    if 2 ≤ pk.u8 9 then badReason 2 else if pk.u8 9 = 1 then Panel.on h k s else Panel.off h k s

/-- PANEL_POWER (R273 to R277). -/
def execPanelPower (q : Nat) (pk : Packet) (s : State) : Host.Outcome State Fault Refusal :=
  .next (Cmd.run specPanelPower bodyPanelPower q pk s)

/-! ## PANEL_UPLOAD and PANEL_FLIP -/

def specPanelUpload : OpSpec :=
  { op := 0xA02, owner := false, rev1 := false, rsv := 2,
    used := [(8, 2, 0xFF), (10, 1, 1), (12, 12, 0xFF), (24, 8, 0xFF)] }

/-- The job of a packet. -/
def uploadJob (pk : Packet) (k : Key) : CopyJob :=
  { key := k, buf := pk.u8 9, space := spaceOf (pk.u8 10), x := pk.u16 12, y := pk.u16 14, w := pk.u16 16, h := pk.u16 18
    pitch := pk.u32 20, src := BitVec.ofNat 64 (pk.le 24 8) }

/-- The bytes of memory from the first to the last that an upload reads. -/
def CopyJob.span (j : CopyJob) : Nat := if j.h = 0 then 0 else j.pitch * (j.h - 1) + 4 * j.w

def bodyPanelUpload (pk : Packet) (k : Key) (s : State) : Verdict :=
  onHead 2 pk s fun h =>
    let x := s.head h
    let j := uploadJob pk k
    if 3 ≤ j.buf then badReason 1
    else if !x.buffers then badReason 4
    else if x.hactive < j.x + j.w || x.vactive < j.y + j.h then badReason 6
    else if j.src.toNat % 4 != 0 || !spanFits j.space j.src.toNat j.span then badReason 10
    else .pend (s.modHead h (fun x => { x with uploads := x.uploads ++ [j] }))

/-- PANEL_UPLOAD (R269). -/
def execPanelUpload (q : Nat) (pk : Packet) (s : State) : Host.Outcome State Fault Refusal :=
  .next (Cmd.run specPanelUpload bodyPanelUpload q pk s)

def specPanelFlip : OpSpec :=
  { op := 0xA03, owner := false, rev1 := false, rsv := 2, used := [(8, 2, 0xFF)] }

def bodyPanelFlip (pk : Packet) (k : Key) (s : State) : Verdict :=
  onHead 2 pk s fun h =>
    if 3 ≤ pk.u8 9 then badReason 1
    else if !(s.head h).buffers then badReason 4
    else .pend (s.modHead h (fun x => { x with
      flip := some (pk.u8 9, k), flipped := x.flipped ++ (x.flip.map (·.2)).toList }))

/-- PANEL_FLIP (R269). -/
def execPanelFlip (q : Nat) (pk : Packet) (s : State) : Host.Outcome State Fault Refusal :=
  .next (Cmd.run specPanelFlip bodyPanelFlip q pk s)

/-! ## Gamma -/

def specPanelGamma : OpSpec :=
  { op := 0xA04, owner := true, rev1 := false, rsv := 2, used := [(8, 4, 0xFF), (16, 32, 0xFF)] }

/-- Entry `i` of a packet's part. -/
def gammaEntry (pk : Packet) (i : Nat) : Nat := pk.u16 (16 + 2 * i)

/-- A list never decreases. -/
def rising : List Nat → Bool
  | a :: b :: r => decide (a ≤ b) && rising (b :: r)
  | _ => true

/-- A part is the next one of its band and colour; part 0 begins anew. -/
def partInOrder (x : Head) (band colour part : Nat) : Bool :=
  part == 0 || x.gammaNext == some (band, colour, part)

/-- The entries of a part with the one before them. -/
def partEntries (x : Head) (pk : Packet) (row part : Nat) : List Nat :=
  (if part = 0 then [] else [(aget x.shadow.table (row * 1024 + 16 * part - 1)).getD 0])
    ++ (List.range 16).map (gammaEntry pk)

/-- The shadow bank with a part written. -/
def Gamma.write (g : Gamma) (pk : Packet) (row part : Nat) : Gamma :=
  if part = 64 then
    { g with iref := (List.range 7).foldl (fun m i => aset m (row * 7 + i) (gammaEntry pk i)) g.iref }
  else
    { g with table := (List.range 16).foldl (fun m i => aset m (row * 1024 + 16 * part + i) (gammaEntry pk i)) g.table }

def bodyPanelGamma (pk : Packet) (_ : Key) (s : State) : Verdict :=
  onHead 0 pk s fun h =>
    let x := s.head h
    let band := pk.u8 9
    let colour := pk.u8 10
    let part := pk.u8 11
    let row := 3 * band + colour
    if 4 ≤ band || 3 ≤ colour || 65 ≤ part then badReason 1
    else if (List.range 16).any (fun i => decide (2 ^ 14 ≤ gammaEntry pk i)) then badReason 2
    else if part = 64 && pk.le 30 18 != 0 then badReason 2
    else if !partInOrder x band colour part then badReason 5
    else if part != 64 && !rising (partEntries x pk row part) then badReason 5
    else .ok 0 (s.modHead h (fun x => { x with
      shadow := x.shadow.write pk row part, gammaNext := if part = 64 then none else some (band, colour, part + 1) }))

/-- PANEL_GAMMA (R271). -/
def execPanelGamma (q : Nat) (pk : Packet) (s : State) : Host.Outcome State Fault Refusal :=
  .next (Cmd.run specPanelGamma bodyPanelGamma q pk s)

def specPanelGammaCommit : OpSpec :=
  { op := 0xA05, owner := true, rev1 := false, rsv := 2, used := [(8, 1, 0xFF)] }

def bodyPanelGammaCommit (pk : Packet) (k : Key) (s : State) : Verdict :=
  onHead 0 pk s fun h =>
    let x := s.head h
    if x.gammaJob.isSome then badReason 5
    else .pend (s.modHead h (fun x => { x with gammaJob := some (k, x.shadow, false) }))

/-- PANEL_GAMMA_COMMIT (R271). -/
def execPanelGammaCommit (q : Nat) (pk : Packet) (s : State) : Host.Outcome State Fault Refusal :=
  .next (Cmd.run specPanelGammaCommit bodyPanelGammaCommit q pk s)

/-! ## PANEL_BAND and PANEL_READ -/

def specPanelBand : OpSpec :=
  { op := 0xA06, owner := true, rev1 := false, rsv := 2, used := [(8, 2, 0xFF), (16, 5, 0xFF), (24, 12, 0xFF)] }

def bodyPanelBand (pk : Packet) (_ : Key) (s : State) : Verdict :=
  onHead 0 pk s fun h =>
    if 2 ≤ pk.u8 9 then badReason 2
    else if !bandsOk (pk.f32 24) (pk.f32 28) (pk.f32 32) then badReason 1
    else
      onRecords (bandPoints pk) s s fun s =>
        if pk.u8 9 = 1 && bandPointBad s (pk.point 16) then badReason 7
        else .ok (result [(5, 1, (s.head h).bandShown)]) (s.modHead h (fun x => { x with band := packetBand pk x.band }))

/-- PANEL_BAND (R272). -/
def execPanelBand (q : Nat) (pk : Packet) (s : State) : Host.Outcome State Fault Refusal :=
  .next (Cmd.run specPanelBand bodyPanelBand q pk s)

def specPanelRead : OpSpec := { op := 0xA07, owner := false, rev1 := false, rsv := 2, used := [(8, 1, 0xFF)] }

def bodyPanelRead (pk : Packet) (_ : Key) (s : State) : Verdict :=
  onHead 1 pk s fun h =>
    let x := s.head h
    .ok (result [(5, 4, phStat s h), (9, 4, phTstat s h), (13, 4, x.frames.toNat), (17, 4, x.crackR.toNat), (21, 1, x.buf)]) s

/-- PANEL_READ (R292). -/
def execPanelRead (q : Nat) (pk : Packet) (s : State) : Host.Outcome State Fault Refusal :=
  .next (Cmd.run specPanelRead bodyPanelRead q pk s)

/-! ## The glow area -/

def specGlowConfig : OpSpec :=
  { op := 0xA10, owner := false, rev1 := false, rsv := 2, used := [(8, 1, 0xFF), (9, 1, 1), (10, 8, 0xFF)] }

def bodyGlowConfig (pk : Packet) (_ : Key) (s : State) : Verdict :=
  onHead 2 pk s fun h =>
    let x := s.head h
    let w := pk.u16 14
    let ht := pk.u16 16
    if !x.buffers then badReason 4
    else if w % 2 != 0 || 480 < w || 160 < ht || x.hactive < pk.u16 10 + w || x.vactive < pk.u16 12 + ht then badReason 6
    else .ok 0 (s.modHead h (fun x => { x with glowNew := some (pk.u8 9 == 1, pk.u16 10, pk.u16 12, w, ht) }))

/-- GLOW_CONFIG (R281). -/
def execGlowConfig (q : Nat) (pk : Packet) (s : State) : Host.Outcome State Fault Refusal :=
  .next (Cmd.run specGlowConfig bodyGlowConfig q pk s)

def specGlowLoad : OpSpec :=
  { op := 0xA11, owner := false, rev1 := false, rsv := 2,
    used := [(8, 2, 0xFF), (10, 1, 1), (12, 8, 0xFF), (24, 8, 0xFF)] }

/-- The size of a region of glow memory (R282). -/
def glowRegionSize (r : Nat) : Nat := [38400, 64, 6144][r]?.getD 0

def bodyGlowLoad (pk : Packet) (k : Key) (s : State) : Verdict :=
  onHead 2 pk s fun h =>
    let r := pk.u8 9
    let off := pk.u32 12
    let len := pk.u32 16
    let sp := spaceOf (pk.u8 10)
    if 3 ≤ r || glowRegionSize r < off + len then badReason 1
    else if !spanFits sp (pk.le 24 8) len then badReason 10
    else
      let j : CopyJob := { key := k, buf := r, space := sp, x := off, y := 0, w := len, h := 1, pitch := 0
                           src := BitVec.ofNat 64 (pk.le 24 8) }
      .pend (s.modHead h (fun x => { x with loads := x.loads ++ [j] }))

/-- GLOW_LOAD (R282). -/
def execGlowLoad (q : Nat) (pk : Packet) (s : State) : Host.Outcome State Fault Refusal :=
  .next (Cmd.run specGlowLoad bodyGlowLoad q pk s)

def specGlowWidget : OpSpec :=
  { op := 0xA12, owner := false, rev1 := false, rsv := 2, used := [(8, 2, 0xFF), (16, 24, 0xFF)] }

/-- The widget of a packet (Table 12.6). -/
def packetWidget (pk : Packet) : Widget :=
  { wtype := pk.u8 16, colours := BitVec.ofNat 8 (pk.u8 17), x := pk.u16 18, y := pk.u16 20, w := pk.u16 22, h := pk.u16 24
    point := BitVec.ofNat 40 (pk.point 26), format := BitVec.ofNat 8 (pk.u8 31), a := pk.f32 32, b := pk.f32 36 }

/-- The FORMAT of a widget is one that Table 12.6 names. -/
def Widget.formatOk (w : Widget) : Bool :=
  let f := w.format.toNat
  if w.wtype = 1 then decide (1 ≤ field f 7 4) && decide (field f 7 4 ≤ 8) && decide (field f 3 0 ≤ 7)
  else if w.wtype = 3 then decide (f < 32)
  else if w.wtype = 4 then decide (f < 2)
  else true

/-- The glow area as the last GLOW_CONFIG leaves it: W and H. -/
def glowSize (x : Head) : Nat × Nat := match x.glowNew with
  | some (_, _, _, w, h) => (w, h)
  | none => (x.gw, x.gh)

/-- What refuses a widget's point: no point, or the wrong TYPE for a NUMBER or BAR; then the right to READ it (R283). -/
def judgeWidgetPoint (s : State) (ctx : Nat) (w : Widget) : Option (Byte × Nat) :=
  match s.point w.point.toNat with
  | none => some (St.badParam, 7)
  | some p =>
    if (w.wtype = 1 || w.wtype = 2) && p.type != 0 && p.type != 3 then some (St.badParam, 7)
    else if rightOn s ctx p.group.toNat = 0 then some (St.noRight, 0)
    else none

/-- A widget of a type that binds a point. -/
def Widget.binds (w : Widget) : Bool := w.wtype != 0 && w.wtype != 4

/-- What refuses a widget's shape (Table 12.6, R283). -/
def judgeShape (s : State) (h : Nat) (w : Widget) : Option (Byte × Nat) :=
  let g := glowSize (s.head h)
  if 5 ≤ w.wtype || !w.formatOk then some (St.badParam, 2)
  else if w.wtype != 0 && (g.1 < w.x + w.w || g.2 < w.y + w.h) then some (St.badParam, 6)
  else none

/-- What refuses a widget whose point, where it binds one, is whole. -/
def judgeWidget (s : State) (ctx h : Nat) (w : Widget) : Option (Byte × Nat) :=
  match judgeShape s h w with
  | some r => some r
  | none => if w.binds then judgeWidgetPoint s ctx w else none

/-- A new widget latches its point's value and STATUS. -/
def Widget.latched (s : State) (w : Widget) : Widget :=
  let p := s.point w.point.toNat
  { w with
    value := (p.map (·.value)).getD 0, status := (p.map (·.status)).getD 0
    changedAt := if w.wtype = 0 then none else some s.tb.elapsed }

def bodyGlowWidget (pk : Packet) (_ : Key) (s : State) : Verdict :=
  onHead 2 pk s fun h =>
    let w := packetWidget pk
    if 16 ≤ pk.u8 9 then badReason 1
    else
      let l := if w.binds && (judgeShape s h w).isNone then Point.loadAt w.point.toNat s else (true, s)
      if !l.1 then .cond St.crcFail 0 l.2
      else
        match judgeWidget l.2 pk.ctx h w with
        | some r => .fail r.1 (result [(5, 1, r.2)])
        | none => .ok 0 (l.2.modHead h (fun x => { x with widgets := vset x.widgets (pk.u8 9) (w.latched l.2) }))

/-- GLOW_WIDGET (R283, R284); a point whose record fails its CRC gives CRC_FAIL (R71, log 25). -/
def execGlowWidget (q : Nat) (pk : Packet) (s : State) : Host.Outcome State Fault Refusal :=
  .next (Cmd.run specGlowWidget bodyGlowWidget q pk s)

/-! ## Touch -/

def specTouchConfig : OpSpec :=
  { op := 0xA20, owner := true, rev1 := false, rsv := 2,
    used := [(8, 1, 0xFF), (9, 1, 7), (10, 5, 0xFF), (16, 4, 0xFF)] }

def bodyTouchConfig (pk : Packet) (_ : Key) (s : State) : Verdict :=
  onHead 0 pk s fun h =>
    let th := pk.u16 10
    let hy := pk.u16 12
    let sh := pk.u8 14
    let hold := pk.u32 16
    if th = 0 || 4095 < th || th ≤ hy || sh < 4 || 15 < sh || 86400 < hold then badReason 1
    else
      let fl := pk.u8 9
      .ok 0 (s.modHead h (fun x => { x with
        touchOn := fl.testBit 0, glowScan := fl.testBit 1, useProfile := fl.testBit 2, th := th, hyst := hy
        trackShift := sh, holdMaxS := if hold = 0 then 900 else hold
        rebase := x.rebase || (fl.testBit 0 && !x.touchOn) }))

/-- TOUCH_CONFIG (R285 to R288). -/
def execTouchConfig (q : Nat) (pk : Packet) (s : State) : Host.Outcome State Fault Refusal :=
  .next (Cmd.run specTouchConfig bodyTouchConfig q pk s)

def specTouchRing : OpSpec :=
  { op := 0xA21, owner := false, rev1 := false, rsv := 2,
    used := [(8, 2, 0xFF), (10, 1, 1), (16, 8, 0xFF), (24, 8, 0xFF), (32, 4, 0xFF)] }

def bodyTouchRing (pk : Packet) (_ : Key) (s : State) : Verdict :=
  onHead 2 pk s fun h =>
    let r : Ring := {
      format := 0, log2Size := pk.u8 9, space := spaceOf (pk.u8 10), base := BitVec.ofNat 64 (pk.le 16 8)
      stateAddr := BitVec.ofNat 64 (pk.le 24 8), notify := pk.u32 32, total := 0 }
    if r.log2Size < 6 || 16 < r.log2Size then badReason 1
    else if r.stateAddr.toNat % 8 != 0 || !ringFits r 64 then badReason 10
    else .ok 0 (s.modHead h (fun x => { x with ring := some r }))

/-- TOUCH_RING (R289). -/
def execTouchRing (q : Nat) (pk : Packet) (s : State) : Host.Outcome State Fault Refusal :=
  .next (Cmd.run specTouchRing bodyTouchRing q pk s)

def specTouchRebase : OpSpec := { op := 0xA22, owner := false, rev1 := false, rsv := 2, used := [(8, 1, 0xFF)] }

def bodyTouchRebase (pk : Packet) (_ : Key) (s : State) : Verdict :=
  onHead 2 pk s fun h =>
    .ok 0 (s.modHead h (fun x => { x with
      rebase := true
      nodes := x.nodes.map (fun n => { n with touched := false, hold := 0, anti := 0, stuck := false }) }))

/-- TOUCH_REBASE (R287, R288). -/
def execTouchRebase (q : Nat) (pk : Packet) (s : State) : Host.Outcome State Fault Refusal :=
  .next (Cmd.run specTouchRebase bodyTouchRebase q pk s)

def specTouchProfile : OpSpec :=
  { op := 0xA23, owner := true, rev1 := false, rsv := 2, used := [(8, 2, 0xFF)] }

def bodyTouchProfile (pk : Packet) (k : Key) (s : State) : Verdict :=
  onHead 0 pk s fun h =>
    let x := s.head h
    if 2 ≤ pk.u8 9 then badReason 2
    else if pk.u8 9 = 1 then Nv.submit k pk.ctx (.profile h none) s
    else if !x.touchOn || x.capture.isSome || x.nodes.any (·.touched) then badReason 4
    else .pend (s.modHead h (fun x => { x with capture := some (k, 0, List.replicate 640 0) }))

/-- TOUCH_PROFILE (R287). -/
def execTouchProfile (q : Nat) (pk : Packet) (s : State) : Host.Outcome State Fault Refusal :=
  .next (Cmd.run specTouchProfile bodyTouchProfile q pk s)

def specTouchRead : OpSpec := { op := 0xA24, owner := false, rev1 := false, rsv := 2, used := [(8, 1, 0xFF)] }

/-- The five bytes of a contact (Table 12.7). -/
def contactBytes (c : Contact) : Nat := packLe [(2, c.x), (2, c.y), (1, c.strength % 16 + c.id % 16 * 16)]

def bodyTouchRead (pk : Packet) (_ : Key) (s : State) : Verdict :=
  onHead 1 pk s fun h =>
    let c := (s.head h).contacts
    let get (i : Nat) : Nat := ((c.drop i).head?.map contactBytes).getD 0
    .ok (result [(5, 4, phTstat s h), (9, 1, c.length), (10, 5, get 0), (15, 5, get 1)]) s

/-- TOUCH_READ (R292). -/
def execTouchRead (q : Nat) (pk : Packet) (s : State) : Host.Outcome State Fault Refusal :=
  .next (Cmd.run specTouchRead bodyTouchRead q pk s)

end Sys2Proof.Machine
end

