-- ==== Sys2Proof/Machine/Scans.lean ====
section
/-!
DEFINITION. Machine/Scans.lean: reflection scans (R117 to R119, Table 5.10) and crack scans (R280).
-/

namespace Sys2Proof.Machine

/-! ## Queueing a scan -/

/-- A scan may not be asked for: the reference, a calibration, or an interleave item that is not calibrated (R100,
R101). -/
def scanReady (s : State) (t : Nat) : Option Byte :=
  if !(s.tile t).refReady then some St.refNotReady
  else if calibrating s t 0 || calibrating s t 1 then some St.busyCal
  else if !(s.tile t).ilvCal then some St.adcUncal
  else none

/-- Scans of a tile that are queued or run. -/
def scanCount (x : Tile) : Nat := x.scans.length + bit x.scanning.isSome

/-- Put a scan in the queue of four places (R118). -/
def Scan.enqueue (t : Nat) (n : Scan) (s : State) : Verdict :=
  if 4 ≤ scanCount (s.tile t) then badReason 6
  else .pend (s.modTile t (fun x => { x with scans := x.scans ++ [n] }))

/-- AVG, LEVEL and VF lie in their ranges. -/
def scanRanges (n : Scan) : Bool :=
  decide (1 ≤ n.avg) && decide (n.avg ≤ 16) && decide (1 ≤ n.level) && decide (n.level ≤ 10)
    && decide (500 ≤ n.vf) && decide (n.vf ≤ 1000)

/-- Every range of RSCAN. -/
def scanOk (n : Scan) : Bool :=
  scanRanges n && decide (n.position ≤ 31) && decide (64 ≤ n.length) && decide (n.length ≤ 1000)
    && ffinite n.thresh && decide (fnum (fof (1 / 100)) ≤ fnum n.thresh) && decide (fnum n.thresh ≤ 1)

/-- RAW_BUF names a buffer that is no FORMAT 1 buffer. -/
def rawBufBad (x : Tile) (n : Scan) : Bool :=
  match n.rawBuf with
  | some b => 64 ≤ b || (vget x.bufs b none).map (·.format) != some 1
  | none => false

def specRscan : OpSpec :=
  { op := 0x360, owner := false, rev1 := false, rsv := 9, used := [(8, 8, 0xFF), (16, 5, 0xFF)] }

/-- The scan of a packet. -/
def packetScan (pk : Packet) (k : Key) : Scan :=
  { key := some k, position := pk.u8 9, avg := pk.u8 10, level := pk.u8 11, length := pk.u16 12, vf := pk.u16 14
    thresh := pk.f32 16, rawBuf := if pk.u8 20 = 0xFF then none else some (pk.u8 20), crack := none }

def bodyRscan (pk : Packet) (k : Key) (s : State) : Verdict :=
  onTile pk s fun t =>
    let n := packetScan pk k
    if !scanOk n then badReason 1
    else
      match scanReady s t with
      | some st => failWith st
      | none => if rawBufBad (s.tile t) n then badReason 10 else Scan.enqueue t n s

/-- RSCAN (R118). -/
def execRscan (q : Nat) (pk : Packet) (s : State) : Host.Outcome State Fault Refusal :=
  .next (Cmd.run specRscan bodyRscan q pk s)

def specPanelCrackScan : OpSpec :=
  { op := 0xA08, owner := false, rev1 := false, rsv := 2, used := [(8, 1, 0xFF), (10, 2, 0xFF), (14, 2, 0xFF)] }

/-- The crack scan of a packet: LENGTH 1,000 and THRESH 0.2 on CRACK_POS (R280). -/
def packetCrackScan (pk : Packet) (k : Key) (h pos : Nat) : Scan :=
  { key := some k, position := pos, avg := pk.u8 10, level := pk.u8 11, length := 1000, vf := pk.u16 14
    thresh := fof (1 / 5), rawBuf := none, crack := some h }

def bodyPanelCrackScan (pk : Packet) (k : Key) (s : State) : Verdict :=
  onHead 2 pk s fun h =>
    let n := packetCrackScan pk k h (s.head h).crackPos
    if !scanRanges n then badReason 1
    else if n.position = 0xFF then badReason 8
    else
      match scanReady s h with
      | some st => failWith st
      | none => Scan.enqueue h n s

/-- PANEL_CRACK_SCAN (R280). -/
def execPanelCrackScan (q : Nat) (pk : Packet) (s : State) : Host.Outcome State Fault Refusal :=
  .next (Cmd.run specPanelCrackScan bodyPanelCrackScan q pk s)

/-! ## Running a scan -/

/-- The scan at the head of the queue may start (R118, R121). -/
def scanMayStart (s : State) (t : Nat) : Bool :=
  let x := s.tile t
  s.tileOn t && x.scanning.isNone && !x.urgentOn && !calBegun s t 0 && !calBegun s t 1 && !inGlow s
    && (x.scanFirst || x.gapRan s.tb.elapsed || x.bothFrom.isSome)

/-- Start a scan: once both sequences have run for 1 ms since the last one, they are suspended and LTMUX is set. -/
def Scan.start (t : Nat) (n : Scan) (rest : List Scan) (s : State) : State :=
  let x := s.tile t
  let s := match x.bothFrom, x.scanRan with
    | some a, some r => if x.scanFirst then s else untilElapsed (a + (1000000 - r)) s
    | _, _ => s
  let s := Seq.suspend t 1 (Seq.suspend t 0 s)
  s.modTile t (fun x => { x with
    scans := rest, scanning := some (n, []), scanFirst := false, scanRan := none, ltmux := n.position
    launchAt := s.tb.elapsed })

/-- RSCAN_START (R118). -/
def execRscanStart (tile : Nat) (s : State) : Host.Outcome State Fault Refusal :=
  .next (match (s.tile tile).scans with
    | n :: rest => whenever (scanMayStart s tile) (Scan.start tile n rest) s
    | [] => s)

/-- RSCAN_LAUNCH (R118): the first launch is 25 us after LTMUX is set, the others follow 10 us apart. -/
def execRscanLaunch (tile : Nat) (capture : List Int) (s : State) : Host.Outcome State Fault Refusal :=
  .next (match (s.tile tile).scanning with
    | some (n, caps) =>
      if s.tileOn tile && caps.length < n.avg then
        let s := untilElapsed ((s.tile tile).launchAt + (if caps.isEmpty then 25000 else 10000)) s
        s.modTile tile (fun x => { x with
          scanning := some (n, caps ++ [capture.take n.length]), launchAt := s.tb.elapsed })
      else s
    | none => s)

/-- Sample `i` of the averaged trace, rounded to nearest (log 19). -/
def traceSample (caps : List (List Int)) (i : Nat) : Int :=
  let sum : Int := caps.foldl (fun a c => a + c.getD i 0) 0
  roundAway ((sum : Rat) / (caps.length : Rat))

/-- Entry `e` of the trace: eight signed 16-bit samples, in time order (R116); samples past LENGTH read 0 (log 12). -/
def traceEntry (n : Scan) (caps : List (List Int)) (e : Nat) : List Byte :=
  (List.range 8).flatMap (fun j =>
    leBytes 2 (if 8 * e + j < n.length then toBits 16 (traceSample caps (8 * e + j)) else 0))

/-- Write the averaged trace to RAW_BUF. -/
def Scan.raw (t : Nat) (n : Scan) (caps : List (List Int)) (s : State) : State :=
  match n.rawBuf with
  | some b => (List.range (ceilDiv n.length 8)).foldl (fun s e => Dma.append t b (traceEntry n caps e) s) s
  | none => s

/-- The distance of a discontinuity in whole centimetres, VF * c * t / 2, its index in 1/16 sample of 2 ns (R119). -/
def scanDistance (vf index : Nat) : Nat :=
  roundNat ((vf : Rat) / 1000 * 299792458 * ((index : Rat) * 125 / 1000000000000) / 2 * 100)

/-- Put a discontinuity into a list by its index. -/
def byIndex (d : Nat × Int) : List (Nat × Int) → List (Nat × Int)
  | [] => [d]
  | e :: r => if d.1 < e.1 then d :: e :: r else e :: byIndex d r

/-- One way in which a stretch of the trace changes: its first and last sample, and the change in converter codes. -/
structure Change where
  first : Nat
  last : Nat
  by' : Int
deriving DecidableEq, Repr

/-- The stretches in which a trace goes on rising or falling. The stretch in hand began at sample `a` with the value
`base`, and `last` is the value of sample `i`. -/
def changes (a i : Nat) (base last : Int) : List Int → List Change
  | [] => if last = base then [] else [{ first := a, last := i, by' := last - base }]
  | x :: r =>
    if last = base then changes i (i + 1) last x r
    else if x != last && decide (base < last) == decide (last < x) then changes a (i + 1) base x r
    else { first := a, last := i, by' := last - base } :: changes i (i + 1) last x r

/-- The averaged trace. -/
def traceOf (n : Scan) (caps : List (List Int)) : List Int := (List.range n.length).map (traceSample caps)

/-- The launched step in converter codes: LEVEL steps of 0.1 V on the 14-bit span of +-1.25 V (R97, log 33). -/
def stepCodes (n : Scan) : Rat := (n.level : Rat) / 10 * 8192 / (5 / 4)

/-- Where a change lies, in 1/16 sample from the launch edge: within its stretch, where the device's interpolation, which
the spec does not state, places it (log 33), less the launch-path delay. -/
def changeAt (place delay : Nat) (c : Change) : Int :=
  (16 * c.first + place % (16 * (c.last - c.first) + 1) : Nat) - (delay : Int)

/-- The changes with their places; one that is given no place lies at the start of its stretch. -/
def placed (places : List Nat) : List Change → List (Nat × Change)
  | [] => []
  | c :: r => (places.headD 0, c) :: placed places.tail r

/-- The discontinuities of a trace, nearest first: index in 1/16 sample and the reflection coefficient in 1/10,000, for
each change that reaches THRESH of the launched step, behind the launch edge and within LENGTH (R119). -/
def scanFound (places : List Nat) (delay : Nat) (n : Scan) (caps : List (List Int)) : List (Nat × Int) :=
  let l := match traceOf n caps with
    | x :: r => changes 0 0 x x r
    | [] => []
  let all := (placed places l).map (fun p => (changeAt p.1 delay p.2, (p.2.by' : Rat) / stepCodes n))
  ((all.filter (fun d => decide (0 < d.1) && decide (d.1 < 16 * (n.length : Int)) && decide (fnum n.thresh ≤ rabs d.2))).map
    (fun d => (d.1.toNat, roundAway (d.2 * 10000)))).foldl (fun l d => byIndex d l) []

/-- The RESULT of RSCAN. -/
def scanResult (n : Scan) (l : List (Nat × Int)) : Nat :=
  let four := l.take 4
  result ([(5, 1, four.length), (22, 1, bit (decide (4 < l.length)))]
    ++ (List.range four.length).flatMap (fun i =>
      let d := four.getD i (0, 0)
      [(6 + 4 * i, 2, scanDistance n.vf d.1), (8 + 4 * i, 2, toBits 16 d.2)]))

/-- The RESULT of PANEL_CRACK_SCAN: the nearest reported discontinuity on the loop (R280). -/
def crackResult (s : State) (h : Nat) (n : Scan) (l : List (Nat × Int)) : Nat :=
  let x := s.head h
  let on (d : Nat × Int) : Bool :=
    decide (x.crackLead ≤ scanDistance n.vf d.1) && decide (scanDistance n.vf d.1 ≤ x.crackLead + x.crackLen)
  match (l.take 4).find? on with
  | some d => result [(5, 1, if 0 < d.2 then 1 else 2), (6, 2, scanDistance n.vf d.1 - x.crackLead), (8, 2, toBits 16 d.2)]
  | none => 0

/-- The end of a scan: its trace and its reply; urgent work that came meanwhile runs first, and then the tile's converters
go on (R118, R121). -/
def Scan.finish (t : Nat) (places : List Nat) (n : Scan) (caps : List (List Int)) (s : State) : State :=
  let l := scanFound places (s.tile t).launchDelay n caps
  let s := Scan.raw t n caps s
  let s := s.modTile t (fun x => { x with
    scanning := none, scanRan := some 0, bothFrom := none, holdA := !x.urgent.isEmpty })
  let s := Seq.releaseBoth t (Cal.tryAll t s)
  Cmd.finalOpt n.key St.ok (match n.crack with
    | some h => crackResult s h n l
    | none => scanResult n l) s

/-- RSCAN_END (R118, R119): the last capture ends 2 us after its launch. -/
def execRscanEnd (tile : Nat) (places : List Nat) (s : State) : Host.Outcome State Fault Refusal :=
  .next (match (s.tile tile).scanning with
    | some (n, caps) =>
      if s.tileOn tile && n.avg ≤ caps.length then
        Scan.finish tile places n caps (untilElapsed ((s.tile tile).launchAt + 2000) s)
      else s
    | none => s)

end Sys2Proof.Machine
end

