-- ==== Sys2Proof/Machine/PowerRun.lean ====
section
/-!
DEFINITION. Machine/PowerRun.lean: gating and powering a tile (R13, R14), entry to and exit from GLOW (R332 to R335), a
power-fail (R340), and what reset and OFF leave (R330, R336).
-/

namespace Sys2Proof.Machine

/-! ## Gating a tile (R14) -/

/-- A SOURCE of kinds 1 to 6 lies in a tile (Table 1.3). -/
def srcInTile (t : Nat) (src : BitVec 128) : Bool :=
  decide (1 ≤ srcField src 0 1) && decide (srcField src 0 1 ≤ 6) && sourceTile src == t

/-- Imported values whose source lies in tile `t` are faulted in every other tile (Table 1.3). -/
def Imports.fault (t : Nat) (s : State) : State :=
  let from' (slot : Nat) : Bool :=
    (decide (512 * t ≤ slot) && decide (slot < 512 * t + 512) && decide (slot < 4096))
      || (decide (slotLoop t 0 0 ≤ slot) && decide (slot < slotLoop (t + 1) 0 0))
  { s with tiles := s.tiles.map (fun x => { x with
      imports := x.imports.map (fun e => (e.1, if from' e.1 then { e.2 with faulted := true } else e.2)) }) }

/-- Commands that wait in a tile outside its converters, zones, buses and head complete with TILE_OFF. -/
def Tile.endJobs (t : Nat) (s : State) : State :=
  let keys := (vget s.mt.copies t []).map (·.key) ++ (s.tile t).ports.toList.flatMap (·.test)
  let s := { s with mt := { s.mt with copies := vset s.mt.copies t [] } }
  let s := s.modTile t (fun x => { x with ports := x.ports.map (fun p => { p with test := [] }) })
  keys.foldl (fun s k => Cmd.final k St.tileOff 0 s) s

/-- Every calibration run of a tile ends with TILE_OFF, and its values are lost (Table 13.9, R302). -/
def Tile.endCal (t : Nat) (s : State) : State :=
  let s := Cal.abortTile t St.tileOff s
  let s := (calKey 5 t :: (List.range 24).map (fun c => calKey 6 (24 * t + c))).foldl
    (fun s k => Cal.endRun k St.tileOff 0 s) s
  Cal.loseTile t s

/-- Every command that waits for a zone of a tile completes with TILE_OFF. -/
def Tile.endZones (t : Nat) (s : State) : State :=
  (s.tile t).zones.foldl (fun s e => e.2.endWaiters St.tileOff 0 s) s

/-- Gating begins (R14, Table 1.3): the outputs and the targets of the tile's loops (Table 7.11) go to their fallback, loops and zones stop, and whatever waits in the
tile ends; `how` is the way the tile takes. -/
def Tile.gate (t : Nat) (how : TilePow) (s : State) : State :=
  let s := (s.tile t).loops.foldl (fun s e => (e.2.targets.filter (fun b => bKind b != 2)).foldl (Loop.releaseOne t) s)
    (Out.fallbackAll t s)
  let s := { s with tpow := vset s.tpow t how }
  let s := Tile.endZones t s
  let s := Tile.endWork t St.tileOff (Tile.endCal t s)
  let s := (tileBuses t).foldl (fun s k => Bus.gate k s) s
  let s := Tile.endJobs t (Panel.gate t s)
  let s := { s with mt := { s.mt with pairs := vmod s.mt.pairs t (fun v => v.map (fun m => { m with bound := false })) } }
  Points.flag (srcInTile t) (fun w => putBit w stFault true) (Imports.fault t s)

/-- Power is removed: nothing the tile held is left (R14). -/
def Tile.dark (t : Nat) (s : State) : State :=
  { s with tiles := vset s.tiles t {}, tpow := vset s.tpow t .gated }

/-! ## Throttle levels in force (R343) -/

/-- Do something, then raise THROTTLE and act on each powered tile whose level in force it has changed. -/
def Throttle.around (f : State → State) (s : State) : State :=
  let s' := f s
  (poweredTiles s').foldl (fun x t =>
    if levelInForce s' t = levelInForce s t then x
    else
      let x := Drv.rescale t (tclkNow s t) x
      Zones.refit t (Loops.restretch t (Ev.raise 2 0 (packLe [(1, t), (1, levelInForce s' t)]) x))) s'

/-- Change a tile's throttling. -/
def State.modThrottle (s : State) (t : Nat) (f : Throttle → Throttle) : State :=
  { s with pw := { s.pw with throttle := vmod s.pw.throttle t f } }

/-- The temperature of a tile: its hottest working sensor (R342). -/
def tileTemp (s : State) (t : Nat) : Option Int := (hottest s (tileSensors t)).map (·.1)

/-- The hottest working sensor of the hub. -/
def hubTemp (s : State) : Option Int := (hottest s [12, 13, 14, 15]).map (·.1)

/-- A temperature, where there is one, stands at or above a bound in whole degrees. -/
def atLeast (temp : Option Int) (c : Int) : Bool :=
  match temp with
  | some x => decide (4 * c ≤ x)
  | none => false

/-- The thermal level that a tile's temperature gives it at its start (R343): 4 while critical, 1 where it is already
hot. -/
def warmLevel (s : State) (t : Nat) : Nat :=
  if s.pw.crit then 4 else if atLeast (tileTemp s t) s.pw.tThrottle then 1 else 0

/-- The thermal level a tile starts at (R343): that one, and 2 at least where its three sensors are all faulty. -/
def startLevel (s : State) (t : Nat) : Nat := if tileBlind s t then max 2 (warmLevel s t) else warmLevel s t

/-! ## Powering a tile (R13, R339) -/

/-- A tile has been powered: its shaded store has been cleared and tested (R124), it is new, its items are those of the fuse
image, and its spread settings take effect; a level in force other than 0 is a change of it and raises THROTTLE (R343,
log 37). -/
def Tile.powered (t : Nat) (storePass : Bool) (s : State) : State :=
  let stepped := warmLevel s t != 0
  let l := startLevel s t
  let sec := s.sec + 1
  let x : Tile := { storeTest := some storePass, rateSec := sec, fans := Vector.replicate 4 { nextSec := sec } }
  let s := { s with tiles := vset s.tiles t x, tpow := vset s.tpow t .on }
  let s := s.modThrottle t (fun th => { th with
    level := l, steppedAt := if stepped then some s.tb.elapsed else none, belowAt := none, episode := stepped })
  let s := { s with pw := { s.pw with
    spreadNow := vset (vset s.pw.spreadNow t (vget s.pw.spread t 0)) (5 + t) (vget s.pw.spread (5 + t) 0) } }
  if levelInForce s t = 0 then s else Ev.raise 2 0 (packLe [(1, t), (1, levelInForce s t)]) s

/-! ## GLOW (Tables 15.4, 15.5) -/

/-- Converter B has METER entries, which GLOW keeps. -/
def keepsMeter (v : Conv) (c : Nat) : Bool := c == 1 && v.active.cycleEntries.any (fun e => entKind e == 1)

/-- A converter stops where it stands: A's cycle ends, and B keeps only its METER entries. Records that waited take effect
at the stop, and so does the image of a sequence that stops altogether (R91, R106); SEQ_STOP's stop at the cycle's end is
done with. -/
def Seq.glow (t c : Nat) (s : State) : State :=
  let v := s.conv t c
  if !v.running then s
  else
    let s := applyConfigs t v.active.cycleEntries s
    if keepsMeter v c then
      if v.inDwell && entKind (vget v.active.entries v.entry 0) == 1 then s
      else s.modConv t c (fun v => { v with inDwell := false, snap := none, suspended := calBegun s t c })
    else if v.stopAtEnd then Seq.stop t c s
    else
      Seq.swap t c (s.modConv t c (fun v => { v with inCycle := false, inDwell := false, rerun := false, snap := none }))

/-- A dwell of urgent work and a scan in progress are discarded and stay queued (Table 5.12). -/
def Tile.requeue (t : Nat) (s : State) : State :=
  s.modTile t (fun x => { x with
    urgentOn := false, urgentSnap := none, inputs := x.inputs.map Input.untest
    scans := (x.scanning.map (·.1)).toList ++ x.scans, scanning := none, scanFirst := x.scanning.isSome })

/-- What entry to GLOW does in a tile. -/
def Tile.enterGlow (t : Nat) (s : State) : State :=
  let s := Zones.abandon t (Out.fallbackAll t (Drv.rescale t (tclkMhz (levelInForce s t)) s))
  let s := s.modTile t (fun x => { x with loops := x.loops.map (fun e => (e.1, { e.2 with stopped := true })) })
  let s := Scan.pause t (Seq.glow t 1 (Seq.glow t 0 (Tile.requeue t s)))
  (tileBuses t).foldl (fun s k => Bus.stop k s) s

/-- Entry to GLOW begins (Table 15.4). -/
def Power.enterGlow (s : State) : State := Fed.stop (onTiles Tile.enterGlow s)

/-- A sequence takes the next start instant after GLOW, and counts no slip (R109); what waits for the converter comes
first, and pre-empts a METER dwell in progress (R111, R112). -/
def Seq.afterGlow (t c : Nat) (s : State) : State :=
  let held := convHeld s t c
  let s := s.modConv t c (fun v => { v with
    suspended := false
    since := if v.inDwell then v.since else s.tb.elapsed
    nextStart := if v.inCycle then v.nextStart else startAt v.active.periodMs s.ns })
  if held then Seq.suspend t c s else s

/-- Every loop of a tile resumes bumplessly at its next boundary (R157, R166). -/
def Loops.afterGlow (t : Nat) (s : State) : State :=
  Loops.realign t (s.modTile t (fun x => { x with loops := x.loops.map (fun e => (e.1, { e.2 with bumpless := true })) }))

/-- What waits at the exit from GLOW comes before the sequences resume: urgent work, and the first scan where no gap of
R118 stands before it (R121). -/
def Tile.holdBack (t : Nat) (s : State) : State :=
  s.modTile t (fun x => { x with
    holdA := !x.urgent.isEmpty, scanFirst := !x.scans.isEmpty && (x.scanFirst || x.gapRan s.tb.elapsed) })

/-- PULSE inputs count again: a whole TB second that has begun in GLOW had no edges, and the first rate is that of the
second in which they resume (R86). -/
def Pulse.resume (t : Nat) (s : State) : State :=
  if (s.tile t).rateSec ≤ s.sec then
    s.modTile t (fun x => { x with
      rateSec := s.sec + 1, inputs := x.inputs.map (fun i => { i with countAt := i.count }) })
  else s

/-- What the exit from GLOW does in a tile (Table 15.5). -/
def Tile.leaveGlow (t : Nat) (s : State) : State :=
  let s := Pulse.resume t (Tile.holdBack t (Drv.rescale t 750 s))
  let s := Scan.resume t (Seq.afterGlow t 1 (Seq.afterGlow t 0 s))
  let s := Loops.afterGlow t (Cal.afterGlow t s)
  let s := (List.range 8).foldl (fun s p => Port.afterGlow t p s) s
  (tileBuses t).foldl (fun s k => Bus.resume k s) s

/-- The exit from GLOW has reached its target. -/
def Power.leaveGlow (s : State) : State := Fed.resume (onTiles Tile.leaveGlow s)

/-! ## A power-fail (R340) -/

/-- A commit is the checkpoint of an interval close in the current millisecond. -/
def closeThisTick (s : State) (c : Commit) : Bool :=
  match c.what with
  | .checkpoint j => !j.power && j.at' / 1000000 == s.ns / 1000000
  | _ => false

/-- The power-fail checkpoint (R138, R139): it goes ahead of every queued commit (R314) and serves as the checkpoint of a
close within the same millisecond; too little energy logs METER_COMMIT_LOST. -/
def Power.checkpoint (s : State) : State :=
  if !energyOk s then Meter.commitLost s
  else
    let j (slot : Nat) : CommitKind := .checkpoint { slot := slot, at' := s.ns, power := true, image := some (Meter.snapshot s) }
    match s.nv.running with
    | some c =>
      if closeThisTick s c then
        { s with nv := { s.nv with running := some { c with what := j (match c.what with
          | .checkpoint x => x.slot
          | _ => 0) } } }
      else { s with nv := { s.nv with
        queue := { key := none, ctx := 0, what := j 0 } :: s.nv.queue.filter (fun x => !closeThisTick s x) } }
    | none => { s with nv := { s.nv with
        queue := { key := none, ctx := 0, what := j 0 } :: s.nv.queue.filter (fun x => !closeThisTick s x) } }

/-- A tariff rebuild whose commit does not run fails (Table 6.15); one that runs goes by R318. -/
def Power.failTariff (s : State) : State :=
  match s.mt.job with
  | some j =>
    if j.rebuilt || (s.nv.running.map isTariff).getD false then s
    else Tariff.fail j St.nvLowEnergy 0 (Tariff.unqueue s)
  | none => s

/-- The NV commit in progress (R318): abandoned before its journal record has begun, and otherwise run to its end, as a
checkpoint always does (R138). -/
def Power.failCommit (begun : Bool) (s : State) : State :=
  match s.nv.running with
  | some c =>
    if begun || isCheckpoint c then { s with nv := { s.nv with recorded := s.nv.recorded || begun } }
    else
      let s := Tariff.dropJob c { s with nv := { s.nv with running := none, record := none } }
      let s := Nv.pass (fun rd => overlapCount rd.region rd.offset rd.len c.what) s
      Nv.serve (Cmd.finalOpt c.key St.nvLowEnergy 0 s)
  | none => s

/-- A rise of PFAIL with CODE 0, or the internal power-fail of POWER_STATE OFF with CODE 1; `first` where none stands. A
close, swap or switch due by then comes before the checkpoint (R137, R359). -/
def Power.fail (code : Nat) (begun first : Bool) (s : State) : State :=
  let s := { s with pw := { s.pw with
    pfailStamp := s.tb.now, pfailStampValid := s.tb.valid, pfailRises := satInc 16 s.pw.pfailRises } }
  let s := Ev.raise 6 code (packLe [(2, s.pw.mon.supmon), (2, s.pw.pfailRises)]) s
  if s.live then
    let s := Meter.closeInstant s.ns (Meter.dueFirst s)
    Nv.kick (Power.failCommit begun (if first then Power.failTariff (Power.checkpoint s) else s))
  else s

/-! ## Reset and OFF -/

/-- What a reset of everything but the always-on domain leaves: TB, the wake mask of OFF, the stores that keep their
contents, and what lies outside the block (R330, R336). The commit that was under way stays for journal recovery (R320). -/
def Power.reset (boot : Boot) (s : State) : State :=
  { pending := s.pending
    tb := { s.tb with source := .host, ppsOut := false }
    cl := { creds := s.cl.creds }
    mt := { slots := s.mt.slots, slotNext := s.mt.slotNext, banks := s.mt.banks, stored := s.mt.stored
            tailLost := s.mt.tailDue || s.nv.queue.any isPowerFail }
    cal := { factory := s.cal.factory, slots := s.cal.slots }
    nv := { s.nv with
      queue := [], reads := [], opens := [], lockout := 0, attempts := Vector.replicate 16 0
      recovered := false, rolledBack := false, pageFail := false }
    pw := { boot := boot, porAt := s.tb.elapsed, lastWake := s.pw.lastWake, aonBus := s.pw.aonBus
            aonAlarm := s.pw.aonAlarm, aonPin := s.pw.aonPin, wakeAt := s.pw.wakeAt, wakeReport := s.pw.wakeReport
            pwrEn := s.pw.pwrEn, mon := s.pw.mon, gateLow := s.pw.gateLow
            pfailStamp := s.pw.pfailStamp, pfailStampValid := s.pw.pfailStampValid }
    hostMem := s.hostMem
    free := s.free }

/-- Start-up begins, at POR release or at the end of an RST_N pulse (R337, R339). -/
def Power.startUp (s : State) : State :=
  let s := Power.reset .fuseLoad s
  { s with pw := { s.pw with wakeAt := 0 } }

/-- The controllers with WAKE_EN set, as the always-on domain copies them (R336). -/
def busWakeMask (s : State) : BitVec 64 :=
  (List.range 64).foldl (fun m k => if s.tileOn (k / 16) && (s.bus k).wakeEn then m ||| (1#64 <<< k) else m) 0

/-- Enter OFF with PWR_EN at a level: the wake causes are copied, and only the always-on domain runs on (R336). -/
def Power.toOff (pwrEn : Bool) (s : State) : State :=
  let w := s.pw.wakeMask
  let s := { s with pw := { s.pw with
    aonBus := if w.getLsbD wakeBus then busWakeMask s else 0
    aonAlarm := w.getLsbD wakeByAlarm
    aonPin := w.getLsbD wakeByPin
    pwrEn := pwrEn, lastWake := 0, wakeReport := none } }
  Power.reset .off s

end Sys2Proof.Machine
end

