-- ==== Sys2Proof/Machine/Power.lean ====
section
/-!
DEFINITION. Machine/Power.lean: the POWER and THERM group (Tables 15.10 to 15.12), and the ends of tile power sequences and
of power-state transitions.
-/

namespace Sys2Proof.Machine

/-! ## TILE_POWER -/

def specTilePower : OpSpec := { op := 0xD00, owner := true, rev1 := false, rsv := 2, used := [(8, 2, 0xFF)] }

/-- The rail of a tile, in mV, as last sampled. -/
def railMv (s : State) (t : Nat) : Nat := vget s.pw.mon.rails t 0

/-- TILE_POWER by the tile's condition. -/
def Tile.setPower (t op : Nat) (k : Key) (s : State) : Verdict :=
  match vget s.tpow t .gated with
  | .powering _ => badReason 4
  | .gating _ => badReason 4
  | .on => if op = 1 then .ok 0 s else .pend (Tile.gate t (.gating (some k)) s)
  | .gated =>
    if op = 0 then .ok 0 s
    else if railMv s t < 700 then badReason 3
    else .pend { s with tpow := vset s.tpow t (.powering (some k)) }

def bodyTilePower (pk : Packet) (k : Key) (s : State) : Verdict :=
  if 4 ≤ pk.u8 8 then badReason 1
  else if 2 ≤ pk.u8 9 then badReason 2
  else if glowing s then badReason 4
  else Tile.setPower (pk.u8 8) (pk.u8 9) k s

/-- TILE_POWER (R13, R14, R339). -/
def execTilePower (q : Nat) (pk : Packet) (s : State) : Host.Outcome State Fault Refusal :=
  .next (Cmd.run specTilePower bodyTilePower q pk s)

/-- TILE_POWER_DONE (R339): the tile is powered, with the outcome of its shaded store's self-test (R124), or its power is
removed once its head's off sequence has ended (R14, Table 12.13). -/
def execTilePowerDone (done : TileDone) (s : State) : Host.Outcome State Fault Refusal :=
  let tile := done.tile
  .next (match vget s.tpow tile .gated with
    | .powering k => Cmd.finalOpt k St.ok 0 (Tile.powered tile done.storePass s)
    | .gating k =>
      if (s.head tile).step == .none then Cmd.finalOpt k St.ok 0 (Tile.dark tile s) else s
    | .on => s
    | .gated => s)

/-- TILE_BROWNOUT (R331, Table 15.14): the tile is gated by R14, and its gating ends as TILE_POWER's does; a power-on under
way ends with reason 3. -/
def execTileBrownout (tile mv : Nat) (s : State) : Host.Outcome State Fault Refusal :=
  .next (whenever (s.live && decide (mv < 680)) (fun s =>
    let ev (s : State) : State := Ev.raise 5 0 (packLe [(1, tile), (2, mv)]) s
    match vget s.tpow tile .gated with
    | .on => ev (Tile.gate tile (.gating none) s)
    | .powering k => Cmd.finalOpt k St.badParam (result [(5, 1, 3)]) (ev (Tile.dark tile s))
    | .gating _ => s
    | .gated => s) s)

/-! ## POWER_STATE -/

def specPowerState : OpSpec := { op := 0xD01, owner := true, rev1 := false, rsv := 2, used := [(8, 1, 0xFF)] }

/-- The code of a power state (Table 2.3). -/
def PState.code : PState → Nat
  | .run => 0
  | .quiet => 1
  | .glow => 2

/-- The internal power-fail of POWER_STATE OFF; whether a running commit has begun its record is free (log 5). -/
def Power.failInternal (s : State) : State :=
  let begun := s.nv.recorded || Config.bool s.free
  Power.fail 1 begun (!s.pw.pfail) { s.drawn with pw := { s.pw with pfailInt := true } }

/-- The first actions of a transition (Tables 15.3, 15.4). -/
def Power.begin (target : Nat) (s : State) : State :=
  let s := if target = 3 then Power.failInternal s else s
  if s.pw.pstate == .glow then s
  else
    let s := onTiles Zones.abandon s
    if 2 ≤ target then Power.enterGlow s else s

def bodyPowerState (pk : Packet) (k : Key) (s : State) : Verdict :=
  let target := pk.u8 8
  if 4 ≤ target then badReason 2
  else if s.pw.trans.isSome then badReason 4
  else if target = s.pw.pstate.code then .ok (result [(5, 1, target)]) s
  else .pend (Power.begin target { s with pw := { s.pw with trans := some { target := target, key := some k } } })

/-- POWER_STATE (R334). -/
def execPowerState (q : Nat) (pk : Packet) (s : State) : Host.Outcome State Fault Refusal :=
  .next (Cmd.run specPowerState bodyPowerState q pk s)

/-- The state of a target. -/
def stateOf (target : Nat) : PState := if target = 0 then .run else if target = 1 then .quiet else .glow

/-- A transition to RUN or QUIET ends: what GLOW had stopped goes on, and held entries are fetched (Table 15.5). -/
def Power.reached (target : Nat) (k : Option Key) (s : State) : State :=
  let wasGlow := s.pw.pstate == .glow
  let s := { s with pw := { s.pw with
    pstate := stateOf target, trans := none, lastWake := if wasGlow && k.isSome then 0 else s.pw.lastWake } }
  let s := if wasGlow then Power.leaveGlow s else s
  Ring.fetchAll (Cmd.finalOpt k St.ok (result [(5, 1, target)]) s)

/-- GLOW is reached; a wake cause that came during the entry starts the exit at once (Table 15.14). -/
def Power.reachedGlow (k : Option Key) (s : State) : State :=
  let due := s.pw.wakeDue
  let s := { s with pw := { s.pw with pstate := .glow, trans := none, wakeDue := none } }
  let s := Cmd.finalOpt k St.ok (result [(5, 1, 2)]) s
  match due with
  | some (cause, arg) => Power.exitBy cause arg s
  | none => s

/-- GLOW is reached on the way to OFF: the last reply is written and signalled, then PWR_EN falls (R334). -/
def Power.reachedOff (k : Option Key) (s : State) : State :=
  let s := Cmd.finalOpt k St.ok (result [(5, 1, 3)]) { s with pw := { s.pw with pstate := .glow } }
  let s := match k with
    | some k => Ring.signal k.q s
    | none => s
  Power.toOff false s

/-- The store is at rest, so that the power-fail of POWER_STATE OFF has run its course (R318, R308, R340). -/
def storeAtRest (s : State) : Bool := s.nv.running.isNone && !s.nv.queue.any isPowerFail && s.cal.burn.isNone

/-- No panel upload is under way: entry to GLOW completes it first (Table 12.13). -/
def panelsLoaded (s : State) : Bool := (List.range 4).all (fun t => (s.head t).uploads.isEmpty)

/-- POWER_TRANSITION_DONE (Tables 15.3 to 15.5). -/
def execPowerTransitionDone (s : State) : Host.Outcome State Fault Refusal :=
  .next (match s.pw.trans with
    | some t =>
      if t.target < 2 then Power.reached t.target t.key s
      else if !panelsLoaded s then s
      else if t.target = 2 then Power.reachedGlow t.key s
      else if storeAtRest s then Power.reachedOff t.key s
      else s
    | none => s)

/-! ## POWER_CONFIG, POWER_READ, CLOCK_SPREAD and IO_CONFIG -/

def specPowerConfig : OpSpec :=
  { op := 0xD02, owner := true, rev1 := false, rsv := 2, used := [(8, 3, 0xFF), (12, 2, 0xFF), (16, 8, 0xFF)] }

def bodyPowerConfig (pk : Packet) (_ : Key) (s : State) : Verdict :=
  let at' := pk.le 16 8
  let mv := pk.u16 12
  if 64 ≤ pk.u8 8 || 2 ≤ pk.u8 9 then badReason 2
  else if pk.u8 10 = 0 || 63 < pk.u8 10 || mv < 600 || 1150 < mv || (at' != 0 && decide (at' ≤ s.sec)) then badReason 6
  else .ok 0 { s with pw := { s.pw with
      wakeMask := BitVec.ofNat 6 (pk.u8 8), wakeTarget := pk.u8 9, presenceMin := pk.u8 10, pfailMv := mv
      wakeAt := BitVec.ofNat 64 at' } }

/-- POWER_CONFIG (R335). -/
def execPowerConfig (q : Nat) (pk : Packet) (s : State) : Host.Outcome State Fault Refusal :=
  .next (Cmd.run specPowerConfig bodyPowerConfig q pk s)

def specPowerRead : OpSpec := { op := 0xD03, owner := false, rev1 := true, rsv := 2, used := [(8, 1, 0xFF)] }

/-- GSTATUS.PFAIL: the power-fail signal, or the internal one of POWER_STATE OFF (R340). -/
def pfailNow (s : State) : Bool := s.pw.pfail || s.pw.pfailInt

/-- STATE as GSTATUS and POWER_READ report it: 3 throughout start-up (R332). -/
def stateCode (s : State) : Nat := if s.live then s.pw.pstate.code else 3

/-- The RESULT of POWER_READ. -/
def powerResult (s : State) (t : Nat) : Nat :=
  result [(5, 1, stateCode s), (6, 1, s.pw.lastWake), (7, 2, s.pw.mon.supmon), (9, 2, s.pw.mon.holdmon), (11, 2, railMv s t),
    (13, 2, s.pw.pfailRises), (15, 8, s.pw.pfailStamp.toNat / 1000000000),
    (23, 1, bit (pfailNow s) + 2 * bit s.pw.pfailStampValid)]

def bodyPowerRead (pk : Packet) (_ : Key) (s : State) : Verdict :=
  if 4 ≤ pk.u8 8 then badReason 1 else .ok (powerResult s (pk.u8 8)) s

/-- POWER_READ (Table 15.12). -/
def execPowerRead (q : Nat) (pk : Packet) (s : State) : Host.Outcome State Fault Refusal :=
  .next (Cmd.run specPowerRead bodyPowerRead q pk s)

def specClockSpread : OpSpec := { op := 0xD04, owner := true, rev1 := false, rsv := 2, used := [(8, 2, 0xFF)] }

/-- The widest spread of a domain, in 0.1 % (R344). -/
def spreadMax (domain : Nat) : Nat := if domain < 4 then 20 else if domain = 4 then 5 else 10

/-- A spread setting: TCLK and HCLK take it at once (log 9), PXCLK at its head's next frame start; a gated tile keeps it. -/
def Power.setSpread (domain v : Nat) (s : State) : State :=
  let s := { s with pw := { s.pw with spread := vset s.pw.spread domain v } }
  if domain < 4 then
    (if s.tileOn domain then
      Zones.refit domain { s with pw := { s.pw with spreadNow := vset s.pw.spreadNow domain v } }
     else s)
  else if domain = 4 then { s with pw := { s.pw with spreadNow := vset s.pw.spreadNow domain v } }
  else s

def bodyClockSpread (pk : Packet) (_ : Key) (s : State) : Verdict :=
  let d := pk.u8 8
  if 9 ≤ d then badReason 1
  else if glowing s then badReason 4
  else if spreadMax d < pk.u8 9 then badReason 6
  else .ok 0 (Power.setSpread d (pk.u8 9) s)

/-- CLOCK_SPREAD (R344). -/
def execClockSpread (q : Nat) (pk : Packet) (s : State) : Host.Outcome State Fault Refusal :=
  .next (Cmd.run specClockSpread bodyClockSpread q pk s)

def specIoConfig : OpSpec := { op := 0xD05, owner := true, rev1 := false, rsv := 2, used := [(8, 3, 0xFF)] }

/-- A filter code that a class allows (Table 15.10). -/
def filterOk (cls code : Nat) : Bool := if cls = 0 then decide (code < 2) else if cls = 3 then code == 0 else decide (code < 4)

/-- A slew code that a class allows. -/
def slewOk (cls code : Nat) : Bool := if cls = 3 then decide (code < 4) else code == 0

def bodyIoConfig (pk : Packet) (_ : Key) (s : State) : Verdict :=
  let c := pk.u8 8
  if 4 ≤ c then badReason 1
  else if glowing s then badReason 4
  else if !filterOk c (pk.u8 9) || !slewOk c (pk.u8 10) then badReason 6
  else if c = 3 then .ok 0 { s with pw := { s.pw with slew := pk.u8 10 } }
  else .ok 0 { s with pw := { s.pw with filter := vset s.pw.filter c (pk.u8 9) } }

/-- IO_CONFIG (R345). -/
def execIoConfig (q : Nat) (pk : Packet) (s : State) : Host.Outcome State Fault Refusal :=
  .next (Cmd.run specIoConfig bodyIoConfig q pk s)

/-! ## THERM_CONFIG, THERM_READ and THERM_CAP -/

def specThermConfig : OpSpec := { op := 0xD10, owner := true, rev1 := false, rsv := 2, used := [(8, 2, 0xFF)] }

def bodyThermConfig (pk : Packet) (_ : Key) (s : State) : Verdict :=
  let w := pk.u8 8
  let t := pk.u8 9
  if w < 60 || 120 < w || t < 70 || 120 < t || t < w then badReason 5
  else .ok 0 { s with pw := { s.pw with tWarn := w, tThrottle := t } }

/-- THERM_CONFIG (R342). -/
def execThermConfig (q : Nat) (pk : Packet) (s : State) : Host.Outcome State Fault Refusal :=
  .next (Cmd.run specThermConfig bodyThermConfig q pk s)

def specThermRead : OpSpec := { op := 0xD11, owner := false, rev1 := true, rsv := 2, used := [(8, 1, 0xFF)] }

/-- The summary of THERM_READ; a gated tile's level reads 0, and no working sensor at all reads as maximum 0. -/
def thermSummary (s : State) : Nat :=
  let m := (dieMax s).getD (0, 0)
  let levels := (List.range 4).foldl (fun a t => a + (if s.tileOn t then levelInForce s t else 0) * 16 ^ t) 0
  let faulty := (List.range 16).foldl (fun a i => a + bit (s.sensor i).faulty * 2 ^ i) 0
  result [(5, 2, toBits 16 m.1), (7, 1, m.2), (8, 1, bit s.pw.warn + 2 * bit s.pw.crit), (9, 2, levels), (11, 2, faulty)]

/-- One sensor's RESULT. -/
def sensorResult (x : Sensor) : Nat :=
  result [(5, 2, toBits 16 x.reading), (7, 1, bit x.faulty), (8, 2, toBits 16 x.low), (10, 2, toBits 16 x.high)]

def bodyThermRead (pk : Packet) (_ : Key) (s : State) : Verdict :=
  let i := pk.u8 8
  if i = 0xFF then .ok (thermSummary s) s
  else if 16 ≤ i then badReason 1
  else .ok (sensorResult (s.sensor i)) s

/-- THERM_READ (Table 15.12). -/
def execThermRead (q : Nat) (pk : Packet) (s : State) : Host.Outcome State Fault Refusal :=
  .next (Cmd.run specThermRead bodyThermRead q pk s)

def specThermCap : OpSpec := { op := 0xD12, owner := true, rev1 := false, rsv := 2, used := [(8, 2, 0xFF)] }

def bodyThermCap (pk : Packet) (_ : Key) (s : State) : Verdict :=
  if 4 ≤ pk.u8 8 || 5 ≤ pk.u8 9 then badReason 1
  else .ok 0 (Throttle.around (fun s => s.modThrottle (pk.u8 8) (fun t => { t with cap := pk.u8 9 })) s)

/-- THERM_CAP (R343). -/
def execThermCap (q : Nat) (pk : Packet) (s : State) : Host.Outcome State Fault Refusal :=
  .next (Cmd.run specThermCap bodyThermCap q pk s)

end Sys2Proof.Machine
end

