-- ==== Sys2Proof/Machine/Flags.lean ====
section
/-!
DEFINITION. Machine/Flags.lean: the status words of BAR0. The block has no processor flags; its other status words stand
with what they report: UI_STAT in InputOps, DRV_STAT, AO_STAT and FAN_STAT in DriveOps, LSTAT in LoopOps, PSTAT in ZoneOps,
BUS_STAT in BusRun, LZ_STAT in FedRun, FP_STAT in Presence, PH_STAT and PH_TSTAT in PanelOps.
-/

namespace Sys2Proof.Machine

/-- ID_PART (Table 2.2). -/
def idPart : Nat := 0x1C5D8240

/-- ID_REV. -/
def idRev : Nat := 0xB0

/-- PROTO_REV: MIN 1, MAX 2. -/
def protoRev : Nat := 0x12

/-- GSTATUS.TILE_ON. -/
def tileOnBits (s : State) : Nat := (List.range 4).foldl (fun a t => a + bit (s.tileOn t) * 2 ^ t) 0

/-- GSTATUS (Table 2.3). -/
def gstatus (s : State) : Nat :=
  bit s.live + bit s.tb.valid * 2 + stateCode s * 2 ^ 2 + tileOnBits s * 2 ^ 4 + bit (pfailNow s) * 2 ^ 8
    + bit (s.pw.boot == .dramFault) * 2 ^ 9 + bit (s.pw.boot == .fwFault) * 2 ^ 10 + bit s.hub.winRw * 2 ^ 11

/-- The code of SETUP_CTL.STATE (Table 2.5). -/
def SetupState.code : SetupState → Nat
  | .idle => 0
  | .armed => 1
  | .refused => 2
  | .disarming => 3

/-- SETUP_CTL as it reads: STATE alone. -/
def setupCtl (s : State) : Nat := s.hub.setup.code * 2 ^ 2

/-- A port that CHSEL can name: the kind of port and its global index. -/
structure PortSel where
  kind : Nat
  index : Nat
deriving DecidableEq, Repr

/-- Ports of a kind on the chip (Table 2.9). -/
def portCount (kind : Nat) : Nat := [256, 96, 32, 16, 64, 32, 4, 8][kind]?.getD 0

/-- Ports of a kind in a tile; links are the hub's (log 13). -/
def portsPerTile (kind : Nat) : Nat := [64, 24, 8, 4, 16, 8, 1][kind]?.getD 1

/-- The port that CHSEL names, whether or not it exists. -/
def chselPort (h : Hub) : PortSel := { kind := field h.chsel.toNat 15 12, index := field h.chsel.toNat 11 0 }

/-- The port exists. -/
def PortSel.exists (p : PortSel) : Bool := decide (p.index < portCount p.kind)

/-- The tile a port lies in. -/
def PortSel.tile (p : PortSel) : Nat := p.index / portsPerTile p.kind

/-- The port's number in its tile. -/
def PortSel.local (p : PortSel) : Nat := p.index % portsPerTile p.kind

/-- CHSEL.GATED: the port exists and lies in a gated tile. -/
def chselGated (s : State) : Bool :=
  let p := chselPort s.hub
  p.exists && p.kind != 7 && !s.tileOn p.tile

/-- CHSEL.VALID: the port exists and is powered (R46). -/
def chselValid (s : State) : Bool := (chselPort s.hub).exists && !chselGated s

/-- CHSEL (Table 2.9). -/
def chselWord (s : State) : Nat := s.hub.chsel.toNat + bit (chselGated s) * 2 ^ 30 + bit (chselValid s) * 2 ^ 31

/-- A word of the MSI-X pending-bit array. -/
def pbaWord (h : Hub) (i : Nat) : Nat := h.pba.toNat / 2 ^ (32 * i) % 2 ^ 32

end Sys2Proof.Machine
end

