-- ==== Sys2Proof/Machine/Window.lean ====
section
/-!
DEFINITION. Machine/Window.lean: the channel window (R46 to R48): the direct registers of the selected port, by the maps of
Tables 4.7, 6.11, 9.5, 10.10, 11.6 and 12.9. `w` is the register's number: 0 at offset 0x1100.
-/

namespace Sys2Proof.Machine

/-! ## Reads -/

/-- The input window (R90); of an input in METER mode, MODE 9 and its RANGE, and no value (R145). -/
def windowInput (s : State) (t i w : Nat) : Nat :=
  let x := (s.tile t).input i
  let c := x.latestCfg
  let open' (n : Nat) : Nat := if isShaded s t i then 0 else n
  match w with
  | 0 => if isShaded s t i then 9 + c.range * 2 ^ 4 else c.cfg0.toNat
  | 1 => open' c.paramA.toNat
  | 2 => open' c.paramB.toNat
  | 3 => open' c.comp.toNat
  | 4 => uiStat s t i
  | 5 => uiValue s t i
  | 6 => uiCount s t i
  | 7 => x.tpass
  | 8 => x.tfail
  | _ => 0

/-- The drive window (R214); a slave channel shows DRV_STAT and DRV_ISENSE only. -/
def windowDrive (s : State) (t j w : Nat) : Nat :=
  let x := s.tile t
  let d := x.drive j
  let own (n : Nat) : Nat := if isSlave x j then 0 else n
  match w with
  | 0 => own d.cfg.cfg0.toNat
  | 1 => own d.cfg.cfg1.toNat
  | 2 => own d.cfg.cfg2.toNat
  | 3 => own d.cfg.cfg3.toNat
  | 4 => drvStat s t j
  | 5 => own d.demand.toNat
  | 6 => drvIsense d
  | 7 => own (posNow s t j).toNat
  | 8 => own d.starts.toNat
  | _ => 0

/-- The analogue output window. -/
def windowAo (s : State) (t k w : Nat) : Nat :=
  let a := (s.tile t).ao k
  match w with
  | 0 => a.cfg0.toNat
  | 1 => a.cfg1.toNat
  | 2 => a.cfg2.toNat
  | 4 => aoStat s t k
  | _ => 0

/-- The fan window. -/
def windowFan (s : State) (t k w : Nat) : Nat :=
  let f := (s.tile t).fan k
  match w with
  | 0 => f.cfg0.toNat
  | 1 => f.cfg1.toNat
  | 2 => f.cfg2.toNat
  | 4 => fanStat s t k
  | 5 => f.rpm
  | _ => 0

/-- The bus window (R238). -/
def windowBus (s : State) (k w : Nat) : Nat :=
  let b := s.bus k
  match w with
  | 0 => b.cfg0.toNat
  | 1 => b.cfg1.toNat
  | 2 => b.cfg2.toNat
  | 3 => b.cfg3.toNat
  | 4 => b.stat
  | 5 => b.cause.toNat
  | 6 => b.txok.toNat
  | 7 => b.rxok.toNat
  | 8 => b.drop.toNat
  | _ => 0

/-- The frame port window (R145). -/
def windowPort (s : State) (t p w : Nat) : Nat :=
  let x := s.port t p
  match w with
  | 0 => x.cfg0.toNat
  | 1 => fpStat s t p
  | 2 => x.frames.toNat
  | 3 => x.shorts.toNat
  | 4 => x.longs.toNat
  | 5 => x.overruns.toNat
  | _ => 0

/-- The panel window (R291). -/
def windowHead (s : State) (h w : Nat) : Nat :=
  let x := s.head h
  match w with
  | 0 => x.cfg0.toNat
  | 1 => x.cfg1.toNat
  | 2 => x.cfg2.toNat
  | 3 => x.cfg3.toNat
  | 4 => phStat s h
  | 5 => phTstat s h
  | 6 => x.frames.toNat
  | 7 => x.crackR.toNat
  | _ => 0

/-- The link window (R260). -/
def windowLink (s : State) (l w : Nat) : Nat :=
  let k := s.fed.link l
  match w with
  | 0 => bit k.enable + k.maxver * 2
  | 1 => lzStat s l
  | 2 => k.peerCluster * 2 ^ 8 + k.peerChip * 2 ^ 16
  | 3 => k.eye.toNat
  | 4 => k.txrec.toNat
  | 5 => k.rxrec.toNat
  | 6 => k.drop.toNat
  | 7 => k.train.toNat
  | _ => 0

/-- A window read; 0 while VALID is 0 (R46). -/
def Window.read (s : State) (w : Nat) : Nat :=
  let p := chselPort s.hub
  if !chselValid s then 0
  else match p.kind with
    | 0 => windowInput s p.tile p.local w
    | 1 => windowDrive s p.tile p.local w
    | 2 => windowAo s p.tile p.local w
    | 3 => windowFan s p.tile p.local w
    | 4 => windowBus s p.index w
    | 5 => windowPort s p.tile p.local w
    | 6 => windowHead s p.index w
    | _ => windowLink s p.index w

/-! ## Writes -/

/-- A write that a command's own checks refuse is ignored; any other has the command's effect. -/
def Verdict.stateOr (v : Verdict) (s : State) : State :=
  match v with
  | .ok _ t => t
  | .cond _ _ t => t
  | .fail _ _ => s
  | .pend t => t
  | .later t => t

/-- The new register at `w`, the old one at others. -/
def pickWord (w n : Nat) (v old : Word) : Word := if w = n then v else old

/-- A write to an input's configuration: INPUT_CONFIG with that register changed (R90); ignored in METER mode (R92). -/
def windowInputWrite (t i w : Nat) (v : Word) (s : State) : State :=
  if 4 ≤ w then s
  else
    let c := ((s.tile t).input i).latestCfg
    let c : InCfg := { cfg0 := pickWord w 0 v c.cfg0, paramA := pickWord w 1 v c.paramA
                       paramB := pickWord w 2 v c.paramB, comp := pickWord w 3 v c.comp }
    match judgeConfig s t i c with
    | some _ => s
    | none => Input.configure t i c s

/-- A write to a drive's configuration: DRV_CONFIG with that register changed; a waiting record is the one changed. -/
def windowDriveWrite (t j w : Nat) (v : Word) (s : State) : State :=
  if 4 ≤ w then s
  else
    let d := (s.tile t).drive j
    let c := d.wait.getD d.cfg
    let c : DrvCfg := { cfg0 := pickWord w 0 v c.cfg0, cfg1 := pickWord w 1 v c.cfg1
                        cfg2 := pickWord w 2 v c.cfg2, cfg3 := pickWord w 3 v c.cfg3 }
    (Drv.command t j c s).stateOr s

/-- A write to an analogue output's configuration: AO_CONFIG. -/
def windowAoWrite (t k w : Nat) (v : Word) (s : State) : State :=
  if 3 ≤ w then s
  else
    let a := (s.tile t).ao k
    (Ao.command t k (pickWord w 0 v a.cfg0) (pickWord w 1 v a.cfg1) (pickWord w 2 v a.cfg2) s).stateOr s

/-- A write to a fan port's configuration: FAN_CONFIG. -/
def windowFanWrite (t k w : Nat) (v : Word) (s : State) : State :=
  if 3 ≤ w then s
  else
    let f := (s.tile t).fan k
    (Fan.command t k (pickWord w 0 v f.cfg0) (pickWord w 1 v f.cfg1) (pickWord w 2 v f.cfg2) s).stateOr s

/-- A write to a controller: BUS_CONFIG with its groups kept, or BUS_CAUSE cleared by ones (Tables 10.10, 10.11). -/
def windowBusWrite (k w : Nat) (v : Word) (s : State) : State :=
  if w = 5 then s.modBus k (fun b => { b with cause := b.cause &&& ~~~v })
  else if 4 ≤ w then s
  else
    let b := s.bus k
    (Bus.command k (pickWord w 0 v b.cfg0) (pickWord w 1 v b.cfg1) (pickWord w 2 v b.cfg2) (pickWord w 3 v b.cfg3)
      b.groups.toList s).stateOr s

/-- A write to a head's configuration: PANEL_CONFIG (R291). -/
def windowHeadWrite (h w : Nat) (v : Word) (s : State) : State :=
  if 4 ≤ w then s
  else
    let x := s.head h
    (Panel.configure h (pickWord w 0 v x.cfg0) (pickWord w 1 v x.cfg1) (pickWord w 2 v x.cfg2) (pickWord w 3 v x.cfg3)
      s).stateOr s

/-- A write of LZ_CFG: FED_LINK with OP from ENABLE (R260). -/
def windowLinkWrite (l w : Nat) (v : Word) (s : State) : State :=
  let maxver := field v.toNat 2 1
  let op := field v.toNat 0 0
  if w != 0 || field v.toNat 31 3 != 0 || (judgeLink s l op maxver).isSome then s else Link.command l op maxver s

/-- A window write: ignored unless WIN_RW and VALID are 1 (R46, R47). -/
def Window.write (w : Nat) (v : Word) (s : State) : State :=
  let p := chselPort s.hub
  if !s.hub.winRw || !chselValid s then s
  else match p.kind with
    | 0 => windowInputWrite p.tile p.local w v s
    | 1 => windowDriveWrite p.tile p.local w v s
    | 2 => windowAoWrite p.tile p.local w v s
    | 3 => windowFanWrite p.tile p.local w v s
    | 4 => windowBusWrite p.index w v s
    | 5 => s
    | 6 => windowHeadWrite p.index w v s
    | _ => windowLinkWrite p.index w v s

end Sys2Proof.Machine
end

