-- ==== Sys2Proof/Machine/Bar0.lean ====
section
/-!
DEFINITION. Machine/Bar0.lean: BAR0 (Table 2.1), the PCIe configuration requests that R339 describes, and QSPI framing
(R49, R50).
-/

namespace Sys2Proof.Machine

/-- The device answers accesses: not while held in reset, in OFF, or without its always-on supply. -/
def answers (s : State) : Bool := s.pw.boot != .held && s.pw.boot != .off && s.pw.boot != .unpowered

/-! ## Registers -/

/-- A read of `bytes` bytes at an offset: an access that is narrower than a word or unaligned reads 0, and so do the
reserved offsets and the write-only registers (R25). -/
def Bar0.read (s : State) (off bytes : Nat) : Nat :=
  if bytes != 4 || off % 4 != 0 then 0
  else if off = 0x0000 then idPart
  else if off = 0x0004 then idRev
  else if off = 0x0008 then protoRev
  else if off = 0x000C then gstatus s
  else if off = 0x0010 then setupCtl s
  else if off = 0x1000 then chselWord s
  else if 0x1100 ≤ off && off < 0x1400 then Window.read s ((off - 0x1100) / 4)
  else if 0x8000 ≤ off && off < 0x9000 then (vget s.hub.msix ((off - 0x8000) / 4) 0).toNat
  else if 0x9000 ≤ off && off < 0x9020 then pbaWord s.hub ((off - 0x9000) / 4)
  else 0

/-- A write of SETUP_CTL: DISARM wins over ARM (R29). -/
def Setup.write (v : Word) (s : State) : State :=
  if v.getLsbD 1 then Setup.disarm s else if v.getLsbD 0 then Setup.arm s else s

/-- A write of the MSI-X table: of Vector Control only the mask bit is kept, and what is unmasked is sent (R353). -/
def Msix.write (i : Nat) (v : Word) (s : State) : State :=
  let kept : Word := if i % 4 = 3 then v &&& 1 else if i % 4 = 0 then v &&& 0xFFFFFFFC#32 else v
  Msix.flush { s with hub := { s.hub with msix := vset s.hub.msix i kept } }

/-- A write of the word at an offset; one to a reserved or read-only offset is ignored. -/
def Bar0.write (off : Nat) (v : Word) (s : State) : State :=
  if off % 4 != 0 || !answers s then s
  else if off = 0x0010 then Setup.write v s
  else if 0x0040 ≤ off && off < 0x0060 then
    { s with hub := { s.hub with setupDesc := vset s.hub.setupDesc ((off - 0x0040) / 4) v } }
  else if off = 0x1000 then { s with hub := { s.hub with chsel := v.setWidth 16 } }
  else if 0x1100 ≤ off && off < 0x1400 then Window.write ((off - 0x1100) / 4) v s
  else if 0x4000 ≤ off && off < 0x8000 then Ring.doorbell ((off - 0x4000) / 4) v s
  else if 0x8000 ≤ off && off < 0x9000 then Msix.write ((off - 0x8000) / 4) v s
  else s

/-- REGISTER_WRITE (R25): an access of `bytes` bytes; one that is narrower than a word or unaligned is ignored. -/
def execRegisterWrite (offset bytes : Nat) (value : Word) (s : State) : Host.Outcome State Fault Refusal :=
  .next (whenever (bytes == 4) (Bar0.write offset value) s)

/-- CHSEL_WRITE (R46): KIND and INDEX are selected; VALID and GATED follow from them. -/
def execChselWrite (value : Word) (s : State) : Host.Outcome State Fault Refusal := .next (Bar0.write 0x1000 value s)

/-- WINDOW_WRITE (R47). -/
def execWindowWrite (offset : Nat) (value : Word) (s : State) : Host.Outcome State Fault Refusal :=
  .next (whenever (decide (0x1100 ≤ offset) && decide (offset < 0x1400)) (Bar0.write offset value) s)

/-- DOORBELL (R31, R34): the host's bytes lie in host memory when the doorbell write reaches the device. -/
def execDoorbell (q : Nat) (value : Word) (written : List (Nat × Byte)) (s : State) : Host.Outcome State Fault Refusal :=
  let s := { s with hostMem := written.foldl (fun m x => memSet m x.1 x.2) s.hostMem }
  .next (if q < 4096 then Bar0.write (0x4000 + 4 * q) value s else s)

/-! ## Configuration requests -/

/-- What a configuration read finds (R23): class code 0x118000, Device ID 0x8240, BAR0 alone, of 64 KiB, 64-bit and
non-prefetchable, MSI-X with 256 vectors whose table and pending bits lie in BAR0, no INTx, no MSI, no SR-IOV. The places
of fields in a word are PCI Express's (log 24). -/
def cfgWord (h : Hub) : CfgItem → Word
  | .deviceId => 0x8240#16 ++ Config.vendorId
  | .classCode => 0x118000#24 ++ Config.pcieRevision
  | .bar i => if i = 0 then h.bar0.setWidth 32 ||| 4#32 else if i = 1 then (h.bar0 >>> 32).setWidth 32 else 0
  | .interruptPin => 0
  | .maxPayload => 256
  | .maxReadRequest => 512
  | .msixControl => BitVec.ofNat 32 (255 + bit h.msixMasked * 2 ^ 14 + bit h.msixEnabled * 2 ^ 15)
  | .msixTable => 0x8000
  | .msixPba => 0x9000
  | .hasMsi => 0
  | .hasSriov => 0
  | .other off => Config.pcieWord off

/-- CONFIGURATION_REQUEST (R339): from 20 ms after POR release a request is answered, with Configuration Request Retry
Status until RDY. A served read gives its data (R23); a served write can place BAR0 at a multiple of its 64 KiB, or
enable MSI-X or change the function mask, and what is unmasked is sent (R353). -/
def execConfigurationRequest (r : CfgRequest) (s : State) : Host.Outcome State Fault Refusal :=
  let answer (a : CfgAnswer) : State := { s with hub := { s.hub with cfgAnswer := a } }
  .next (
    if !answers s || s.tb.elapsed < s.pw.porAt + 20000000 then s
    else if !s.live then answer .retry
    else
      let s := answer .served
      match r with
      | .read item => { s with hub := { s.hub with cfgData := some (cfgWord s.hub item) } }
      | .bar0 v => { s with hub := { s.hub with bar0 := v &&& ~~~0xFFFF#64 } }
      | .msix enable mask => Msix.flush { s with hub := { s.hub with msixEnabled := enable, msixMasked := mask } })

/-! ## QSPI (R49, R50) -/

/-- The byte address `i` bytes on, wrapping within its region of 64 KiB. -/
def qspiAddr (a i : Nat) : Nat := a / 65536 * 65536 + (a % 65536 + i) % 65536

/-- One word of a write transaction: into ring memory, or to a BAR0 register. -/
def Qspi.put (a : Nat) (v : Word) (s : State) : State :=
  if a < 65536 then
    { s with ringMem := (List.range 4).foldl (fun m i => memSet m (qspiAddr a i) (byteAt v.toNat i)) s.ringMem }
  else if a < 131072 then Bar0.write (a - 65536) v s
  else s

/-- The words of a write, in address order; a last word that is not whole is discarded. -/
def Qspi.write : Nat → List Byte → State → State
  | a, b0 :: b1 :: b2 :: b3 :: r, s => Qspi.write (qspiAddr a 4) r (Qspi.put a (BitVec.ofNat 32 (ofLe [b0, b1, b2, b3])) s)
  | _, _, s => s

/-- A WRITE or QWRITE transaction. -/
def Qspi.writeOp (address : Nat) (data : List Byte) (s : State) : State := whenever (answers s) (Qspi.write address data) s

/-- One word of a read. -/
def Qspi.get (s : State) (a : Nat) : Word :=
  if a < 65536 then BitVec.ofNat 32 (ofLe ((List.range 4).map (fun i => memGet s.ringMem (qspiAddr a i))))
  else if a < 131072 then BitVec.ofNat 32 (Bar0.read s (a - 65536) 4)
  else 0

/-- A READ or QREAD transaction: the words it shifts out. -/
def Qspi.readOp (address words : Nat) (s : State) : State :=
  whenever (answers s) (fun s => { s with hub := { s.hub with
    qspiOut := (List.range words).map (fun i => Qspi.get s (qspiAddr address (4 * i))) } }) s

/-- A completion interrupt is pending: replies signalled on a pin that CQ_HEAD has not passed, or a vector that its mask
holds and a pair names. -/
def completionPending (s : State) : Bool :=
  s.hub.pairs.any (fun e =>
    match e.2.desc.space with
    | .ring => decide (e.2.unsignalled < e.2.unread)
    | .host => s.hub.pba.getLsbD e.2.desc.vector.toNat)

/-- The STATUS byte (Table 2.11). -/
def qspiStatusByte (s : State) : Nat := bit s.live + 2 * bit (completionPending s)

/-- QSPI_WRITE (R49, R50). -/
def execQspiWrite (address : Nat) (data : List Byte) (s : State) : Host.Outcome State Fault Refusal :=
  .next (Qspi.writeOp address data s)

/-- QSPI_QWRITE (R49): as WRITE, on four lanes. -/
def execQspiQwrite (address : Nat) (data : List Byte) (s : State) : Host.Outcome State Fault Refusal :=
  .next (Qspi.writeOp address data s)

/-- QSPI_READ (R49). -/
def execQspiRead (address words : Nat) (s : State) : Host.Outcome State Fault Refusal :=
  .next (Qspi.readOp address words s)

/-- QSPI_QREAD (R49): as READ, on four lanes. -/
def execQspiQread (address words : Nat) (s : State) : Host.Outcome State Fault Refusal :=
  .next (Qspi.readOp address words s)

/-- QSPI_STATUS (R49). -/
def execQspiStatus (s : State) : Host.Outcome State Fault Refusal :=
  .next (whenever (answers s) (fun s => { s with hub := { s.hub with
    qspiOut := [BitVec.ofNat 32 (qspiStatusByte s)] } }) s)

/-- QSPI_UNKNOWN_INSTRUCTION (R49): ignored until CS_N rises. -/
def execQspiUnknownInstruction (_ : Byte) (s : State) : Host.Outcome State Fault Refusal := .next s

end Sys2Proof.Machine
end

