-- ==== Sys2Proof/Machine/Opcodes.lean ====
section
/-!
DEFINITION. Machine/Opcodes.lean: the opcodes the device knows, group by group, so that an unknown one is told apart
(R38 step 4), and BAD_OPCODE_PACKET.
-/

namespace Sys2Proof.Machine

/-- The opcodes of group 0x0. -/
def opsSys : List OpSpec :=
  [specTbSet, specTbSlew, specTbRead, specWindowAccess]

/-- The opcodes of group 0x1. -/
def opsSession : List OpSpec :=
  [specSessionOpen, specSessionProve, specSessionClose, specQueueCreate, specQueueDelete,
    specClientInstall, specClientRights, specClientRemove]

/-- The opcodes of group 0x2. -/
def opsPoint : List OpSpec :=
  [specPointRead, specPointWrite, specPointCreate, specPointConfig, specPointDelete, specPointWatch]

/-- The opcodes of group 0x3. -/
def opsInput : List OpSpec :=
  [specInputConfig, specInputRead, specInputTable, specInputTest, specRefbufOn, specRefbufOff,
    specAdcCalibrate, specSeqLoad, specSeqStart, specSeqStop, specSeqRead, specLchConfig, specLchRead,
    specLchWinack, specDmaCreate, specDmaDelete, specUrgentConvert, specRscan]

/-- The opcodes of group 0x4. -/
def opsShaded : List OpSpec :=
  [specMeterConfig, specMeterRead, specMeterHistory, specMeterResetPeak, specDemandConfig,
    specTariffLoad, specTariffCommit, specTariffRead, specPresenceConfig, specPresenceRead,
    specPresenceTest, specPresenceRebase]

/-- The opcodes of group 0x5. -/
def opsLoop : List OpSpec :=
  [specLoopCreate, specLoopDelete, specLoopRead, specLoopManual, specLoopTune, specLoopLoad]

/-- The opcodes of group 0x6. -/
def opsPred : List OpSpec :=
  [specZoneCreate, specZoneDelete, specZoneRead, specZoneModel, specPredSolve, specPredPlanRead,
    specPredLearn, specPredAccept, specPredPause, specPredSched, specPredLoad, specZoneTune]

/-- The opcodes of group 0x7. -/
def opsDrive : List OpSpec :=
  [specDrvConfig, specDrvProfile, specDrvCommand, specDrvRead, specDrvClear, specDrvBand, specAoConfig,
    specAoSet, specAoRead, specFanConfig, specFanSet, specFanRead]

/-- The opcodes of group 0x8. -/
def opsBus : List OpSpec :=
  [specBusConfig, specBusStatus, specBusSend, specBusCancel, specBusRecover, specBusFilter,
    specBusRxring, specBusNode, specBusNodeRead, specBusAdopt, specBusRetire, specBusLink, specBusDusk,
    specBusDawn]

/-- The opcodes of group 0x9. -/
def opsFed : List OpSpec :=
  [specFedIdentity, specFedLink, specFedNet, specFedPtp, specFedExport, specFedMirror, specFedUnmirror,
    specFedStatus, specFedPeerRead]

/-- The opcodes of group 0xA. -/
def opsPanel : List OpSpec :=
  [specPanelConfig, specPanelPower, specPanelUpload, specPanelFlip, specPanelGamma,
    specPanelGammaCommit, specPanelBand, specPanelRead, specPanelCrackScan, specGlowConfig, specGlowLoad,
    specGlowWidget, specTouchConfig, specTouchRing, specTouchRebase, specTouchProfile, specTouchRead]

/-- The opcodes of group 0xB. -/
def opsCal : List OpSpec :=
  [specCalRun, specCalMode, specCalRead, specCalSetRref, specCalCommit, specFuseInfo]

/-- The opcodes of group 0xC. -/
def opsNv : List OpSpec :=
  [specNvRead, specNvWrite, specNvStatus, specNvBp, specNvUnlock, specNvLock, specNvPassword,
    specNvClear, specNvHoldup]

/-- The opcodes of group 0xD. -/
def opsPower : List OpSpec :=
  [specTilePower, specPowerState, specPowerConfig, specPowerRead, specClockSpread, specIoConfig,
    specThermConfig, specThermRead, specThermCap]

/-- The opcodes of group 0xE. -/
def opsEvent : List OpSpec :=
  [specEventConfig, specEventRead, specEventPending, specEventAck, specEventWait, specEventDetail,
    specLogRead, specLogMark, specLogClear]

/-- Every opcode of the device. -/
def opTable : List OpSpec :=
  opsSys ++ opsSession ++ opsPoint ++ opsInput ++ opsShaded ++ opsLoop ++ opsPred ++ opsDrive
    ++ opsBus ++ opsFed ++ opsPanel ++ opsCal ++ opsNv ++ opsPower ++ opsEvent

/-- What the device knows of an opcode. -/
def specOf (op : BitVec 12) : Option OpSpec := opTable.find? (fun sp => sp.op == op.toNat)

/-- The packet names an opcode that is unknown, reserved or not served in its session's revision. -/
def opRefused (op : BitVec 12) (pk : Packet) (s : State) : Bool := !served (specOf op) (aget s.cl.sessions pk.ctx)

/-- BAD_OPCODE_PACKET (R38): BAD_OPCODE, or the status of an earlier check that fails. A packet whose opcode is served has
a row of its own, and here has no effect (log 8). -/
def execBadOpcodePacket (q : Nat) (opcode : BitVec 12) (pk : Packet) (s : State) : Host.Outcome State Fault Refusal :=
  .next (whenever (opRefused opcode pk s) (Cmd.runWith opcode (specOf opcode) (fun _ _ _ => failWith St.badOpcode) q pk) s)

end Sys2Proof.Machine
end

