-- ==== Sys2Proof/Machine/PanelRun.lean ====
section
/-!
DEFINITION. Machine/PanelRun.lean: the happenings of a panel head: frames, rails, crack checks, the panel band, copies into
its memories, and touch scans (R285 to R289).
-/

namespace Sys2Proof.Machine

/-! ## Copies -/

/-- Write a row of an upload, where it still lies in the buffer. -/
def uploadRow (x : Head) (j : CopyJob) (s : State) (m : List Host.Cell) (r : Nat) : List Host.Cell :=
  if j.y + r < x.vactive && j.x + j.w ≤ x.hactive then
    memWrite m (j.buf * 2 ^ 32 + 4 * ((j.y + r) * x.hactive + j.x)) (s.readMem j.space (j.src.toNat + r * j.pitch) (4 * j.w))
  else m

/-- PANEL_UPLOAD_DONE (R269): the oldest upload of the head is in its buffer. -/
def execPanelUploadDone (head : Nat) (s : State) : Host.Outcome State Fault Refusal :=
  .next (match (s.head head).uploads with
    | j :: rest =>
      let x := s.head head
      Cmd.final j.key St.ok 0 (s.modHead head (fun y => { y with
        uploads := rest, pixels := (List.range j.h).foldl (uploadRow x j s) y.pixels }))
    | [] => s)

/-- GLOW_LOAD_DONE (R282): the oldest load of the head is in glow memory. -/
def execGlowLoadDone (head : Nat) (s : State) : Host.Outcome State Fault Refusal :=
  .next (match (s.head head).loads with
    | j :: rest =>
      let d := s.readMem j.space j.src.toNat j.w
      Cmd.final j.key St.ok 0 (s.modHead head (fun y =>
        let y := { y with loads := rest }
        if j.buf = 0 then { y with bitmap := memWrite y.bitmap j.x d }
        else if j.buf = 1 then { y with palette := memWrite y.palette j.x d }
        else { y with glyphs := memWrite y.glyphs j.x d }))
    | [] => s)

/-- Every table of a bank never decreases; an entry that no part has written is 0. -/
def gammaWhole (g : Gamma) : Bool :=
  (List.range 12).all (fun i => rising ((List.range 1024).map (fun e => (aget g.table (i * 1024 + e)).getD 0)))

/-- GAMMA_COPY_DONE (R271): the bank has been checked and copied, and waits for its frame start; one that fails its check ends
the commit. -/
def execGammaCopyDone (head : Nat) (s : State) : Host.Outcome State Fault Refusal :=
  .next (match (s.head head).gammaJob with
    | some j =>
      if gammaWhole j.2.1 then s.modHead head (fun y => { y with gammaJob := some (j.1, j.2.1, true) })
      else Cmd.finalBad j.1 5 (s.modHead head (fun y => { y with gammaJob := none, gammaLate := false }))
    | none => s)

/-! ## Frames and rails -/

/-- FRAME_START (R268): a frame period after the last one. -/
def execFrameStart (head : Nat) (s : State) : Host.Outcome State Fault Refusal :=
  .next (whenever (s.tileOn head && scansFrames (s.head head) && (s.head head).step != .blackEnd)
    (fun s => Panel.frame head (untilElapsed ((s.head head).frameAt + (s.head head).frameNs) s)) s)

/-- POWER_GOOD (R273, R275): an input rises while its rail is up; what the sequence awaits, within its time, takes it on. -/
def execPowerGood (head index : Nat) (s : State) : Host.Outcome State Fault Refusal :=
  .next (whenever (s.tileOn head && index < 3) (fun s =>
    let x := s.head head
    let up := if index = 0 then x.rl else if index = 1 then x.rg else x.re
    let s := s.modHead head (fun x => { x with pg := if up then x.pg ||| (1#3 <<< index) else x.pg })
    let y := s.head head
    if awaitsPg y.step && pgReached y && decide (s.tb.elapsed ≤ y.stepAt + stepNs y) then Panel.pgNext head s else s) s)

/-- PH_LOCK (R273): the chain is locked and enumerated. -/
def execPhLock (head : Nat) (s : State) : Host.Outcome State Fault Refusal :=
  .next (whenever (s.tileOn head && (s.head head).rl) (fun s =>
    let s := s.modHead head (fun x => { x with lock := true })
    let x := s.head head
    if x.step == .lock && decide (s.tb.elapsed ≤ x.stepAt + stepNs x) then
      (if x.small then Panel.step head .crack s else Panel.step head .gateWait s)
    else s) s)

/-- RAIL_DEADLINE (R273): a power-good or PH_LOCK misses its deadline, and the sequence fails. -/
def execRailDeadline (head : Nat) (s : State) : Host.Outcome State Fault Refusal :=
  .next (whenever (s.tileOn head && ((s.head head).step == .lock || awaitsPg (s.head head).step)) (fun s =>
    let x := s.head head
    Panel.fault head (if x.step == .lock then 1 else 0) (untilElapsed (x.stepAt + stepNs x) s)) s)

/-- RAIL_SEQUENCE_TIMER (R274 to R276): a fixed wait ends: the gate rail rises, the black frame has passed, or the logic
rail falls and OFF is reached. -/
def execRailSequenceTimer (head : Nat) (s : State) : Host.Outcome State Fault Refusal :=
  .next (whenever (headPowered s head) (fun s =>
    let x := s.head head
    let s2 := untilElapsed (x.stepAt + stepNs x) s
    match x.step with
    | .gateWait => Panel.step head .gatePg (s2.modHead head (fun x => x.rails true true false))
    | .blackEnd => Panel.discharge head s2
    | .logicWait => Panel.reachOff head (s2.modHead head (fun x => x.rails false false false))
    | _ => s) s)

/-- DISCHARGE_END (R274 to R276): DIS_MS after the rails fell PH_DIS goes low; a small configuration is OFF, a large one
lowers its gate rail. -/
def execDischargeEnd (head : Nat) (s : State) : Host.Outcome State Fault Refusal :=
  .next (whenever (headPowered s head && (s.head head).step == .discharge) (fun s =>
    let x := s.head head
    let s := (untilElapsed (x.stepAt + stepNs x) s).modHead head (fun x => { x.rails x.rl false false with dis := false })
    if x.small && x.state != .fault then Panel.reachOff head s else Panel.step head .logicWait s) s)

/-- The pin of a fault cause, and what it is called: a power-good or PH_LOCK that was high has fallen, or PH_FLT_N has been
low for 10 us; none where nothing has changed. -/
def faultPin (x : Head) : PanelFaultCause → Option (Nat × Head)
  | .powerGood i => if i < 3 && x.pg.getLsbD i then some (0, { x with pg := x.pg &&& ~~~(1#3 <<< i) }) else none
  | .lock => if x.lock then some (1, { x with lock := false }) else none
  | .driver => some (2, { x with flt := true })

/-- PANEL_FAULT (R276): a head in RISING, LIT or FALLING enters FAULT; any other only reads the pin. -/
def execPanelFault (head : Nat) (cause : PanelFaultCause) (s : State) : Host.Outcome State Fault Refusal :=
  .next (whenever (s.tileOn head) (fun s =>
    match faultPin (s.head head) cause with
    | some p =>
      let s := s.modHead head (fun _ => p.2)
      let st := p.2.state
      if st == .rising || st == .lit || st == .falling then Panel.fault head p.1 s else s
    | none => s) s)

/-! ## The crack loop -/

/-- CRACK_CHECK (R278, R279): a measurement completes and is judged; a large configuration's in the power-on sequence waits for
the end of its second clear frame (Table 12.4). -/
def execCrackCheck (head ohms : Nat) (s : State) : Host.Outcome State Fault Refusal :=
  .next (whenever (s.tileOn head && ((s.head head).step == .crack || (s.head head).crackRun)) (fun s =>
    let x := s.head head
    let s := if x.step == .crack && !x.small then untilElapsed (x.frameAt + x.frameNs) s else s
    let r := min ohms (2 ^ 32 - 1)
    let s := s.modHead head (fun x => { x with crackR := BitVec.ofNat 32 r, crackRun := false })
    let pass := decide (r ≤ x.crackRmax)
    if x.step == .crack then Panel.lightCheck head pass s
    else if pass then s
    else Panel.litCheckFails head r s) s)

/-- CRACK_CHECK_TIMER (R279): every 1 s of TB while the head is LIT. -/
def execCrackCheckTimer (head : Nat) (s : State) : Host.Outcome State Fault Refusal :=
  .next (whenever (s.tileOn head && (s.head head).state == .lit) (fun s =>
    let at' := (s.head head).crackAt + 1000000000
    let s := untilTb (s.ns + (at' - s.tb.mono)) s
    s.modHead head (fun x => { x with crackAt := s.tb.mono, crackRun := true })) s)

/-- PANEL_BAND_SAMPLE (R272): every 1 ms. -/
def execPanelBandSample (head : Nat) (s : State) : Host.Outcome State Fault Refusal :=
  .next (whenever (s.tileOn head) (fun s =>
    let s := (s.head head).band.load s
    s.modHead head (fun x => { x with band := x.band.sample s })) s)

/-! ## Touch (R285 to R289): node n is drive line n / 20 and sense line n % 20 -/

/-- One node at a scan of `dt` ns (R286); a stuck node's baseline stays frozen (R288). -/
def TouchNode.scan (n : TouchNode) (th hyst : Int) (shift dt : Nat) (raw : Int) : TouchNode :=
  let delta : Rat := n.base - (raw : Rat)
  let n := { n with delta := delta }
  if n.touched then
    (if delta < ((th - hyst : Int) : Rat) then { n with touched := false, hold := 0 } else { n with hold := n.hold + dt })
  else if ((th : Int) : Rat) < delta then { n with touched := true, hold := 0 }
  else if delta < ((-th : Int) : Rat) then
    (if n.stuck then n
     else if 2000000000 ≤ n.anti + dt then { n with base := (raw : Rat), anti := 0 }
     else { n with anti := n.anti + dt })
  else if n.stuck then { n with anti := 0 }
  else { n with anti := 0, base := n.base + ((raw : Rat) - n.base) / ((2 ^ shift : Nat) : Rat) }

/-- Two nodes share an edge. -/
def nodesMeet (a b : Nat) : Bool :=
  let dx := a / 20 - b / 20 + (b / 20 - a / 20)
  let dy := a % 20 - b % 20 + (b % 20 - a % 20)
  dx + dy == 1

/-- Grow a group of touched nodes by those that share an edge with it, at most `n` times. -/
def growGroup (all : List Nat) : Nat → List Nat → List Nat
  | 0, g => g
  | n + 1, g =>
    let more := all.filter (fun x => !g.contains x && g.any (nodesMeet x))
    if more.isEmpty then g else growGroup all n (g ++ more)

/-- The groups of touched nodes, by their lowest node. -/
def touchGroups : Nat → List Nat → List (List Nat)
  | 0, _ => []
  | n + 1, l =>
    match l with
    | [] => []
    | x :: _ =>
      let g := growGroup l l.length [x]
      g :: touchGroups n (l.filter (fun y => !g.contains y))

/-- The centroid of a group, weighted by delta, in 1/64 node (R289). -/
def centroid (nodes : List TouchNode) (g : List Nat) : Nat × Nat :=
  let w (i : Nat) : Rat := ((nodes[i]?).map (·.delta)).getD 0
  let total := g.foldl (fun a i => a + w i) 0
  let mean (f : Nat → Nat) : Nat := roundNat (g.foldl (fun a i => a + w i * ((64 * f i : Nat) : Rat)) 0 / total)
  (min 1984 (mean (fun i => i / 20)), min 1216 (mean (fun i => i % 20)))

/-- Two positions lie within 2 nodes of each other. -/
def near (a : Nat × Nat) (c : Contact) : Bool :=
  let d (x y : Nat) : Nat := x - y + (y - x)
  decide (d a.1 c.x ^ 2 + d a.2 c.y ^ 2 ≤ 128 ^ 2)

/-- Name the contacts: an earlier one within 2 nodes keeps its ID, a new one takes the lowest ID that is free; its
strength is a free value (log 5). -/
def nameContacts (s : State) (old : List Contact) : List (Nat × Nat) → List Contact → List Contact
  | [], acc => acc
  | p :: r, acc =>
    let same := old.find? (fun c => near p c && !acc.any (fun a => a.id == c.id))
    let taken (i : Nat) : Bool := acc.any (fun a => a.id == i) || old.any (fun a => a.id == i)
    let id := (same.map (·.id)).getD (((List.range 16).find? (fun i => !taken i)).getD 15)
    let unmoved := (same.map (fun c => c.x == p.1 && c.y == p.2)).getD false
    let str := if unmoved then (same.map (·.strength)).getD 0 else Config.nat (s.free + acc.length) % 16
    nameContacts s old r (acc ++ [{ id := id, x := p.1, y := p.2, strength := str }])

/-- The 64 bytes of a touch ring entry (Table 12.7). -/
def touchEntry (s : State) (h : Nat) : List Byte :=
  let x := s.head h
  let fl := bit x.tooMany + 2 * bit (x.nodes.any (·.stuck)) + 4 * bit x.fromProfile + 8 * bit (!s.tb.valid)
  leBytes 6 s.stamp48.toNat ++ [BitVec.ofNat 8 x.contacts.length, BitVec.ofNat 8 fl]
    ++ (List.range 10).flatMap (fun i => leBytes 5 (((x.contacts[i]?).map contactBytes).getD 0)) ++ List.replicate 6 0

/-- Write an entry to the touch ring, with TOUCH at each multiple of NOTIFY. -/
def Touch.write (h : Nat) (s : State) : State :=
  match (s.head h).ring with
  | some r =>
    let p := Ring.append r (touchEntry s h) s
    let s := p.2.modHead h (fun x => { x with ring := some p.1 })
    if p.1.due then Ev.raise (headSource h 6) 0 (packLe [(8, p.1.total)]) s else s
  | none => s

/-- Nodes whose hold time has reached HOLD_MAX_S become stuck, each with one STUCK_TOUCH (R288). -/
def Touch.stick (h : Nat) (s : State) : State :=
  let x := s.head h
  let sticks (n : TouchNode) : Bool := !n.stuck && n.touched && decide (x.holdMaxS * 1000000000 ≤ n.hold)
  let hit := (List.range x.nodes.length).filter (fun i => ((x.nodes[i]?).map sticks).getD false)
  if hit.isEmpty then s
  else
    let s := s.modHead h (fun x => { x with nodes := x.nodes.map (fun n => if sticks n then { n with stuck := true } else n) })
    hit.foldl (fun s i => Ev.raise (headSource h 5) 0 (packLe [(1, i / 20), (1, i % 20)]) s) s

/-- A scan's part in a profile capture: a touched node refuses it, and the 32nd scan gives the mean to commit (R287,
Table 12.13). -/
def Touch.capture (h : Nat) (raw : List Int) (s : State) : State :=
  match (s.head h).capture with
  | none => s
  | some (k, n, sums) =>
    if (s.head h).nodes.any (·.touched) then
      Cmd.finalBad k 4 (s.modHead h (fun x => { x with capture := none }))
    else
      let sums := List.zipWith (fun a b => a + b) sums raw
      if n + 1 < 32 then s.modHead h (fun x => { x with capture := some (k, n + 1, sums) })
      else Nv.enqueue (some k) (pairCtx s k.q)
        (.profile h (some (sums.map (fun (v : Int) => roundAway ((v : Rat) / 32))))) (s.modHead h (fun x => { x with capture := none }))

/-- The baseline of a first scan: the stored profile, or the raw scan (R287). -/
def Touch.baseline (h : Nat) (raw : List Int) (s : State) : State :=
  let x := s.head h
  if !x.rebase then s
  else
    let prof := if x.useProfile then Nv.profile s h else none
    s.modHead h (fun x => { x with
      rebase := false, fromProfile := prof.isSome
      nodes := (prof.getD raw).map (fun (b : Int) => { base := (b : Rat) }) })

/-- The scan time (R285). -/
def scanNs (s : State) : Nat := if glowing s then 33333334 else 8333334

/-- One scan (R286 to R289). In GLOW a contact that appears is a wake cause, one that rests since before is not (Table 16.7). -/
def Touch.scan (h : Nat) (raw : List Int) (s : State) : State :=
  let dt := if (s.head h).rebase then 0 else scanNs s
  let s := Touch.baseline h raw s
  let s := s.modHead h (fun x => { x with
    scanAt := s.tb.mono
    nodes := List.zipWith (fun (n : TouchNode) (r : Int) =>
      n.scan ((x.th : Nat) : Int) ((x.hyst : Nat) : Int) x.trackShift dt r) x.nodes raw })
  let s := Touch.stick h s
  let x := s.head h
  let touched := (List.range x.nodes.length).filter (fun i => ((x.nodes[i]?).map (·.touched)).getD false)
  let groups := touchGroups touched.length touched
  let now := nameContacts s x.contacts ((groups.take 10).map (centroid x.nodes)) []
  let appears := now.any (fun c => !x.contacts.any (fun o => o.id == c.id))
  let many := decide (10 < groups.length)
  let differs := now != x.contacts || many != x.tooMany
  let s := (s.modHead h (fun x => { x with contacts := now, tooMany := many })).drawn
  let s := if differs then Touch.write h s else s
  let s := Touch.capture h raw s
  if appears && glowing s then Power.wake wakeTouch h s else s

/-- TOUCH_SCAN (R285, R286): 120 times a second, and in GLOW 30 times; `raw` holds the 640 readings. -/
def execTouchScan (head : Nat) (raw : List Int) (s : State) : Host.Outcome State Fault Refusal :=
  .next (whenever (touchScans s head && raw.length == 640) (fun s =>
    let x := s.head head
    Touch.scan head raw (if x.rebase then s else untilTb (s.ns + (x.scanAt + scanNs s - s.tb.mono)) s)) s)

end Sys2Proof.Machine
end

