-- ==== Sys2Proof/Machine/Sources.lean ====
section
/-!
DEFINITION. Machine/Sources.lean: POINT_SOURCE_UPDATE (R67): what a point's bound source gives now, delivered to that point.
-/

namespace Sys2Proof.Machine

/-- A source result with the flags it carries. -/
abbrev SourceNow := Option SrcVal × SrcFlags

/-- A logical channel's last result; none before its first. -/
def channelNow (s : State) (t c : Nat) : Option SourceNow :=
  let l := (s.tile t).chan c
  let faulted := l.flags.toNat % 8 != 0
  if l.writes = 0 then none
  else some (if faulted then none else some (.fp l.value), { fault := faulted, unreliable := l.flags.getLsbD 3 })

/-- A loop's output; none before its first evaluation. -/
def loopNow (s : State) (t d n : Nat) : Option SourceNow :=
  (s.loop t d).bind (fun l => if l.writes = 0 then none else some (some (.fp (l.value n)), { fault := l.badSource }))

/-- A zone's plan item, with PLAN_STALE. -/
def zoneNow (s : State) (t z o : Nat) : Option SourceNow :=
  (s.zone t z).map (fun x =>
    let v := x.item o
    (v.map SrcVal.fp, { fault := v.isNone, planStale := x.has psPlanStale }))

/-- A frame port's presence result (Table 6.10); none before its first. -/
def presenceNow (s : State) (t p r : Nat) : Option SourceNow :=
  let x := s.port t p
  let v : SrcVal := match r with
    | 0 => .uns (BitVec.ofNat 32 x.count)
    | 1 => .uns (BitVec.ofNat 32 x.activity)
    | 2 => .fp x.tmin
    | _ => .fp x.tmax
  if x.state == .off || !x.given then none else some (some v, { unreliable := x.unreliable })

/-- A metering pair's result (Table 6.4); those of a closed interval only once one has closed. -/
def meterNow (s : State) (t p code : Nat) : Option SourceNow :=
  let m := s.meter t p
  let fp (v : Rat) : Option SourceNow := some (some (.fp (fof v)), {})
  let closed (f : MeterRec → Rat) : Option SourceNow := m.last.bind (fun r => fp (f r))
  if !m.bound then none
  else match code with
    | 0 => fp ((m.eImp.toList.foldl (fun a n => a + n) 0 : Nat) / 10000)
    | 1 => fp ((vget m.eImp s.mt.tariff 0 : Nat) / 10000)
    | 2 => fp ((m.eExp : Nat) / 10000)
    | 3 => closed (fun r => (r.demand : Rat) / 1000)
    | 4 => closed (fun _ => (m.peakDemand : Rat) / 1000)
    | 5 => closed (fun r => (r.vmin : Rat) / 100)
    | 6 => closed (fun r => (r.vmax : Rat) / 100)
    | 7 => closed (fun r => (r.imax : Rat) / 10)
    | 8 => some (some (.uns (BitVec.ofNat 32 (s.mt.tariff + 1))), {})
    | _ => none

/-- What a bus node's point last reported, with the flags it stands with (R227). -/
def busNow (p : Point) : Option SourceNow :=
  p.latest.map (fun v => (some v, { fault := p.status.getLsbD stFault, unreliable := p.status.getLsbD stUnreliable }))

/-- What the source of a point gives now; none for a point without a source of Table 3.11 kinds 1 to 6, for a source that
has given nothing yet, and for one in a tile that is off. -/
def sourceNow (s : State) (p : Point) : Option SourceNow :=
  let f := srcField p.source
  if p.kind != 0 && !s.tileOn (sourceTile p.source) then none
  else match p.kind with
    | 1 => channelNow s (f 1 1) (f 2 2)
    | 2 => loopNow s (f 1 1) (f 2 2) (f 4 1)
    | 3 => zoneNow s (f 1 1) (f 2 2) (f 4 1)
    | 4 => busNow p
    | 5 => presenceNow s (f 1 1 / 8) (f 1 1 % 8) (f 2 1)
    | 6 => meterNow s (f 1 1) (f 2 1) (f 3 1)
    | _ => none

/-- POINT_SOURCE_UPDATE (R67): the bound source delivers its result, and the present value is resolved. -/
def execPointSourceUpdate (id : Nat) (s : State) : Host.Outcome State Fault Refusal :=
  .next (match (s.point id).bind (sourceNow s) with
    | some r => Point.deliver id r.1 r.2 s
    | none => s)

end Sys2Proof.Machine
end

