-- ==== Sys2Proof/Machine/StartUp.lean ====
section
/-!
DEFINITION. Machine/StartUp.lean: POR release, RST_N, the steps of start-up (R329, R330, R337), power-fail, loss of
supplies, and wakes from pins and the alarm (R335, R336, R340).
-/

namespace Sys2Proof.Machine

/-! ## POR release and RST_N -/

/-- A tile rail that POR release does not wait for, or that lies in its range (R329, Table 17.2). -/
def tileRailOk (mv : Nat) : Bool := decide (mv < 100) || (decide (700 ≤ mv) && decide (mv ≤ 800))

/-- The conditions of R329 that the monitors show: SUPMON above the PFAIL clear level, and every tile rail settled. -/
def railsReady (m : Monitors) (pfailMv : Nat) : Bool := decide (pfailMv + 50 < m.supmon) && m.rails.toList.all tileRailOk

/-- The block waits for POR release: held in reset, unpowered, or in OFF with PWR_EN high (R329, R336). -/
def awaitsPor (s : State) : Bool :=
  s.pw.boot == .held || s.pw.boot == .unpowered || (s.pw.boot == .off && s.pw.pwrEn)

/-- POR_RELEASE (R328, R329): rails raised out of order guarantee nothing. -/
def execPorRelease (m : Monitors) (ordered : Bool) (s : State) : Host.Outcome State Fault Refusal :=
  if awaitsPor s && railsReady m s.pw.pfailMv then
    (if ordered then
      .next (let s := Power.startUp s
        { s with pw := { s.pw with mon := m } })
     else .fault .railsOutOfOrder)
  else .next s

/-- The reset of RST_N: start-up begins at the end of the pulse, or waits for SUPMON while PFAIL stands (R329, R337). -/
def Power.rst (s : State) : State := if s.pw.pfail then Power.reset .held s else Power.startUp s

/-- RST_N (R330): at least 10 us resets, less than 1 us does nothing, and between them it is free (log 5). -/
def execRstN (lowNs : Nat) (s : State) : Host.Outcome State Fault Refusal :=
  .next (if lowNs < 1000 then s
    else
      let s := untilElapsed (s.tb.elapsed + lowNs) s
      if !rstActs s then s
      else if 10000 ≤ lowNs then Power.rst s
      else if Config.bool s.free then Power.rst s.drawn
      else s.drawn)

/-! ## The steps of start-up (Table 15.6) -/

/-- The newest valid field generation, or 0. -/
def newestGen (s : State) : Nat :=
  (List.range 8).foldl (fun g i => if slotValid s i then i + 1 else g) 0

/-- Fuse load (R307): every used slot that is not valid raises FUSE_GEN_BAD. -/
def Fuse.load (s : State) : State :=
  let bad := (List.range 8).filter (fun i => (vget s.cal.slots i {}).used && !slotValid s i)
  let s := { s with cal := { s.cal with gen := newestGen s, items := [] } }
  bad.foldl (fun s i => Ev.raise 8 0 (packLe [(1, i + 1)]) s) s

/-- Move to a step of start-up. -/
def Power.bootTo (b : Boot) (s : State) : State := { s with pw := { s.pw with boot := b } }

/-- FUSE_LOAD (R305, R307): 1.2 ms after POR release. -/
def execFuseLoad (factoryGood : Bool) (s : State) : Host.Outcome State Fault Refusal :=
  .next (whenever (s.pw.boot == .fuseLoad) (fun s =>
    let s := untilElapsed (s.pw.porAt + 1200000) s
    if factoryGood then Power.bootTo .journal (Fuse.load s) else Power.bootTo .fwFault s) s)

/-- Recovery of a commit that was cut off (R320). Where its record is known to have begun it is whole or not; otherwise it
may also have stood before its record, and nothing is found. Which one is free (log 5). A power-fail checkpoint that is not
whole leaves the tail lost (R139). -/
def Nv.recover (s : State) : State :=
  match s.nv.running with
  | none => s
  | some c =>
    let n := Config.nat s.free
    let how := if s.nv.recorded then n % 2 else n % 3
    let s := { s.drawn with nv := { s.nv with running := none, recorded := false, record := none } }
    if how = 0 then
      let s := Nv.store c.what (Nv.count c.what 0 (Nv.retire s))
      { s with nv := { s.nv with recovered := true } }
    else
      let s := if isPowerFail c then { s with mt := { s.mt with tailLost := true } } else s
      if how = 1 then
        let s := Nv.retire s
        { s with nv := { s.nv with rolledBack := true } }
      else s

/-- The committed identity is in force again (R241). -/
def Fed.restore (s : State) : State :=
  match s.nv.identity with
  | some i => Fed.identify i s
  | none => s

/-- JOURNAL_RECOVERY (R320): then the metering store and the identity are restored; credentials stand in region 15. -/
def execJournalRecovery (s : State) : Host.Outcome State Fault Refusal :=
  .next (whenever (s.pw.boot == .journal) (fun s =>
    Power.bootTo .firmware (Fed.restore (Meter.restore (Nv.recover s)))) s)

/-- The flash address of slot A or slot B, and the most that a slot holds (R338). -/
def flashSlot (slotB : Bool) : Nat := if slotB then 0x800000 else 0
def flashSlotBytes : Nat := 8388608

/-- An image passes the checks of R338: its size, the public key against KEY_HASH, and the signature. -/
def BootImage.verified (x : BootImage) : Bool :=
  decide (x.size ≤ flashSlotBytes) && x.keyHash == Config.keyHash && x.signed

/-- FIRMWARE_VERIFY (R338): the image of slot A, then that of slot B. -/
def execFirmwareVerify (image : BootImage) (s : State) : Host.Outcome State Fault Refusal :=
  .next (whenever (s.pw.boot == .firmware && image.address == flashSlot s.pw.slotB) (fun s =>
    if BootImage.verified image then Power.bootTo .dram s
    else if s.pw.slotB then Power.bootTo .fwFault s
    else { s with pw := { s.pw with slotB := true } }) s)

/-- RDY (R337, R339, R250): BOOT_ID is drawn, what comes each second starts, and a wake from OFF is reported. -/
def Power.ready (gib : Nat) (s : State) : State :=
  let s := { s with
    pw := { s.pw with boot := .ready, gib := gib, pstate := .run }
    fed := { s.fed with bootId := Config.bootId s.free }
    mt := { s.mt with rdyAt := s.tb.elapsed }
    free := s.free + 1 }
  let s := Tb.reseconds s
  let s := if s.tb.valid then Meter.validate s else s
  match s.pw.wakeReport with
  | some (cause, arg) => Ev.raise 7 cause (packLe [(1, arg)]) { s with pw := { s.pw with wakeReport := none } }
  | none => s

/-- LPDDR5_TRAINING (R337): three attempts that fail give DRAM_FAULT. -/
def execLpddr5Training (good : Bool) (gib : Nat) (s : State) : Host.Outcome State Fault Refusal :=
  .next (whenever (s.pw.boot == .dram) (fun s =>
    if good then Power.ready gib s
    else if 2 ≤ s.pw.dramTries then Power.bootTo .dramFault { s with pw := { s.pw with dramTries := 3 } }
    else { s with pw := { s.pw with dramTries := s.pw.dramTries + 1 } }) s)

/-! ## Power-fail and loss of supplies -/

/-- PFAIL_RISE (R340): SUPMON below PFAIL_MV. -/
def execPfailRise (supmon holdmon : Nat) (recordBegun : Bool) (s : State) : Host.Outcome State Fault Refusal :=
  .next (whenever (rstActs s && !s.pw.pfail && decide (supmon < s.pw.pfailMv)) (fun s =>
    let first := !s.pw.pfailInt
    Power.fail 0 recordBegun first { s with pw := { s.pw with
      pfail := true, mon := { s.pw.mon with supmon := supmon, holdmon := holdmon } } }) s)

/-- PFAIL_FALL (R340): SUPMON at or above PFAIL_MV + 50 mV; the device carries on. -/
def execPfailFall (supmon : Nat) (s : State) : Host.Outcome State Fault Refusal :=
  .next (whenever (s.pw.pfail && decide (s.pw.pfailMv + 50 ≤ supmon)) (fun s => { s with
    pw := { s.pw with pfail := false, mon := { s.pw.mon with supmon := supmon } }
    mt := { s.mt with tailDue := false } }) s)

/-- MAIN_RAIL_LOSS (R336, R340, R365): the device ends in OFF with PWR_EN high, on its way to OFF by command too; one that is
in OFF already stays as it is. -/
def execMainRailLoss (s : State) : Host.Outcome State Fault Refusal :=
  .next (whenever (rstActs s) (Power.toOff true) s)

/-- VDD_AON_LOSS (R18, R340): nothing runs, and TB and TB_VALID are lost. -/
def execVddAonLoss (s : State) : Host.Outcome State Fault Refusal :=
  .next (let s := Power.reset .unpowered s
    { s with
      tb := {}
      pw := { boot := .unpowered } })

/-! ## Wakes -/

/-- WAKE_PIN (Table 15.7): WAKE_N held low for 1 ms. -/
def execWakePin (lowNs : Nat) (s : State) : Host.Outcome State Fault Refusal :=
  .next (whenever (decide (1000000 ≤ lowNs)) (fun s =>
    if s.pw.boot == .off then Power.offWake wakeByPin 0 s.pw.aonPin s
    else if s.live then Power.wake wakeByPin 0 s
    else s) s)

/-- WAKE_ALARM (Table 15.7): TB reaches WAKE_AT, by counting or by a step, while TB_VALID is set; it does so once (log 37). -/
def execWakeAlarm (s : State) : Host.Outcome State Fault Refusal :=
  .next (whenever (s.tb.valid && s.pw.wakeAt != 0 && (s.live || s.pw.boot == .off)) (fun s =>
    let u := untilTb (s.pw.wakeAt.toNat * 1000000000) s
    let s := { u with pw := { u.pw with wakeAt := 0 } }
    if s.pw.boot == .off then Power.offWake wakeByAlarm 0 s.pw.aonAlarm s else Power.wake wakeByAlarm 0 s) s)

end Sys2Proof.Machine
end

