-- ==== Sys2Proof/Machine/Thermal.lean ====
section
/-!
DEFINITION. Machine/Thermal.lean: the temperature sensors and tile rails as they are sampled (R16, R17, R341), thresholds
(R342) and throttling (R343).
-/

namespace Sys2Proof.Machine

/-! ## Sensors (R341) -/

/-- A reading outside -55 to +150 C. -/
def outOfSense (r : Int) : Bool := decide (r < -220) || decide (600 < r)

/-- One sample of a working sensor, in range. -/
def Sensor.take (x : Sensor) (r : Int) : Sensor :=
  let same := if x.sampled && r == x.reading then x.same + 1 else 1
  { x with
    reading := r, sampled := true, same := same, faulty := decide (1000 ≤ same)
    low := if x.sampled then min x.low r else r
    high := if x.sampled then max x.high r else r }

/-- Sample a sensor; a faulty one stays out of every maximum until the next start-up, but shows what it reads. -/
def Sensor.sample (i : Nat) (r : Int) (s : State) : State :=
  let x := s.sensor i
  if x.faulty then { s with pw := { s.pw with sensors := vset s.pw.sensors i { x with reading := r } } }
  else
    let y := if outOfSense r then { x with reading := r, faulty := true } else x.take r
    let s := { s with pw := { s.pw with sensors := vset s.pw.sensors i y } }
    if y.faulty then Ev.raise 3 0 (packLe [(1, i)]) s else s

/-- Sample all sixteen. -/
def Sensors.sample (r : Vector Int 16) (s : State) : State :=
  (List.range 16).foldl (fun s i => Sensor.sample i (vget r i 0) s) s

/-! ## Thresholds (R342) -/

/-- The ARG of THERM_WARN and THERM_CRIT. -/
def thermArg (m : Int × Nat) : Nat := packLe [(1, m.2), (2, toBits 16 m.1)]

/-- THERM_WARN by the reported maximum. -/
def Therm.judgeWarn (s : State) : State :=
  match dieMax s with
  | none => s
  | some m =>
    if !s.pw.warn && decide (4 * (s.pw.tWarn : Int) ≤ m.1) then
      Ev.raise 0 0 (thermArg m) { s with pw := { s.pw with warn := true } }
    else if s.pw.warn && decide (m.1 < 4 * (s.pw.tWarn : Int) - 8) then
      Ev.raiseCleared 0 0 (thermArg m) { s with pw := { s.pw with warn := false } }
    else s

/-- Every powered tile to level 4. -/
def Therm.levelFour (s : State) : State :=
  Throttle.around (onTiles (fun t s => s.modThrottle t (fun th => { th with
    level := 4, steppedAt := if th.level = 4 then th.steppedAt else some s.tb.elapsed, episode := true }))) s

/-- The critical condition begins: drives to the safe state, heads to SAFE, the other outputs to fallback, THERM_CRIT. -/
def Therm.critical (m : Int × Nat) (s : State) : State :=
  let s := Therm.levelFour { s with pw := { s.pw with crit := true, coolAt := none } }
  let s := onTiles (fun t s => Panel.safe t (Out.fallbackRest t (Drv.safe t s))) s
  Ev.raise 1 0 (thermArg m) s

/-- T_CRIT: any working sensor at 125 C begins it; the time for which the maximum has stayed below 120 C ends it. -/
def Therm.judgeCrit (s : State) : State :=
  if s.pw.crit then
    (match dieMax s with
     | none => s
     | some m => { s with pw := { s.pw with coolAt := if m.1 < 480 then some (s.pw.coolAt.getD s.tb.elapsed) else none } })
  else
    match hottest s (List.range 16) with
    | some m => if 500 ≤ m.1 then Therm.critical m s else s
    | none => s

/-- CRIT_END (R342): the maximum has stayed below 120 C for 10 s. -/
def execCritEnd (s : State) : Host.Outcome State Fault Refusal :=
  .next (match s.pw.coolAt with
    | some a =>
      whenever (rstActs s && s.pw.crit) (fun s =>
        let s := untilElapsed (a + 10000000000) s
        Ev.raiseCleared 1 0 (thermArg ((dieMax s).getD (0, 0))) { s with pw := { s.pw with crit := false, coolAt := none } }) s
    | none => s)

/-! ## Throttling (R343) -/

/-- A tile is hot: its own temperature or a hub sensor stands at T_THROTTLE. -/
def tileHot (s : State) (t : Nat) : Bool := atLeast (tileTemp s t) s.pw.tThrottle || atLeast (hubTemp s) s.pw.tThrottle

/-- A tile is cool: neither stands at T_THROTTLE - 5 C, and it has a temperature of its own. -/
def tileCool (s : State) (t : Nat) : Bool :=
  (tileTemp s t).isSome && !atLeast (tileTemp s t) (s.pw.tThrottle - 5) && !atLeast (hubTemp s) (s.pw.tThrottle - 5)

/-- A step down is due: the first of an episode at once, the others 100 ms after the last step. -/
def stepDue (th : Throttle) (now : Nat) : Bool :=
  !th.episode || (match th.steppedAt with
    | some a => decide (a + 100000000 ≤ now)
    | none => true)

/-- A sample of one tile: at most one step down, and the time it has been cool. -/
def Throttle.sample (t : Nat) (s : State) : State :=
  let hot := tileHot s t
  let cool := tileCool s t
  let now := s.tb.elapsed
  s.modThrottle t (fun th =>
    let th := { th with belowAt := if cool then some (th.belowAt.getD now) else none }
    if hot && decide (th.level < 4) && stepDue th now then
      { th with level := th.level + 1, steppedAt := some now, episode := true }
    else th)

/-- THROTTLE_UP (R343): 1 s after the later of the last step and the first sample below; no tile steps up while the
critical condition stands. -/
def execThrottleUp (tile : Nat) (s : State) : Host.Outcome State Fault Refusal :=
  .next (
    let th := vget s.pw.throttle tile {}
    match th.belowAt with
    | some b =>
      whenever (s.live && s.tileOn tile && !s.pw.crit && decide (0 < th.level)) (fun s =>
        let s := untilElapsed (max b (th.steppedAt.getD 0) + 1000000000) s
        Throttle.around (fun s => s.modThrottle tile (fun x => { x with
          level := x.level - 1, steppedAt := some s.tb.elapsed, episode := decide (1 < x.level) })) s) s
    | none => s)

/-- A tile whose three sensors are all faulty keeps a thermal level of 2 at least (R341, R343). -/
def Throttle.blind (t : Nat) (s : State) : State :=
  if tileBlind s t then s.modThrottle t (fun th => { th with level := max 2 th.level }) else s

/-! ## Neighbouring tiles (R16, R17) -/

/-- The limit of a quantity: 60 mV, or 35 C in 0.25 C. -/
def skewLimit (quantity : Nat) : Nat := if quantity = 0 then 60 else 140

/-- Both tiles of an edge are powered and have readings, and these differ by more than the limit. -/
def skewPast (s : State) (edge quantity : Nat) : Bool :=
  let e := edgeTiles edge
  s.tileOn e.1 && s.tileOn e.2 && (quantity == 0 || ((tileTemp s e.1).isSome && (tileTemp s e.2).isSome))
    && decide (skewLimit quantity < (skewReading s quantity e.1 - skewReading s quantity e.2).natAbs)

/-- One sample of an edge: two in a row past the limit raise TILE_SKEW. -/
def Skew.sample (edge quantity : Nat) (s : State) : State :=
  let i := 2 * edge + quantity
  let k := vget s.pw.skew i {}
  let past := skewPast s edge quantity
  let rises := past && !k.stands && decide (1 ≤ k.past)
  let k : Skew := {
    past := if past then min 2 (k.past + 1) else 0
    stands := k.stands || rises
    raisedAt := if rises then s.tb.elapsed else k.raisedAt
    withinAt := if past then none else some (k.withinAt.getD s.tb.elapsed) }
  let s := { s with pw := { s.pw with skew := vset s.pw.skew i k } }
  if rises then Ev.raise 4 quantity (skewArg s edge quantity 0) s else s

/-- Every edge and quantity. -/
def Skews.sample (s : State) : State :=
  (List.range 8).foldl (fun s i => Skew.sample (i / 2) (i % 2) s) s

/-! ## The sample -/

/-- What a sample of all sensors and monitors brings about. -/
def Therm.sample (r : Vector Int 16) (m : Monitors) (s : State) : State :=
  let s := { s with pw := { s.pw with mon := m } }
  let s := Throttle.around (fun s => onTiles Throttle.blind (Sensors.sample r s)) s
  let s := Therm.judgeCrit (Therm.judgeWarn s)
  Skews.sample (Throttle.around (onTiles Throttle.sample) s)

/-- THERM_SAMPLE (R16, R341 to R343): every 1 ms, in start-up too (R4, R354). -/
def execThermSample (readings : Vector Int 16) (m : Monitors) (s : State) : Host.Outcome State Fault Refusal :=
  .next (whenever (rstActs s) (Therm.sample readings m) s)

end Sys2Proof.Machine
end

