-- ==== Sys2Proof/Machine/Dispatch.lean ====
section
/-! DEFINITION. Machine/Dispatch.lean: one arm per command, each a direct call of its meaning. -/

namespace Sys2Proof.Machine

/-- The effect of a command on everything but the queue. -/
def exec (i : Instr) (s : State) : Host.Outcome State Fault Refusal :=
  match i with
  | .tbSet q pk => Sys2Proof.Machine.execTbSet q pk s
  | .tbSlew q pk => Sys2Proof.Machine.execTbSlew q pk s
  | .tbRead q pk => Sys2Proof.Machine.execTbRead q pk s
  | .ppsOutRise => Sys2Proof.Machine.execPpsOutRise s
  | .ppsOutFall => Sys2Proof.Machine.execPpsOutFall s
  | .ppsInEdge => Sys2Proof.Machine.execPpsInEdge s
  | .crossTileDelivery src dst => Sys2Proof.Machine.execCrossTileDelivery src dst s
  | .tileSkewClear edge kind => Sys2Proof.Machine.execTileSkewClear edge kind s
  | .hostFlr => Sys2Proof.Machine.execHostFlr s
  | .registerWrite offset bytes value => Sys2Proof.Machine.execRegisterWrite offset bytes value s
  | .setupArm => Sys2Proof.Machine.execSetupArm s
  | .setupDisarm => Sys2Proof.Machine.execSetupDisarm s
  | .disarmComplete => Sys2Proof.Machine.execDisarmComplete s
  | .chselWrite value => Sys2Proof.Machine.execChselWrite value s
  | .windowWrite offset value => Sys2Proof.Machine.execWindowWrite offset value s
  | .doorbell q value written => Sys2Proof.Machine.execDoorbell q value written s
  | .fetchResume => Sys2Proof.Machine.execFetchResume s
  | .packetCrcFail q index head => Sys2Proof.Machine.execPacketCrcFail q index head s
  | .badOpcodePacket q opcode pk => Sys2Proof.Machine.execBadOpcodePacket q opcode pk s
  | .coalesceTimeout q => Sys2Proof.Machine.execCoalesceTimeout q s
  | .heldReplyWrite q => Sys2Proof.Machine.execHeldReplyWrite q s
  | .pairFreed q => Sys2Proof.Machine.execPairFreed q s
  | .windowAccess q pk => Sys2Proof.Machine.execWindowAccess q pk s
  | .qspiWrite address data => Sys2Proof.Machine.execQspiWrite address data s
  | .qspiQwrite address data => Sys2Proof.Machine.execQspiQwrite address data s
  | .qspiRead address words => Sys2Proof.Machine.execQspiRead address words s
  | .qspiQread address words => Sys2Proof.Machine.execQspiQread address words s
  | .qspiStatus => Sys2Proof.Machine.execQspiStatus s
  | .qspiUnknownInstruction instruction => Sys2Proof.Machine.execQspiUnknownInstruction instruction s
  | .sessionOpen q pk => Sys2Proof.Machine.execSessionOpen q pk s
  | .sessionProve q pk => Sys2Proof.Machine.execSessionProve q pk s
  | .nonceLapse tenant => Sys2Proof.Machine.execNonceLapse tenant s
  | .authLockoutEnd tenant => Sys2Proof.Machine.execAuthLockoutEnd tenant s
  | .sessionClose q pk => Sys2Proof.Machine.execSessionClose q pk s
  | .queueCreate q pk => Sys2Proof.Machine.execQueueCreate q pk s
  | .queueDelete q pk => Sys2Proof.Machine.execQueueDelete q pk s
  | .clientInstall q pk => Sys2Proof.Machine.execClientInstall q pk s
  | .clientRights q pk => Sys2Proof.Machine.execClientRights q pk s
  | .clientRemove q pk => Sys2Proof.Machine.execClientRemove q pk s
  | .pointRead q pk => Sys2Proof.Machine.execPointRead q pk s
  | .pointWrite q pk => Sys2Proof.Machine.execPointWrite q pk s
  | .pointCreate q pk => Sys2Proof.Machine.execPointCreate q pk s
  | .pointConfig q pk => Sys2Proof.Machine.execPointConfig q pk s
  | .pointDelete q pk => Sys2Proof.Machine.execPointDelete q pk s
  | .pointWatch q pk => Sys2Proof.Machine.execPointWatch q pk s
  | .watchTimeout q tag => Sys2Proof.Machine.execWatchTimeout q tag s
  | .pointSourceUpdate id => Sys2Proof.Machine.execPointSourceUpdate id s
  | .inputConfig q pk => Sys2Proof.Machine.execInputConfig q pk s
  | .inputRead q pk => Sys2Proof.Machine.execInputRead q pk s
  | .inputTable q pk => Sys2Proof.Machine.execInputTable q pk s
  | .inputTest q pk => Sys2Proof.Machine.execInputTest q pk s
  | .seqCycleStart tile conv => Sys2Proof.Machine.execSeqCycleStart tile conv s
  | .seqEntryStart tile conv => Sys2Proof.Machine.execSeqEntryStart tile conv s
  | .dwellEnd tile conv d => Sys2Proof.Machine.execDwellEnd tile conv d s
  | .protTrip tile input => Sys2Proof.Machine.execProtTrip tile input s
  | .protReclose tile input => Sys2Proof.Machine.execProtReclose tile input s
  | .shuntTrip tile input => Sys2Proof.Machine.execShuntTrip tile input s
  | .pulseEdge tile input heldNs => Sys2Proof.Machine.execPulseEdge tile input heldNs s
  | .pulseRateWrite tile => Sys2Proof.Machine.execPulseRateWrite tile s
  | .refbufOn q pk => Sys2Proof.Machine.execRefbufOn q pk s
  | .refSettled tile => Sys2Proof.Machine.execRefSettled tile s
  | .refbufOff q pk => Sys2Proof.Machine.execRefbufOff q pk s
  | .adcCalibrate q pk => Sys2Proof.Machine.execAdcCalibrate q pk s
  | .calRunEnd kind index r => Sys2Proof.Machine.execCalRunEnd kind index r s
  | .seqLoad q pk => Sys2Proof.Machine.execSeqLoad q pk s
  | .seqStart q pk => Sys2Proof.Machine.execSeqStart q pk s
  | .seqStop q pk => Sys2Proof.Machine.execSeqStop q pk s
  | .seqRead q pk => Sys2Proof.Machine.execSeqRead q pk s
  | .lchConfig q pk => Sys2Proof.Machine.execLchConfig q pk s
  | .lchRead q pk => Sys2Proof.Machine.execLchRead q pk s
  | .lchWinack q pk => Sys2Proof.Machine.execLchWinack q pk s
  | .dmaCreate q pk => Sys2Proof.Machine.execDmaCreate q pk s
  | .dmaDelete q pk => Sys2Proof.Machine.execDmaDelete q pk s
  | .urgentConvert q pk => Sys2Proof.Machine.execUrgentConvert q pk s
  | .urgentStart tile => Sys2Proof.Machine.execUrgentStart tile s
  | .urgentDwellEnd tile d => Sys2Proof.Machine.execUrgentDwellEnd tile d s
  | .rscan q pk => Sys2Proof.Machine.execRscan q pk s
  | .rscanStart tile => Sys2Proof.Machine.execRscanStart tile s
  | .rscanLaunch tile capture => Sys2Proof.Machine.execRscanLaunch tile capture s
  | .rscanEnd tile places => Sys2Proof.Machine.execRscanEnd tile places s
  | .meterConfig q pk => Sys2Proof.Machine.execMeterConfig q pk s
  | .meterRead q pk => Sys2Proof.Machine.execMeterRead q pk s
  | .meterHistory q pk => Sys2Proof.Machine.execMeterHistory q pk s
  | .meterResetPeak q pk => Sys2Proof.Machine.execMeterResetPeak q pk s
  | .demandConfig q pk => Sys2Proof.Machine.execDemandConfig q pk s
  | .tariffLoad q pk => Sys2Proof.Machine.execTariffLoad q pk s
  | .tariffCommit q pk => Sys2Proof.Machine.execTariffCommit q pk s
  | .tariffRead q pk => Sys2Proof.Machine.execTariffRead q pk s
  | .meterDwellEnd tile d => Sys2Proof.Machine.execMeterDwellEnd tile d s
  | .intervalClose => Sys2Proof.Machine.execIntervalClose s
  | .meterCheckpointDone => Sys2Proof.Machine.execMeterCheckpointDone s
  | .tariffSwitch => Sys2Proof.Machine.execTariffSwitch s
  | .tariffRebuildDone => Sys2Proof.Machine.execTariffRebuildDone s
  | .tariffSwap => Sys2Proof.Machine.execTariffSwap s
  | .meterResultUpdate => Sys2Proof.Machine.execMeterResultUpdate s
  | .presenceConfig q pk => Sys2Proof.Machine.execPresenceConfig q pk s
  | .presenceRead q pk => Sys2Proof.Machine.execPresenceRead q pk s
  | .presenceTest q pk => Sys2Proof.Machine.execPresenceTest q pk s
  | .presenceRebase q pk => Sys2Proof.Machine.execPresenceRebase q pk s
  | .frameReceived port startAgoNs bits pixels => Sys2Proof.Machine.execFrameReceived port startAgoNs bits pixels s
  | .presenceSecond => Sys2Proof.Machine.execPresenceSecond s
  | .loopCreate q pk => Sys2Proof.Machine.execLoopCreate q pk s
  | .loopDelete q pk => Sys2Proof.Machine.execLoopDelete q pk s
  | .loopRead q pk => Sys2Proof.Machine.execLoopRead q pk s
  | .loopManual q pk => Sys2Proof.Machine.execLoopManual q pk s
  | .loopTune q pk => Sys2Proof.Machine.execLoopTune q pk s
  | .loopLoad q pk => Sys2Proof.Machine.execLoopLoad q pk s
  | .loopEvaluation tile => Sys2Proof.Machine.execLoopEvaluation tile s
  | .zoneCreate q pk => Sys2Proof.Machine.execZoneCreate q pk s
  | .zoneDelete q pk => Sys2Proof.Machine.execZoneDelete q pk s
  | .zoneRead q pk => Sys2Proof.Machine.execZoneRead q pk s
  | .zoneModel q pk => Sys2Proof.Machine.execZoneModel q pk s
  | .predSolve q pk => Sys2Proof.Machine.execPredSolve q pk s
  | .predSolveDone tile zone => Sys2Proof.Machine.execPredSolveDone tile zone s
  | .predSolveTimeout tile zone => Sys2Proof.Machine.execPredSolveTimeout tile zone s
  | .predPlanRead q pk => Sys2Proof.Machine.execPredPlanRead q pk s
  | .predLearn q pk => Sys2Proof.Machine.execPredLearn q pk s
  | .predAccept q pk => Sys2Proof.Machine.execPredAccept q pk s
  | .predPause q pk => Sys2Proof.Machine.execPredPause q pk s
  | .predSched q pk => Sys2Proof.Machine.execPredSched q pk s
  | .predLoad q pk => Sys2Proof.Machine.execPredLoad q pk s
  | .zoneTune q pk => Sys2Proof.Machine.execZoneTune q pk s
  | .zoneBoundary tile zone => Sys2Proof.Machine.execZoneBoundary tile zone s
  | .solveComplete tile zone => Sys2Proof.Machine.execSolveComplete tile zone s
  | .gainRebuildDone tile zone => Sys2Proof.Machine.execGainRebuildDone tile zone s
  | .drvConfig q pk => Sys2Proof.Machine.execDrvConfig q pk s
  | .drvProfile q pk => Sys2Proof.Machine.execDrvProfile q pk s
  | .drvCommand q pk => Sys2Proof.Machine.execDrvCommand q pk s
  | .drvRead q pk => Sys2Proof.Machine.execDrvRead q pk s
  | .drvClear q pk => Sys2Proof.Machine.execDrvClear q pk s
  | .drvBand q pk => Sys2Proof.Machine.execDrvBand q pk s
  | .aoConfig q pk => Sys2Proof.Machine.execAoConfig q pk s
  | .aoSet q pk => Sys2Proof.Machine.execAoSet q pk s
  | .aoRead q pk => Sys2Proof.Machine.execAoRead q pk s
  | .fanConfig q pk => Sys2Proof.Machine.execFanConfig q pk s
  | .fanSet q pk => Sys2Proof.Machine.execFanSet q pk s
  | .fanRead q pk => Sys2Proof.Machine.execFanRead q pk s
  | .phaseEnd tile ending => Sys2Proof.Machine.execPhaseEnd tile ending s
  | .currentTrip tile channel shunts => Sys2Proof.Machine.execCurrentTrip tile channel shunts s
  | .chopOffEnd tile channel => Sys2Proof.Machine.execChopOffEnd tile channel s
  | .overcurrent tile channel => Sys2Proof.Machine.execOvercurrent tile channel s
  | .offSettleEnd tile channel => Sys2Proof.Machine.execOffSettleEnd tile channel s
  | .tpropCycleStart tile channel => Sys2Proof.Machine.execTpropCycleStart tile channel s
  | .tpropOnEnd tile channel => Sys2Proof.Machine.execTpropOnEnd tile channel s
  | .floatCheck tile channel => Sys2Proof.Machine.execFloatCheck tile channel s
  | .reversalWaitEnd tile channel => Sys2Proof.Machine.execReversalWaitEnd tile channel s
  | .driveBandSample tile => Sys2Proof.Machine.execDriveBandSample tile s
  | .outputWatchdogExpiry tile kind index => Sys2Proof.Machine.execOutputWatchdogExpiry tile kind index s
  | .vgateLow => Sys2Proof.Machine.execVgateLow s
  | .vgateRecover => Sys2Proof.Machine.execVgateRecover s
  | .aoOverload tile output => Sys2Proof.Machine.execAoOverload tile output s
  | .aoOverloadClear tile output => Sys2Proof.Machine.execAoOverloadClear tile output s
  | .aoRampStep tile output => Sys2Proof.Machine.execAoRampStep tile output s
  | .fanKickEnd tile port => Sys2Proof.Machine.execFanKickEnd tile port s
  | .fanTachEdge tile port => Sys2Proof.Machine.execFanTachEdge tile port s
  | .fanSpeedUpdate tile => Sys2Proof.Machine.execFanSpeedUpdate tile s
  | .busConfig q pk => Sys2Proof.Machine.execBusConfig q pk s
  | .busStatus q pk => Sys2Proof.Machine.execBusStatus q pk s
  | .busSend q pk => Sys2Proof.Machine.execBusSend q pk s
  | .busCancel q pk => Sys2Proof.Machine.execBusCancel q pk s
  | .busRecover q pk => Sys2Proof.Machine.execBusRecover q pk s
  | .busRecoveryDone bus => Sys2Proof.Machine.execBusRecoveryDone bus s
  | .busFilter q pk => Sys2Proof.Machine.execBusFilter q pk s
  | .busRxring q pk => Sys2Proof.Machine.execBusRxring q pk s
  | .busNode q pk => Sys2Proof.Machine.execBusNode q pk s
  | .busNodeRead q pk => Sys2Proof.Machine.execBusNodeRead q pk s
  | .busAdopt q pk => Sys2Proof.Machine.execBusAdopt q pk s
  | .busRetire q pk => Sys2Proof.Machine.execBusRetire q pk s
  | .busLink q pk => Sys2Proof.Machine.execBusLink q pk s
  | .busDusk q pk => Sys2Proof.Machine.execBusDusk q pk s
  | .busDawn q pk => Sys2Proof.Machine.execBusDawn q pk s
  | .transmitComplete bus how => Sys2Proof.Machine.execTransmitComplete bus how s
  | .hostFrame bus f => Sys2Proof.Machine.execHostFrame bus f s
  | .beacon bus f => Sys2Proof.Machine.execBeacon bus f s
  | .duskPropose bus f => Sys2Proof.Machine.execDuskPropose bus f s
  | .duskAgree bus f => Sys2Proof.Machine.execDuskAgree bus f s
  | .duskRefuse bus f => Sys2Proof.Machine.execDuskRefuse bus f s
  | .duskCommit bus f => Sys2Proof.Machine.execDuskCommit bus f s
  | .dawn bus f => Sys2Proof.Machine.execDawn bus f s
  | .adopt bus f => Sys2Proof.Machine.execAdopt bus f s
  | .retire bus f => Sys2Proof.Machine.execRetire bus f s
  | .pointReport bus f => Sys2Proof.Machine.execPointReport bus f s
  | .pointWriteAck bus f => Sys2Proof.Machine.execPointWriteAck bus f s
  | .beaconTimer bus => Sys2Proof.Machine.execBeaconTimer bus s
  | .nodeCheck bus => Sys2Proof.Machine.execNodeCheck bus s
  | .fragmentTimeout bus => Sys2Proof.Machine.execFragmentTimeout bus s
  | .linkAckTimeout bus link => Sys2Proof.Machine.execLinkAckTimeout bus link s
  | .duskProposeTimeout bus => Sys2Proof.Machine.execDuskProposeTimeout bus s
  | .duskAgreeTimeout bus => Sys2Proof.Machine.execDuskAgreeTimeout bus s
  | .duskHoldEnd bus => Sys2Proof.Machine.execDuskHoldEnd bus s
  | .busWake bus => Sys2Proof.Machine.execBusWake bus s
  | .dawnDelayEnd bus => Sys2Proof.Machine.execDawnDelayEnd bus s
  | .fedIdentity q pk => Sys2Proof.Machine.execFedIdentity q pk s
  | .fedLink q pk => Sys2Proof.Machine.execFedLink q pk s
  | .fedNet q pk => Sys2Proof.Machine.execFedNet q pk s
  | .fedPtp q pk => Sys2Proof.Machine.execFedPtp q pk s
  | .fedExport q pk => Sys2Proof.Machine.execFedExport q pk s
  | .fedMirror q pk => Sys2Proof.Machine.execFedMirror q pk s
  | .fedUnmirror q pk => Sys2Proof.Machine.execFedUnmirror q pk s
  | .fedStatus q pk => Sys2Proof.Machine.execFedStatus q pk s
  | .fedPeerRead q pk => Sys2Proof.Machine.execFedPeerRead q pk s
  | .linkTrainingDone link peer => Sys2Proof.Machine.execLinkTrainingDone link peer s
  | .linkRetry link => Sys2Proof.Machine.execLinkRetry link s
  | .linkDown link => Sys2Proof.Machine.execLinkDown link s
  | .lomuzFrame link head => Sys2Proof.Machine.execLomuzFrame link head s
  | .holdOrderedSet link => Sys2Proof.Machine.execHoldOrderedSet link s
  | .linkHoldEnd link => Sys2Proof.Machine.execLinkHoldEnd link s
  | .update via r => Sys2Proof.Machine.execUpdate via r s
  | .subscribe via r => Sys2Proof.Machine.execSubscribe via r s
  | .grant via r => Sys2Proof.Machine.execGrant via r s
  | .refuse via r => Sys2Proof.Machine.execRefuse via r s
  | .cancel via r => Sys2Proof.Machine.execCancel via r s
  | .announce h => Sys2Proof.Machine.execAnnounce h s
  | .announceTimer => Sys2Proof.Machine.execAnnounceTimer s
  | .peerLost chip => Sys2Proof.Machine.execPeerLost chip s
  | .enLinkLoss => Sys2Proof.Machine.execEnLinkLoss s
  | .enReturn => Sys2Proof.Machine.execEnReturn s
  | .routerAdvertisement frame => Sys2Proof.Machine.execRouterAdvertisement frame s
  | .sweep chip => Sys2Proof.Machine.execSweep chip s
  | .mirrorTimeout id => Sys2Proof.Machine.execMirrorTimeout id s
  | .reflectionStale id => Sys2Proof.Machine.execReflectionStale id s
  | .sync m ratePpb => Sys2Proof.Machine.execSync m ratePpb s
  | .holdover => Sys2Proof.Machine.execHoldover s
  | .panelConfig q pk => Sys2Proof.Machine.execPanelConfig q pk s
  | .panelPower q pk => Sys2Proof.Machine.execPanelPower q pk s
  | .panelUpload q pk => Sys2Proof.Machine.execPanelUpload q pk s
  | .panelUploadDone head => Sys2Proof.Machine.execPanelUploadDone head s
  | .panelFlip q pk => Sys2Proof.Machine.execPanelFlip q pk s
  | .panelGamma q pk => Sys2Proof.Machine.execPanelGamma q pk s
  | .panelGammaCommit q pk => Sys2Proof.Machine.execPanelGammaCommit q pk s
  | .gammaCopyDone head => Sys2Proof.Machine.execGammaCopyDone head s
  | .panelBand q pk => Sys2Proof.Machine.execPanelBand q pk s
  | .panelRead q pk => Sys2Proof.Machine.execPanelRead q pk s
  | .panelCrackScan q pk => Sys2Proof.Machine.execPanelCrackScan q pk s
  | .glowConfig q pk => Sys2Proof.Machine.execGlowConfig q pk s
  | .glowLoad q pk => Sys2Proof.Machine.execGlowLoad q pk s
  | .glowWidget q pk => Sys2Proof.Machine.execGlowWidget q pk s
  | .touchConfig q pk => Sys2Proof.Machine.execTouchConfig q pk s
  | .touchRing q pk => Sys2Proof.Machine.execTouchRing q pk s
  | .touchRebase q pk => Sys2Proof.Machine.execTouchRebase q pk s
  | .touchProfile q pk => Sys2Proof.Machine.execTouchProfile q pk s
  | .touchRead q pk => Sys2Proof.Machine.execTouchRead q pk s
  | .frameStart head => Sys2Proof.Machine.execFrameStart head s
  | .powerGood head index => Sys2Proof.Machine.execPowerGood head index s
  | .phLock head => Sys2Proof.Machine.execPhLock head s
  | .railDeadline head => Sys2Proof.Machine.execRailDeadline head s
  | .railSequenceTimer head => Sys2Proof.Machine.execRailSequenceTimer head s
  | .dischargeEnd head => Sys2Proof.Machine.execDischargeEnd head s
  | .panelFault head cause => Sys2Proof.Machine.execPanelFault head cause s
  | .crackCheck head ohms => Sys2Proof.Machine.execCrackCheck head ohms s
  | .crackCheckTimer head => Sys2Proof.Machine.execCrackCheckTimer head s
  | .panelBandSample head => Sys2Proof.Machine.execPanelBandSample head s
  | .touchScan head raw => Sys2Proof.Machine.execTouchScan head raw s
  | .calRun q pk => Sys2Proof.Machine.execCalRun q pk s
  | .calMode q pk => Sys2Proof.Machine.execCalMode q pk s
  | .calRead q pk => Sys2Proof.Machine.execCalRead q pk s
  | .calSetRref q pk => Sys2Proof.Machine.execCalSetRref q pk s
  | .calCommit q pk m => Sys2Proof.Machine.execCalCommit q pk m s
  | .fuseBurnDone good => Sys2Proof.Machine.execFuseBurnDone good s
  | .fuseInfo q pk => Sys2Proof.Machine.execFuseInfo q pk s
  | .calMeasureTimeout channel => Sys2Proof.Machine.execCalMeasureTimeout channel s
  | .nvRead q pk => Sys2Proof.Machine.execNvRead q pk s
  | .nvWrite q pk => Sys2Proof.Machine.execNvWrite q pk s
  | .nvStatus q pk => Sys2Proof.Machine.execNvStatus q pk s
  | .nvBp q pk => Sys2Proof.Machine.execNvBp q pk s
  | .nvUnlock q pk => Sys2Proof.Machine.execNvUnlock q pk s
  | .nvLock q pk => Sys2Proof.Machine.execNvLock q pk s
  | .nvPassword q pk => Sys2Proof.Machine.execNvPassword q pk s
  | .nvClear q pk => Sys2Proof.Machine.execNvClear q pk s
  | .nvHoldup q pk => Sys2Proof.Machine.execNvHoldup q pk s
  | .nvCommitStart holdmon => Sys2Proof.Machine.execNvCommitStart holdmon s
  | .nvCommitDone failedPage => Sys2Proof.Machine.execNvCommitDone failedPage s
  | .tilePower q pk => Sys2Proof.Machine.execTilePower q pk s
  | .tilePowerDone done => Sys2Proof.Machine.execTilePowerDone done s
  | .powerState q pk => Sys2Proof.Machine.execPowerState q pk s
  | .powerTransitionDone => Sys2Proof.Machine.execPowerTransitionDone s
  | .powerConfig q pk => Sys2Proof.Machine.execPowerConfig q pk s
  | .powerRead q pk => Sys2Proof.Machine.execPowerRead q pk s
  | .clockSpread q pk => Sys2Proof.Machine.execClockSpread q pk s
  | .ioConfig q pk => Sys2Proof.Machine.execIoConfig q pk s
  | .thermConfig q pk => Sys2Proof.Machine.execThermConfig q pk s
  | .thermRead q pk => Sys2Proof.Machine.execThermRead q pk s
  | .thermCap q pk => Sys2Proof.Machine.execThermCap q pk s
  | .porRelease m ordered => Sys2Proof.Machine.execPorRelease m ordered s
  | .rstN lowNs => Sys2Proof.Machine.execRstN lowNs s
  | .fuseLoad factoryGood => Sys2Proof.Machine.execFuseLoad factoryGood s
  | .journalRecovery => Sys2Proof.Machine.execJournalRecovery s
  | .firmwareVerify image => Sys2Proof.Machine.execFirmwareVerify image s
  | .lpddr5Training good gib => Sys2Proof.Machine.execLpddr5Training good gib s
  | .tileBrownout tile mv => Sys2Proof.Machine.execTileBrownout tile mv s
  | .pfailRise supmon holdmon recordBegun => Sys2Proof.Machine.execPfailRise supmon holdmon recordBegun s
  | .pfailFall supmon => Sys2Proof.Machine.execPfailFall supmon s
  | .mainRailLoss => Sys2Proof.Machine.execMainRailLoss s
  | .vddAonLoss => Sys2Proof.Machine.execVddAonLoss s
  | .wakePin lowNs => Sys2Proof.Machine.execWakePin lowNs s
  | .wakeAlarm => Sys2Proof.Machine.execWakeAlarm s
  | .thermSample readings m => Sys2Proof.Machine.execThermSample readings m s
  | .throttleUp tile => Sys2Proof.Machine.execThrottleUp tile s
  | .critEnd => Sys2Proof.Machine.execCritEnd s
  | .eventConfig q pk => Sys2Proof.Machine.execEventConfig q pk s
  | .eventRead q pk => Sys2Proof.Machine.execEventRead q pk s
  | .eventPending q pk => Sys2Proof.Machine.execEventPending q pk s
  | .eventAck q pk => Sys2Proof.Machine.execEventAck q pk s
  | .eventWait q pk => Sys2Proof.Machine.execEventWait q pk s
  | .eventWaitTimeout q tag => Sys2Proof.Machine.execEventWaitTimeout q tag s
  | .eventDetail q pk => Sys2Proof.Machine.execEventDetail q pk s
  | .logRead q pk => Sys2Proof.Machine.execLogRead q pk s
  | .logMark q pk => Sys2Proof.Machine.execLogMark q pk s
  | .logClear q pk => Sys2Proof.Machine.execLogClear q pk s
  | .transmitStart bus => Sys2Proof.Machine.execTransmitStart bus s
  | .receiveError bus => Sys2Proof.Machine.execReceiveError bus s
  | .configurationRequest r => Sys2Proof.Machine.execConfigurationRequest r s
  | .enLinkReturn => Sys2Proof.Machine.execEnLinkReturn s
  | .blankingEnd tile channel code => Sys2Proof.Machine.execBlankingEnd tile channel code s
  | .glowLoadDone head => Sys2Proof.Machine.execGlowLoadDone head s
  | .meterHistoryDone tile => Sys2Proof.Machine.execMeterHistoryDone tile s
  | .presenceTestDone tile => Sys2Proof.Machine.execPresenceTestDone tile s

end Sys2Proof.Machine
end

