-- ==== Sys2Proof/Safety.lean ====
section
/-!
DEFINITION. Safety.lean: what counts as a safe step and a sound state, and when a packet command runs to its own effect:
the terms that the statements use.
-/

namespace Sys2Proof.Machine

/-- A step that neither faults nor is refused. -/
def SafeStep (s : State) : Prop := ∃ t, step s = .next t

/-- Host memory, ring memory and the non-volatile array stand in their canonical form (log 4). -/
def State.memWf (s : State) : Bool := Memory.wf s.hostMem && Memory.wf s.ringMem && Memory.wf s.nv.cells

/-! ## A packet that is taken up -/

/-- The packet starts: it is the pair's next entry, and R38's steps 2 to 5 find nothing. -/
def Cmd.passes (sp : OpSpec) (q : Nat) (pk : Packet) (s : State) : Bool :=
  let op := BitVec.ofNat 12 sp.op
  match Cmd.take q (.packet op pk) s with
  | .go _ old t => (Cmd.judge op.toNat (some sp) q pk ((Cmd.enter op q pk t).underCred old)).isNone
  | _ => false

/-- The state in which its opcode's own part begins: the entry fetched, the state word written, the command in flight, and
the credential of its fetch in force (R59). -/
def Cmd.begun (sp : OpSpec) (q : Nat) (pk : Packet) (s : State) : State :=
  let op := BitVec.ofNat 12 sp.op
  match Cmd.take q (.packet op pk) s with
  | .go _ old t => (Cmd.enter op q pk t).underCred old
  | _ => s

/-- What one opcode does on packets that meet a condition: the condition, judged in the state in which its own part
begins, and how it then ends. -/
structure Case where
  spec : OpSpec
  pre : Packet → State → Bool
  ends : Packet → Key → State → Verdict

/-- A packet on a pair in a state that a case is about. -/
def Case.met (c : Case) (q : Nat) (pk : Packet) (s : State) : Bool :=
  Cmd.passes c.spec q pk s && c.pre pk (Cmd.begun c.spec q pk s)

/-- The case holds of a command: on every pair, packet and state it is about, `exec` answers the next state in which its
ending has been given its reply, with the credentials that stand now. -/
def Case.Runs (c : Case) (cmd : Nat → Packet → Instr) : Prop :=
  ∀ (q : Nat) (pk : Packet) (s : State), c.met q pk s = true →
    exec (cmd q pk) s = .next (Cmd.conclude (nextKey q pk s)
      ((c.ends pk (nextKey q pk s) (Cmd.begun c.spec q pk s)).map (State.withCreds s))
      (State.withCreds s (Cmd.begun c.spec q pk s)))

end Sys2Proof.Machine
end

