-- ==== Sys2Proof/Certificates/Slice0/Obligations.lean ====
section
/-!
DEFINITION. Certificates/Slice0/Obligations.lean: the statements for the provers. A statement about opcodes is made of
cases (Safety.lean): each says on which packets and states the opcode runs to its own effect, and what that effect is.
-/

open Sys2Proof Sys2Proof.Machine

/-! ## Steps, packets and replies -/

/-- A step with a command in front is that command's effect, on the state with the queue's rest. -/
def Obligations.StepRunsFront : Prop :=
  ∀ (c : Instr) (rest : List Instr) (s : State), step { s with pending := c :: rest } = exec c { s with pending := rest }

/-- Right after reset (R18, R28, R57, R93, R290, R352 and the reset values of Tables 2.3, 2.5 and 16.2): TB_VALID is 0,
queue 0 is not armed, WIN_RW is 0, no session is open, no event is pending, every EVCFG routes its source, enabled for
the log and masked, on its own number, and no tile is powered. The memories stand in canonical form with nothing listed, which
reads 0 (the model's choice, log 4). -/
def Obligations.ResetState : Prop :=
  State.reset.tb.valid = false ∧ State.reset.tb.source = .host ∧ State.reset.hub.setup = .idle ∧ State.reset.hub.winRw = false ∧
  State.reset.cl.sessions = [] ∧ State.reset.hub.pairs = [] ∧ State.reset.live = false ∧ State.reset.pending = [] ∧
  (∀ i, i < 256 → evCfg State.reset.ev i = 0xC000 + i ∧ (vget State.reset.ev.stat i {}).pending = false) ∧
  (∀ t, t < 4 → State.reset.tileOn t = false) ∧ State.reset.pw.wakeTarget = 1 ∧ State.reset.pw.pfailMv = 1000 ∧
  State.reset.memWf = true ∧ ∀ (sp : Space) (a : Nat), State.reset.readMem sp a 1 = [0]

/-- The 64 bytes of a command packet spell it (Table 2.6): its CRC matches, and opcode, REV, TAG, flags, CLIENT, QUEUE,
every reserved bit and every PARAMS bit read back. -/
def Obligations.PacketRoundTrip : Prop :=
  ∀ (op : BitVec 12) (pk : Packet), (packetBytes op pk).length = 64 ∧ entryOf (packetBytes op pk) = .packet op pk

/-- Two packets with the same 64 bytes are the same packet, and any 64 bytes whose CRC matches are those of the packet
they spell: the layout of Table 2.6 leaves no bit out. -/
def Obligations.PacketBytesExact : Prop :=
  (∀ (op op' : BitVec 12) (pk pk' : Packet), packetBytes op pk = packetBytes op' pk' → op = op' ∧ pk = pk') ∧
  (∀ (bytes : List Byte), bytes.length = 64 → packetCrcOk bytes = true →
    packetBytes (packetOf bytes).1 (packetOf bytes).2 = bytes)

/-- When a packet starts (R38, R40, R41, Table 2.6): its pair is live with nothing waiting, fetched or held, the limits
leave room, its TAG is free, its FENCE holds nothing back, and R38's steps 2 to 5 find a packet without reserved bits,
of its session's revision, served in it, and with the right to be sent here; SESSION_OPEN and SESSION_PROVE start without a
session, on queue 0 under CLIENT 0 (R52 to R54). -/
def Obligations.PacketStarts : Prop :=
  ∀ (sp : OpSpec) (q : Nat) (pk : Packet) (s : State) (p : Pair),
    sp.op < 4096 → s.live = true → s.hub.setup = .armed → s.pair q = some p →
    p.waiting = [] → p.deleting = false → p.held = [] → (∀ f ∈ s.hub.fetched, f.q ≠ q) →
    inFlightCount s < 2048 → ctxCount s p.ctx < 256 → (∀ c ∈ s.hub.inflight, c.key.q = q → c.key.tag ≠ pk.tag.toNat) →
    (pk.fence = true → ∀ c ∈ s.hub.inflight, c.key.q ≠ q) → glowOk s (.packet (BitVec.ofNat 12 sp.op) pk) = true →
    pk.reserved = 0 → sp.reservedSet pk = false →
    (entryOp sp.op = true ∧ q = 0 ∧ pk.ctx = 0 ∧ pk.queue = 0 ∧ (sp.op = 0x100 → pk.rev ≠ 0)) ∨
      (entryOp sp.op = false ∧ ∃ ss, aget s.cl.sessions pk.ctx = some ss ∧ pk.rev.toNat = ss.rev ∧
        (ss.rev = 1 → sp.rev1 = true) ∧ hasRight sp.op sp.owner q pk ss s = true) →
    Cmd.passes sp q pk s = true ∧
      (Cmd.begun sp q pk s).pair q =
        some { p with sqHead := (p.sqHead + 1) % p.desc.size, sqTail := (p.sqTail + 1) % p.desc.size } ∧
      Cmd.find (nextKey q pk s) (Cmd.begun sp q pk s) = some {
        key := nextKey q pk s, ctx := p.ctx, echo := BitVec.ofNat 16 (sp.op + pk.rev.toNat * 4096), irq := pk.irq,
        suppressOk := pk.suppressOk, discard := false }

/-- What taking a packet up leaves unchanged (R32, R34): all but its pair, the commands fetched and in flight, the
eight bytes of the pair's state word, and the credential that judges it, which is that of its fetch (R59). -/
def Obligations.PacketStartFrame : Prop :=
  ∀ (sp : OpSpec) (q : Nat) (pk : Packet) (s : State) (p : Pair), s.pair q = some p →
    ∀ t, t = Cmd.begun sp q pk s →
      { t with
          cl := { t.cl with creds := s.cl.creds }
          hub := { t.hub with
            pairs := s.hub.pairs, inflight := s.hub.inflight, fetched := s.hub.fetched, started := s.hub.started }
          hostMem := s.hostMem, ringMem := s.ringMem } = s ∧
      (∀ q' : Nat, q' ≠ q → t.pair q' = s.pair q') ∧
      ∀ (sp' : Space) (a : Nat), ¬ (sp' = p.desc.space ∧ p.desc.stateAddr.toNat ≤ a ∧ a < p.desc.stateAddr.toNat + 8) →
        t.readMem sp' a 1 = s.readMem sp' a 1

/-- The final reply of a command in flight, with room in its completion ring and no interrupt to write (R32, R36, R40): the 32
bytes of the next slot are the reply's in the layout of Table 2.7, whatever CLIENT and QUEUE the packet named, the slot index
moves on and PHASE turns over where it wraps, the tag is free, and no other byte of either memory and nothing but the pair and
the command changes. -/
def Obligations.ReplyWritten : Prop :=
  (∀ (phase : Bool) (r : Reply) (l : List Byte), l = replyBytes phase r → l.length = 32 ∧
    ofLe (l.take 2) = r.tag.toNat + bit phase * 2 ^ 15 ∧ l[2]? = some r.status ∧ ofLe ((l.drop 3).take 2) = r.echo.toNat ∧
    ofLe ((l.drop 5).take 23) = r.result.toNat ∧ ofLe (l.drop 28) = (crc32c (l.take 28)).toNat) ∧
  (∀ (k : Key) (st : Byte) (res : Nat) (s : State) (c : InFlight) (p : Pair),
    Cmd.find k s = some c → c.discard = false → (c.suppressOk && st == St.ok) = false → s.pair k.q = some p →
    p.deleting = false → p.held = [] → p.cqFull = false → s.hub.msixEnabled = false →
    spanFits p.desc.space (p.desc.cqBase.toNat + 32 * p.cqTail) 32 = true → s.memWf = true →
    ∀ t, t = Cmd.finish k st res s →
      t.readMem p.desc.space (p.desc.cqBase.toNat + 32 * p.cqTail) 32 = replyBytes p.phase (replyOf c st res (some k)) ∧
      Cmd.find k t = none ∧
      (∃ p', t.pair k.q = some p' ∧ p'.cqTail = (p.cqTail + 1) % p.desc.size ∧
        (p'.phase = p.phase ↔ p'.cqTail ≠ 0)) ∧
      { t with hub := { t.hub with pairs := s.hub.pairs, inflight := s.hub.inflight }, hostMem := s.hostMem, ringMem := s.ringMem } = s ∧
      ∀ (sp : Space) (a : Nat), ¬ (sp = p.desc.space ∧ p.desc.cqBase.toNat + 32 * p.cqTail ≤ a ∧
          a < p.desc.cqBase.toNat + 32 * p.cqTail + 32) → t.readMem sp a 1 = s.readMem sp a 1)

/-- A reply that finds its completion ring full is held, in order, and the first one held raises CQ_STALL (Table 2.12):
no byte of a completion ring is written while events are masked or MSI-X is off. -/
def Obligations.ReplyHeld : Prop :=
  ∀ (k : Key) (st : Byte) (res : Nat) (s : State) (c : InFlight) (p : Pair),
    Cmd.find k s = some c → c.discard = false → (c.suppressOk && st == St.ok) = false → s.pair k.q = some p →
    p.deleting = false → p.cqFull = true → s.hub.msixEnabled = false →
    ∀ t, t = Cmd.finish k st res s →
      (∃ p', t.pair k.q = some p' ∧ p'.held = p.held ++ [replyOf c st res (some k)]) ∧
      (p.held = [] → (vget t.ev.stat 32 {}).pending = true) ∧
      t.hub.inflight = s.hub.inflight ∧ t.hostMem = s.hostMem ∧ t.ringMem = s.ringMem ∧ t.tiles = s.tiles

/-! ## Rows of packets -/

namespace Sys2Proof.Machine

/-- Packet rows, part 1: an opcode as R38 judges it, and its command. -/
def PacketRow1 (sp : OpSpec) (cmd : Nat → Packet → Instr) : Prop := (sp, cmd) ∈ [
  (specTbSet, .tbSet), (specTbSlew, .tbSlew), (specTbRead, .tbRead),
  (specWindowAccess, .windowAccess), (specSessionOpen, .sessionOpen), (specSessionProve, .sessionProve),
  (specSessionClose, .sessionClose), (specQueueCreate, .queueCreate), (specQueueDelete, .queueDelete),
  (specClientInstall, .clientInstall), (specClientRights, .clientRights), (specClientRemove, .clientRemove),
  (specPointRead, .pointRead), (specPointWrite, .pointWrite), (specPointCreate, .pointCreate),
  (specPointConfig, .pointConfig), (specPointDelete, .pointDelete), (specPointWatch, .pointWatch),
  (specInputConfig, .inputConfig), (specInputRead, .inputRead), (specInputTable, .inputTable),
  (specInputTest, .inputTest), (specRefbufOn, .refbufOn), (specRefbufOff, .refbufOff),
  (specAdcCalibrate, .adcCalibrate), (specSeqLoad, .seqLoad), (specSeqStart, .seqStart),
  (specSeqStop, .seqStop), (specSeqRead, .seqRead), (specLchConfig, .lchConfig)]

/-- Packet rows, part 2: an opcode as R38 judges it, and its command. -/
def PacketRow2 (sp : OpSpec) (cmd : Nat → Packet → Instr) : Prop := (sp, cmd) ∈ [
  (specLchRead, .lchRead), (specLchWinack, .lchWinack), (specDmaCreate, .dmaCreate),
  (specDmaDelete, .dmaDelete), (specUrgentConvert, .urgentConvert), (specRscan, .rscan),
  (specMeterConfig, .meterConfig), (specMeterRead, .meterRead), (specMeterHistory, .meterHistory),
  (specMeterResetPeak, .meterResetPeak), (specDemandConfig, .demandConfig), (specTariffLoad, .tariffLoad),
  (specTariffCommit, .tariffCommit), (specTariffRead, .tariffRead), (specPresenceConfig, .presenceConfig),
  (specPresenceRead, .presenceRead), (specPresenceTest, .presenceTest), (specPresenceRebase, .presenceRebase),
  (specLoopCreate, .loopCreate), (specLoopDelete, .loopDelete), (specLoopRead, .loopRead),
  (specLoopManual, .loopManual), (specLoopTune, .loopTune), (specLoopLoad, .loopLoad),
  (specZoneCreate, .zoneCreate), (specZoneDelete, .zoneDelete), (specZoneRead, .zoneRead),
  (specZoneModel, .zoneModel), (specPredSolve, .predSolve), (specPredPlanRead, .predPlanRead)]

/-- Packet rows, part 3: an opcode as R38 judges it, and its command. -/
def PacketRow3 (sp : OpSpec) (cmd : Nat → Packet → Instr) : Prop := (sp, cmd) ∈ [
  (specPredLearn, .predLearn), (specPredAccept, .predAccept), (specPredPause, .predPause),
  (specPredSched, .predSched), (specPredLoad, .predLoad), (specZoneTune, .zoneTune),
  (specDrvConfig, .drvConfig), (specDrvProfile, .drvProfile), (specDrvCommand, .drvCommand),
  (specDrvRead, .drvRead), (specDrvClear, .drvClear), (specDrvBand, .drvBand),
  (specAoConfig, .aoConfig), (specAoSet, .aoSet), (specAoRead, .aoRead),
  (specFanConfig, .fanConfig), (specFanSet, .fanSet), (specFanRead, .fanRead),
  (specBusConfig, .busConfig), (specBusStatus, .busStatus), (specBusSend, .busSend),
  (specBusCancel, .busCancel), (specBusRecover, .busRecover), (specBusFilter, .busFilter),
  (specBusRxring, .busRxring), (specBusNode, .busNode), (specBusNodeRead, .busNodeRead),
  (specBusAdopt, .busAdopt), (specBusRetire, .busRetire), (specBusLink, .busLink)]

/-- Packet rows, part 4: an opcode as R38 judges it, and its command. -/
def PacketRow4 (sp : OpSpec) (cmd : Nat → Packet → Instr) : Prop := (sp, cmd) ∈ [
  (specBusDusk, .busDusk), (specBusDawn, .busDawn), (specFedIdentity, .fedIdentity),
  (specFedLink, .fedLink), (specFedNet, .fedNet), (specFedPtp, .fedPtp),
  (specFedExport, .fedExport), (specFedMirror, .fedMirror), (specFedUnmirror, .fedUnmirror),
  (specFedStatus, .fedStatus), (specFedPeerRead, .fedPeerRead), (specPanelConfig, .panelConfig),
  (specPanelPower, .panelPower), (specPanelUpload, .panelUpload), (specPanelFlip, .panelFlip),
  (specPanelGamma, .panelGamma), (specPanelGammaCommit, .panelGammaCommit), (specPanelBand, .panelBand),
  (specPanelRead, .panelRead), (specPanelCrackScan, .panelCrackScan), (specGlowConfig, .glowConfig),
  (specGlowLoad, .glowLoad), (specGlowWidget, .glowWidget), (specTouchConfig, .touchConfig),
  (specTouchRing, .touchRing), (specTouchRebase, .touchRebase), (specTouchProfile, .touchProfile),
  (specTouchRead, .touchRead), (specCalRun, .calRun), (specCalMode, .calMode)]

/-- Packet rows, part 5: an opcode as R38 judges it, and its command. -/
def PacketRow5 (sp : OpSpec) (cmd : Nat → Packet → Instr) : Prop := (sp, cmd) ∈ [
  (specCalRead, .calRead), (specCalSetRref, .calSetRref), (specFuseInfo, .fuseInfo),
  (specNvRead, .nvRead), (specNvWrite, .nvWrite), (specNvStatus, .nvStatus),
  (specNvBp, .nvBp), (specNvUnlock, .nvUnlock), (specNvLock, .nvLock),
  (specNvPassword, .nvPassword), (specNvClear, .nvClear), (specNvHoldup, .nvHoldup),
  (specTilePower, .tilePower), (specPowerState, .powerState), (specPowerConfig, .powerConfig),
  (specPowerRead, .powerRead), (specClockSpread, .clockSpread), (specIoConfig, .ioConfig),
  (specThermConfig, .thermConfig), (specThermRead, .thermRead), (specThermCap, .thermCap),
  (specEventConfig, .eventConfig), (specEventRead, .eventRead), (specEventPending, .eventPending),
  (specEventAck, .eventAck), (specEventWait, .eventWait), (specEventDetail, .eventDetail),
  (specLogRead, .logRead), (specLogMark, .logMark), (specLogClear, .logClear)]

/-- The rows that are packets: all opcodes, CAL_COMMIT with the monitors that its row gives too. -/
def PacketRow (sp : OpSpec) (cmd : Nat → Packet → Instr) : Prop :=
  PacketRow1 sp cmd ∨ PacketRow2 sp cmd ∨ PacketRow3 sp cmd ∨ PacketRow4 sp cmd ∨ PacketRow5 sp cmd ∨
    ∃ m : Monitors, sp = specCalCommit ∧ cmd = fun q pk => .calCommit q pk m

end Sys2Proof.Machine

/-- A packet that is taken up and that R38 refuses has no effect but its reply (R38, R44), for every opcode: BAD_PARAM for a
reserved bit of the header, and for one of the parameters where the opcode is served; VERSION_MISMATCH for another revision
than its session's, and for revision 0 at SESSION_OPEN; BAD_OPCODE where the session's revision does not serve it; NO_RIGHT
without a session, without the right that the credential of its fetch gives (R59), and for SESSION_OPEN and SESSION_PROVE
from elsewhere than queue 0 under CLIENT 0. The reason for a reserved bit of the header is that of the opcode's group, which
is the model's choice (log 25). A packet whose TAG is in flight on its pair is fetched as a duplicate: BAD_PARAM with reason 0
before any other check, the earlier command untouched (R41). -/
def Obligations.RefusedPackets : Prop :=
  ∀ (sp : OpSpec) (cmd : Nat → Packet → Instr), PacketRow sp cmd → ∀ (q : Nat) (pk : Packet) (s : State),
    (∀ (t u : State) (i : Nat) (old : Option (Nat × Option Cred)),
      Cmd.take q (.packet (BitVec.ofNat 12 sp.op) pk) s = .go i old t → u = Cmd.enter (BitVec.ofNat 12 sp.op) q pk t →
      (pk.reserved ≠ 0 → exec (cmd q pk) s = .next (Cmd.final (nextKey q pk s) St.badParam (result [(5, 1, sp.rsv)]) u)) ∧
      (sp.reservedSet pk = true → served (some sp) (aget s.cl.sessions pk.ctx) = true →
        exec (cmd q pk) s = .next (Cmd.final (nextKey q pk s) St.badParam (result [(5, 1, sp.rsv)]) u)) ∧
      (entryOp sp.op = true → pk.reserved = 0 → sp.reservedSet pk = false →
        (sp.op = 0x100 → pk.rev = 0 → exec (cmd q pk) s = .next (Cmd.final (nextKey q pk s) St.versionMismatch 0 u)) ∧
        (sp.op ≠ 0x100 ∨ pk.rev ≠ 0 → q ≠ 0 ∨ pk.ctx ≠ 0 ∨ pk.queue ≠ 0 →
          exec (cmd q pk) s = .next (Cmd.final (nextKey q pk s) St.noRight 0 u))) ∧
      (entryOp sp.op = false → pk.reserved = 0 →
        (aget s.cl.sessions pk.ctx = none → exec (cmd q pk) s = .next (Cmd.final (nextKey q pk s) St.noRight 0 u)) ∧
        (∀ ss, aget s.cl.sessions pk.ctx = some ss →
          (ss.rev = 1 → sp.rev1 = false → pk.rev.toNat = 1 →
            exec (cmd q pk) s = .next (Cmd.final (nextKey q pk s) St.badOpcode 0 u)) ∧
          (sp.reservedSet pk = false →
            (pk.rev.toNat ≠ ss.rev → exec (cmd q pk) s = .next (Cmd.final (nextKey q pk s) St.versionMismatch 0 u)) ∧
            (pk.rev.toNat = ss.rev → (ss.rev = 1 → sp.rev1 = true) → hasRight sp.op sp.owner q pk ss (u.underCred old) = false →
              exec (cmd q pk) s = .next (Cmd.final (nextKey q pk s) St.noRight 0 u)))))) ∧
    (∀ t v : State, Cmd.take q (.packet (BitVec.ofNat 12 sp.op) pk) s = .dup t →
      v = Ring.reply q {
        tag := pk.tag, status := St.badParam, echo := BitVec.ofNat 16 (sp.op + pk.rev.toNat * 4096), result := 0, irq := pk.irq
        frees := none } t → exec (cmd q pk) s = .next (Ev.settle v.ev.waits.length v)) ∧
    (∀ p : Pair, s.live = true → s.hub.setup = .armed → s.pair q = some p → p.waiting = [] → p.deleting = false → p.held = [] →
      (∀ f ∈ s.hub.fetched, f.q ≠ q) → inFlightCount s < 2048 → ctxCount s p.ctx < 256 →
      glowOk s (.packet (BitVec.ofNat 12 sp.op) pk) = true → (∃ c ∈ s.hub.inflight, c.key.q = q ∧ c.key.tag = pk.tag.toNat) →
      ∃ t, Cmd.take q (.packet (BitVec.ofNat 12 sp.op) pk) s = .dup t ∧ t.hub.inflight = s.hub.inflight)
/-- Host memory, ring memory and the non-volatile array keep their canonical form (log 4) in every step: addresses strictly
rising, no entry listed that reads as an unlisted address does. -/
def Obligations.MemoryCanonicalKept : Prop :=
  ∀ (s t : State), s.memWf = true → step s = .next t → t.memWf = true

/-- Every step ends in a next state, but POR_RELEASE with the rails raised out of the order of R328, which alone stops
(R329). -/
def Obligations.StepsGoOn : Prop :=
  ∀ s : State, SafeStep s ∨
    ∃ (m : Monitors) (rest : List Instr), s.pending = .porRelease m false :: rest ∧ step s = .fault .railsOutOfOrder

/-- How time passes. On an empty queue the time base takes one step of its 50 MHz reference (R374; that an idle step is one
such step is the model's choice, log 1): 20 ns scaled by RATE_PPB, the fraction of a nanosecond carried and none lost. A
happening that its row presents early first lets time pass to its instant (log 9): elapsed time reaches it and goes less than
one step of the reference beyond.
What a step of TB does (R18, R20, R21; its order is log 21's): TB takes the new value, TB_STEP is raised with the step, and then
the step forward or backward acts. Backward, nothing evaluates: each loop, zone and sequence takes the first boundary or start
after the new TB as its next one (a cycle in progress completes first), a TPROP cycle in progress ends and the next starts at the
first multiple of CYCLE_S, pulse rates and PPS_OUT come at the first whole second after it, their counts kept, and no demand
interval opens, closes or changes its length, nor does the tariff. Forward, each zone and each loop whose boundary was passed
evaluates at the new TB, a TPROP cycle past its end ends, and where intervals run each bound pair's closes at the new TB, marked
INTERRUPTED with the step's length, the next one open and marked alike. -/
def Obligations.TimePasses : Prop :=
  (∀ s : State, s.pending = [] → s.pw.boot ≠ .unpowered → s.pw.boot ≠ .off →
    -500000 ≤ s.tb.ratePpb.toInt → s.tb.ratePpb.toInt ≤ 500000 → 0 ≤ s.tb.carry → s.tb.carry < 1000000000 →
    s.tb.now.toNat + 100 < 2 ^ 64 →
    ∃ t, step s = .next t ∧
      (t.tb.now.toNat : Int) * 1000000000 + t.tb.carry =
        (s.tb.now.toNat : Int) * 1000000000 + s.tb.carry + 20 * (1000000000 + s.tb.ratePpb.toInt) ∧
      0 ≤ t.tb.carry ∧ t.tb.carry < 1000000000 ∧ s.tb.now.toNat + 19 ≤ t.tb.now.toNat ∧ t.tb.elapsed = s.tb.elapsed + 20 ∧
      { t with tb := s.tb, fed := s.fed } = s) ∧
  (∀ (e : Nat) (s : State), s.pw.boot ≠ .unpowered → s.pw.boot ≠ .off → s.tb.elapsed ≤ e →
    e ≤ (untilElapsed e s).tb.elapsed ∧ (untilElapsed e s).tb.elapsed < e + 20 ∧
      { untilElapsed e s with tb := s.tb, fed := s.fed } = s) ∧
  (∀ (code new : Nat) (mark : Bool) (s u : State),
    u = Ev.raise 14 code (packLe [(8, toBits 64 ((new : Int) - (s.ns : Int)))])
      { s with tb := { s.tb with now := BitVec.ofNat 64 new, carry := 0, valid := s.tb.valid || mark } } →
    Tb.stepTo code new mark s = Tb.validate s.tb.valid
      (if s.ns < new then Tb.forward s.ns s.tb.valid u else if new < s.ns then Tb.back s.ns u else u)) ∧
  (∀ (back t : Nat) (s v : State), t < 4 → v = Tb.backTile back t s →
    (∀ d l, s.loop t d = some l → ∃ m, v.loop t d = some m ∧ m.next = l.nextAfter (stretchOf (s.tile t) l) s.ns ∧
      { m with next := l.next, switchedAt := l.switchedAt } = l) ∧
    (∀ n z, s.zone t n = some z → ∃ y, v.zone t n = some y ∧ y.next = z.nextAfter s.ns ∧
      { y with next := z.next, solve := z.solve } = z) ∧
    (∀ c, c < 2 → 0 < (s.conv t c).active.periodMs →
      (v.conv t c).nextStart + (if (s.conv t c).inCycle = true then (s.conv t c).active.periodMs * 1000000 else 0) =
        startAfter (s.conv t c).active.periodMs s.ns ∧
      { v.conv t c with nextStart := (s.conv t c).nextStart } = s.conv t c) ∧
    (∀ j, j < 24 → ((s.tile t).drive j).cfg.mode = 2 → isSlave (s.tile t) j = false →
      ((v.tile t).drive j).isOn = false ∧ ((v.tile t).drive j).onUntil = none ∧
      ((v.tile t).drive j).cycleAt = startAfter (((s.tile t).drive j).cfg.cycleS * 1000) s.ns)) ∧
  (∀ p n : Nat, 0 < p → n < startAfter p n ∧ p * 1000000 ∣ startAfter p n ∧ startAfter p n ≤ n + p * 1000000) ∧
  (∀ (old : Nat) (s v : State), v = Tb.back old s →
    v.mt.running = s.mt.running ∧ v.mt.boundary = s.mt.boundary ∧ v.mt.len = s.mt.len ∧ v.mt.newLen = s.mt.newLen ∧
    v.mt.tariff = s.mt.tariff ∧ (∀ t p, (v.meter t p).history = (s.meter t p).history) ∧
    v.tb.ppsNext = s.sec + 1 ∧ (∀ t, t < 4 → s.tileOn t = true → (v.tile t).rateSec = s.sec + 1) ∧
    ∀ t i, t < 4 → (v.tile t).input i = (s.tile t).input i) ∧
  (∀ (t n i : Nat) (s : State), passedZone s t = some i →
    Zones.catchUp t (n + 1) s = Zones.catchUp t n (Zone.boundary t i s.ns true s) ∧
    ∃ z, (i, z) ∈ (s.tile t).zones ∧ z.next ≤ s.ns) ∧
  (∀ (t n : Nat) (s : State), (∀ e ∈ (s.tile t).zones, s.ns < e.2.next) → Zones.catchUp t n s = s) ∧
  (∀ (t : Nat) (s : State), loopsRun s t = true →
    Loops.catchUp t s = Loops.evaluate t s.ns (dueLoops (s.tile t) s.ns) s) ∧
  (∀ (x : Tile) (b d : Nat), d ∈ dueLoops x b ↔
    ∃ l, (d, l) ∈ x.loops ∧ l.state ≠ .crc ∧ l.admittedCls < 3 ∧ l.next ≤ b) ∧
  (∀ (t j : Nat) (s : State), (((s.tile t).drive j).cycleAt ≤ s.ns → Drv.passCycle t j s = Drv.endCycle t j s) ∧
    (s.ns < ((s.tile t).drive j).cycleAt → Drv.passCycle t j s = s)) ∧
  (∀ (m n : MeterPair) (outage start tariff len : Nat), m.restored = false → m.cfg.isSome = true → m.interval.opened = true →
    m.pend = none → n = m.interrupt outage start tariff len →
    (∃ r, n.history = (r :: m.history).take 64 ∧ r.flags.getLsbD flInterrupted = true ∧ r.outageS = outage ∧
      r.start = m.interval.start ∧ r.eImp = m.interval.eImp ∧ r.eExp = m.interval.eExp) ∧
    n.interval.opened = true ∧ n.interval.start = start ∧ n.interval.len = len ∧ n.interval.outageS = outage ∧
    n.interval.flags.getLsbD flInterrupted = true) ∧
  (∀ (old new : Nat) (s u : State), s.mt.running = true → u = Meter.stepForward old new s →
    u.mt.len = s.mt.newLen.getD s.mt.len ∧ u.mt.newLen = none ∧ u.mt.boundary = boundaryAfter u.mt.len (new / 1000000000) ∧
    u.mt.tariff = s.mt.active.tariffAt (new / 1000000000))
/-! ## Time base -/

namespace Sys2Proof.Machine.Case

/-- TB_SET while the source is HOST, the new value not below a valid TB (Table 1.6, R19). -/
def tbSet : Case where
  spec := specTbSet
  pre pk t := t.tb.source == .host && !(t.tb.valid && decide (pk.le 8 8 < t.tb.now.toNat))
  ends pk _ t := .ok 0 (Tb.stepTo 0 (pk.le 8 8) (pk.u8 16 == 1) t)

/-- TB_SLEW while the source is HOST and RATE_PPB lies within 500 ppm (Table 1.7, R374). -/
def tbSlew : Case where
  spec := specTbSlew
  pre pk t := t.tb.source == .host && decide (-500000 ≤ signedOf 32 (pk.u32 8)) && decide (signedOf 32 (pk.u32 8) ≤ 500000)
  ends pk _ t := .ok 0 { t with tb := { t.tb with ratePpb := BitVec.ofNat 32 (pk.u32 8) } }

/-- TB_SET while the source is PTP (R19): NO_RIGHT, and nothing else. -/
def tbSetPtp : Case where
  spec := specTbSet
  pre _ t := t.tb.source == .ptp
  ends _ _ _ := .fail St.noRight 0

/-- TB_SLEW while the source is PTP (R19): NO_RIGHT, and nothing else. -/
def tbSlewPtp : Case where
  spec := specTbSlew
  pre _ t := t.tb.source == .ptp
  ends _ _ _ := .fail St.noRight 0

/-- TB_READ (Table 2.14): TB, TB_VALID and the source, RATE_PPB and the last PPS_IN stamp. -/
def tbRead : Case where
  spec := specTbRead
  pre _ _ := true
  ends _ _ t := .ok (result [(5, 8, t.tb.now.toNat), (13, 1, bit t.tb.valid + 2 * bit (t.tb.source != .host)),
    (14, 4, t.tb.ratePpb.toNat), (18, 8, t.tb.ppsIn.toNat)]) t

end Sys2Proof.Machine.Case

/-! ## Pulse pins, values between tiles, skew -/

/-- TB_SET, TB_SLEW and TB_READ complete with their effects (Tables 1.6, 1.7, 2.14), and while the source is PTP the first two
complete with NO_RIGHT (R19; that the source is one of the two holds by its type). PPS_OUT rises at its second and falls 10
ms later, a PPS_IN edge is stamped with TB (R21), a value that tile `src` has sent to a powered tile `dst` leaves the queue
and arrives (R11, R12), and TILE_SKEW clears with the length of its episode in ms 100 ms after the difference came within its
limit (R17). That a value for a tile without power is dropped is the model's choice: no rule says what becomes of it (log 41,
log 8). -/
def Obligations.TimeBaseAndTiles : Prop :=
  Case.tbSet.Runs .tbSet ∧ Case.tbSlew.Runs .tbSlew ∧ Case.tbRead.Runs .tbRead ∧
  (∀ s : State, s.tb.source = .host ∨ s.tb.source = .ptp) ∧ Case.tbSetPtp.Runs .tbSet ∧ Case.tbSlewPtp.Runs .tbSlew ∧
  (∀ s : State, s.pw.boot ≠ .unpowered → s.pw.boot ≠ .held → s.tb.ppsOut = false → ppsComesNext s = true →
    ∃ u t, u = untilTb (s.tb.ppsNext * 1000000000) s ∧ exec .ppsOutRise s = .next t ∧
      t.tb.ppsOut = true ∧ t.tb.ppsRoseAt = u.tb.elapsed ∧ t.tb.ppsNext = u.sec + 1 ∧ t.tb.now = u.tb.now ∧
      { t with tb := u.tb } = u) ∧
  (∀ s : State, s.tb.ppsOut = true →
    exec .ppsOutFall s = .next { untilElapsed (s.tb.ppsRoseAt + 10000000) s with
      tb := { (untilElapsed (s.tb.ppsRoseAt + 10000000) s).tb with ppsOut := false } }) ∧
  (∀ s : State, s.pw.boot ≠ .unpowered →
    exec .ppsInEdge s = .next { s with tb := { s.tb with ppsIn := s.tb.now } }) ∧
  (∀ (src dst : Nat) (e : CrossEntry) (s : State), (s.tile src).xout.find? (fun x => x.dst == dst) = some e →
    s.tileOn src = true → s.tileOn dst = true →
    exec (.crossTileDelivery src dst) s = .next (Cross.arrive src dst e.item
      (s.modTile src (fun x => { x with xout := dropFirstFor dst x.xout })))) ∧
  (∀ (src dst : Nat) (e : CrossEntry) (s : State), (s.tile src).xout.find? (fun x => x.dst == dst) = some e →
    s.tileOn src = true → src ≠ dst → s.tileOn dst = false →
    exec (.crossTileDelivery src dst) s = .next (s.modTile src (fun x => { x with xout := dropFirstFor dst x.xout }))) ∧
  (∀ (edge kind w : Nat) (k : Skew) (u s : State), edge < 4 → kind < 2 → vget s.pw.skew (2 * edge + kind) {} = k →
    k.stands = true → k.withinAt = some w → u = untilElapsed (w + 100000000) s →
    exec (.tileSkewClear edge kind) s = .next (Ev.raiseCleared 4 kind
      (skewArg u edge kind ((u.tb.elapsed - k.raisedAt) / 1000000))
      { u with pw := { u.pw with skew := vset u.pw.skew (2 * edge + kind) {} } }))

/-! ## BAR0 and the rings -/

/-- Arming, disarming and reset of the function (R24, R28, R29): ARM from IDLE or REFUSED with a descriptor that R27 takes
gives queue 0 its rings, and with another STATE is REFUSED; before RDY, while ARMED and while disarming it is ignored. DISARM
and a Function Level Reset alike set STATE to DISARMING and WIN_RW to 0, start no entry fetched, discard the replies of all
that runs, end every EVENT_WAIT, close every session with the openings of its context, and leave no pair but queue 0 that is
not being deleted, and no entry or reply waiting on queue 0; of the rest of the state they change the store's queues and the
memories that its reads fill alone. When that is done STATE is IDLE, queue 0 is armed no more, and no command whose
reply is discarded is in flight: that those still running are forgotten there is the model's choice (log 44). -/
def Obligations.ArmAndDisarm : Prop :=
  (∀ (s : State) (d : RingDesc), s.live = true → s.hub.setup ≠ .armed → s.hub.setup ≠ .disarming →
    parseDesc s (setupBytes s) = .ok d →
    exec .setupArm s = .next { s with hub := { s.hub with
      setup := .armed, pairs := aset s.hub.pairs 0 { ctx := 0, desc := d } } }) ∧
  (∀ (s : State) (b : Byte), s.live = true → s.hub.setup ≠ .armed → s.hub.setup ≠ .disarming →
    parseDesc s (setupBytes s) = .error b → exec .setupArm s = .next { s with hub := { s.hub with setup := .refused } }) ∧
  (∀ s : State, s.live = false ∨ s.hub.setup = .armed ∨ s.hub.setup = .disarming → exec .setupArm s = .next s) ∧
  (∀ s : State, ∃ t, exec .setupDisarm s = .next t ∧ exec .hostFlr s = .next t ∧
    t.hub.setup = .disarming ∧ t.hub.winRw = false ∧ t.hub.fetched = [] ∧ (∀ c ∈ t.hub.inflight, c.discard = true) ∧
    t.ev = { s.ev with waits := [] } ∧ t.cl.sessions = [] ∧ (∀ c o, ahas s.cl.sessions c = true → o ∈ t.nv.opens → o.1 ≠ c) ∧
    (∀ e ∈ t.hub.pairs, e.1 ≠ 0 → e.2.deleting = true) ∧ (∀ p, t.pair 0 = some p → p.held = [] ∧ p.waiting = []) ∧
    t.hub.setupDesc = s.hub.setupDesc ∧
    { t with
        hub := s.hub, cl := { t.cl with sessions := s.cl.sessions }, ev := s.ev, nv := s.nv
        hostMem := s.hostMem, ringMem := s.ringMem } = s) ∧
  (∀ s : State, s.hub.setup = .disarming →
    exec .disarmComplete s = .next { s with hub := { s.hub with
      setup := .idle, pairs := aerase s.hub.pairs 0, inflight := s.hub.inflight.filter (fun c => !c.discard) } }) ∧
  (∀ s : State, s.hub.setup ≠ .disarming → exec .disarmComplete s = .next s)

/-- What the host does beside the rings. Register accesses (R25, R46, R47): SETUP_DESC words are kept as written; a narrower or
unaligned write and one to a reserved offset are ignored, and a narrower or unaligned read gives 0; a CHSEL write selects KIND and INDEX; a window write reaches the
selected port while WIN_RW and VALID are 1 and is ignored otherwise; while VALID is 0 the window reads 0. QSPI (R49, R50): WRITE
and QWRITE put a whole word's bytes in ring memory, lowest first; READ and QREAD shift out the words of ring memory, wrapping
within its 64 KiB; STATUS shifts out RDY in bit 0 and whether a completion interrupt is pending in bit 1; an unknown instruction
is ignored. Configuration requests (R339): before 20 ms after POR release none is answered (log 20); from then until RDY each
gets Configuration Request Retry Status; after that each is served: a read gives its data (R23: Device ID 0x8240, class code
0x118000, 256 MSI-X vectors, no interrupt pin, no MSI and no SR-IOV), a write places BAR0 at a multiple of 64 KiB or sets
MSI-X's enable and mask. -/
def Obligations.HostAccesses : Prop :=
  (∀ (s : State) (k : Nat) (v : Word), answers s = true → k < 8 →
    exec (.registerWrite (0x40 + 4 * k) 4 v) s = .next { s with hub := { s.hub with setupDesc := vset s.hub.setupDesc k v } }) ∧
  (∀ (s : State) (off n : Nat) (v : Word), n ≠ 4 ∨ off % 4 ≠ 0 → exec (.registerWrite off n v) s = .next s) ∧
  (∀ (s : State) (off : Nat) (v : Word), (0x14 ≤ off ∧ off < 0x40) ∨ (0x60 ≤ off ∧ off < 0x1000) ∨
      (0x1004 ≤ off ∧ off < 0x1100) ∨ (0x1400 ≤ off ∧ off < 0x4000) ∨ 0x9000 ≤ off →
    exec (.registerWrite off 4 v) s = .next s) ∧
  (∀ (s : State) (off n : Nat), n ≠ 4 ∨ off % 4 ≠ 0 → Bar0.read s off n = 0) ∧
  (∀ (s : State) (v : Word), answers s = true →
    ∃ t, exec (.chselWrite v) s = .next t ∧ chselPort t.hub = { kind := field v.toNat 15 12, index := field v.toNat 11 0 } ∧
      { t with hub := { t.hub with chsel := s.hub.chsel } } = s) ∧
  (∀ (s : State) (p : PortSel) (w : Nat) (v : Word), answers s = true → w < 4 → s.hub.winRw = true →
    chselValid s = true → p = chselPort s.hub → p.kind = 0 → ∀ c, c = ((s.tile p.tile).input p.local).latestCfg →
    ∀ c' : InCfg, c'.cfg0 = pickWord w 0 v c.cfg0 → c'.paramA = pickWord w 1 v c.paramA →
    c'.paramB = pickWord w 2 v c.paramB → c'.comp = pickWord w 3 v c.comp →
    judgeConfig s p.tile p.local c' = none →
    exec (.windowWrite (0x1100 + 4 * w) v) s = .next (Input.configure p.tile p.local c' s)) ∧
  (∀ (s : State) (p : PortSel) (w : Nat) (v : Word), answers s = true → w < 192 → s.hub.winRw = true →
    chselValid s = true → p = chselPort s.hub → ∀ r, r = exec (.windowWrite (0x1100 + 4 * w) v) s →
    (p.kind = 0 → r = .next (windowInputWrite p.tile p.local w v s)) ∧
    (p.kind = 1 → r = .next (windowDriveWrite p.tile p.local w v s)) ∧
    (p.kind = 2 → r = .next (windowAoWrite p.tile p.local w v s)) ∧
    (p.kind = 3 → r = .next (windowFanWrite p.tile p.local w v s)) ∧
    (p.kind = 4 → r = .next (windowBusWrite p.index w v s)) ∧ (p.kind = 5 → r = .next s) ∧
    (p.kind = 6 → r = .next (windowHeadWrite p.index w v s)) ∧ (p.kind = 7 → r = .next (windowLinkWrite p.index w v s))) ∧
  (∀ (s : State) (w : Nat) (v : Word), s.hub.winRw = false ∨ chselValid s = false →
    w < 192 → exec (.windowWrite (0x1100 + 4 * w) v) s = .next s) ∧
  (∀ (s : State) (w : Nat), chselValid s = false → Window.read s w = 0) ∧
  (∀ (s : State) (a : Nat) (b0 b1 b2 b3 : Byte), answers s = true → s.memWf = true → a + 4 ≤ 65536 →
    ∃ t, exec (.qspiWrite a [b0, b1, b2, b3]) s = .next t ∧ exec (.qspiQwrite a [b0, b1, b2, b3]) s = .next t ∧
      memRead t.ringMem a 4 = [b0, b1, b2, b3] ∧ { t with ringMem := s.ringMem } = s ∧
      ∀ x, ¬ (a ≤ x ∧ x < a + 4) → memGet t.ringMem x = memGet s.ringMem x) ∧
  (∀ (s : State) (a : Nat) (b0 b1 b2 : Byte), exec (.qspiWrite a [b0, b1, b2]) s = .next s ∧
    exec (.qspiQwrite a [b0, b1, b2]) s = .next s) ∧
  (∀ (s : State) (a n : Nat), answers s = true → a < 65536 →
    ∃ t, exec (.qspiRead a n) s = .next t ∧ exec (.qspiQread a n) s = .next t ∧ t.hub.qspiOut.length = n ∧
      (∀ i, i < n → (t.hub.qspiOut[i]?.getD 0).toNat =
        ofLe ((List.range 4).map (fun j => memGet s.ringMem ((a + 4 * i + j) % 65536)))) ∧
      { t with hub := { t.hub with qspiOut := s.hub.qspiOut } } = s) ∧
  (∀ s : State, answers s = true → exec .qspiStatus s = .next { s with hub := { s.hub with
    qspiOut := [BitVec.ofNat 32 (bit s.live + 2 * bit (completionPending s))] } }) ∧
  (∀ (s : State) (b : Byte), exec (.qspiUnknownInstruction b) s = .next s) ∧
  (∀ (s : State) (r : CfgRequest), s.tb.elapsed < s.pw.porAt + 20000000 → exec (.configurationRequest r) s = .next s) ∧
  (∀ (s : State) (r : CfgRequest), answers s = true → s.pw.porAt + 20000000 ≤ s.tb.elapsed → s.live = false →
    exec (.configurationRequest r) s = .next { s with hub := { s.hub with cfgAnswer := .retry } }) ∧
  (∀ (s : State) (x : CfgItem), s.live = true → s.pw.porAt + 20000000 ≤ s.tb.elapsed →
    exec (.configurationRequest (.read x)) s = .next { s with hub := { s.hub with
      cfgAnswer := .served, cfgData := some (cfgWord s.hub x) } }) ∧
  (∀ h : Hub, (cfgWord h .deviceId).toNat / 65536 = 0x8240 ∧ (cfgWord h .classCode).toNat / 256 = 0x118000 ∧
    cfgWord h .interruptPin = 0 ∧ (cfgWord h .msixControl).toNat % 2048 = 255 ∧ cfgWord h .hasMsi = 0 ∧
    cfgWord h .hasSriov = 0) ∧
  (∀ (s : State) (v : BitVec 64), s.live = true → s.pw.porAt + 20000000 ≤ s.tb.elapsed →
    exec (.configurationRequest (.bar0 v)) s = .next { s with hub := { s.hub with
      cfgAnswer := .served, bar0 := BitVec.ofNat 64 (v.toNat / 65536 * 65536) } }) ∧
  (∀ (s : State) (enable mask : Bool), s.live = true → s.pw.porAt + 20000000 ≤ s.tb.elapsed →
    ∃ u, u = { s with hub := { s.hub with cfgAnswer := .served, msixEnabled := enable, msixMasked := mask } } ∧
      exec (.configurationRequest (.msix enable mask)) s = .next (Msix.flush u))

namespace Sys2Proof.Machine.Case

/-- WINDOW_ACCESS (R48, Table 2.10). -/
def windowAccess : Case where
  spec := specWindowAccess
  pre pk _ := decide (pk.u8 8 < 2)
  ends pk _ t := .ok 0 { t with hub := { t.hub with winRw := pk.u8 8 == 1 } }

end Sys2Proof.Machine.Case

/-- Doorbells and fetching (R31, R33, R34, R36, R39, Table 2.12): a good doorbell takes SQ_TAIL and CQ_HEAD and reads
the new entries as memory then holds them, and the later of two before a fetch counts; where that leaves an entry that GLOW
holds back (R333), the host's doorbell is a wake cause if enabled (R335). A bad doorbell is counted and raises DOORBELL_BAD.
A failed entry completes with CRC_FAIL, whatever was fetched before it; an opcode not in the list completes with BAD_OPCODE;
interrupts, held replies and deleted pairs end as Table 2.12
says; WINDOW_ACCESS sets WIN_RW. -/
def Obligations.DoorbellsAndRings : Prop :=
  (∀ (q : Nat) (v : Word) (w : List (Nat × Byte)) (s u : State) (p : Pair), q < 4096 → s.live = true → s.hub.setup = .armed →
    s.pair q = some p → p.deleting = false → field v.toNat 15 0 < p.desc.size → field v.toNat 31 16 < p.desc.size →
    u = { s with hostMem := w.foldl (fun m x => memSet m x.1 x.2) s.hostMem } →
    ∀ f, f = Ring.fetchAll (Msix.satisfied (u.modPair q (fun p => { p with
      sqTail := field v.toNat 15 0
      cqHead := field v.toNat 31 16
      waiting := (p.waiting ++ readEntries u p.desc
        ((field v.toNat 15 0 + p.desc.size - p.sqHead) % p.desc.size - p.waiting.length) p.sqTail).take
          ((field v.toNat 15 0 + p.desc.size - p.sqHead) % p.desc.size) }))) →
    ∀ held, held = (f.pair q).bind (fun p => p.waiting.head?) →
      ((∀ e ∈ held, glowOk f e.2 = true ∨ f.pw.wakeMask.getLsbD 0 = false) → exec (.doorbell q v w) s = .next f) ∧
      (∀ e ∈ held, glowOk f e.2 = false → f.pw.wakeMask.getLsbD 0 = true →
        exec (.doorbell q v w) s = .next (Power.wake wakeHost 0 f))) ∧
  (∀ (q : Nat) (v : Word) (s : State), q < 4096 → s.live = true →
    (∀ p, s.pair q = some p → p.deleting = true ∨ s.hub.setup ≠ .armed ∨ p.desc.size ≤ field v.toNat 15 0 ∨
      p.desc.size ≤ field v.toNat 31 16) →
    exec (.doorbell q v []) s = .next (Ev.raise 33 0 (packLe [(2, q), (4, v.toNat)])
      { s with hub := { s.hub with doorbellBad := s.hub.doorbellBad + 1 } })) ∧
  (∀ s : State, exec .fetchResume s = .next (Ring.fetchAll s)) ∧
  (∀ (q i : Nat) (head : Word) (s t : State), s.live = true → s.hub.setup = .armed → t = Ring.offerBad q i head s →
    (∃ f ∈ t.hub.fetched, f.q = q ∧ f.index = i ∧ f.entry = .bad head) →
    ∃ (r : Reply) (u : State), r.tag = BitVec.ofNat 11 (head.toNat / 65536) ∧ r.status = St.crcFail ∧
      r.echo = head.setWidth 16 ∧ r.result = BitVec.ofNat 184 (result [(5, 2, i)]) ∧ r.irq = false ∧ r.frees = none ∧
      u = Ring.reply q r { t with hub := { t.hub with fetched := t.hub.fetched.eraseP (isBad q i head) } } ∧
      exec (.packetCrcFail q i head) s = .next (Ev.settle u.ev.waits.length u)) ∧
  (∀ (q i : Nat) (op : BitVec 12) (pk : Packet) (s t : State) (ss : Session) (old : Option (Nat × Option Cred)),
    Cmd.take q (.packet op pk) s = .go i old t →
    specOf op = none → pk.reserved = 0 → aget s.cl.sessions pk.ctx = some ss → pk.rev.toNat = ss.rev →
    exec (.badOpcodePacket q op pk) s = .next (Cmd.final (nextKey q pk s) St.badOpcode 0 (Cmd.enter op q pk t))) ∧
  (∀ (q : Nat) (s : State) (p : Pair), s.pair q = some p → 0 < p.unsignalled →
    exec (.coalesceTimeout q) s = .next (Ring.signal q (untilElapsed (p.oldest + p.desc.coalTime * 8000) s))) ∧
  (∀ (q : Nat) (s : State) (p : Pair) (r : Reply) (rest : List Reply), s.pair q = some p → p.held = r :: rest →
    p.cqFull = false → exec (.heldReplyWrite q) s = .next (Ring.fetchAll
      (Ring.writeHeld q rest.length (Ring.post q r (s.modPair q (fun p => { p with held := rest })))))) ∧
  (∀ (q : Nat) (s : State) (p : Pair), s.pair q = some p → p.held = [] ∨ p.cqFull = true →
    exec (.heldReplyWrite q) s = .next (Ring.fetchAll s)) ∧
  (∀ (q : Nat) (s : State) (p : Pair), s.pair q = some p → p.deleting = true → (∀ c ∈ s.hub.inflight, c.key.q ≠ q) →
    exec (.pairFreed q) s = .next { s with hub := { s.hub with pairs := aerase s.hub.pairs q } }) ∧
  Case.windowAccess.Runs .windowAccess

/-! ## Sessions, queue pairs and tenants -/

namespace Sys2Proof.Machine.Case

/-- SESSION_OPEN for an installed tenant below 1,024 without a lockout, with a context free, and not the owner while its
session is open (R52, R53, R376). -/
def sessionOpen : Case where
  spec := specSessionOpen
  pre pk t := decide (pk.u16 8 < 1024) && !inLockout t (pk.u16 8) && installed t (pk.u16 8)
    && !(pk.u16 8 == 0 && ahas t.cl.sessions 0) && (contextFor t (pk.u16 8)).isSome
  ends pk _ t := .ok (result [(5, 16, (Config.nonce t.free).toNat), (21, 1, min pk.rev.toNat 2)])
    { t with
      free := t.free + 1
      cl := { t.cl with nonces := aset t.cl.nonces (pk.u16 8) {
        value := Config.nonce t.free, rev := min pk.rev.toNat 2, lapsesAt := t.tb.elapsed + 1000000000 } } }

/-- SESSION_PROVE with the right proof of a live nonce of its revision (R54, R55): the nonce is consumed, the tenant's
failures are forgotten, and its session opens in the context, with DEV_MAC in the reply. -/
def sessionProve (n : Nonce) (secret : List Byte) (c : Nat) : Case where
  spec := specSessionProve
  pre pk t := !inLockout t (pk.u16 8) && liveNonce t (pk.u16 8) == some n && pk.rev.toNat == n.rev
    && !(pk.u16 8 == 0 && ahas t.cl.sessions 0) && secretOf t (pk.u16 8) == some secret
    && pk.bytes 18 32 == hmac secret (leBytes 16 n.value.toNat ++ pk.bytes 10 8 ++ leBytes 2 (pk.u16 8) ++ leBytes 1 n.rev)
    && contextFor t (pk.u16 8) == some c
  ends pk _ t :=
    let ss : Session := {
      tenant := pk.u16 8, rev := n.rev, weight := ((aget t.cl.creds (pk.u16 8)).map (·.weight)).getD 4
      queueLimit := ((aget t.cl.creds (pk.u16 8)).map (·.queueLimit)).getD 4 }
    .ok (result [(5, 2, c), (7, 1, ss.weight), (8, 1, ss.queueLimit),
      (9, 16, ofLe ((hmac secret (pk.bytes 10 8 ++ leBytes 16 n.value.toNat ++ leBytes 2 c)).take 16))])
      { t with cl := { t.cl with
        nonces := aerase t.cl.nonces (pk.u16 8)
        fails := aerase t.cl.fails (pk.u16 8)
        sessions := aset t.cl.sessions c ss } }

/-- SESSION_CLOSE of the sender's own session, or by the owner of any (R377). -/
def sessionClose (c : Nat) : Case where
  spec := specSessionClose
  pre pk t := (c == if pk.u16 8 = 0xFFFF then pk.ctx else pk.u16 8) && (pk.owner || c == pk.ctx) && ahas t.cl.sessions c
  ends _ _ t := .ok 0 (closeSession c t)

/-- QUEUE_CREATE with a descriptor that R27 takes, within QUEUE_LIMIT and with a pair free (R60). -/
def queueCreate (d : RingDesc) (n : Nat) : Case where
  spec := specQueueCreate
  pre pk t := (parseDesc t (pk.bytes 8 32)).toOption == some d
    && decide (pairCount t pk.ctx < ((aget t.cl.sessions pk.ctx).map (·.queueLimit)).getD 0)
    && lowestFree t.hub.pairs 4095 1 == some n
  ends pk _ t := .ok (result [(5, 2, n)])
    { t with hub := { t.hub with pairs := aset t.hub.pairs n { ctx := pk.ctx, desc := d } } }

/-- QUEUE_DELETE of a live pair of the sender's context, other than queue 0, or by the owner of any (Table 2.12). -/
def queueDelete (p : Pair) : Case where
  spec := specQueueDelete
  pre pk t := t.pair (pk.u16 8) == some p && pk.u16 8 != 0 && !p.deleting && (p.ctx == pk.ctx || pk.owner)
  ends pk _ t := .ok 0 (Ring.delete (pk.u16 8) t)

/-- CLIENT_INSTALL with every field in its range and BP leaving region 15 open: PENDING, its commit queued (R51, R56). -/
def clientInstall : Case where
  spec := specClientInstall
  pre pk t := decide (pk.u16 8 < 1024) && decide (1 ≤ pk.u8 10 ∧ pk.u8 10 ≤ 16) && decide (1 ≤ pk.u8 11 ∧ pk.u8 11 ≤ 16)
    && (pk.u16 8 == 0 || decide (1 ≤ pk.u8 14 ∧ pk.u8 14 ≤ 16)) && pk.le 16 32 != 0 && t.nv.bp == 0
  ends pk k t := .pend (Nv.enqueue (some k) pk.ctx (.install (pk.u16 8) {
    secret := BitVec.ofNat 256 (pk.le 16 32), weight := pk.u8 10, queueLimit := pk.u8 11
    groupMask := BitVec.ofNat 16 (pk.u16 12), prioFloor := pk.u8 14, rights := 0 }) t)

/-- CLIENT_RIGHTS of an installed tenant (Table 3.7): PENDING, its commit queued. -/
def clientRights : Case where
  spec := specClientRights
  pre pk t := pk.u16 8 != 0 && decide (pk.u16 8 < 1024) && decide (pk.u8 10 < 2) && ahas t.cl.creds (pk.u16 8) && t.nv.bp == 0
  ends pk k t := .pend (Nv.enqueue (some k) pk.ctx (.rights (pk.u16 8) (pk.u8 10) (BitVec.ofNat 256 (pk.le 16 32))) t)

/-- CLIENT_REMOVE of an installed tenant: PENDING, its commit queued. -/
def clientRemove : Case where
  spec := specClientRemove
  pre pk t := pk.u16 8 != 0 && decide (pk.u16 8 < 1024) && ahas t.cl.creds (pk.u16 8) && t.nv.bp == 0
  ends pk k t := .pend (Nv.enqueue (some k) pk.ctx (.remove (pk.u16 8)) t)

end Sys2Proof.Machine.Case

/-- Sessions (R53 to R55, R57, R376, R377): opening, proving and closing them complete as said; a nonce lapses 1 s
after its SESSION_OPEN and a lockout ends with its 60 s, each for its own tenant. -/
def Obligations.SessionCommands : Prop :=
  Case.sessionOpen.Runs .sessionOpen ∧ (∀ n secret c, (Case.sessionProve n secret c).Runs .sessionProve) ∧
  (∀ c, (Case.sessionClose c).Runs .sessionClose) ∧
  (∀ (tenant : Nat) (n : Nonce) (s u : State), aget s.cl.nonces tenant = some n → u = untilElapsed n.lapsesAt s →
    exec (.nonceLapse tenant) s = .next { u with cl := { u.cl with nonces := aerase u.cl.nonces tenant } }) ∧
  (∀ (tenant e : Nat) (s u : State), aget s.cl.lockouts tenant = some e → u = untilElapsed e s →
    exec (.authLockoutEnd tenant) s = .next { u with cl := { u.cl with lockouts := aerase u.cl.lockouts tenant } })

/-- A wrong proof of a live nonce of its revision (R55): NO_RIGHT, the nonce consumed and one failure counted; the
third in a row raises AUTH_FAIL and starts the 60 s lockout. -/
def Obligations.WrongProofs : Prop :=
  ∀ (q : Nat) (pk : Packet) (s u : State) (n : Nonce) (secret : List Byte) (f : Nat),
    Cmd.passes specSessionProve q pk s = true → u = Cmd.begun specSessionProve q pk s →
    inLockout u (pk.u16 8) = false → liveNonce u (pk.u16 8) = some n → pk.rev.toNat = n.rev →
    (pk.u16 8 == 0 && ahas u.cl.sessions 0) = false → secretOf u (pk.u16 8) = some secret →
    pk.bytes 18 32 ≠ hmac secret (leBytes 16 n.value.toNat ++ pk.bytes 10 8 ++ leBytes 2 (pk.u16 8) ++ leBytes 1 n.rev) →
    f = (aget u.cl.fails (pk.u16 8)).getD 0 →
    ∃ v, exec (.sessionProve q pk) s = .next (Cmd.final (nextKey q pk s) St.noRight 0 v) ∧ v.cl.creds = s.cl.creds ∧
      v.cl.nonces = aerase u.cl.nonces (pk.u16 8) ∧ v.cl.sessions = u.cl.sessions ∧
      (f < 2 → v.cl.fails = aset u.cl.fails (pk.u16 8) (f + 1) ∧ v.cl.lockouts = u.cl.lockouts ∧ v.ev = u.ev) ∧
      (2 ≤ f → v.cl.fails = aerase u.cl.fails (pk.u16 8) ∧
        v.cl.lockouts = aset u.cl.lockouts (pk.u16 8) (u.tb.elapsed + 60000000000) ∧
        (vget v.ev.stat 34 {}).pending = true)

/-- Queue pairs and tenants (R27, R51, R56, R58, R60): the commands complete as said. -/
def Obligations.QueueAndClientCommands : Prop :=
  (∀ d n, (Case.queueCreate d n).Runs .queueCreate) ∧ (∀ p, (Case.queueDelete p).Runs .queueDelete) ∧
  Case.clientInstall.Runs .clientInstall ∧ Case.clientRights.Runs .clientRights ∧ Case.clientRemove.Runs .clientRemove

/-! ## Points -/

namespace Sys2Proof.Machine.Case

/-- The packet names a live record that is sound (R61, R71, R379). -/
def onRecord (p : Point) (pk : Packet) (t : State) : Bool :=
  pointIdOk (pk.point 8) && t.point (pk.point 8) == some p && pointSound t (pk.point 8) p

/-- POINT_READ of a record that the sender may monitor (Table 3.13, R379). -/
def pointRead (p : Point) : Case where
  spec := specPointRead
  pre pk t := onRecord p pk t && rightOn t pk.ctx p.group.toNat != 0 && decide (pk.u8 13 ≤ 4)
  ends pk _ t := .ok (pointPart p (pk.u8 13)) (Point.touch (pk.point 8) t)

/-- POINT_READ of a record whose CRC fails on this load (R71): CRC_FAIL, POINT_CRC with the identifier, the record is
marked, and widgets bound to it show FAULT. -/
def pointReadFails (p : Point) : Case where
  spec := specPointRead
  pre pk t := pointIdOk (pk.point 8) && t.point (pk.point 8) == some p && !t.pts.cache.contains (pk.point 8) && !p.whole
    && !t.pts.failed.contains (pk.point 8)
  ends pk _ t := .cond St.crcFail 0 (Panel.faultLatch (pk.point 8) (Ev.raise 35 0 (packLe [(5, pk.point 8)])
    { t with pts := { t.pts with failed := pk.point 8 :: t.pts.failed } }))

/-- POINT_WRITE of a value at a level 1 to 16 (R67, R68): the level becomes active with the value, and the present value
is resolved. -/
def pointWrite (p : Point) : Case where
  spec := specPointWrite
  pre pk t := onRecord p pk t && decide (1 ≤ pk.u8 13 ∧ pk.u8 13 ≤ 16) && pk.u8 14 == 0
    && decide (2 ≤ rightOn (Point.touch (pk.point 8) t) pk.ctx p.group.toNat) && decide (prioFloor (Point.touch (pk.point 8) t) pk.ctx ≤ pk.u8 13)
    && !p.reflection && p.kind == 0 && !sourceShaded (Point.touch (pk.point 8) t) p.source
    && p.type != 3 && typeAccepts p.type (BitVec.ofNat 32 (pk.u32 16))
  ends pk _ t :=
    let t := Point.update (pk.point 8) p.status { p with
      priority := vset p.priority (pk.u8 13 - 1) (BitVec.ofNat 32 (pk.u32 16))
      prioActive := p.prioActive ||| (1#16 <<< (pk.u8 13 - 1)) } (Point.touch (pk.point 8) t)
    .ok (writeResult (pk.point 8) t) t

/-- POINT_WRITE that relinquishes a level (R67): the level is active no more. -/
def pointRelinquish (p : Point) : Case where
  spec := specPointWrite
  pre pk t := onRecord p pk t && decide (1 ≤ pk.u8 13 ∧ pk.u8 13 ≤ 16) && pk.u8 14 == 1
    && decide (2 ≤ rightOn (Point.touch (pk.point 8) t) pk.ctx p.group.toNat) && decide (prioFloor (Point.touch (pk.point 8) t) pk.ctx ≤ pk.u8 13)
    && !p.reflection && p.kind == 0 && !sourceShaded (Point.touch (pk.point 8) t) p.source
  ends pk _ t :=
    let t := Point.update (pk.point 8) p.status { p with
      priority := vset p.priority (pk.u8 13 - 1) 0
      prioActive := p.prioActive &&& ~~~(1#16 <<< (pk.u8 13 - 1)) } (Point.touch (pk.point 8) t)
    .ok (writeResult (pk.point 8) t) t

/-- POINT_WRITE of a value at level 0 while OUT_OF_SERVICE is set (R68), by a sender that may configure the point, with a
SOURCE or without: it is the present value. -/
def pointWriteOut (p : Point) : Case where
  spec := specPointWrite
  pre pk t := onRecord p pk t && pk.u8 13 == 0 && pk.u8 14 == 0 && mayConfigure (Point.touch (pk.point 8) t) pk.ctx p
    && !p.reflection && p.oos && !sourceShaded (Point.touch (pk.point 8) t) p.source
    && p.type != 3 && typeAccepts p.type (BitVec.ofNat 32 (pk.u32 16))
  ends pk _ t :=
    let t := Point.update (pk.point 8) p.status { p with value := BitVec.ofNat 32 (pk.u32 16) } (Point.touch (pk.point 8) t)
    .ok (writeResult (pk.point 8) t) t

/-- POINT_CREATE of a fresh record of this chip with values of its TYPE and a SOURCE that R66 takes (R62, R380): its
present value and COV_LAST are RELINQUISH, and it is stored as R69 says. -/
def pointCreate : Case where
  spec := specPointCreate
  pre pk t := pointIdOk (pk.point 8) && (t.point (pk.point 8)).isNone && rightOn t pk.ctx (pk.u8 14) == 3 && !ownerRefused t pk
    && pk.point 8 / 2 ^ 24 == t.fed.chip && decide (t.pts.recs.length + t.fed.reserved.length < 5242880)
    && decide (pk.u16 24 < 1024) && relinquishOk (BitVec.ofNat 2 (pk.u8 13)) (BitVec.ofNat 32 (pk.u32 16))
    && fNonNeg (pk.f32 20) && (judgeSource t (BitVec.ofNat 2 (pk.u8 13)) (packetSource pk)).isNone
    && !((newPoint pk).pinned && decide (65536 ≤ pinCount t))
  ends pk _ t :=
    let v := BitVec.ofNat 32 (pk.u32 16)
    let p : Point := {
      value := (Point.resolve t { newPoint pk with value := v }).value
      covLast := (Point.resolve t { newPoint pk with value := v }).value
      timestamp := t.stamp48
      status := putBit (newPoint pk).status stStampInvalid (!t.tb.valid)
      prioActive := 0, type := BitVec.ofNat 2 (pk.u8 13), owner := BitVec.ofNat 10 (pk.u16 24)
      group := BitVec.ofNat 8 (pk.u8 14), relinquish := v, covIncrement := pk.f32 20
      priority := Vector.replicate 16 0, source := packetSource pk, crc := 0, latest := none, mirror := none }
    .ok 0 (Point.store (pk.point 8) p.status p (Point.touch (pk.point 8) t))

/-- POINT_CONFIG of a record the sender may configure, with fields that its checks take (R66, R68, R380). -/
def pointConfig (p : Point) : Case where
  spec := specPointConfig
  pre pk t := onRecord p pk t &&
    let t := Point.touch (pk.point 8) t
    mayConfigure t pk.ctx p && !(maskBit pk 0 && rightOn t pk.ctx (pk.u8 14) != 3)
      && !(maskBit pk 4 && (ownerRefused t pk || decide (1024 ≤ pk.u16 24))) && !p.reflection
      && !(maskBit pk 2 && !relinquishOk p.type (BitVec.ofNat 32 (pk.u32 16))) && !(maskBit pk 3 && !fNonNeg (pk.f32 20))
      && !(maskBit pk 5 && (judgeSource t p.type (packetSource pk)).isSome)
      && !((p.configured pk).pinned && !p.pinned && decide (65536 ≤ pinCount t))
  ends pk _ t := .ok 0 (Fed.withdrawAll (Point.update (pk.point 8) p.status (p.configured pk) (Point.touch (pk.point 8) t)))

/-- POINT_DELETE of a record that the sender may configure and that nothing binds (R380, Table 3.18). -/
def pointDelete (p : Point) : Case where
  spec := specPointDelete
  pre pk t := onRecord p pk t && mayConfigure t pk.ctx p && !p.reflection && !pointBound t (pk.point 8)
  ends pk _ t := .ok 0 (Point.remove (pk.point 8) p (Point.touch (pk.point 8) t))

/-- POINT_WATCH of a record that the sender may monitor (R69): PENDING, and the watch waits for its time. -/
def pointWatch (p : Point) : Case where
  spec := specPointWatch
  pre pk t := onRecord p pk t && rightOn t pk.ctx p.group.toNat != 0 && decide (1 ≤ pk.u32 16 ∧ pk.u32 16 ≤ 86400000)
  ends pk k t :=
    let u := Point.touch (pk.point 8) t
    .pend { u with pts := { u.pts with watches := u.pts.watches ++
      [{ id := pk.point 8, key := k, deadline := t.tb.elapsed + pk.u32 16 * 1000000 }] } }

end Sys2Proof.Machine.Case

/-- Point commands (R61 to R71, R379, R380) complete as said, a failed record with CRC_FAIL; a watch whose time ends
completes with WHY 2, and a source's result is delivered to its point (R67), but a record that fails its CRC takes none
(R71), and a source that has given nothing yet leaves its point as it is. -/
def Obligations.PointCommands : Prop :=
  (∀ p, (Case.pointRead p).Runs .pointRead) ∧ (∀ p, (Case.pointReadFails p).Runs .pointRead) ∧ (∀ p, (Case.pointWrite p).Runs .pointWrite) ∧
  (∀ p, (Case.pointRelinquish p).Runs .pointWrite) ∧ (∀ p, (Case.pointWriteOut p).Runs .pointWrite) ∧ Case.pointCreate.Runs .pointCreate ∧
  (∀ p, (Case.pointConfig p).Runs .pointConfig) ∧ (∀ p, (Case.pointDelete p).Runs .pointDelete) ∧
  (∀ p, (Case.pointWatch p).Runs .pointWatch) ∧
  (∀ (q tag : Nat) (w : Watch) (p : Point) (s u : State),
    s.pts.watches.find? (fun x => x.key.q == q && x.key.tag == tag) = some w → u = untilElapsed w.deadline s →
    u.point w.id = some p →
    (pointSound u w.id p = true → exec (.watchTimeout q tag) s = .next (Cmd.final w.key St.ok
      (result [(5, 4, p.value.toNat), (9, 4, p.status.toNat), (13, 1, 2)])
      (Point.touch w.id { u with pts := { u.pts with watches := u.pts.watches.filter (fun x => x.key != w.key) } }))) ∧
    (pointSound u w.id p = false → ∃ v, exec (.watchTimeout q tag) s = .next (Cmd.final w.key St.crcFail 0 v) ∧
      v = (Point.load w.id p { u with pts := { u.pts with watches := u.pts.watches.filter (fun x => x.key != w.key) } }).2)) ∧
  (∀ (id : Nat) (p : Point) (v : Option SrcVal) (f : SrcFlags) (s : State), s.point id = some p →
    pointSound s id p = true → sourceNow s p = some (v, f) →
    exec (.pointSourceUpdate id) s = .next (Point.update id p.status (p.withSource v f) (Point.touch id s))) ∧
  (∀ (id : Nat) (p : Point) (r : Option SrcVal × SrcFlags) (s : State), s.point id = some p → pointSound s id p = false →
    sourceNow s p = some r → exec (.pointSourceUpdate id) s = .next (Point.load id p s).2) ∧
  (∀ (id : Nat) (s : State), (∀ p, s.point id = some p → sourceNow s p = none) → exec (.pointSourceUpdate id) s = .next s)

/-- The present value of R67: with OUT_OF_SERVICE set it stays; with a SOURCE it is the latest result; otherwise it is
the value of the lowest-numbered active level, and RELINQUISH when none is active. TIMESTAMP is bits 57:10 of TB. A SOURCE that
has given no result since it was bound leaves RELINQUISH; an FP32 result is rounded and clamped for TYPE 1 and 2, one that is
not finite leaves the value and sets FAULT, and an unsigned one is converted for TYPE 0 (R378). -/
def Obligations.PresentValue : Prop :=
  ∀ (p r : Point) (s : State), r = Point.resolve s p →
    r.timestamp.toNat = s.tb.now.toNat / 1024 % 2 ^ 48 ∧ { r with value := p.value, timestamp := p.timestamp, status := p.status } = p ∧
    (p.oos = true → r.value = p.value) ∧
    (p.oos = false → p.kind ≠ 0 → ∀ v w, p.latest = some v → sourceValue p.type v = some w → r.value = w) ∧
    (p.oos = false → p.kind ≠ 0 → p.latest = none → r.value = p.relinquish) ∧
    (∀ pk, maskBit pk 5 = true → (p.configured pk).latest = none) ∧
    (p.oos = false → p.kind ≠ 0 → ∀ v, p.latest = some v → sourceValue p.type v = none → r.value = p.value) ∧
    (∀ (v : F32) (f : SrcFlags), p.type = 1 ∨ p.type = 2 →
      (ffinite v = false → sourceValue p.type (.fp v) = none ∧ (p.withSource (some (.fp v)) f).status.getLsbD stFault = true) ∧
      (ffinite v = true → (p.withSource (some (.fp v)) f).status.getLsbD stFault = f.fault ∧
        (p.type = 1 → sourceValue p.type (.fp v) = some (BitVec.ofInt 32 (max 0 (min 1 (roundAway (fnum v)))))) ∧
        (p.type = 2 → sourceValue p.type (.fp v) = some (BitVec.ofInt 32 (max 1 (min 65535 (roundAway (fnum v)))))))) ∧
    (∀ w : Word, p.type = 0 → sourceValue p.type (.uns w) = some (fofInt w.toNat)) ∧
    (p.oos = false → p.kind = 0 → p.prioActive = 0 → r.value = p.relinquish) ∧
    (p.oos = false → p.kind = 0 → ∀ i, i < 16 → p.prioActive.getLsbD i = true → (∀ j, j < i → p.prioActive.getLsbD j = false) →
      r.value = vget p.priority i 0 ∧ p.inForce = i + 1)

/-- Storing a record (R69): its CRC is made anew, nothing else of it changes unless a change of value is due, and then
COV_LAST takes the present value. -/
def Obligations.RecordsStored : Prop :=
  ∀ (id : Nat) (old : Word) (p : Point) (s : State),
    (covDue old p = false → Point.store id old p s = s.putPoint id { p with crc := pointCrc p } ∧
      (s.putPoint id { p with crc := pointCrc p }).point id = some { p with crc := pointCrc p }) ∧
    (covDue old p = true → Point.store id old p s =
      Point.notify id { p with covLast := p.value, crc := pointCrc p } (s.putPoint id { p with covLast := p.value, crc := pointCrc p }))

/-! ## Universal inputs -/

namespace Sys2Proof.Machine.Case

/-- TILE names a powered tile (R1). -/
def tileOk (pk : Packet) (t : State) : Bool := decide (pk.u8 8 < 4) && t.tileOn (pk.u8 8)

/-- TILE and INPUT name an input of a powered tile. -/
def inputOk (pk : Packet) (t : State) : Bool := tileOk pk t && decide (pk.u8 9 < 64)

/-- The record of an INPUT_CONFIG packet: UI_CFG0 to UI_CFG3 (Table 4.8, Table 5.7). -/
def inputRecord (pk : Packet) : InCfg where
  cfg0 := BitVec.ofNat 32 (pk.u32 16)
  paramA := pk.f32 20
  paramB := pk.f32 24
  comp := pk.f32 28

/-- INPUT_CONFIG of an input that no running sequence visits: in force at once (R91); one that comes into PULSE mode
counts its first rate from now (R86). -/
def inputConfig : Case where
  spec := specInputConfig
  pre pk t := inputOk pk t && (judgeConfig t (pk.u8 8) (pk.u8 9) (inputRecord pk)).isNone && !visited t (pk.u8 8) (pk.u8 9)
  ends pk _ t := .ok 0 (t.modInput (pk.u8 8) (pk.u8 9) (fun x => { x with
    cfg := inputRecord pk, wait := none, contactRun := 0
    countAt := if (inputRecord pk).mode = 8 && x.cfg.mode != 8 then x.count else x.countAt }))

/-- INPUT_CONFIG of an input that a running sequence visits: it waits for the cycle's end (R91). -/
def inputConfigWaits : Case where
  spec := specInputConfig
  pre pk t := inputOk pk t && (judgeConfig t (pk.u8 8) (pk.u8 9) (inputRecord pk)).isNone && visited t (pk.u8 8) (pk.u8 9)
  ends pk _ t := .ok 0 (t.modInput (pk.u8 8) (pk.u8 9) (fun x => { x with wait := some (inputRecord pk) }))

/-- INPUT_READ (Table 5.7): UI_STAT, and UI_VALUE and UI_COUNT but of a shaded input, whose values read 0 (R92). -/
def inputRead : Case where
  spec := specInputRead
  pre pk t := inputOk pk t
  ends pk _ t :=
    let x := (t.tile (pk.u8 8)).input (pk.u8 9)
    let shaded := (vget t.shaded (pk.u8 8) 0).getLsbD (pk.u8 9)
    .ok (result [(5, 4, uiStat t (pk.u8 8) (pk.u8 9)), (9, 4, if shaded then 0 else x.value.toNat),
      (13, 4, if shaded then 0 else x.count.toNat), (17, 4, x.tpass), (21, 4, x.tfail)]) t

/-- INPUT_TEST with the reference ready, converter B calibrated and free, and a place in the urgent queue: PENDING (R95,
R111). -/
def inputTest : Case where
  spec := specInputTest
  pre pk t := inputOk pk t && decide (pk.u16 12 < 4096) && (t.tile (pk.u8 8)).refReady && !calibrating t (pk.u8 8) 1
    && (t.conv (pk.u8 8) 1).calibrated && decide ((t.tile (pk.u8 8)).urgent.length < 8)
  ends pk k t := .pend (t.modTile (pk.u8 8) (fun x => { x with urgent := x.urgent ++
    [{ key := some k, input := pk.u8 9, kind := .test (pk.u8 10) (pk.u16 12) (pk.f32 16) }] }))

end Sys2Proof.Machine.Case

/-- Commands on inputs (R84, R91, R92, R95, Table 5.7) complete as said; the fourth part of a table whose x values rise puts
the table in force. -/
def Obligations.InputCommands : Prop :=
  Case.inputConfig.Runs .inputConfig ∧ Case.inputConfigWaits.Runs .inputConfig ∧ Case.inputRead.Runs .inputRead ∧
  Case.inputTest.Runs .inputTest ∧
  (∀ (q : Nat) (pk : Packet) (s u : State) (g : Stage) (l : List (F32 × F32)),
    Cmd.passes specInputTable q pk s = true → u = Cmd.begun specInputTable q pk s → Case.tileOk pk u = true →
    pk.u8 9 < 32 → pk.u8 10 = 3 → (u.pair q).bind (·.stage) = some g → g.kind = .table → g.tile = pk.u8 8 →
    g.index = pk.u8 9 → g.next = 3 → l = xyPairs (g.bytes ++ pk.bytes 16 32) → risesStrictly l = true →
    ∃ v, exec (.inputTable q pk) s = .next (Cmd.final (nextKey q pk s) St.ok 0 v) ∧
      vget (v.tile (pk.u8 8)).tables (pk.u8 9) none = some l ∧ (v.pair q).bind (·.stage) = none ∧
      (∀ i, i ≠ pk.u8 9 → vget (v.tile (pk.u8 8)).tables i none = vget (u.tile (pk.u8 8)).tables i none)) ∧
  (∀ (q : Nat) (pk : Packet) (s u : State) (p : Pair),
    Cmd.passes specInputTable q pk s = true → u = Cmd.begun specInputTable q pk s → Case.tileOk pk u = true →
    pk.u8 9 < 32 → pk.u8 10 = 0 → u.pair q = some p →
    exec (.inputTable q pk) s = .next (Cmd.final (nextKey q pk s) St.ok 0 (State.withCreds s (u.modPair q (fun p => { p with
      stage := some { kind := .table, tile := pk.u8 8, index := pk.u8 9, next := 1, bytes := pk.bytes 16 32 } })))))

/-- A METER input is shaded (R92, R48): whatever its value and count, INPUT_READ and the window read 0 for both, and no
INPUT_CONFIG is taken for it. -/
def Obligations.ShadedInputs : Prop :=
  ∀ (s : State) (t i : Nat), (vget s.shaded t 0).getLsbD i = true →
    uiValue s t i = 0 ∧ uiCount s t i = 0 ∧ windowInput s t i 5 = 0 ∧ windowInput s t i 6 = 0 ∧
    (∀ c, judgeConfig s t i c = some (St.shaded, 0)) ∧
    (∀ w v, windowInputWrite t i w v s = s)

/-- Protection and pulses (R86, R87): the protection switch opens and recloses, a shunt above its limit opens, an edge held
long enough counts, and at a whole TB second the rates are written. -/
def Obligations.InputHappenings : Prop :=
  (∀ (t i : Nat) (s u : State), s.tileOn t = true → i < 64 → ((s.tile t).input i).switchOpen = false →
    u = s.modInput t i (fun x => { x with switchOpen := true }) →
    exec (.protTrip t i) s = .next (Input.setFaults t (groupHead (u.tile t) i)
      (((u.tile t).input (groupHead (u.tile t) i)).faults ||| 4) (spoilDwells t i u))) ∧
  (∀ (t i : Nat) (s : State), s.tileOn t = true →
    exec (.protReclose t i) s = .next (s.modInput t i (fun x => { x with switchOpen := false, heldOpen := false }))) ∧
  (∀ (t i : Nat) (s u : State), s.tileOn t = true → i < 64 → ((s.tile t).input i).cfg.mode = 2 →
    ((s.tile t).input i).shuntOpen = false → u = s.modInput t i (fun x => { x with shuntOpen := true }) →
    exec (.shuntTrip t i) s = .next (Input.setFaults t (groupHead (u.tile t) i)
      (((u.tile t).input (groupHead (u.tile t) i)).faults ||| 4) (spoilDwells t i u))) ∧
  (∀ (t i ns : Nat) (s : State), s.tileOn t = true → glowing s = false →
    ((s.tile t).input i).cfg.mode = 8 →
    pulseNs ((s.tile t).input i).cfg.filter ≤ ns →
    exec (.pulseEdge t i ns) s = .next (s.modInput t i (fun x => { x with count := x.count + 1 }))) ∧
  (∀ (t i ns : Nat) (s : State), ns < pulseNs ((s.tile t).input i).cfg.filter → exec (.pulseEdge t i ns) s = .next s) ∧
  (∀ (t : Nat) (s u : State), s.tileOn t = true → glowing s = false →
    u = untilTb ((s.tile t).rateSec * 1000000000) s →
    exec (.pulseRateWrite t) s = .next ((List.range 64).foldl (fun v i => Pulse.write t i v)
      (u.modTile t (fun x => { x with rateSec := u.sec + 1 }))))

/-! ## Converters, sequences, channels, buffers -/

namespace Sys2Proof.Machine.Case

/-- REFBUF_ON of a buffer that is off (R100): it settles from now on. -/
def refbufOn : Case where
  spec := specRefbufOn
  pre pk t := tileOk pk t && !(t.tile (pk.u8 8)).refOn
  ends pk _ t := .ok 0 (t.modTile (pk.u8 8) (fun x => { x with refOn := true, refReady := false, refAt := t.tb.elapsed }))

/-- REFBUF_OFF (R103). -/
def refbufOff : Case where
  spec := specRefbufOff
  pre pk t := tileOk pk t
  ends pk _ t := .ok 0 (Refbuf.off (pk.u8 8) t)

/-- ADC_CALIBRATE of the interleave item, both converters calibrated, free and with the reference ready (R101, R102). -/
def adcCalibrate : Case where
  spec := specAdcCalibrate
  pre pk t := tileOk pk t && pk.u8 9 == 3 && (t.tile (pk.u8 8)).refReady && !calibrating t (pk.u8 8) 0
    && !calibrating t (pk.u8 8) 1 && (t.conv (pk.u8 8) 0).calibrated && (t.conv (pk.u8 8) 1).calibrated
  ends pk k t := .pend (Cal.tryAll (pk.u8 8) (t.modCal (calKey 2 (pk.u8 8)) (fun i => { i with
    running := some (some k), since := none })))

/-- ADC_CALIBRATE of one converter (R101, R102). -/
def adcCalibrateOne (c : Nat) : Case where
  spec := specAdcCalibrate
  pre pk t := tileOk pk t && decide (c < 2) && pk.u8 9 == c && (t.tile (pk.u8 8)).refReady && !calibrating t (pk.u8 8) c
  ends pk k t := .pend (Cal.tryAll (pk.u8 8) (t.modCal (calKey c (pk.u8 8)) (fun i => { i with
    running := some (some k), since := none })))

/-- ADC_CALIBRATE of both converters by one command (R102). -/
def adcCalibrateBoth : Case where
  spec := specAdcCalibrate
  pre pk t := tileOk pk t && pk.u8 9 == 2 && (t.tile (pk.u8 8)).refReady && !calibrating t (pk.u8 8) 0
    && !calibrating t (pk.u8 8) 1
  ends pk k t := .pend (Cal.tryAll (pk.u8 8)
    (((t.modTile (pk.u8 8) (fun x => { x with calBoth := some (some k, 0) })).modCal (calKey 0 (pk.u8 8)) (fun i => { i with
      running := some (some k), since := none })).modCal (calKey 1 (pk.u8 8)) (fun i => { i with
        running := some (some k), since := none })))

/-- SEQ_LOAD of entries that R105 takes: they stand in the pending image from FIRST on. -/
def seqLoad : Case where
  spec := specSeqLoad
  pre pk t := tileOk pk t && decide (pk.u8 9 < 2) && decide (1 ≤ pk.u8 11 ∧ pk.u8 11 ≤ 5)
    && decide (pk.u8 10 + pk.u8 11 ≤ 128) && pk.le (16 + 8 * pk.u8 11) (40 - 8 * pk.u8 11) == 0
    && (List.range (pk.u8 11)).all (fun i => (judgeEntry t (pk.u8 8) (pk.u8 9) (BitVec.ofNat 64 (pk.le (16 + 8 * i) 8))).isNone)
  ends pk _ t := .ok 0 ((Seq.load (pk.u8 8) (pk.u8 9)
      ((List.range (pk.u8 11)).map (fun i => BitVec.ofNat 64 (pk.le (16 + 8 * i) 8))) (pk.u8 10) t).modConv (pk.u8 8) (pk.u8 9)
    (fun v => { v with crcFault := v.crcFault && v.rewritten != BitVec.allOnes 128 }))

/-- The image that a SEQ_START makes of what SEQ_LOAD wrote (R106). -/
def startImage (pk : Packet) (t : State) : Image where
  entries := (t.conv (pk.u8 8) (pk.u8 9)).loaded
  periodMs := pk.u32 12
  cycles := pk.u32 16

/-- The checks of SEQ_START on its converter, its image and its period, all passed (R106). -/
def seqStartOk (pk : Packet) (t : State) : Bool :=
  let l := (startImage pk t).cycleEntries
  tileOk pk t && decide (pk.u8 9 < 2) && (t.tile (pk.u8 8)).refReady && !calibrating t (pk.u8 8) (pk.u8 9)
    && (t.conv (pk.u8 8) (pk.u8 9)).calibrated && !(t.conv (pk.u8 8) (pk.u8 9)).crcFault
    && (pk.u32 12 == 0 || (decide (10 ≤ pk.u32 12 ∧ pk.u32 12 ≤ 600000) && decide (nominalNs l ≤ pk.u32 12 * 1000000)))
    && l.all (fun e => (judgeEntry t (pk.u8 8) (pk.u8 9) e).isNone) && !imageClash t (pk.u8 8) (pk.u8 9) l

/-- SEQ_START of a stopped converter: its image becomes active and runs (R106, R108). -/
def seqStart : Case where
  spec := specSeqStart
  pre pk t := seqStartOk pk t && !(t.conv (pk.u8 8) (pk.u8 9)).running
  ends pk _ t := .ok 0 ((Seq.activate (pk.u8 8) (pk.u8 9) (startImage pk t) t).modConv (pk.u8 8) (pk.u8 9) (fun v => { v with
    running := true, stopAtEnd := false, inCycle := false, inDwell := false, rerun := false
    suspended := convHeld t (pk.u8 8) (pk.u8 9), since := t.tb.elapsed }))

/-- SEQ_START of a running converter: its image waits for the cycle's end (R106). -/
def seqStartWaits : Case where
  spec := specSeqStart
  pre pk t := seqStartOk pk t && (t.conv (pk.u8 8) (pk.u8 9)).running
  ends pk _ t := .ok 0 (t.modConv (pk.u8 8) (pk.u8 9) (fun v => { v with
    waiting := some (startImage pk t), stopAtEnd := false }))

/-- SEQ_STOP at once (Table 5.8). -/
def seqStop : Case where
  spec := specSeqStop
  pre pk t := tileOk pk t && decide (pk.u8 9 < 2) && (t.conv (pk.u8 8) (pk.u8 9)).running && pk.u8 10 == 1
  ends pk _ t := .ok 0 (Seq.stop (pk.u8 8) (pk.u8 9) t)

/-- SEQ_STOP at the cycle's end. -/
def seqStopAtEnd : Case where
  spec := specSeqStop
  pre pk t := tileOk pk t && decide (pk.u8 9 < 2) && (t.conv (pk.u8 8) (pk.u8 9)).running && pk.u8 10 == 0
    && (t.conv (pk.u8 8) (pk.u8 9)).inCycle
  ends pk _ t := .ok 0 (t.modConv (pk.u8 8) (pk.u8 9) (fun v => { v with stopAtEnd := true }))

/-- SEQ_READ (Table 5.8): CONV_STAT, the cycle count, SLIP_COUNT and the current entry. -/
def seqRead : Case where
  spec := specSeqRead
  pre pk t := tileOk pk t && decide (pk.u8 9 < 2)
  ends pk _ t :=
    let v := t.conv (pk.u8 8) (pk.u8 9)
    .ok (result [(5, 4, convStat t (pk.u8 8) (pk.u8 9)), (9, 4, v.cycle), (13, 4, v.slips),
      (17, 1, (cyclePlace t v).2)]) t

/-- LCH names a channel of a powered tile. -/
def chanOk (pk : Packet) (t : State) : Bool := tileOk pk t && decide (pk.u16 10 < 256)

/-- LCH_CONFIG with consistent thresholds and an existing FORMAT 0 buffer (R114, R115): the window is unarmed and the
decimation starts afresh. -/
def lchConfig : Case where
  spec := specLchConfig
  pre pk t := chanOk pk t && (!(pk.u8 12).testBit 0 || windowOk (pk.f32 16) (pk.f32 20) (pk.f32 24))
    && (!(pk.u8 12).testBit 1 || (decide (pk.u8 13 < 64) && pk.u16 14 != 0
      && (vget (t.tile (pk.u8 8)).bufs (pk.u8 13) none).map (·.format) == some 0))
  ends pk _ t := .ok 0 (t.modChan (pk.u8 8) (pk.u16 10) (fun l => { l with
    winEn := (pk.u8 12).testBit 0, dmaEn := (pk.u8 12).testBit 1, buf := pk.u8 13, decim := pk.u16 14
    lo := pk.f32 16, hi := pk.f32 20, hyst := pk.f32 24, win := 0, decimCount := 0 }))

/-- LCH_READ (Table 5.10). -/
def lchRead : Case where
  spec := specLchRead
  pre pk t := chanOk pk t
  ends pk _ t :=
    let l := (t.tile (pk.u8 8)).chan (pk.u16 10)
    .ok (result [(5, 4, l.value.toNat), (9, 1, l.flags.toNat), (10, 1, l.win), (11, 6, l.stamp.toNat), (17, 4, l.seqno.toNat)]) t

/-- LCH_WINACK (R114): the pending bits of the half are answered as they stood, and those of the mask are cleared. -/
def lchWinack : Case where
  spec := specLchWinack
  pre pk t := tileOk pk t
  ends pk _ t := .ok (result [(5, 16, winBits (t.tile (pk.u8 8)) (pk.u8 9))])
    ((List.range 128).foldl (fun s i => if (pk.le 16 16).testBit i then
      s.modChan (pk.u8 8) (128 * pk.u8 9 + i) (fun l => { l with winPending := false }) else s) t)

/-- The buffer of a DMA_CREATE packet. -/
def newRing (pk : Packet) : Ring where
  format := pk.u8 10
  log2Size := pk.u8 11
  space := spaceOf (pk.u8 12)
  base := BitVec.ofNat 64 (pk.le 16 8)
  stateAddr := BitVec.ofNat 64 (pk.le 24 8)
  notify := pk.u32 32
  total := 0

/-- DMA_CREATE of a free buffer that fits its memory (R115): TOTAL starts at 0. -/
def dmaCreate : Case where
  spec := specDmaCreate
  pre pk t := tileOk pk t && decide (pk.u8 9 < 64) && decide (pk.u8 10 < 2) && decide (6 ≤ pk.u8 11 ∧ pk.u8 11 ≤ 20)
    && ringFits (newRing pk) 16 && (vget (t.tile (pk.u8 8)).bufs (pk.u8 9) none).isNone
  ends pk _ t := .ok 0 (t.modTile (pk.u8 8) (fun x => { x with bufs := vset x.bufs (pk.u8 9) (some (newRing pk)) }))

/-- DMA_DELETE of a buffer that no channel and no scan names (R121). -/
def dmaDelete : Case where
  spec := specDmaDelete
  pre pk t := tileOk pk t && decide (pk.u8 9 < 64) && (vget (t.tile (pk.u8 8)).bufs (pk.u8 9) none).isSome
    && !bufBound (t.tile (pk.u8 8)) (pk.u8 9)
  ends pk _ t := .ok 0 (t.modTile (pk.u8 8) (fun x => { x with bufs := vset x.bufs (pk.u8 9) none }))

/-- URGENT_CONVERT of a measurable input with a dwell that fits it (R111): PENDING, in the urgent queue. -/
def urgentConvert : Case where
  spec := specUrgentConvert
  pre pk t := inputOk pk t && (decide (pk.u16 12 < 256) || pk.u16 12 == 0xFFFF) && (t.tile (pk.u8 8)).refReady
    && !calibrating t (pk.u8 8) 1 && (t.conv (pk.u8 8) 1).calibrated && decide (50 ≤ pk.u16 10 ∧ pk.u16 10 ≤ 1600)
    && (judgeMeasure t (pk.u8 8) (pk.u8 9) (pk.u16 10)).isNone && decide ((t.tile (pk.u8 8)).urgent.length < 8)
  ends pk k t := .pend (t.modTile (pk.u8 8) (fun x => { x with urgent := x.urgent ++
    [{ key := some k, input := pk.u8 9, kind := .convert (pk.u16 10) (pk.u16 12) }] }))

/-- RSCAN with every field in range, the interleave item calibrated and a place in the queue of four (R118): PENDING. -/
def rscan : Case where
  spec := specRscan
  pre pk t := tileOk pk t && scanOk (packetScan pk (nextKey 0 pk t)) && (t.tile (pk.u8 8)).refReady
    && !calibrating t (pk.u8 8) 0 && !calibrating t (pk.u8 8) 1 && (t.tile (pk.u8 8)).ilvCal
    && !rawBufBad (t.tile (pk.u8 8)) (packetScan pk (nextKey 0 pk t)) && decide (scanCount (t.tile (pk.u8 8)) < 4)
  ends pk k t := .pend (t.modTile (pk.u8 8) (fun x => { x with scans := x.scans ++ [packetScan pk k] }))

end Sys2Proof.Machine.Case

/-- Commands on the reference and the sequences (R100 to R109, Table 5.8) complete as said. -/
def Obligations.SequenceCommands : Prop :=
  Case.refbufOn.Runs .refbufOn ∧ Case.refbufOff.Runs .refbufOff ∧ Case.adcCalibrate.Runs .adcCalibrate ∧
  (∀ c, (Case.adcCalibrateOne c).Runs .adcCalibrate) ∧ Case.adcCalibrateBoth.Runs .adcCalibrate ∧ Case.seqLoad.Runs .seqLoad ∧ Case.seqStart.Runs .seqStart ∧
  Case.seqStartWaits.Runs .seqStart ∧ Case.seqStop.Runs .seqStop ∧ Case.seqStopAtEnd.Runs .seqStop ∧ Case.seqRead.Runs .seqRead

/-- Commands on channels, windows, buffers, urgent work and scans (R111, R114, R115, R118, Table 5.10) complete as said. -/
def Obligations.ChannelCommands : Prop :=
  Case.lchConfig.Runs .lchConfig ∧ Case.lchRead.Runs .lchRead ∧ Case.lchWinack.Runs .lchWinack ∧
  Case.dmaCreate.Runs .dmaCreate ∧ Case.dmaDelete.Runs .dmaDelete ∧ Case.urgentConvert.Runs .urgentConvert ∧
  Case.rscan.Runs .rscan

/-- Converters at work (R87, R98, R100, R102, R107 to R113, R118, R119, R295): the reference settles after 3 ms, a cycle starts
with a whole image and a MEASURE first, a dwell starts after its gap and ends in its channel, a cycle with only PAUSE entries
left ends with the last of them, urgent work and scans start and
end, and the runs of a converter's calibration end 24 ms after they began. -/
def Obligations.ConverterHappenings : Prop :=
  (∀ (t : Nat) (s : State), s.tileOn t = true → (s.tile t).refOn = true → (s.tile t).refReady = false →
    exec (.refSettled t) s =
      .next ((untilElapsed ((s.tile t).refAt + 3000000) s).modTile t (fun x => { x with refReady := true }))) ∧
  (∀ (t c i : Nat) (s u v : State), convFree s t c = true → (s.conv t c).inCycle = false →
    u = untilElapsed (s.conv t c).gapTo (untilTb (s.conv t c).nextStart s) → imageCrc (s.conv t c).active = (s.conv t c).crc →
    v = u.modConv t c (fun v => { v with inCycle := true, pos := 0, since := u.tb.elapsed, rerun := false }) →
    nextEntry v (v.conv t c) = (0, some i) → (c = 0 → heldByB v t (entInput (vget (s.conv t c).active.entries i 0)) = false) →
    exec (.seqCycleStart t c) s = .next (Seq.dwell t c i v)) ∧
  (∀ (t c i pause : Nat) (s u : State), convFree s t c = true → (s.conv t c).inCycle = true →
    nextEntry s (s.conv t c) = (pause, some i) →
    u = untilElapsed ((s.conv t c).since + (if (s.conv t c).pos = 0 then 0 else 2000) + pause) s →
    (c = 0 → heldByB u t (entInput (vget (s.conv t c).active.entries i 0)) = false) →
    exec (.seqEntryStart t c) s = .next (Seq.dwell t c i u)) ∧
  (∀ (t c pause : Nat) (s : State), convFree s t c = true → (s.conv t c).inCycle = true →
    nextEntry s (s.conv t c) = (pause, none) →
    exec (.seqEntryStart t c) s = .next (Seq.cycleEnd t c
      (untilElapsed ((s.conv t c).since + (if (s.conv t c).pos = 0 then 0 else 2000) + pause - 2000) s))) ∧
  (∀ (t c : Nat) (d : Dwell) (snap : Snap) (s u : State), s.tileOn t = true → (s.conv t c).inDwell = true →
    entKind (dwellEntry s t c) = 0 → (s.conv t c).snap = some snap →
    u = untilElapsed ((s.conv t c).since + entDwell (dwellEntry s t c) * 10000) s →
    ∃ r, r = formResult t c (entInput (dwellEntry s t c)) snap d u ∧
      exec (.dwellEnd t c d) s = .next (Seq.moveOn t c (Lch.write t (entLch (dwellEntry s t c)) r.1.value
        (r.1.flags + 32 * bit (s.conv t c).rerun) (some (s.conv t c).cycle) r.2))) ∧
  (∀ (t : Nat) (x : Urgent) (rest : List Urgent) (s : State), (s.tile t).urgent = x :: rest → s.tileOn t = true →
    (s.tile t).urgentOn = false → (s.tile t).scanning = none → glowing s = false →
    calBegun s t 1 = false → dwellsOn s t x.input = false →
    exec (.urgentStart t) s = .next (Urgent.start t x s)) ∧
  (∀ (t n ch : Nat) (k : Option Key) (i : Nat) (snap : Snap) (d : Dwell) (rest : List Urgent) (s : State),
    (s.tile t).urgent = { key := k, input := i, kind := .convert n ch } :: rest → (s.tile t).urgentSnap = some snap →
    s.tileOn t = true → (s.tile t).urgentOn = true →
    exec (.urgentDwellEnd t d) s = .next (Urgent.endConvert t { key := k, input := i, kind := .convert n ch } ch snap d
      (untilElapsed ((s.tile t).urgentAt + n * 10000) s))) ∧
  (∀ (t kind level : Nat) (tol : F32) (k : Option Key) (i : Nat) (snap : Snap) (d : Dwell) (rest : List Urgent) (s : State),
    (s.tile t).urgent = { key := k, input := i, kind := .test kind level tol } :: rest → (s.tile t).urgentSnap = some snap →
    s.tileOn t = true → (s.tile t).urgentOn = true →
    exec (.urgentDwellEnd t d) s = .next (Urgent.endTest t { key := k, input := i, kind := .test kind level tol } kind level
      tol d (untilElapsed ((s.tile t).urgentAt + 500000) s))) ∧
  (∀ (t : Nat) (n : Scan) (rest : List Scan) (s : State), (s.tile t).scans = n :: rest → scanMayStart s t = true →
    exec (.rscanStart t) s = .next (Scan.start t n rest s)) ∧
  (∀ (t : Nat) (n : Scan) (caps : List (List Int)) (cap : List Int) (s u : State), (s.tile t).scanning = some (n, caps) →
    s.tileOn t = true → caps.length < n.avg →
    u = untilElapsed ((s.tile t).launchAt + (if caps = [] then 25000 else 10000)) s →
    exec (.rscanLaunch t cap) s = .next (u.modTile t (fun x => { x with
      scanning := some (n, caps ++ [cap.take n.length]), launchAt := u.tb.elapsed }))) ∧
  (∀ (t : Nat) (places : List Nat) (n : Scan) (caps : List (List Int)) (s : State),
    (s.tile t).scanning = some (n, caps) → s.tileOn t = true → n.avg ≤ caps.length →
    exec (.rscanEnd t places) s = .next (Scan.finish t places n caps (untilElapsed ((s.tile t).launchAt + 2000) s))) ∧
  (∀ (t b : Nat) (r : CalResult) (s : State), t < 4 → (s.calItem (calKey 0 t)).since = some b →
    exec (.calRunEnd 0 t r) s = .next (Cal.finish 0 t r (untilElapsed (b + 24000000) s)))

/-- The window comparator (R114, Table 5.4): from an armed INSIDE state a value below LO goes to BELOW and one above HI to
ABOVE; from BELOW it returns INSIDE only at LO + HYST, from ABOVE only at HI - HYST. -/
def Obligations.WindowStates : Prop :=
  ∀ (l : Lch) (v : Rat), fnum l.lo + fnum l.hyst < fnum l.hi - fnum l.hyst → 0 ≤ fnum l.hyst →
    (v < fnum l.lo → windowNext l v = 2) ∧ (fnum l.hi < v → windowNext l v = 3) ∧
    (fnum l.lo ≤ v → v ≤ fnum l.hi → l.win < 2 → windowNext l v = 1) ∧
    (l.win = 2 → fnum l.lo ≤ v → v < fnum l.lo + fnum l.hyst → windowNext l v = 2) ∧
    (l.win = 2 → fnum l.lo + fnum l.hyst ≤ v → v ≤ fnum l.hi → windowNext l v = 1) ∧
    (l.win = 3 → fnum l.hi - fnum l.hyst < v → v ≤ fnum l.hi → windowNext l v = 3) ∧
    (l.win = 3 → fnum l.lo ≤ v → v ≤ fnum l.hi - fnum l.hyst → windowNext l v = 1)

/-! ## Metering and tariffs -/

namespace Sys2Proof.Machine.Case

/-- PAIR names a metering pair of a powered tile. -/
def pairOk (pk : Packet) (t : State) : Bool := tileOk pk t && decide (pk.u8 9 < 8)

/-- The pair is configured and the sender may read its group. -/
def pairReadable (c : MeterCfg) (pk : Packet) (t : State) : Bool :=
  pairOk pk t && (t.meter (pk.u8 8) (pk.u8 9)).cfg == some c && rightOn t pk.ctx c.group.toNat != 0

/-- METER_CONFIG of two different inputs that may join the pair (R125): PENDING, the commit queued. -/
def meterConfig : Case where
  spec := specMeterConfig
  pre pk t := pairOk pk t && decide (pk.u8 10 < 64) && decide (pk.u8 11 < 64) && pk.u8 10 != pk.u8 11
    && !(isShaded t (pk.u8 8) (pk.u8 10) && (boundPair t (pk.u8 8) (pk.u8 10)).isNone)
    && !(isShaded t (pk.u8 8) (pk.u8 11) && (boundPair t (pk.u8 8) (pk.u8 11)).isNone)
    && joinsPair t (pk.u8 8) (pk.u8 9) (pk.u8 10) && joinsPair t (pk.u8 8) (pk.u8 9) (pk.u8 11)
  ends pk k t := .pend (Nv.enqueue (some k) pk.ctx (.meter (pk.u8 8) (pk.u8 9) {
    vInput := pk.u8 10, iInput := pk.u8 11, iRange := pk.u8 12, group := BitVec.ofNat 8 (pk.u8 13)
    phaseCorr := BitVec.ofNat 16 (pk.u16 14), vScale := pk.f32 16, iScale := pk.f32 20 }) t)

/-- METER_READ of registers 0 to 10 (R130, Table 6.14), with the start of the peak. -/
def meterRead (c : MeterCfg) : Case where
  spec := specMeterRead
  pre pk t := pairReadable c pk t && decide (pk.u8 10 ≤ 10)
  ends pk _ t :=
    let m := t.meter (pk.u8 8) (pk.u8 9)
    let r := pk.u8 10
    .ok (result [(5, 8, if r < 8 then vget m.eImp r 0 else if r = 8 then m.eExp else if r = 9 then m.peakDemand else m.configCount),
      (13, 6, m.peakStart)]) t

/-- METER_HISTORY of 1 to 64 records to an aligned place that fits (R133): PENDING, the copy queued. -/
def meterHistory (c : MeterCfg) : Case where
  spec := specMeterHistory
  pre pk t := pairReadable c pk t && decide (1 ≤ pk.u8 10 ∧ pk.u8 10 ≤ 64) && pk.le 16 8 % 32 == 0
    && spanFits (spaceOf (pk.u8 11)) (pk.le 16 8) (32 * pk.u8 10)
  ends pk k t := .pend { t with mt := { t.mt with copies := vmod t.mt.copies (pk.u8 8) (fun l => l ++ [{
    key := k, pair := pk.u8 9, count := pk.u8 10, space := spaceOf (pk.u8 11), dest := BitVec.ofNat 64 (pk.le 16 8) }]) } }

/-- METER_RESET_PEAK of a configured pair (R130). -/
def meterResetPeak : Case where
  spec := specMeterResetPeak
  pre pk t := pairOk pk t && (t.meter (pk.u8 8) (pk.u8 9)).cfg.isSome
  ends pk _ t := .ok 0 (t.modMeter (pk.u8 8) (pk.u8 9) (fun m => { m with peakDemand := 0, peakStart := 0 }))

/-- DEMAND_CONFIG of another length while intervals run (R132): the open ones close at its next boundary, with RESIZED. -/
def demandConfig : Case where
  spec := specDemandConfig
  pre pk t := decide (pk.u8 9 < 6) && pk.u8 9 != t.mt.len && t.mt.running
  ends pk _ t := .ok 0 ({ t with mt := { t.mt with newLen := some (pk.u8 9), boundary := boundaryAfter (pk.u8 9) t.sec } }.modMeters
    (fun m => if m.interval.opened && !m.restored then { m with interval := m.interval.mark 4 } else m))

/-- TARIFF_LOAD of rates 0 to 3 or 4 to 7 (R135): the shadow bank alone. -/
def tariffRates : Case where
  spec := specTariffLoad
  pre pk _ := pk.u8 9 == 0 && (pk.u16 10 == 0 || pk.u16 10 == 4) && pk.le 48 8 == 0
  ends pk _ t := .ok 0 { t with mt := { t.mt with shadow := t.mt.shadow.setRates pk (pk.u16 10) } }

/-- TARIFF_LOAD of switch entries (R134, R135). -/
def tariffEntries : Case where
  spec := specTariffLoad
  pre pk _ := pk.u8 9 == 1 && decide (1 ≤ pk.u8 12 ∧ pk.u8 12 ≤ 5) && decide (pk.u16 10 + pk.u8 12 ≤ 1024)
    && pk.le (16 + 8 * pk.u8 12) (40 - 8 * pk.u8 12) == 0
    && (List.range (pk.u8 12)).all (fun i => field (pk.le (16 + 8 * i) 8) 23 3 == 0)
  ends pk _ t := .ok 0 { t with mt := { t.mt with shadow := t.mt.shadow.setEntries pk (pk.u16 10) (pk.u8 12) } }

/-- TARIFF_COMMIT with none under way, for a second to come or at once (R135): PENDING, the commit of the bank that is not in
force queued (R314). -/
def tariffCommit : Case where
  spec := specTariffCommit
  pre pk t := decide (pk.u16 12 ≤ 1024) && (pk.le 16 8 == 0 || decide (t.sec ≤ pk.le 16 8)) && t.mt.job.isNone
  ends pk k t := .pend (Nv.enqueue (some k) pk.ctx (.tariff (1 - t.mt.activeIdx) (pk.u16 12) none)
    { t with mt := { t.mt with job := some {
      key := some k, entries := pk.u16 12, atSecond := if pk.le 16 8 = 0 then t.sec + 1 else pk.le 16 8
      rebuilt := false, late := false } } })

/-- TARIFF_READ (Table 6.14): the tariff in force, the next switch, and the active bank's CRC. -/
def tariffRead : Case where
  spec := specTariffRead
  pre _ _ := true
  ends _ _ t := .ok (result [(5, 1, t.mt.tariff), (6, 8, (t.mt.active.nextWhen t.sec).getD 0), (14, 4, t.mt.active.crc.toNat)]) t

end Sys2Proof.Machine.Case

/-- Metering and tariff commands (R125, R130 to R135, Table 6.14) complete as said. -/
def Obligations.MeteringCommands : Prop :=
  Case.meterConfig.Runs .meterConfig ∧ (∀ c, (Case.meterRead c).Runs .meterRead) ∧
  (∀ c, (Case.meterHistory c).Runs .meterHistory) ∧ Case.meterResetPeak.Runs .meterResetPeak ∧
  Case.demandConfig.Runs .demandConfig ∧ Case.tariffRates.Runs .tariffLoad ∧ Case.tariffEntries.Runs .tariffLoad ∧
  Case.tariffCommit.Runs .tariffCommit ∧ Case.tariffRead.Runs .tariffRead

/-- The metering store at work (R87, R128, R131, R133 to R135, R137, R138): a METER dwell accounts its pair, and one that is
not faulted gives it the power measured and clears the fault flags of its inputs; an interval closes at its boundary, a history copy ends with its records, a checkpoint
joins the newest 27, a bank rebuilt at its commit's turn is committed, waits for its second, or for the next with SHADOW_LATE
raised, and swaps there; a bank out of order or without the energy for its commit ends the job; a switch follows the active bank, and results go to their points. -/
def Obligations.MeteringHappenings : Prop :=
  (∀ (t p : Nat) (d : MeterDwell) (c : MeterCfg) (s u v : State), s.tileOn t = true → (s.conv t 1).inDwell = true →
    entKind (dwellEntry s t 1) = 1 → p = entPair (dwellEntry s t 1) → (s.conv t 1).meter = some c →
    (∀ n, (s.conv t 1).snap = some n → n.spoiled = false) → fullScale c d = false →
    u = untilElapsed ((s.conv t 1).since + entDwell (dwellEntry s t 1) * 10000) s →
    v = u.modMeter t p (fun m => if (m.account u.mt.tariff u.ns false).bound
      then (m.account u.mt.tariff u.ns false).take (dwellPower u c d) else m.account u.mt.tariff u.ns false) →
    exec (.meterDwellEnd t d) s = .next (Seq.moveOn t 1 (Input.setFaults t c.iInput 0 (Input.setFaults t c.vInput 0 v)))) ∧
  (∀ (t p : Nat) (d : MeterDwell) (c : MeterCfg) (s u : State), s.tileOn t = true → (s.conv t 1).inDwell = true →
    entKind (dwellEntry s t 1) = 1 → p = entPair (dwellEntry s t 1) → (s.conv t 1).meter = some c →
    (∃ n, (s.conv t 1).snap = some n ∧ n.spoiled = true) ∨ fullScale c d = true →
    u = untilElapsed ((s.conv t 1).since + entDwell (dwellEntry s t 1) * 10000) s →
    exec (.meterDwellEnd t d) s = .next (Seq.moveOn t 1 (u.modMeter t p (fun m => m.account u.mt.tariff u.ns true)))) ∧
  (∀ s : State, s.mt.running = true → s.tb.valid = true →
    exec .intervalClose s = .next (Meter.closeAll (untilTb (s.mt.boundary * 1000000000) s))) ∧
  (∀ (t : Nat) (j : HistoryJob) (rest : List HistoryJob) (l : List MeterRec) (s u : State), vget s.mt.copies t [] = j :: rest →
    l = (s.meter t j.pair).history.take j.count → u = s.writeMem j.space j.dest.toNat (l.flatMap MeterRec.bytes) →
    exec (.meterHistoryDone t) s = .next (Cmd.final j.key St.ok (result [(5, 1, l.length)])
      { u with mt := { u.mt with copies := vset u.mt.copies t rest } })) ∧
  (∀ (c : Commit) (j : CheckpointJob) (s : State), s.nv.running = some c → c.what = .checkpoint j →
    ∃ t, exec .meterCheckpointDone s = .next t ∧ t.mt.slots = (j.image :: s.mt.slots).take 27 ∧
      t.mt.slotNext = (s.mt.slotNext + 1) % 27 ∧ t.mt.pairs = s.mt.pairs ∧ t.tb = s.tb ∧
      vget t.nv.programs 14 0 = vget s.nv.programs 14 0 + 16) ∧
  (∀ (j : TariffJob) (s : State), s.mt.job = some j → j.rebuilt = false → s.nv.running = none → s.mt.shadow.rises j.entries = false →
    exec .tariffRebuildDone s = .next (Cmd.finalOpt j.key St.badParam (result [(5, 1, 5)])
      { Nv.without isTariff s with mt := { s.mt with job := none } })) ∧
  (∀ (j : TariffJob) (c : Commit) (rest : List Commit) (s : State), s.mt.job = some j → j.rebuilt = false → s.nv.running = none →
    s.mt.shadow.rises j.entries = true → s.nv.queue = c :: rest → c.what = .tariff (1 - s.mt.activeIdx) j.entries none →
    (energyOk s = false → exec .tariffRebuildDone s = .next (Nv.refuseFirst c rest St.nvLowEnergy 0 s)) ∧
    ∀ d : Commit, d = { c with what := .tariff (1 - s.mt.activeIdx) j.entries (some (s.mt.shadow.rebuilt j.entries)) } →
      energyOk s = true → exec .tariffRebuildDone s = .next (Nv.done d (Nv.stage d.what
        { s with nv := { s.nv with queue := rest, running := some d, recorded := false } }))) ∧
  (∀ (j : TariffJob) (c : Commit) (s : State), s.mt.job = some j → j.rebuilt = false → s.nv.running = some c → isTariff c = true →
    exec .tariffRebuildDone s = .next (Nv.done c s)) ∧
  (∀ (b : Bank) (n : Nat), (b.rebuilt n).used = n ∧ (b.rebuilt n).crc = crc32c ({ b with used := n } : Bank).bytes) ∧
  (∀ (j : TariffJob) (c : Commit) (place n : Nat) (b : Bank) (s u : State), s.mt.job = some j → place < 2 →
    c.what = .tariff place n (some b) → u = Nv.done c s →
    u.mt.shadow = b ∧ u.mt.active = s.mt.active ∧ u.mt.banks = vset s.mt.banks place b ∧
    (s.sec < j.atSecond → u.mt.job = some { j with rebuilt := true, late := false }) ∧
    (j.atSecond ≤ s.sec → u.mt.job = some { j with rebuilt := true, late := true, atSecond := s.sec + 1 } ∧
      Nv.effect c s = Ev.raise 12 0 (packLe [(8, j.atSecond), (4, s.sec + 1)]) { s with mt := { s.mt with
        shadow := b, job := some { j with rebuilt := true, late := true, atSecond := s.sec + 1 } } })) ∧
  (∀ (j : TariffJob) (s u v w : State), s.mt.job = some j → j.rebuilt = true →
    u = untilTb (j.atSecond * 1000000000) s → v = Meter.closeDue u.sec u →
    w = { v with mt := { v.mt with
      active := v.mt.shadow, shadow := v.mt.active, activeIdx := 1 - v.mt.activeIdx, job := none } } →
    exec .tariffSwap s = .next (Cmd.finalOpt j.key (if j.late then St.shadowLate else St.ok) 0
      (if v.tb.valid then Meter.switchTo (v.mt.shadow.tariffAt v.sec) v.sec w else w))) ∧
  (∀ s v : State, s.tb.valid = true → s.mt.active.tariffAt s.sec ≠ s.mt.tariff → v = Meter.closeDue s.sec s →
    exec .tariffSwitch s = .next (Meter.switchTo (v.mt.active.tariffAt v.sec) v.sec v)) ∧
  (∀ (sec : Nat) (s u v : State), s.tb.valid = true → s.mt.active.tariffAt s.sec = s.mt.tariff →
    s.mt.active.nextWhen s.sec = some sec → u = untilTb (sec * 1000000000) s → v = Meter.closeDue u.sec u →
    exec .tariffSwitch s = .next (Meter.switchTo (v.mt.active.tariffAt v.sec) v.sec v)) ∧
  (∀ s u : State, s.live = true → u = untilTb (s.mt.resultSec * 1000000000) s →
    exec .meterResultUpdate s = .next (allPairs.foldl (fun s x => Meter.energyResults x.1 x.2 s)
      { u with mt := { u.mt with resultSec := u.sec + 1 } }))

/-- Accounting of energy (R128): of the time since the last account at most 10 s counts, at the power of the dwell before;
whole units of 0.1 Wh go to the register of the tariff, the rest is carried and none is lost, and what does not count is
gap. -/
def Obligations.EnergyAccounted : Prop :=
  ∀ (m : MeterPair) (tariff t dt counted : Nat), m.cfg.isSome = true → m.restored = false → m.bound = true → m.pend = none →
    0 ≤ m.power → tariff < 8 → dt = t - m.lastEnd → counted = min dt 10000000000 →
    ∀ a, a = m.account tariff t false →
      a.lastEnd = t ∧ a.power = m.power ∧ a.eExp = m.eExp ∧ a.remExp = m.remExp ∧
      vget a.eImp tariff 0 = (vget m.eImp tariff 0 + (m.remImp + m.power.toNat * counted) / energyUnit) % 2 ^ 48 ∧
      a.remImp = (m.remImp + m.power.toNat * counted) % energyUnit ∧
      (∀ i, i ≠ tariff → vget a.eImp i 0 = vget m.eImp i 0) ∧
      a.interval.eImp = m.interval.eImp + (m.remImp + m.power.toNat * counted) / energyUnit ∧
      a.interval.accounted = m.interval.accounted + counted ∧ a.interval.gap = m.interval.gap + (dt - counted) ∧
      a.interval.flags = m.interval.flags

/-- Closing an interval (R133): its record leads a history of at most 64, its demand is its import energy over its length,
a new peak is kept with its start and an old one stands, and registers do not change. -/
def Obligations.IntervalsClosed : Prop :=
  ∀ (m c : MeterPair), m.cfg.isSome = true → m.interval.opened = true → m.restored = false → c = m.close →
    c.history = (m.interval.record :: m.history).take 64 ∧ c.history.length ≤ 64 ∧ c.last = some m.interval.record ∧
    c.interval.opened = false ∧ m.interval.record.demand = m.interval.eImp * 360 / lenSeconds m.interval.len ∧
    (m.peakDemand < m.interval.record.demand → c.peakDemand = m.interval.record.demand ∧ c.peakStart = m.interval.start) ∧
    (m.interval.record.demand ≤ m.peakDemand → c.peakDemand = m.peakDemand ∧ c.peakStart = m.peakStart) ∧
    c.eImp = m.eImp ∧ c.eExp = m.eExp ∧ c.remImp = m.remImp ∧ c.configCount = m.configCount

/-! ## Presence -/

namespace Sys2Proof.Machine.Case

/-- PORT names a frame port of a powered tile. -/
def portOk (pk : Packet) (t : State) : Bool := tileOk pk t && decide (pk.u8 9 < 8)

/-- PRESENCE_CONFIG with its values in range (R141, R142): with ENABLE the port enters LEARNING. -/
def presenceConfig : Case where
  spec := specPresenceConfig
  pre pk t := portOk pk t && !presenceOut pk && pk.u16 10 % pk.u8 12 == 0 && (pk.u8 13).testBit 0
  ends pk _ t := .ok 0 (Port.learn (pk.u8 8) (pk.u8 9) ((t.modPort (pk.u8 8) (pk.u8 9) (fun x => x.configured pk)).modPort
    (pk.u8 8) (pk.u8 9) (fun x => { x with lastStart := none, second := [] })))

/-- PRESENCE_CONFIG without ENABLE: the port is OFF. -/
def presenceOff : Case where
  spec := specPresenceConfig
  pre pk t := portOk pk t && !presenceOut pk && pk.u16 10 % pk.u8 12 == 0 && !(pk.u8 13).testBit 0
  ends pk _ t := .ok 0 ((t.modPort (pk.u8 8) (pk.u8 9) (fun x => x.configured pk)).modPort (pk.u8 8) (pk.u8 9) (fun x => { x with
    state := .off, missRun := 0, rightRun := 0, lastStart := none, second := [] }))

/-- PRESENCE_READ of a port that is not OFF, by a sender that may read its group (R146). -/
def presenceRead : Case where
  spec := specPresenceRead
  pre pk t := portOk pk t && rightOn t pk.ctx (t.port (pk.u8 8) (pk.u8 9)).group.toNat != 0
    && (t.port (pk.u8 8) (pk.u8 9)).state != .off
  ends pk _ t :=
    let x := t.port (pk.u8 8) (pk.u8 9)
    .ok (result [(5, 4, fpStat t (pk.u8 8) (pk.u8 9)), (9, 1, x.count), (10, 2, x.activity), (12, 4, x.tmin.toNat),
      (16, 4, x.tmax.toNat)]) t

/-- PRESENCE_TEST of a port that is not OFF (R146): PENDING, the port is held. -/
def presenceTest : Case where
  spec := specPresenceTest
  pre pk t := portOk pk t && (t.port (pk.u8 8) (pk.u8 9)).state != .off
  ends pk k t := .pend (t.modPort (pk.u8 8) (pk.u8 9) (fun x => { x with test := x.test ++ [k] }))

/-- PRESENCE_REBASE (Table 6.8): the port learns its background anew. -/
def presenceRebase : Case where
  spec := specPresenceRebase
  pre pk t := portOk pk t && (t.port (pk.u8 8) (pk.u8 9)).state != .off
  ends pk _ t := .ok 0 (Port.learn (pk.u8 8) (pk.u8 9) t)

end Sys2Proof.Machine.Case

/-- Presence (R141 to R146): the commands complete as said; a test replies whether the engine has met the synthetic frame's
count; a frame that starts within 33.3 ms of the one before is an overrun, another of the right or a wrong length is counted
and taken up, and a second ends on every port. -/
def Obligations.PresenceCommandsAndHappenings : Prop :=
  Case.presenceConfig.Runs .presenceConfig ∧ Case.presenceOff.Runs .presenceConfig ∧ Case.presenceRead.Runs .presenceRead ∧
  Case.presenceTest.Runs .presenceTest ∧ Case.presenceRebase.Runs .presenceRebase ∧
  (∀ (t p : Nat) (k : Key) (rest : List Key) (s : State),
    (List.range 8).find? (fun p => !(s.port t p).test.isEmpty) = some p → (s.port t p).test = k :: rest →
    exec (.presenceTestDone t) s = .next (Cmd.final k St.ok (result [(5, 1, bit ((s.port t p).passes s))]) (s.modPort t p (fun x => { x with test := rest })))) ∧
  (∀ (n ago bits : Nat) (px : List (BitVec 16)) (s u : State) (x : Port) (dt : Nat), portRuns s (n / 8) (n % 8) = true →
    x = s.port (n / 8) (n % 8) → x.test = [] → n < 32 →
    u = s.modPort (n / 8) (n % 8) (fun x => { x with lastStart := some (s.tb.elapsed - ago) }) →
    dt = (x.lastStart.map (fun b => s.tb.elapsed - ago - b)).getD 0 →
    ((∃ b, x.lastStart = some b ∧ s.tb.elapsed - ago < b + 33300000) →
      exec (.frameReceived n ago bits px) s = .next (u.modPort (n / 8) (n % 8) (fun x => { x with overruns := x.overruns + 1 }))) ∧
    ((∀ b, x.lastStart = some b → b + 33300000 ≤ s.tb.elapsed - ago) →
      (bits < 16 * x.pix → exec (.frameReceived n ago bits px) s = .next (Port.wrongFrame (n / 8) (n % 8) true u)) ∧
      (16 * x.pix < bits → exec (.frameReceived n ago bits px) s = .next (Port.wrongFrame (n / 8) (n % 8) false u)) ∧
      (bits = 16 * x.pix → px.length = x.pix → exec (.frameReceived n ago bits px) s = .next (Port.rightFrame (n / 8) (n % 8)
        (px.map (fun v => fnum x.gain * (v.toNat : Rat) + fnum x.offset)) dt u)))) ∧
  (∀ s u : State, s.live = true → u = untilTb (s.mt.presenceSec * 1000000000) s →
    exec .presenceSecond s = .next (allPorts.foldl (fun s tp => Port.endSecond tp.1 tp.2 s)
      { u with mt := { u.mt with presenceSec := u.sec + 1 } }))

/-- The pixel update of R143: a foreground pixel within its hold time keeps its background and ages; any other pixel's
background moves towards it by a power-of-two share, rounded to FP32 (the rounding is the model's, log 6), and its age is 0. -/
def Obligations.PixelUpdate : Prop :=
  ∀ (delta t bg : Rat) (hold dt shift age : Nat), ∀ p, p = pixStep delta hold dt shift t bg age →
    (p.fg = true ↔ delta < t - bg) ∧
    (delta < t - bg → (hold = 0 ∨ age < hold) → p.bg = bg ∧ p.age = age + dt) ∧
    (¬ delta < t - bg → p.bg = fnum (fof (bg + (t - bg) / (2 : Rat) ^ shift)) ∧ p.age = 0) ∧
    (hold ≠ 0 → hold ≤ age → p.bg = fnum (fof (bg + (t - bg) / (2 : Rat) ^ shift)) ∧ p.age = 0)


/-! ## Loops -/

namespace Sys2Proof.Machine.Case

/-- A part of a descriptor follows the parts staged before it on its pair (R168, R191). -/
def partFits (kind : StageKind) (index part : Nat) (pk : Packet) (t : State) : Bool :=
  part == 0 || (match (t.pair pk.queue.toNat).bind (·.stage) with
    | some g => g.kind == kind && g.tile == pk.u8 8 && g.index == index && g.next == part
    | none => false)

/-- The bytes staged once a part has joined those before it. -/
def partBytes (part : Nat) (bytes : List Byte) (pk : Packet) (t : State) : List Byte :=
  (if part = 0 then [] else stagedBytes t pk.queue.toNat) ++ bytes

/-- A part of a descriptor staged on its pair. -/
def staged (kind : StageKind) (index part : Nat) (bytes : List Byte) (q : Nat) (pk : Packet) (t : State) : State :=
  t.modPair q (fun p => { p with stage := some {
    kind := kind, tile := pk.u8 8, index := index, next := part + 1, bytes := partBytes part bytes pk t } })

/-- LOOP_CREATE of PART 0 to 2 in order (R168): the part is staged. -/
def loopPartIn : Case where
  spec := specLoopCreate
  pre pk t := tileOk pk t && decide (pk.u8 12 < 3) && partFits .loop (pk.u16 10) (pk.u8 12) pk t
  ends pk k t := .ok 0 (staged .loop (pk.u16 10) (pk.u8 12) (pk.bytes 16 32) k.q pk t)

/-- The descriptor that PART 3 completes. -/
def loopGiven (pk : Packet) (t : State) : Loop := newLoop (partBytes 3 (pk.bytes 16 32) pk t)

/-- The descriptor it goes to: the lowest free one for 65,535. -/
def loopPlace (pk : Packet) (t : State) : Nat :=
  if pk.u16 10 = 65535 then (lowestFree (t.tile (pk.u8 8)).loops 16384 0).getD 16384 else pk.u16 10

/-- PART 3 of a new descriptor that steps 2 to 4 of R168 find sound, its CRC apart, and whose point records pass their
load (R71): the loop is installed there. -/
def loopCreate : Case where
  spec := specLoopCreate
  pre pk t :=
    let u := staged .loop (pk.u16 10) 3 (pk.bytes 16 32) pk.queue.toNat pk t
    let d := loopPlace pk t
    tileOk pk t && pk.u8 12 == 3 && pk.u8 13 == 0 && partFits .loop (pk.u16 10) 3 pk t && decide (d < 16384)
      && (t.loop (pk.u8 8) d).isNone && (judgeLoop u (pk.u8 8) d (loopGiven pk t)).isNone
      && (Points.load (pointsOf (loopGiven pk t).bindings) t).1
      && loopRights (Points.load (pointsOf (loopGiven pk t).bindings) u).2 pk.ctx (loopGiven pk t) none
      && admits (Points.load (pointsOf (loopGiven pk t).bindings) u).2 (pk.u8 8) d (loopGiven pk t)
  ends pk k t :=
    let d := loopPlace pk t
    let w := (Points.load (pointsOf (loopGiven pk t).bindings) (staged .loop (pk.u16 10) 3 (pk.bytes 16 32) k.q pk t)).2
    let v := Loop.install (pk.u8 8) d (loopGiven pk t) (Stage.drop k.q w)
    .ok (createResult v (pk.u8 8) d (loopGiven pk t).rate) v

/-- DESCRIPTOR names loop `l`, and the sender may configure its group. -/
def loopConf (l : Loop) (pk : Packet) (t : State) : Bool :=
  tileOk pk t && decide (pk.u16 10 < 16384) && t.loop (pk.u8 8) (pk.u16 10) == some l && rightOn t pk.ctx l.group == 3

/-- LOOP_DELETE of a loop that nothing names (R167): its outputs are released and the descriptor is free. -/
def loopDelete (l : Loop) : Case where
  spec := specLoopDelete
  pre pk t := loopConf l pk t && !loopNamed t (pk.u8 8) (pk.u16 10)
  ends pk _ t := .ok 0 (Imports.prune (pk.u8 8) ((if l.released then t else Loop.release (pk.u8 8) l t).modTile (pk.u8 8) (fun x =>
    { x with loops := aerase x.loops (pk.u16 10) })))

/-- LOOP_READ of parts 0 to 8 by a sender that may read the group (R167). -/
def loopRead (l : Loop) : Case where
  spec := specLoopRead
  pre pk t := tileOk pk t && decide (pk.u16 10 < 16384) && t.loop (pk.u8 8) (pk.u16 10) == some l
    && rightOn t pk.ctx l.group != 0 && decide (pk.u8 12 ≤ 8)
  ends pk _ t := .ok (loopPart l (pk.u8 12)) t

/-- LOOP_MANUAL with MODE 1 and a value within the limits (R157): MANUAL at that value, at once, from AUTO and in MANUAL. -/
def loopManual (l : Loop) : Case where
  spec := specLoopManual
  pre pk t := loopConf l pk t && pk.u8 12 == 1 && l.manualOk (pk.f32 16) && (l.state == .auto || l.state == .manual)
  ends pk _ t := .ok 0 (t.modLoop (pk.u8 8) (pk.u16 10) (fun l => { l with state := .manual, manual := pk.f32 16 }))

/-- LOOP_MANUAL with MODE 0 (R157): back to AUTO, bumplessly. -/
def loopAuto (l : Loop) : Case where
  spec := specLoopManual
  pre pk t := loopConf l pk t && pk.u8 12 == 0 && l.state == .manual
  ends pk _ t := .ok 0 (t.modLoop (pk.u8 8) (pk.u16 10) (fun l => { l with state := .auto, bumpless := true }))

/-- LOOP_TUNE of a consistent result that fits, its PERIOD unchanged (R157, R159): in force, bumplessly. -/
def loopTune (l : Loop) : Case where
  spec := specLoopTune
  pre pk t :=
    let m := Loop.bookRate { l with desc := tunedDesc l.desc pk, bumpless := true }
    loopConf l pk t && m.consistent && admits t (pk.u8 8) (pk.u16 10) m && m.period == l.period
  ends pk _ t :=
    let m := Loop.bookRate { l with desc := tunedDesc l.desc pk, bumpless := true }
    .ok (result [(5, 4, m.admitted)]) (t.modLoop (pk.u8 8) (pk.u16 10) (fun _ => m))

/-- LOOP_LOAD of a powered tile (R167). -/
def loopLoad : Case where
  spec := specLoopLoad
  pre pk t := tileOk pk t
  ends pk _ t :=
    let x := t.tile (pk.u8 8)
    .ok (result [(5, 4, tileRate x), (9, 4, classRate x 0), (13, 4, loopCapacity (tclkNow t (pk.u8 8))), (17, 2, x.loops.length),
      (19, 2, slotsUsed t (pk.u8 8)), (21, 1, 2 ^ x.s1), (22, 1, 2 ^ x.s2), (23, 2, min 65535 (effectiveLoad t (pk.u8 8)))]) t

end Sys2Proof.Machine.Case

/-- Commands on loops (R157, R159, R167, R168) complete as said; a PART 3 whose descriptor's CRC matches installs the
loop. -/
def Obligations.LoopCommands : Prop :=
  Case.loopPartIn.Runs .loopCreate ∧
  (∀ (q : Nat) (pk : Packet) (s u : State), Case.loopCreate.met q pk s = true → u = Cmd.begun specLoopCreate q pk s →
    (Case.loopGiven pk u).whole = true →
    exec (.loopCreate q pk) s = .next (Cmd.conclude (nextKey q pk s)
      ((Case.loopCreate.ends pk (nextKey q pk s) u).map (State.withCreds s)) (State.withCreds s u))) ∧
  (∀ l, (Case.loopDelete l).Runs .loopDelete) ∧ (∀ l, (Case.loopRead l).Runs .loopRead) ∧
  (∀ l, (Case.loopManual l).Runs .loopManual) ∧ (∀ l, (Case.loopAuto l).Runs .loopManual) ∧
  (∀ l, (Case.loopTune l).Runs .loopTune) ∧ Case.loopLoad.Runs .loopLoad

/-- Evaluation (R153, R163, R165): the loops due at the tile's first boundary run, in class and number order, reading
the state at that boundary, the point records they name loaded first; a loop whose inputs are healthy evaluates its
law; one whose descriptor fails its CRC releases its outputs and raises LOOP_CRC, and evaluates no more. -/
def Obligations.LoopsEvaluate : Prop :=
  (∀ (t b : Nat) (due : List Nat) (s w u : State), loopsMayRun s t = true → nextLoopBoundary (s.tile t) = some b →
    w = Meter.dueFirst (untilTb b s) → due = dueLoops (w.tile t) b → u = due.foldl (fun v d => Loop.loadInputs t d v) w →
    exec (.loopEvaluation t) s = .next (due.foldl (fun v d => v.modLoop t d (fun l =>
      { l with next := l.nextAfter (stretchOf (v.tile t) l) v.ns })) (due.foldl (fun v d => Loop.evaluate u t d b v) u))) ∧
  (∀ (snap s : State) (t d b : Nat) (l : Loop), s.loop t d = some l → l.whole = true → l.state = .auto →
    l.faulted (l.inputs snap t).2 = false → l.stays (l.inputs snap t).2 = false →
    ∃ m n v, Loop.evaluate snap t d b s = Loop.publish t d (Loop.emit t d 1 (Loop.emit t d 0 v)) ∧
      m = Loop.law n (Loop.lawIn s t b n (l.inputs snap t).2) ∧ n.desc = l.desc ∧ n.pid = l.pid ∧ n.u = l.u ∧
      n.pv = (((l.inputs snap t).2[0]?).getD none).getD l.pv ∧ n.sp = l.setpoint (l.inputs snap t).2 ∧
      v.loop t d = some { m with bumpless := false, writes := n.writes + 1, released := false } ∧
      (∀ i, i ≠ d → v.loop t i = s.loop t i)) ∧
  (∀ (snap s : State) (t d b : Nat) (l : Loop), s.loop t d = some l → l.state ≠ .crc → l.whole = false →
    Loop.evaluate snap t d b s = Ev.raise (tileSource t 8) 0 (packLe [(2, d)]) (Loop.publish t d (Loop.release t l
      (s.modLoop t d (fun l => { l with state := .crc, released := true, wrote0 := none, wrote1 := none }))))) ∧
  (∀ (snap s : State) (t d b : Nat) (l : Loop), s.loop t d = some l → l.state = .crc → Loop.evaluate snap t d b s = s)

/-- Boundaries and stretch (R152, R161): the next boundary is the first instant after now that lies a whole number of
stretched periods after PHASE; the factors chosen are the first of R161 whose load the capacity carries; dt is the
factor of the class that the loop was admitted in times PERIOD_US in seconds. -/
def Obligations.LoopBoundaries : Prop :=
  (∀ (l : Loop) (e now b : Nat), 0 < l.period → l.phase < l.period → b = l.nextAfter e now →
    now < b ∧ l.phase * 1000 ≤ b ∧ (b - l.phase * 1000) % (2 ^ e * (l.period * 1000)) = 0 ∧
    ∀ c, now < c → l.phase * 1000 ≤ c → (c - l.phase * 1000) % (2 ^ e * (l.period * 1000)) = 0 → b ≤ c) ∧
  (∀ (x : Tile) (cap a b : Nat), chooseStretch x cap = (a, b) →
    a ≤ b ∧ b ≤ 3 ∧ (stretched8 x a b ≤ 8 * cap ∨ (a = 3 ∧ b = 3)) ∧
    ∀ c d, c ≤ d → d ≤ 3 → (c < a ∨ (c = a ∧ d < b)) → 8 * cap < stretched8 x c d) ∧
  (∀ (s : State) (t b : Nat) (l : Loop) (vs : List (Option F32)),
    (Loop.lawIn s t b l vs).dt = (2 : Rat) ^ stretchOf (s.tile t) l * (l.period : Rat) / 1000000 ∧
    (l.admittedCls = 0 → stretchOf (s.tile t) l = 0) ∧ (l.admittedCls = 1 → stretchOf (s.tile t) l = (s.tile t).s1) ∧
    (l.admittedCls = 2 → stretchOf (s.tile t) l = (s.tile t).s2))

/-- The controller of R155 in exact numbers: u is the sum of its terms held between its limits and the integral gives
way to a limit unless it is frozen; the first evaluation sees no movement of PV; MANUAL gives the commanded u and leaves an
integral that meets it. That a stored term is one rounding of its exact value is the model's choice (log 6); the first
evaluation's previous PV and the frozen integral that keeps its value are the model's reading (log 28). -/
def Obligations.ControllerLaw : Prop :=
  ∀ (c : Pid) (x : PidIn) (p d i : Rat) (r : Pid × Rat × Bool), x.lo ≤ x.hi → r = c.eval x →
    p = x.kp * x.sg * (x.beta * x.sp - x.pv) →
    d = (if 0 < x.td then (x.tf * fnum c.deriv - x.kp * x.td * x.sg * (x.pv - (if x.first then x.pv else fnum c.pvPrev))) / (x.tf + x.dt)
      else 0) →
    i = (match x.bump with
      | some u => u - p - d - x.ff
      | none => fnum c.integ) + (if 0 < x.ti ∧ x.freeze = false then x.kp * x.dt / x.ti * (x.sg * (x.sp - x.pv)) else 0) →
    r.1.deriv = fof d ∧ r.1.pvPrev = fof x.pv ∧
    (∀ u, x.manual = some u → r.2.1 = u ∧ r.2.2 = false ∧ r.1.integ = fof (u - p - d - x.ff)) ∧
    (x.manual = none → x.lo ≤ r.2.1 ∧ r.2.1 ≤ x.hi ∧
      (x.lo ≤ p + i + d + x.ff → p + i + d + x.ff ≤ x.hi → r.2.1 = p + i + d + x.ff ∧ r.2.2 = false ∧ r.1.integ = fof i) ∧
      (x.hi < p + i + d + x.ff → r.2.1 = x.hi ∧ r.2.2 = true ∧ r.1.integ = fof (if x.freeze then i else x.hi - p - d - x.ff)) ∧
      (p + i + d + x.ff < x.lo → r.2.1 = x.lo ∧ r.2.2 = true ∧ r.1.integ = fof (if x.freeze then i else x.lo - p - d - x.ff)))

/-! ## Zones -/

namespace Sys2Proof.Machine.Case

/-- ZONE_CREATE of PART 0 to 6 in order (R191): the part is staged. -/
def zonePartIn : Case where
  spec := specZoneCreate
  pre pk t := tileOk pk t && decide (pk.u8 12 < 7) && partFits .zone (pk.u16 10) (pk.u8 12) pk t
  ends pk k t := .ok 0 (staged .zone (pk.u16 10) (pk.u8 12) (pk.bytes 16 32) k.q pk t)

/-- The descriptor that PART 7 completes. -/
def zoneGiven (pk : Packet) (t : State) : Zone := newZone (partBytes 7 (pk.bytes 16 32) pk t)

/-- The slot it goes to. -/
def zonePlace (pk : Packet) (t : State) : Nat :=
  if pk.u16 10 = 65535 then (lowestFree (t.tile (pk.u8 8)).zones 4096 0).getD 4096 else pk.u16 10

/-- PART 7 of a new descriptor that is sound and fits, its CRC apart (R172, R173, R180), and whose point records pass their
load (R71): the zone is installed there. -/
def zoneCreate : Case where
  spec := specZoneCreate
  pre pk t :=
    let u := staged .zone (pk.u16 10) 7 (pk.bytes 16 32) pk.queue.toNat pk t
    let n := zonePlace pk t
    tileOk pk t && pk.u8 12 == 7 && pk.u8 13 == 0 && partFits .zone (pk.u16 10) 7 pk t && decide (n < 4096)
      && (t.zone (pk.u8 8) n).isNone && (judgeZone u (pk.u8 8) (zoneGiven pk t)).isNone
      && (Points.load (pointsOf (zoneGiven pk t).sources) t).1
      && zoneRights (Points.load (pointsOf (zoneGiven pk t).sources) u).2 pk.ctx (zoneGiven pk t) none
      && zoneAdmits (Points.load (pointsOf (zoneGiven pk t).sources) u).2 (pk.u8 8) n (zoneGiven pk t)
  ends pk k t :=
    let n := zonePlace pk t
    let z := zoneGiven pk t
    let w := Stage.drop k.q (Points.load (pointsOf z.sources) (staged .zone (pk.u16 10) 7 (pk.bytes 16 32) k.q pk t)).2
    let v := w.modTile (pk.u8 8) (fun x => { x with zones := aset x.zones n { z.bookRate with next := z.nextAfter w.ns } })
    .ok (zoneResult v (pk.u8 8) n z) v

/-- ZONE names zone `z`. -/
def zoneIs (z : Zone) (pk : Packet) (t : State) : Bool :=
  tileOk pk t && decide (pk.u16 10 < 4096) && t.zone (pk.u8 8) (pk.u16 10) == some z

/-- The sender may configure its group. -/
def zoneConf (z : Zone) (pk : Packet) (t : State) : Bool := zoneIs z pk t && rightOn t pk.ctx z.group == 3

/-- ZONE_DELETE of a zone that nothing names (R191): what waits for it ends, and the slot is free. -/
def zoneDelete (z : Zone) : Case where
  spec := specZoneDelete
  pre pk t := zoneConf z pk t && !zoneNamed t (pk.u8 8) (pk.u16 10)
  ends pk _ t := .ok 0 (Solves.pick (pk.u8 8) (Imports.prune (pk.u8 8)
    ((z.endWaiters St.badParam (result [(5, 1, 2)]) t).modTile (pk.u8 8) (fun x => { x with zones := aerase x.zones (pk.u16 10) }))))

/-- ZONE_READ (R191, R184): PART 0 with PLAN_STALE ends in that status, with its RESULT. -/
def zoneRead (z : Zone) : Case where
  spec := specZoneRead
  pre pk t := zoneIs z pk t && rightOn t pk.ctx z.group != 0 && decide (pk.u8 12 ≤ 17)
  ends pk _ t := if pk.u8 12 = 0 ∧ z.has psPlanStale = true then .cond St.planStale (zonePart z 0) t else .ok (zonePart z (pk.u8 12)) t

/-- ZONE_MODEL of a row's packet without COMMIT (R186): staged. -/
def zoneModelIn (z : Zone) : Case where
  spec := specZoneModel
  pre pk t := zoneConf z pk t && decide (pk.u8 12 < z.latest.np) && decide (pk.u8 13 < z.latest.halves) && pk.u8 14 == 0
    && partFits .model (pk.u16 10) (pk.u8 12 * z.latest.halves + pk.u8 13) pk t
  ends pk k t := .ok 0 (staged .model (pk.u16 10) (pk.u8 12 * z.latest.halves + pk.u8 13) (pk.bytes 16 40) k.q pk t)

/-- The model that the last packet completes. -/
def modelGiven (z : Zone) (pk : Packet) (t : State) : Model :=
  z.latest.stagedModel (partBytes (pk.u8 12 * z.latest.halves + pk.u8 13) (pk.bytes 16 40) pk t)

/-- The last packet with COMMIT, of a model that R188 takes: PENDING, the rebuild starts. -/
def zoneModel (z : Zone) : Case where
  spec := specZoneModel
  pre pk t := zoneConf z pk t && z.latest.np == pk.u8 12 + 1 && z.latest.halves == pk.u8 13 + 1 && pk.u8 14 == 1
    && partFits .model (pk.u16 10) (pk.u8 12 * z.latest.halves + pk.u8 13) pk t && z.latest.modelOk (modelGiven z pk t)
  ends pk k t := .pend ((Stage.drop k.q (staged .model (pk.u16 10) (pk.u8 12 * z.latest.halves + pk.u8 13) (pk.bytes 16 40) k.q pk
    t)).modZone (pk.u8 8) (pk.u16 10) (fun y => y.rebuildWith (some k) (some (modelGiven z pk t)) none))

/-- PRED_SOLVE of a zone with a model (R191): PENDING, its solve waits with two steps to complete. -/
def predSolve (z : Zone) : Case where
  spec := specPredSolve
  pre pk t := zoneConf z pk t && iterationsOk (pk.u16 12) && z.model.isSome
  ends pk k t := .pend (t.modZone (pk.u8 8) (pk.u16 10) (fun y => { y with off := y.off ++ [{
    key := k, iterations := if pk.u16 12 = 0 then z.iterations else pk.u16 12
    deadline := t.tb.elapsed + 2 * z.stepS * 1000000000 }] }))

/-- The RESULT of PRED_PLAN_READ of move `k`. -/
def planResult (p : Plan) (k : Nat) : Nat :=
  result ((List.range 4).map (fun i => (5 + 4 * i, 4, (((p.moves[k]?).getD []).getD i 0).toNat))
    ++ [(21, 1, min 255 (roundNat (fnum (p.occ.getD k 0)))), (22, 4, (p.price.getD k 0).toNat)])

/-- PRED_PLAN_READ of a move of plan `p` (R184): the plan in force or the off-line one. -/
def predPlanRead (z : Zone) (p : Plan) : Case where
  spec := specPredPlanRead
  pre pk t := zoneIs z pk t && rightOn t pk.ctx z.group != 0 && decide (pk.u8 12 ≤ 1) && decide (pk.u8 13 < z.horizon)
    && (if pk.u8 12 = 0 then z.plan else z.offPlan) == some p
  ends pk _ t := if pk.u8 12 = 0 ∧ z.has psPlanStale = true then .cond St.planStale (planResult p (pk.u8 13)) t
    else .ok (planResult p (pk.u8 13)) t

/-- PRED_LEARN without U bindings (R187): the learner's settings. -/
def predLearn (z : Zone) : Case where
  spec := specPredLearn
  pre pk t := zoneConf z pk t && !signsReserved (pk.u32 12) && learnOk (pk.f32 16) (pk.f32 20)
    && (List.range 4).all (fun i => pk.le (24 + 8 * i) 8 == 0)
  ends pk _ t := .ok 0 (t.modZone (pk.u8 8) (pk.u16 10) (fun y => { y with learner := { y.learner with
    signs := BitVec.ofNat 32 (pk.u32 12), lambda := pk.f32 16, accept := pk.f32 20, ubind := Vector.replicate 4 0 } }))

/-- PRED_ACCEPT of a candidate that may be adopted (R188): PENDING, the rebuild starts with it. -/
def predAccept (z : Zone) : Case where
  spec := specPredAccept
  pre pk t := zoneConf z pk t && pk.u8 12 == 0 && z.hasCandidate && z.modelOk z.learner.theta
  ends pk k t := .pend (t.modZone (pk.u8 8) (pk.u16 10) (fun y => y.rebuildWith (some k) (some z.learner.theta) none (learner := true)))

/-- PRED_ACCEPT that brings back the previous model (R188). -/
def predRevert (z : Zone) (m : Model) : Case where
  spec := specPredAccept
  pre pk t := zoneConf z pk t && pk.u8 12 == 1 && z.prevModel == some m
  ends pk k t := .pend (t.modZone (pk.u8 8) (pk.u16 10) (fun y => y.rebuildWith (some k) (some m) none))

/-- PRED_PAUSE of a running zone (R191): PAUSED, its solve abandoned. -/
def predPause (z : Zone) : Case where
  spec := specPredPause
  pre pk t := zoneConf z pk t && pk.u8 12 == 1 && z.state == .running
  ends pk _ t := .ok 0 (Solves.pick (pk.u8 8) (t.modZone (pk.u8 8) (pk.u16 10) (fun y =>
    { y with state := .paused, solve := none })))

/-- PRED_SCHED of a part of a schedule (R174). -/
def predSched : Case where
  spec := specPredSched
  pre pk t := tileOk pk t && decide (pk.u8 12 < 32) && decide (pk.u8 13 < 5)
    && pk.le (16 + schedCount (pk.u8 13)) (40 - schedCount (pk.u8 13)) == 0
    && (pk.bytes 16 (schedCount (pk.u8 13))).all (fun b => decide (b.toNat ≤ 63))
  ends pk _ t := .ok 0 (t.modTile (pk.u8 8) (fun x => { x with
    scheds := setSched x.scheds (168 * pk.u8 12 + 40 * pk.u8 13) (pk.bytes 16 (schedCount (pk.u8 13))) }))

/-- PRED_SCHED of the week's origin (R174). -/
def weekOrigin : Case where
  spec := specPredSched
  pre pk t := tileOk pk t && pk.u8 12 == 255 && pk.le 24 32 == 0
  ends pk _ t := .ok 0 { t with weekOrigin := pk.le 16 8 }

/-- PRED_LOAD of a powered tile (R180). -/
def predLoad : Case where
  spec := specPredLoad
  pre pk t := tileOk pk t
  ends pk _ t := .ok (result [(5, 8, roundNat (predRate (t.tile (pk.u8 8)))), (13, 8, predCapacity t (pk.u8 8)),
    (21, 2, (t.tile (pk.u8 8)).zones.length), (23, 2, Machine.predLoad t (pk.u8 8)), (25, 1, lanes t (pk.u8 8))]) t

/-- ZONE_TUNE of weights in range (R186): PENDING, the rebuild starts with them. -/
def zoneTune (z : Zone) : Case where
  spec := specZoneTune
  pre pk t :=
    let y : Zone := { z.latest with desc := tunedZone z.latest pk, rebuild := none }
    zoneConf z pk t && pk.u8 12 % 16 != 0 && !(pk.u8 12).testBit 4 && y.weightsOk && iterationsOk (y.le 6 2)
  ends pk k t := .pend (t.modZone (pk.u8 8) (pk.u16 10) (fun y => (y.rebuildWith (some k) none (some (tunedZone z.latest pk))).rebookRate))

end Sys2Proof.Machine.Case

/-- Commands on zones (R172 to R174, R180, R184, R186 to R188, R191) complete as said. -/
def Obligations.ZoneCommands : Prop :=
  Case.zonePartIn.Runs .zoneCreate ∧
  (∀ (q : Nat) (pk : Packet) (s u : State), Case.zoneCreate.met q pk s = true → u = Cmd.begun specZoneCreate q pk s →
    (Case.zoneGiven pk u).whole = true →
    exec (.zoneCreate q pk) s = .next (Cmd.conclude (nextKey q pk s)
      ((Case.zoneCreate.ends pk (nextKey q pk s) u).map (State.withCreds s)) (State.withCreds s u))) ∧
  (∀ z, (Case.zoneDelete z).Runs .zoneDelete) ∧ (∀ z, (Case.zoneRead z).Runs .zoneRead) ∧
  (∀ z, (Case.zoneModelIn z).Runs .zoneModel) ∧ (∀ z, (Case.zoneModel z).Runs .zoneModel) ∧
  (∀ z, (Case.predSolve z).Runs .predSolve) ∧ (∀ z p, (Case.predPlanRead z p).Runs .predPlanRead) ∧
  (∀ z, (Case.predLearn z).Runs .predLearn) ∧ (∀ z, (Case.predAccept z).Runs .predAccept) ∧
  (∀ z m, (Case.predRevert z m).Runs .predAccept) ∧ (∀ z, (Case.predPause z).Runs .predPause) ∧
  Case.predSched.Runs .predSched ∧ Case.weekOrigin.Runs .predSched ∧ Case.predLoad.Runs .predLoad ∧
  (∀ z, (Case.zoneTune z).Runs .zoneTune)

/-- The predictor at work (R177, R178, R181, R182, R184, R186, R191): a boundary is taken at its instant by the zone that
ranks first; the running solve completes within its deadline and leaves its plan for the boundary; an off-line one answers on
idle lanes or ends in LOAD_EXCEEDED; a rebuild completes on idle lanes into the shadow bank and waits for its swap, a boundary
due by then coming first; a plan published is in force from its first move, one shifted counts; the moves of a plan lie in their
box and within the demand limit. -/
def Obligations.ZoneHappenings : Prop :=
  (∀ (t n : Nat) (z : Zone) (s : State), s.zone t n = some z → s.tileOn t = true → firstDue (s.tile t) n z = true →
    exec (.zoneBoundary t n) s = .next (Zone.boundary t n z.next false (Meter.dueFirst (untilTb z.next s)))) ∧
  (∀ (t n : Nat) (z : Zone) (v : Solve) (p : Plan) (s : State),
    runningSolve (s.tile t) = some (n, z, v) → s.tileOn t = true → predictorRuns s = true → s.ns ≤ v.deadline →
    p = z.planFrom s v →
    exec (.solveComplete t n) s = .next (Solves.pick t ((s.modZone t n (fun z => { z with solve := some { v with done := some p } }.put
      psInfeasible p.infeasible)).drawnN z.planDraws))) ∧
  (∀ (t n : Nat) (z : Zone) (o : OffSolve) (r : List OffSolve) (p : Plan) (s : State), s.zone t n = some z → z.off = o :: r →
    predictorRuns s = true → s.tileOn t = true → lanesIdle s t = true → s.tb.elapsed ≤ o.deadline → z.model.isSome = true →
    p = z.offPlanNow s t o →
    exec (.predSolveDone t n) s = .next (Cmd.final o.key St.ok
      (result [(5, 4, p.cost.toNat), (9, 4, p.primal.toNat), (13, 4, p.dual.toNat)])
      ((s.modZone t n (fun z => { z with off := r, offPlan := some p })).drawnN (z.nm + z.planDraws)))) ∧
  (∀ (t n : Nat) (z : Zone) (o : OffSolve) (r : List OffSolve) (s : State), s.zone t n = some z → z.off = o :: r →
    exec (.predSolveTimeout t n) s = .next (Cmd.final o.key St.loadExceeded 0
      ((untilElapsed o.deadline s).modZone t n (fun z => { z with off := r })))) ∧
  (∀ (t n : Nat) (z : Zone) (s u : State), s.zone t n = some z → predictorRuns s = true → s.tileOn t = true →
    lanesIdle s t = true → u = (if z.next ≤ s.ns then Zone.boundary t n z.next false (Meter.dueFirst s) else s) →
    exec (.gainRebuildDone t n) s = .next (u.modZone t n Zone.finishRebuild)) ∧
  (∀ (z : Zone) (r : Rebuild), z.rebuild = some r → z.finishRebuild.shadow = z.rebuilt r ∧
    z.finishRebuild.rebuild = some { r with done := true } ∧
    { z.finishRebuild with shadow := z.shadow, rebuild := z.rebuild } = z) ∧
  (∀ (z : Zone) (p : Plan), (z.published p).plan = some p ∧ (z.published p).shifts = 0 ∧ (z.published p).solve = none ∧
    (z.published p).has psPlanStale = false) ∧
  (∀ (z : Zone) (p : Plan), z.plan = some p → z.shifts < z.horizon → z.shifted.plan = some p ∧
    z.shifted.shifts = z.shifts + 1 ∧ z.shifted.has psPlanStale = true ∧ (z.shifts + 1 = z.horizon → z.state = .running →
      z.shifted.state = .starved)) ∧
  (∀ (s : State) (z : Zone) (v : Solve) (k : Nat) (u : List F32), 0 < v.iterations → (z.planFrom s v).moves[k]? = some u →
    (∀ l, z.demandLimit (v.limit.getD k 0) = some l → z.powerOf u ≤ l) ∧
    ∀ i, i < z.nm → z.umin i < z.umax i → ffinite (z.f32 (120 + 4 * i)) = true → ffinite (z.f32 (136 + 4 * i)) = true →
      ffinite (u.getD i 0) = true ∧ z.umin i ≤ fnum (u.getD i 0) ∧ fnum (u.getD i 0) ≤ z.umax i)

/-! ## Drives, analogue outputs and fans -/

namespace Sys2Proof.Machine.Case

/-- TILE names a powered tile and offset 9 an output below `n` (R215). -/
def outOk (n : Nat) (pk : Packet) (t : State) : Bool := tileOk pk t && decide (pk.u8 9 < n)

/-- DRV_CONFIG that R202 and R210 take: in force, through OFF where the channel is busy and the change asks for it. -/
def drvConfig : Case where
  spec := specDrvConfig
  pre pk t := outOk 24 pk t && (judgeDrv t (pk.u8 8) (pk.u8 9) (packetDrv pk)).isNone
    && !calRunning t (calKey 6 (24 * pk.u8 8 + pk.u8 9))
  ends pk _ t := .ok 0 (Drv.configure (pk.u8 8) (pk.u8 9) (packetDrv pk).trimmed t)

/-- The entries of a DRV_PROFILE. -/
def phases (pk : Packet) : List (BitVec 48) := (List.range (pk.u8 11)).map (fun i => BitVec.ofNat 48 (pk.le (16 + 6 * i) 6))

/-- DRV_PROFILE of 1 to 6 valid entries (R197, R198). -/
def drvProfile : Case where
  spec := specDrvProfile
  pre pk t := tileOk pk t && decide (pk.u8 9 < 4) && decide (pk.u8 10 < 16) && decide (1 ≤ pk.u8 11 ∧ pk.u8 11 ≤ 6)
    && pk.le (16 + 6 * pk.u8 11) (36 - 6 * pk.u8 11) == 0 && profileOk (phases pk)
  ends pk _ t := .ok 0 (t.modTile (pk.u8 8) (fun x => { x with profiles := vset x.profiles (16 * pk.u8 9 + pk.u8 10) (phases pk) }))

/-- The sender may set the drive channel (R150, R215), and it is no slave (R202). -/
def drvSettable (pk : Packet) (t : State) : Bool :=
  outOk 24 pk t && maySet t pk.ctx (cfgOf (t.tile (pk.u8 8)) (pk.u8 9)).group 5 (pk.u8 8) (pk.u8 9)
    && !isSlave (t.tile (pk.u8 8)) (pk.u8 9)

/-- DRV_COMMAND of a demand from 0 to 100 % (R201). -/
def drvDemand : Case where
  spec := specDrvCommand
  pre pk t := drvSettable pk t && pk.u8 10 == 0 && percentOk (pk.f32 16)
  ends pk _ t := .ok 0 (Drv.demand (pk.u8 8) (pk.u8 9) (pk.f32 16) (Drv.heard (pk.u8 8) (pk.u8 9) t))

/-- A bare ON (1) or OFF (2), which restarts the watchdog and gives demand 100 or 0. -/
def bareTo (on : Bool) (pk : Packet) (t : State) : State :=
  Drv.note (pk.u8 8) (pk.u8 9) (if on then fof 100 else 0) (Drv.heard (pk.u8 8) (pk.u8 9) t)

/-- A bare ON of a SWITCH channel (R200): the profile from its start. -/
def drvOn : Case where
  spec := specDrvCommand
  pre pk t := drvSettable pk t && pk.u8 10 == 1 && ((t.tile (pk.u8 8)).drive (pk.u8 9)).cfg.mode == 1
    && ((t.tile (pk.u8 8)).drive (pk.u8 9)).wait.isNone
  ends pk _ t := .ok 0 (Drv.on (pk.u8 8) (pk.u8 9) ((bareTo true pk t).modDrive (pk.u8 8) (pk.u8 9) (fun d => { d with isOn := true })))

/-- A bare OFF of a SWITCH channel. -/
def drvOff : Case where
  spec := specDrvCommand
  pre pk t := drvSettable pk t && pk.u8 10 == 2 && ((t.tile (pk.u8 8)).drive (pk.u8 9)).cfg.mode == 1
    && ((t.tile (pk.u8 8)).drive (pk.u8 9)).wait.isNone
  ends pk _ t := .ok 0 (Drv.off (pk.u8 8) (pk.u8 9) ((bareTo false pk t).modDrive (pk.u8 8) (pk.u8 9) (fun d => { d with isOn := false })))

/-- A bare ON or OFF while a configuration waits: the demand is kept, and acts once that applies (R210). -/
def drvBareWaits (on : Bool) : Case where
  spec := specDrvCommand
  pre pk t := drvSettable pk t && pk.u8 10 == (if on then 1 else 2) && decide (((t.tile (pk.u8 8)).drive (pk.u8 9)).cfg.mode < 2)
    && ((t.tile (pk.u8 8)).drive (pk.u8 9)).wait.isSome
  ends pk _ t := .ok 0 ((bareTo on pk t).modDrive (pk.u8 8) (pk.u8 9) (fun d => { d with isOn := true }))

/-- A bare ON or OFF of a channel whose MODE is OFF: the demand is kept. -/
def drvBareOff (on : Bool) : Case where
  spec := specDrvCommand
  pre pk t := drvSettable pk t && pk.u8 10 == (if on then 1 else 2) && ((t.tile (pk.u8 8)).drive (pk.u8 9)).cfg.mode == 0
    && ((t.tile (pk.u8 8)).drive (pk.u8 9)).wait.isNone
  ends pk _ t := .ok 0 (bareTo on pk t)

/-- DRV_READ by a sender that may read the channel's group (R215). -/
def drvRead : Case where
  spec := specDrvRead
  pre pk t := outOk 24 pk t && rightOn t pk.ctx (cfgOf (t.tile (pk.u8 8)) (pk.u8 9)).group != 0
  ends pk _ t :=
    let d := (t.tile (pk.u8 8)).drive (pk.u8 9)
    .ok (result [(5, 4, drvStat t (pk.u8 8) (pk.u8 9)), (9, 4, d.demand.toNat), (13, 4, drvIsense d),
      (17, 4, (posNow t (pk.u8 8) (pk.u8 9)).toNat), (21, 4, d.starts.toNat)]) t

/-- DRV_CLEAR of a channel below T_CRIT (R207). -/
def drvClear : Case where
  spec := specDrvClear
  pre pk t := outOk 24 pk t && !t.pw.crit
  ends pk _ t := .ok 0 (Drv.clear (pk.u8 8) (pk.u8 9) t)

/-- DRV_CLEAR of every channel: the safe state ends too (R206). -/
def drvClearAll : Case where
  spec := specDrvClear
  pre pk t := tileOk pk t && pk.u8 9 == 0xFF && !t.pw.crit
  ends pk _ t := .ok 0 (Drv.endSafe (pk.u8 8) ((List.range 24).foldl (fun s j => Drv.clear (pk.u8 8) j s) t))

/-- DRV_BAND by the die or by a point of TYPE 0, boundaries 4 C apart (R204): the RESULT is the band now. -/
def drvBand : Case where
  spec := specDrvBand
  pre pk t := tileOk pk t && bandsOk (pk.f32 24) (pk.f32 28) (pk.f32 32) && (pk.u8 9 == 0 || (pk.u8 9 == 1
    && decide (pk.point 16 / 2 ^ 24 < 10240) && decide (pk.point 16 % 2 ^ 24 < 5242880)
    && (Points.load [pk.point 16] t).1 && !bandPointBad (Points.load [pk.point 16] t).2 (pk.point 16)))
  ends pk _ t :=
    let u := if pk.u8 9 = 1 then (Points.load [pk.point 16] t).2 else t
    .ok (result [(5, 1, (u.tile (pk.u8 8)).band.band)]) (u.modTile (pk.u8 8) (fun x => { x with band := packetBand pk x.band }))

/-- AO_CONFIG in range (R211). -/
def aoConfig : Case where
  spec := specAoConfig
  pre pk t :=
    let a : Ao := { cfg0 := BitVec.ofNat 32 (pk.u32 16), cfg1 := BitVec.ofNat 32 (pk.u32 20), cfg2 := BitVec.ofNat 32 (pk.u32 24) }
    outOk 8 pk t && a.fallbackCode != 3 && field a.cfg1.toNat 7 0 == 0 && decide (a.lo < a.hi) && percentOk a.cfg2
  ends pk _ t := .ok 0 (t.modAo (pk.u8 8) (pk.u8 9) (fun _ => { (t.tile (pk.u8 8)).ao (pk.u8 9) with
    cfg0 := BitVec.ofNat 32 (pk.u32 16), cfg1 := BitVec.ofNat 32 (pk.u32 20), cfg2 := BitVec.ofNat 32 (pk.u32 24) }))

/-- AO_SET from 0 to 100 % (R211). -/
def aoSet : Case where
  spec := specAoSet
  pre pk t := outOk 8 pk t && maySet t pk.ctx ((t.tile (pk.u8 8)).ao (pk.u8 9)).group 6 (pk.u8 8) (pk.u8 9) && percentOk (pk.f32 16)
  ends pk _ t := .ok 0 (t.modAo (pk.u8 8) (pk.u8 9) (fun a => a.commanded (pk.f32 16) t.tb.elapsed))

/-- AO_READ (R215). -/
def aoRead : Case where
  spec := specAoRead
  pre pk t := outOk 8 pk t && rightOn t pk.ctx ((t.tile (pk.u8 8)).ao (pk.u8 9)).group != 0
  ends pk _ t := .ok (result [(5, 4, aoStat t (pk.u8 8) (pk.u8 9)), (9, 4, ((t.tile (pk.u8 8)).ao (pk.u8 9)).demand.toNat)]) t

/-- FAN_CONFIG in range (R212). -/
def fanConfig : Case where
  spec := specFanConfig
  pre pk t :=
    let f : Fan := { cfg0 := BitVec.ofNat 32 (pk.u32 16), cfg1 := BitVec.ofNat 32 (pk.u32 20), cfg2 := BitVec.ofNat 32 (pk.u32 24) }
    outOk 4 pk t && f.fallbackCode != 3 && field f.cfg1.toNat 7 0 == 0 && decide (f.minDuty ≤ 100) && percentOk f.cfg2
  ends pk _ t := .ok 0 (t.modFan (pk.u8 8) (pk.u8 9) (fun _ => { (t.tile (pk.u8 8)).fan (pk.u8 9) with
    cfg0 := BitVec.ofNat 32 (pk.u32 16), cfg1 := BitVec.ofNat 32 (pk.u32 20), cfg2 := BitVec.ofNat 32 (pk.u32 24) }))

/-- FAN_SET from 0 to 100 % (R212). -/
def fanSet : Case where
  spec := specFanSet
  pre pk t := outOk 4 pk t && maySet t pk.ctx ((t.tile (pk.u8 8)).fan (pk.u8 9)).group 7 (pk.u8 8) (pk.u8 9) && percentOk (pk.f32 16)
  ends pk _ t := .ok 0 (t.modFan (pk.u8 8) (pk.u8 9) (fun f => f.commanded (pk.f32 16) t.tb.elapsed))

/-- FAN_READ (R215). -/
def fanRead : Case where
  spec := specFanRead
  pre pk t := outOk 4 pk t && rightOn t pk.ctx ((t.tile (pk.u8 8)).fan (pk.u8 9)).group != 0
  ends pk _ t :=
    let f := (t.tile (pk.u8 8)).fan (pk.u8 9)
    .ok (result [(5, 4, fanStat t (pk.u8 8) (pk.u8 9)), (9, 4, f.rpm), (13, 4, (fof ((f.duty : Rat) / 10)).toNat)]) t

end Sys2Proof.Machine.Case

/-- Commands on drives, analogue outputs and fan ports (R197, R200 to R215) complete as said. That a bare ON or OFF sets the
demand to 100 or 0, that a demand waits and acts with a configuration that waits, and that AO and FAN codes stay through a
configuration are the model's reading (log 27). -/
def Obligations.DriveCommands : Prop :=
  Case.drvConfig.Runs .drvConfig ∧ Case.drvProfile.Runs .drvProfile ∧ Case.drvDemand.Runs .drvCommand ∧
  Case.drvOn.Runs .drvCommand ∧ Case.drvOff.Runs .drvCommand ∧ (∀ b, (Case.drvBareWaits b).Runs .drvCommand) ∧
  (∀ b, (Case.drvBareOff b).Runs .drvCommand) ∧ Case.drvRead.Runs .drvRead ∧ Case.drvClear.Runs .drvClear ∧
  Case.drvClearAll.Runs .drvClear ∧ Case.drvBand.Runs .drvBand ∧ Case.aoConfig.Runs .aoConfig ∧ Case.aoSet.Runs .aoSet ∧
  Case.aoRead.Runs .aoRead ∧ Case.fanConfig.Runs .fanConfig ∧ Case.fanSet.Runs .fanSet ∧ Case.fanRead.Runs .fanRead

/-- What happens at drive channels (R197 to R204, R208, Table 9.4). A TIME or PEAK phase ends after its DURATION, a PEAK one
with PEAK_LATE: a boost phase without current latches OPEN_LOAD, the next phase follows, and the last one turns the run off.
A trip opens the gate in its decay and counts CHOP_OFF in TCLK, ends a PEAK phase and clears PEAK_LATE in a boost phase; GL
turns on again after it, and its blanking ends with the valley. Overcurrent latches both channels of a pair; the off phase
settles; TPROP cycles, FLOAT moves and bands follow. -/
def Obligations.DriveHappenings : Prop :=
  (∀ (t j : Nat) (c : Shunts) (d : Drive) (s u w : State), s.tileOn t = true → (s.tile t).drive j = d → d.state = .on →
    phEnd d.entry < 2 → u = Drv.sawPeaks t j c (untilElapsed (d.phaseAt + phNs d.entry) s) →
    w = (if phEnd d.entry = 1 then (lockstep (u.tile t) j).foldl (fun v m => v.modDrive t m (fun d => { d with peakLate := true })) u
      else u) →
    exec (.phaseEnd t { channel := j, peaks := c }) s = .next (Drv.endPhase t j w)) ∧
  (∀ (t j : Nat) (d : Drive) (s : State), (s.tile t).drive j = d →
    (openLoads (s.tile t) j ≠ [] → Drv.endPhase t j s =
      Drv.latch t 13 (lockstep (s.tile t) j) (openLoads (s.tile t) j) (decayGate (phEndDecay d.entry) s.pw.gateLow) s) ∧
    (openLoads (s.tile t) j = [] → d.phase + 1 < d.run.length → Drv.endPhase t j s =
      (lockstep (s.tile t) j).foldl (fun v m => v.modDrive t m (fun d => d.nextPhase v.tb.elapsed)) s) ∧
    (openLoads (s.tile t) j = [] → d.run.length ≤ d.phase + 1 → Drv.endPhase t j s =
      Drv.off t j ((lockstep (s.tile t) j).foldl (fun v m => v.modDrive t m (fun d => { d with stepDown := none }))
        (Drv.advance t (masterOf (s.tile t) j) s)))) ∧
  (∀ (t j code : Nat) (c : Shunts) (d : Drive) (s u v w : State), s.tileOn t = true → (s.tile t).drive j = d → d.state = .on →
    d.gate = .drive → d.blanked = false → c.code = code → phTarget d.entry ≤ code →
    u = Drv.sawPeaks t j c (s.modDrive t j (fun d => { d with peak := code })) →
    v = (if d.phase = 0 then (lockstep (u.tile t) j).foldl (fun v m => v.modDrive t m (fun d => { d with peakLate := false })) u
      else u) →
    w = (if phEnd d.entry = 1 then Drv.endPhase t j v else v) →
    exec (.currentTrip t j c) s = .next (w.modDrive t j (fun d =>
      if d.state = .on ∧ phTarget d.entry ≤ code then
        { d with
          gate := decayGate (d.stepDown.getD (phChop d.entry)) w.pw.gateLow
          tickAt := w.tb.elapsed, ticks := 10 * phChopOff d.entry * tclkNow w t / 10 }
      else d))) ∧
  (∀ (t j : Nat) (s u : State), s.tileOn t = true → ((s.tile t).drive j).state = .on → ((s.tile t).drive j).gate ≠ .drive →
    s.pw.gateLow = false → u = untilElapsed (((s.tile t).drive j).ticksEnd (tclkNow s t)) s →
    exec (.chopOffEnd t j) s = .next (u.modDrive t j (fun d => { d with
      gate := .drive, blanked := true, tickAt := u.tb.elapsed, ticks := 5 * tclkNow u t / 10 }))) ∧
  (∀ (t j code : Nat) (s u : State), s.tileOn t = true → ((s.tile t).drive j).state = .on → ((s.tile t).drive j).gate = .drive →
    ((s.tile t).drive j).blanked = true → u = untilElapsed (((s.tile t).drive j).ticksEnd (tclkNow s t)) s →
    exec (.blankingEnd t j code) s = .next (Drv.countMeasure t j (u.modDrive t j (fun d => { d with
      blanked := false, valley := code, boostPeak := if d.phase = 0 then max d.boostPeak code else d.boostPeak
      stepDown := if code < phTarget d.entry then none else d.stepDown })))) ∧
  (∀ (t j code : Nat) (s : State), s.tileOn t = true → j < 24 → ((s.tile t).drive j).spare = true →
    exec (.blankingEnd t j code) s = .next (Drv.countMeasure t j s)) ∧
  (∀ (t j : Nat) (s : State), Drv.countMeasure t j s = if calRunning s (calKey 6 (24 * t + j)) then
    s.modDrive t j (fun d => { d with measured := d.measured + 1
                                      measureAt := if d.measured + 1 = 256 then s.tb.elapsed else d.measureAt }) else s) ∧
  (∀ (t j : Nat) (s : State), s.tileOn t = true → t < 4 → j < 24 → ((s.tile t).drive j).state = .on →
    ((s.tile t).drive j).gate = .drive → ((s.tile t).drive j).blanked = false →
    ∃ u, exec (.overcurrent t j) s = .next u ∧ ((u.tile t).drive j).overcurrent = true ∧
      (∀ m, m ∈ pairMembers (s.tile t) j → ((u.tile t).drive m).state = .latched ∧ ((u.tile t).drive m).gate = .off) ∧
      (∀ i, i ≠ t → u.tile i = s.tile i) ∧
      (∀ i, i ∉ pairMembers (s.tile t) j → i ≠ masterOf (s.tile t) j → (u.tile t).drive i = (s.tile t).drive i) ∧ u.tb = s.tb) ∧
  (∀ (t j : Nat) (s u : State), s.tileOn t = true →
    u = untilElapsed (((s.tile t).drive j).phaseAt + (cfgOf (s.tile t) j).offSettle * 1000) s →
    (((s.tile t).drive j).state = .offPhase → exec (.offSettleEnd t j) s = .next (Drv.settled t j u)) ∧
    (((s.tile t).drive j).state = .latched → ((s.tile t).drive j).gate ≠ .off →
      exec (.offSettleEnd t j) s = .next (u.modDrive t j (fun d => { d with gate := .off })))) ∧
  (∀ (t j base cycle on : Nat) (d : Drive) (s u v : State), s.tileOn t = true → (s.tile t).drive j = d → d.cfg.mode = 2 →
    isSlave (s.tile t) j = false → d.free = true → d.wait = none → u = untilTb d.cycleAt s → cycle = d.cfg.cycleS * 1000000000 →
    base = u.ns / cycle * cycle → on = tpropOn d →
    v = u.modDrive t j (fun d => { d with
      cycleAt := base + cycle, isOn := on != 0, onUntil := if on = 0 ∨ cycle ≤ on then none else some (base + on) }) →
    exec (.tpropCycleStart t j) s = .next (if on = 0 then Drv.off t j v else Drv.on t j v)) ∧
  (∀ (t j base cycle : Nat) (d : Drive) (s u : State), s.tileOn t = true → (s.tile t).drive j = d → d.cfg.mode = 2 →
    isSlave (s.tile t) j = false → d.free = false ∨ d.wait ≠ none → u = untilTb d.cycleAt s →
    cycle = d.cfg.cycleS * 1000000000 → base = u.ns / cycle * cycle →
    exec (.tpropCycleStart t j) s = .next (u.modDrive t j (fun d => { d with cycleAt := base + cycle }))) ∧
  (∀ d : Drive, 0 < d.cfg.cycleS → 0 ≤ fnum d.demand → fnum d.demand ≤ 100 →
    tpropOn d ≤ d.cfg.cycleS * 1000000000 ∧ (tpropOn d = 0 ∨ (d.cfg.minPulseNs ≤ tpropOn d ∧
      (tpropOn d = d.cfg.cycleS * 1000000000 ∨ d.cfg.minPulseNs ≤ d.cfg.cycleS * 1000000000 - tpropOn d)))) ∧
  (∀ (t j e : Nat) (s : State), s.tileOn t = true → ((s.tile t).drive j).onUntil = some e →
    exec (.tpropOnEnd t j) s = .next (Drv.off t j ((untilTb e s).modDrive t j (fun d => { d with onUntil := none, isOn := false })))) ∧
  (∀ (t j : Nat) (s : State), s.tileOn t = true → ((s.tile t).drive j).cfg.mode = 3 →
    exec (.floatCheck t j) s = .next (Drv.floatCheck t j (untilTb ((s.ns / 10000000 + 1) * 10000000) s))) ∧
  (∀ (t j : Nat) (d : Drive) (s u : State), s.tileOn t = true → (s.tile t).drive j = d → d.move = .reversing →
    u = untilElapsed (d.movedTo + 200000000) s →
    exec (.reversalWaitEnd t j) s = .next (
      if d.wantsMove = true ∧ s.pw.gateLow = false ∧ (d.posValid && decide (d.pos < d.aim.1)) = d.nextOpen then
        Drv.drive t j d.nextOpen (u.modDrive t j (fun d => { d with goal := some d.aim.1, overTravel := d.aim.2 }))
      else u.modDrive t j (fun d => { d with move := .still, nextOpen := !d.nextOpen }))) ∧
  (∀ (t : Nat) (s : State), s.tileOn t = true →
    exec (.driveBandSample t) s = .next (((s.tile t).band.load s).modTile t (fun x =>
      { x with band := x.band.sample ((s.tile t).band.load s) }))) ∧
  (∀ (b : BandUnit) (v : Rat), b.band ≤ 3 → (b.judge v).band ≤ 3 ∧ (b.judge v).held = false ∧
    ((b.judge v).band = b.band ∨ (b.judge v).band = b.band + 1 ∨ (b.judge v).band + 1 = b.band))

/-- Watchdogs, VGATE, analogue outputs and fans (R205, R211, R212, Table 9.4): an expired watchdog is a fallback, VGATE low
turns every gate off and its return restarts ON channels, an overload is raised and cleared, outputs ramp by at most RAMP, a
kick ends, pulses count, and each second gives a fan's speed, STALL clearing from STALL_RPM on. -/
def Obligations.OutputHappenings : Prop :=
  (∀ (t j e : Nat) (s : State), s.tileOn t = true → watchdogAt s t 1 j = some e →
    exec (.outputWatchdogExpiry t 1 j) s = .next (Drv.fallback t j
      ((untilElapsed e s).modDrive t j (fun d => { d with watchdog := true })))) ∧
  (∀ (t k e : Nat) (s : State), s.tileOn t = true → watchdogAt s t 2 k = some e →
    exec (.outputWatchdogExpiry t 2 k) s = .next ((untilElapsed e s).modAo t k Ao.fallen)) ∧
  (∀ (t k e : Nat) (s : State), s.tileOn t = true → watchdogAt s t 3 k = some e →
    ∃ u, u = untilElapsed e s ∧ exec (.outputWatchdogExpiry t 3 k) s = .next (u.modFan t k (fun f => f.fallen u.tb.elapsed))) ∧
  (∀ s : State, s.pw.gateLow = false →
    ∃ u, exec .vgateLow s = .next u ∧ u.pw.gateLow = true ∧
      ∀ t j, t < 4 → j < 24 → s.tileOn t = true → ((u.tile t).drive j).gate = .off ∧
        ((u.tile t).drive j).state = ((s.tile t).drive j).state) ∧
  (∀ s : State, s.pw.gateLow = true →
    ∃ u, exec .vgateRecover s = .next u ∧ u.pw = { s.pw with gateLow := false } ∧
      ∀ t j, t < 4 → j < 24 → s.tileOn t = true → (((s.tile t).drive j).state = .on →
        ((u.tile t).drive j).state = .on ∧ ((u.tile t).drive j).phase = 0 ∧ ((u.tile t).drive j).gate = .drive ∧
        ((u.tile t).drive j).starts = ((s.tile t).drive j).starts + 1)) ∧
  (∀ (t k : Nat) (s u : State), s.tileOn t = true → ((s.tile t).ao k).overload = false →
    u = s.modAo t k (fun a => { a with overload := true }) →
    exec (.aoOverload t k) s = .next (driveFault t 1 2 k (aoStat u t k) u)) ∧
  (∀ (t k : Nat) (s : State), s.tileOn t = true →
    exec (.aoOverloadClear t k) s = .next (s.modAo t k (fun a => { a with overload := false }))) ∧
  (∀ (t k : Nat) (s : State), s.tileOn t = true → ((s.tile t).ao k).code ≠ ((s.tile t).ao k).target →
    exec (.aoRampStep t k) s = .next ((untilElapsed ((s.tb.elapsed / 1000000 + 1) * 1000000) s).modAo t k (fun a =>
      { a with code := if a.ramp = 0 then a.target else rampStep a.code a.target a.ramp }))) ∧
  (∀ c g r : Nat, (c < g → rampStep c g r = min g (c + r)) ∧ (g ≤ c → rampStep c g r = max g (c - r)) ∧ rampStep c c r = c) ∧
  (∀ (t k : Nat) (f : Fan) (s : State), s.tileOn t = true → (s.tile t).fan k = f → f.kicking = true →
    exec (.fanKickEnd t k) s = .next ((untilElapsed (f.kickAt + f.kick * 100000000) s).modFan t k (fun f =>
      { f with kicking := false, duty := f.dutyOf f.demand }))) ∧
  (∀ (t k : Nat) (s : State), s.tileOn t = true →
    exec (.fanTachEdge t k) s = .next (s.modFan t k (fun f => { f with pulses := f.pulses + 1 }))) ∧
  (∀ (t : Nat) (s : State), s.tileOn t = true → t < 4 →
    ∃ u, exec (.fanSpeedUpdate t) s = .next u ∧ ∀ k, k < 4 → ((u.tile t).fan k).pulses = 0 ∧
      ((u.tile t).fan k).rpm = min (2 ^ 32 - 1) (60 * ((s.tile t).fan k).pulses / ((s.tile t).fan k).ppr) ∧
      (((s.tile t).fan k).stallRpm ≤ ((u.tile t).fan k).rpm → ((u.tile t).fan k).stall = false))

/-! ## The building bus -/

namespace Sys2Proof.Machine.Case

/-- CONTROLLER names a controller of a powered tile. -/
def busOk (pk : Packet) (t : State) : Bool := decide (pk.u8 8 < 64) && t.tileOn (pk.u8 8 / 16)

/-- The sender holds a right on its group. -/
def busRight (right : Nat) (pk : Packet) (t : State) : Bool := busOk pk t && decide (right ≤ rightOn t pk.ctx (t.bus (pk.u8 8)).group)

/-- BUS_CONFIG with fields and timing in range (R219). -/
def busConfig : Case where
  spec := specBusConfig
  pre pk t := busOk pk t && !busFieldsBad (pk.u32 16) (pk.u32 20) (pk.u32 24) (pk.u32 28) (pk.bytes 32 8)
    && !timingBad (pk.u32 20) (pk.u32 24)
  ends pk _ t := .ok 0 (Bus.configure (pk.u8 8) (pk.f32 16) (pk.f32 20) (pk.f32 24) (pk.f32 28) (pk.bytes 32 8) t)

/-- BUS_STATUS (R238): with CLEAR the causes go. -/
def busStatus : Case where
  spec := specBusStatus
  pre pk t := busRight 1 pk t
  ends pk _ t :=
    let b := t.bus (pk.u8 8)
    .ok (result [(5, 4, b.stat), (9, 4, b.cause.toNat), (13, 4, b.txok.toNat), (17, 4, b.rxok.toNat), (21, 4, b.drop.toNat)])
      (if pk.u8 9 = 1 then t.modBus (pk.u8 8) (fun b => { b with cause := 0 }) else t)

/-- BUS_SEND of a message that R220 takes, on a controller in MODE NORMAL with a buffer free (R220): PENDING, the frame
waits behind the others. -/
def busSend : Case where
  spec := specBusSend
  pre pk t :=
    let b := t.bus (pk.u8 8)
    busRight 2 pk t && (sendFault b pk).isNone && b.fc != .busOff && b.fc != .recovering && b.mode == 1 && !b.retired
      && !b.stopped && decide (b.hostPending < 56)
  ends pk k t :=
    .pend (Bus.enqueue (pk.u8 8) {
      key := some k, link := none, ctx := pk.ctx, fdf := sendBit pk 1, brs := sendBit pk 2, ide := sendBit pk 0
      id := sendId (t.bus (pk.u8 8)) pk, data := sendData pk t, attempts := 0, ackErrors := 0, onBus := false }
      (Bus.localWake (pk.u8 8) t))

/-- BUS_CANCEL of a message whose start-of-frame has not been driven (R224): it completes with OUTCOME 1. -/
def busCancel (f : TxBuf) : Case where
  spec := specBusCancel
  pre pk t := busRight 2 pk t && (pk.owner || f.ctx == pk.ctx) && !f.onBus
    && (t.bus (pk.u8 8)).tx.find? (fun f => match f.key with
      | some k => k.q == pk.u16 10 && k.tag == pk.u16 12
      | none => false) == some f
  ends pk _ t := .ok 0 (Bus.endSend f St.ok 1 (Bus.modTx (pk.u8 8) (removeFrame f) t))

/-- BUS_RECOVER in bus-off (R222): PENDING, the controller recovers. -/
def busRecover : Case where
  spec := specBusRecover
  pre pk t := busOk pk t && (t.bus (pk.u8 8)).fc == .busOff
  ends pk k t := .pend (t.modBus (pk.u8 8) (fun b => { b with fc := .recovering, recover := some k }))

/-- BUS_FILTER (R221). -/
def busFilter : Case where
  spec := specBusFilter
  pre pk t := busOk pk t && decide (pk.u8 9 < 16)
  ends pk _ t := .ok 0 (t.modBus (pk.u8 8) (fun b => { b with filters := vset b.filters (pk.u8 9) {
    enable := (pk.u8 10).testBit 0, ide := (pk.u8 10).testBit 1, mtch := pk.f32 12, mask := pk.f32 16 } }))

/-- The ring that BUS_RXRING gives. -/
def rxRing (pk : Packet) : Ring where
  format := 0
  log2Size := pk.u8 9
  space := spaceOf (pk.u8 10)
  base := BitVec.ofNat 64 (pk.le 16 8)
  stateAddr := BitVec.ofNat 64 (pk.le 24 8)
  notify := pk.u32 32
  total := 0

/-- BUS_RXRING of a ring that fits (R221). -/
def busRxring : Case where
  spec := specBusRxring
  pre pk t := busOk pk t && decide (6 ≤ pk.u8 9 ∧ pk.u8 9 ≤ 16) && pk.le 24 8 % 8 == 0 && ringFits (rxRing pk) 80
  ends pk _ t := .ok 0 (t.modBus (pk.u8 8) (fun b => { b with ring := some (rxRing pk) }))

/-- BUS_NODE that registers a node (R230): it waits for its beacon. -/
def busNode : Case where
  spec := specBusNode
  pre pk t := busOk pk t && decide (pk.u8 9 < 64) && pk.u8 10 == 0 && decide (pk.u8 22 < 4)
    && (pk.u8 23 == 2 || (pk.u8 23 == 1 && pk.u8 22 == 0))
  ends pk _ t := .ok 0 (t.modNode (pk.u8 8) (pk.u8 9) (fun _ => {
    state := .waiting, serial := BitVec.ofNat 48 (pk.le 16 6), epoch := BitVec.ofNat 2 (pk.u8 22), version := pk.u8 23
    lastBeacon := t.tb.mono }))

/-- BUS_NODE that frees an entry. -/
def busNodeFree : Case where
  spec := specBusNode
  pre pk t := busOk pk t && decide (pk.u8 9 < 64) && pk.u8 10 == 1
  ends pk _ t := .ok 0 (t.modNode (pk.u8 8) (pk.u8 9) (fun _ => {}))

/-- BUS_NODE_READ (R230). -/
def busNodeRead : Case where
  spec := specBusNodeRead
  pre pk t := busRight 1 pk t && decide (pk.u8 9 < 64)
  ends pk _ t :=
    let e := (t.bus (pk.u8 8)).node (pk.u8 9)
    .ok (result [(5, 1, e.state.code), (6, 1, e.epoch.toNat), (7, 1, e.version), (8, 6, e.serial.toNat),
      (14, 4, e.afterimages.toNat), (18, 4, if e.state = .free then 0 else (t.tb.mono - e.lastBeacon) / 1000000000)]) t

/-- BUS_ADOPT by a serial that no entry holds (R232, R234): ADOPT is sent with the next EPOCH, which stays 0 in an entry
of VERSION 1. -/
def busAdopt (epoch : BitVec 2) : Case where
  spec := specBusAdopt
  pre pk t :=
    let b := t.bus (pk.u8 8)
    let e := b.node (pk.u8 9)
    busOk pk t && decide (pk.u8 9 < 64) && e.state != .free && epoch == (if e.version = 2 then e.epoch + 1 else e.epoch)
      && b.nodes.toList.all (fun x => x.state == .free || x.serial != BitVec.ofNat 48 (pk.le 16 6))
  ends pk _ t :=
    let e := (t.bus (pk.u8 8)).node (pk.u8 9)
    .ok (result [(5, 1, epoch.toNat)]) ((Bus.send (pk.u8 8) 6 0xFF none (leBytes 1 (pk.u8 9) ++ leBytes 1 epoch.toNat
      ++ leBytes 6 (BitVec.ofNat 48 (pk.le 16 6)).toNat ++ leBytes 6 e.serial.toNat) t).modNode (pk.u8 8) (pk.u8 9) (fun e =>
        { e with epoch := epoch, serial := BitVec.ofNat 48 (pk.le 16 6), state := .waiting, lastBeacon := t.tb.mono }))

/-- BUS_RETIRE of a serial that neither the chip nor a node holds (R233): RETIRE is sent. -/
def busRetire : Case where
  spec := specBusRetire
  pre pk t := busOk pk t && !(t.bus (pk.u8 8)).liveSerial (BitVec.ofNat 48 (pk.le 16 6))
  ends pk _ t := .ok 0 (Bus.send (pk.u8 8) 7 0xFF none (leBytes 6 (BitVec.ofNat 48 (pk.le 16 6)).toNat) t)

/-- BUS_LINK of a sound value point to an object of a node, fewer than 256 links being held (R229). -/
def busLink : Case where
  spec := specBusLink
  pre pk t := busOk pk t && pk.u8 10 == 0 && decide (pk.u8 11 < 64) && decide (1 ≤ pk.u8 14 ∧ pk.u8 14 ≤ 16)
    && decide ((t.bus (pk.u8 8)).links.length < 256)
    && ((t.point (pk.point 16)).map (fun p => p.kind == 0 && pointSound t (pk.point 16) p)).getD false
  ends pk _ t := .ok 0 ((Bus.dropOwn (pk.u8 8) (fun f => f.link == some (pk.u8 9)) (Point.touch (pk.point 16) t)).modBus (pk.u8 8)
    (fun b => { b with
      links := aset b.links (pk.u8 9) {
        point := BitVec.ofNat 40 (pk.point 16), node := pk.u8 11, object := BitVec.ofNat 16 (pk.u16 12), level := pk.u8 14
        seq := 0, wait := none } }))

/-- BUS_LINK that frees an entry; its frame still waiting goes with it. -/
def busUnlink : Case where
  spec := specBusLink
  pre pk t := busOk pk t && pk.u8 10 == 1
  ends pk _ t := .ok 0 ((Bus.dropOwn (pk.u8 8) (fun f => f.link == some (pk.u8 9)) t).modBus (pk.u8 8) (fun b =>
    { b with links := aerase b.links (pk.u8 9) }))

/-- BUS_DUSK on a controller that is AWAKE (R235): DUSK_PROPOSE is sent, where it may send, with the next proposal. -/
def busDusk : Case where
  spec := specBusDusk
  pre pk t := busRight 2 pk t && (t.bus (pk.u8 8)).dusk == .awake
  ends pk k t := .pend (Bus.tryCommit (pk.u8 8) (Bus.toDusk (pk.u8 8) .proposing (Bus.send (pk.u8 8) 1 0xFF none
    (leBytes 2 ((t.bus (pk.u8 8)).proposal + 1).toNat)
    (t.modBus (pk.u8 8) (fun b => { b with proposal := b.proposal + 1, agreed := 0, duskKey := some k })))))

/-- BUS_DAWN (R235): in HOLD, DAWN is sent and the controller is AWAKE; ASLEEP, it wakes and drives the wake-up pattern. -/
def busDawn : Case where
  spec := specBusDawn
  pre pk t := busRight 2 pk t
  ends pk _ t := .ok 0 (match (t.bus (pk.u8 8)).dusk with
    | .hold => Bus.leaveHold (pk.u8 8) 0 t
    | .asleep => (Bus.awake (pk.u8 8) t).modBus (pk.u8 8) (fun b => { b with dawnDue := true }.pin)
    | .awake => t
    | .proposing => t
    | .agreed => t)

/-- A frame of class `c` from a source registered as its head says, or one that may register, addressed to the controller;
it completes a message of bytes `data`. -/
def messageFor (c k : Nat) (f : BusFrame) (data : List Byte) (t : State) : Bool :=
  let b := t.bus k
  let e := b.node (idSource f.id)
  f.ide && idClass f.id == c && classOk f.id && b.addressed (idDest f.id) && (Bus.assemble k f t).1 == some data
    && (if e.state = .free then b.autoRegister else !e.afterimage f)

/-- What the message leaves behind: its reassembly ended, and the frame copied to the host where SNOOP asks for it. -/
def assembled (k : Nat) (f : BusFrame) (t : State) : State :=
  if (t.bus k).snoop then Bus.deliver k f false 0xFF f.data (Bus.assemble k f t).2 else (Bus.assemble k f t).2

/-- The controller hears frames of the format; one that recovers still hears RETIRE. -/
def hears (k : Nat) (f : BusFrame) (t : State) : Bool :=
  t.tileOn (k / 16) && (!f.fdf || (t.bus k).fdEn)
    && ((t.bus k).receiving || ((t.bus k).fc == .recovering && f.ide && idClass f.id == 7))

/-- A frame heard has been counted, and the receive buffers have drained unless ring writes stall. -/
def heard (k : Nat) (f : BusFrame) (t : State) : State := Bus.received k (if f.stalled then t else Bus.drain k t)

end Sys2Proof.Machine.Case

/-- Commands on the building bus (R219 to R224, R229 to R235, R238) complete as said. -/
def Obligations.BusCommands : Prop :=
  Case.busConfig.Runs .busConfig ∧ Case.busStatus.Runs .busStatus ∧ Case.busSend.Runs .busSend ∧
  (∀ f, (Case.busCancel f).Runs .busCancel) ∧ Case.busRecover.Runs .busRecover ∧ Case.busFilter.Runs .busFilter ∧
  Case.busRxring.Runs .busRxring ∧ Case.busNode.Runs .busNode ∧ Case.busNodeFree.Runs .busNode ∧
  Case.busNodeRead.Runs .busNodeRead ∧ (∀ e, (Case.busAdopt e).Runs .busAdopt) ∧ Case.busRetire.Runs .busRetire ∧
  Case.busLink.Runs .busLink ∧ Case.busUnlink.Runs .busLink ∧ Case.busDusk.Runs .busDusk ∧ Case.busDawn.Runs .busDawn

/-- Frames on the building bus (R218, R220 to R223, R225 to R235): the lowest identifier goes first; an attempt ends
acknowledged, lost, in an acknowledge error or in another; errors count, and bus-off ends what waits; a frame that finds every
receive buffer occupied overruns, a remote frame is discarded; a base frame goes to the filters, a message of a host class to
the ring, and one of an engine class to its engine. -/
def Obligations.BusFrames : Prop :=
  (∀ (k : Nat) (f : TxBuf) (s : State), s.tileOn (k / 16) = true → (s.bus k).sending = true → (s.bus k).dawnDue = false →
    (s.bus k).foreign = false → (s.bus k).flying = none → firstFrame (s.bus k).tx = some f →
    exec (.transmitStart k) s = .next (Bus.modTx k (modFirst f (fun f => { f with onBus := true, attempts := f.attempts + 1 })) s)) ∧
  (∀ (l : List TxBuf) (f : TxBuf), firstFrame l = some f → f ∈ l ∧ ∀ g ∈ l, f.rank ≤ g.rank) ∧
  (∀ (k : Nat) (f : TxBuf) (how : TxEnd) (s w : State), s.tileOn (k / 16) = true → (s.bus k).flying = some f →
    w = Bus.attemptEnd k f how s →
    exec (.transmitComplete k how) s = .next (if (s.bus k).stopped ∧ how ≠ .lostArbitration then Bus.halt k w else w)) ∧
  (∀ (k : Nat) (f : TxBuf) (s : State),
    Bus.attemptEnd k f .acked s = Bus.heard k (Bus.endSend f St.ok 0 (Bus.confine k ((Bus.modTx k (removeFrame f) s).modBus k
      (fun b => { b with txok := b.txok + 1, tecCnt := b.tecCnt - 1 })))) ∧
    Bus.attemptEnd k f .lostArbitration s =
      (Bus.modTx k (modFirst f (fun f => { f with onBus := false })) s).modBus k (fun b => { b with foreign := true }) ∧
    Bus.attemptEnd k f .otherError s = Bus.confine k ((Bus.modTx k (modFirst f (fun f => { f with onBus := false })) s).modBus k
      (fun b => { b with tecCnt := b.tecCnt + 8 })) ∧
    Bus.attemptEnd k f .delayFail s = Bus.attemptEnd k f .otherError (s.modBus k (fun b => { b with tdcFail := true }))) ∧
  (∀ (k : Nat) (f : TxBuf) (s u v : State),
    u = s.modBus k (fun b => { b with tecCnt := if b.fc = .active then b.tecCnt + 8 else b.tecCnt }) →
    (f.ackErrors + 1 < (s.bus k).retryLimit → Bus.attemptEnd k f .ackError s =
      Bus.confine k (Bus.modTx k (modFirst f (fun g => { g with onBus := false, ackErrors := f.ackErrors + 1 })) u)) ∧
    ((s.bus k).retryLimit ≤ f.ackErrors + 1 → v = Bus.failSend f St.noAck (Bus.modTx k (removeFrame f) u) →
      Bus.attemptEnd k f .ackError s = Bus.confine k (if (s.bus k).alone then v
        else Bus.raise k 0 0 (v.modBus k (fun b => { b with alone := true }))))) ∧
  (∀ (k : Nat) (s : State), s.tileOn (k / 16) = true → (s.bus k).receiving = true →
    ∃ n, (n = 1 ∨ n = 8) ∧ exec (.receiveError k) s = .next
      (Bus.foreignEnd k (Bus.confine k (s.drawn.modBus k (fun b => { b with recCnt := b.recCnt + n }))))) ∧
  (∀ (k : Nat) (s : State), k < 64 → (s.bus k).fc = .active ∨ (s.bus k).fc = .passive → 255 < (s.bus k).tecCnt →
    ((Bus.confine k s).bus k).fc = .busOff ∧ ((Bus.confine k s).bus k).tx = [] ∧ ((Bus.confine k s).bus k).ownWait = [] ∧
      ((Bus.confine k s).bus k).cause.getLsbD 3 = true) ∧
  (∀ (k : Nat) (f : BusFrame) (s u : State), Case.hears k f s = true → u = Case.heard k f s →
    (f.ide && engineClass (idClass f.id)) = false →
    (128 ≤ (u.bus k).rx.length → exec (.hostFrame k f) s = .next (Bus.raise k 9 0 (Bus.dropFrame k (u.modBus k (fun b =>
      { b with rxOverrun := true }))))) ∧
    ((u.bus k).rx.length < 128 → f.rtr = true → exec (.hostFrame k f) s = .next (Bus.dropFrame k u)) ∧
    ((u.bus k).rx.length < 128 → f.rtr = false → f.ide = false → exec (.hostFrame k f) s = .next (
      match (u.bus k).filterFor f with
      | some i => Bus.deliver k f false i f.data u
      | none => u))) ∧
  (∀ (k c : Nat) (f : BusFrame) (data : List Byte) (s u v : State), Case.hears k f s = true → u = Case.heard k f s →
    (u.bus k).rx.length < 128 → f.rtr = false → hostClass c = true → engineClass c = false → Case.messageFor c k f data u = true →
    v = (Bus.assemble k f u).2 → exec (.hostFrame k f) s = .next (
      if idIndex f.id = 0 then Bus.deliver k f false 0xFF data v
      else if (u.bus k).snoop then
        Bus.deliver k f false 0xFF f.data (Bus.deliver k f true 0xFF data v)
      else Bus.deliver k f true 0xFF data v)) ∧
  (∀ (k : Nat) (f : BusFrame) (data : List Byte) (s u w : State), Case.hears k f s = true → u = Case.heard k f s →
    (u.bus k).rx.length < 128 → f.rtr = false → w = Case.assembled k f u →
    (Case.messageFor 0 k f data u = true → exec (.beacon k f) s = .next (Bus.onBeacon k (idSource f.id) f w)) ∧
    (Case.messageFor 1 k f data u = true →
      exec (.duskPropose k f) s = .next (Bus.onPropose k (idSource f.id) (ofLe (data.take 2)) w)) ∧
    (Case.messageFor 2 k f data u = true → exec (.duskAgree k f) s = .next (
      if (w.bus k).dusk = .proposing ∧ (w.bus k).proposal.toNat = ofLe (data.take 2) then
        Bus.tryCommit k (w.modBus k (fun b => { b with agreed := b.agreed ||| (1#64 <<< idSource f.id) })) else w)) ∧
    (Case.messageFor 3 k f data u = true → exec (.duskRefuse k f) s = .next (
      if (w.bus k).dusk = .proposing ∧ (w.bus k).proposal.toNat = ofLe (data.take 2) then Bus.refused k 1 w else w)) ∧
    (Case.messageFor 4 k f data u = true → exec (.duskCommit k f) s = .next (
      if (w.bus k).dusk = .agreed ∧ (w.bus k).proposal.toNat = ofLe (data.take 2) then Bus.toDusk k .hold w else w)) ∧
    (Case.messageFor 5 k f data u = true → exec (.dawn k f) s = .next (
      if (w.bus k).dusk = .hold then Bus.leaveHold k 1 w else w)) ∧
    (Case.messageFor 6 k f data u = true → exec (.adopt k f) s = .next (Bus.onAdopt k data w)) ∧
    (Case.messageFor 7 k f data u = true → exec (.retire k f) s = .next (
      if serialAt data 0 = Config.serial then Bus.retire k w else w)) ∧
    (Case.messageFor 8 k f data u = true → exec (.pointReport k f) s = .next (Bus.onReport k (idSource f.id) data w)) ∧
    (Case.messageFor 10 k f data u = true → exec (.pointWriteAck k f) s = .next (Bus.onAck k (idSource f.id) data w)))

/-- Times on the building bus (R222, R226, R229, R230, R235, R236): a recovery ends error-active with both counts 0, beacons
go out at each period, nodes unheard of are DEAD, messages and writes time out, dusk ends by agreement or in time, and a wake
reaches a controller asleep or a device in OFF. -/
def Obligations.BusTimes : Prop :=
  (∀ (k : Nat) (s : State), s.tileOn (k / 16) = true → (s.bus k).fc = .recovering → (s.bus k).stopped = false →
    exec (.busRecoveryDone k) s = .next (Cmd.finalOpt (s.bus k).recover St.ok 0 (Bus.raise k 4 0 (s.modBus k (fun b =>
      { b with fc := .active, tecCnt := 0, recCnt := 0, recover := none }))))) ∧
  (∀ (k : Nat) (s u : State), s.tileOn (k / 16) = true → (s.bus k).sending = true → u = untilElapsed (s.bus k).beaconAt s →
    exec (.beaconTimer k) s = .next (Bus.beacon k (u.modBus k (fun b => { b with
      beaconAt := if (s.bus k).beaconAt + (s.bus k).beaconNs ≤ u.tb.elapsed then u.tb.elapsed + b.beaconNs
        else (s.bus k).beaconAt + (s.bus k).beaconNs })))) ∧
  (∀ (k : Nat) (s : State), s.tileOn (k / 16) = true → (s.bus k).stopped = false →
    exec (.nodeCheck k) s = .next (Bus.tryCommit k ((List.range 64).foldl (fun s n => Node.check k n s) s))) ∧
  (∀ (k n : Nat) (s : State), k < 64 → n < 64 → ((s.bus k).node n).state = .alive → ((s.bus k).node n).v1Seen = none →
    ((s.bus k).node n).lastBeacon + (s.bus k).deadlineNs < s.tb.mono →
    (((Node.check k n s).bus k).node n).state = .dead ∧ ((Node.check k n s).bus k).cause.getLsbD 5 = true) ∧
  (∀ (k : Nat) (r : Reasm) (s : State), (s.bus k).reasm.find? (fun r => !r.lost) = some r →
    exec (.fragmentTimeout k) s = .next (Bus.loseMessage k r.head (untilElapsed (r.lastAt + 100000001) s))) ∧
  (∀ (k i n t : Nat) (v : Word) (l m : BusLink) (s u : State), aget (s.bus k).links i = some l → l.wait = some (v, n, t) → n < 4 →
    u = untilElapsed (t + 100000000) s → m = { l with wait := some (v, n + 1, u.tb.elapsed) } →
    exec (.linkAckTimeout k i) s = .next (Bus.linkFrame k i m v (u.modBus k (fun b => { b with links := aset b.links i m })))) ∧
  (∀ (k i n t : Nat) (v : Word) (l : BusLink) (s : State), aget (s.bus k).links i = some l → l.wait = some (v, n, t) → 4 ≤ n →
    exec (.linkAckTimeout k i) s = .next (Bus.raise k 15 l.node ((untilElapsed (t + 100000000) s).modBus k (fun b =>
      { b with links := aset b.links i { l with wait := none } })))) ∧
  (∀ (k : Nat) (s : State), (s.bus k).dusk = .proposing → (s.bus k).stopped = false →
    exec (.duskProposeTimeout k) s = .next (Bus.refused k 2 (untilElapsed ((s.bus k).duskAt + 200000000) s))) ∧
  (∀ (k : Nat) (s : State), (s.bus k).dusk = .agreed → (s.bus k).stopped = false →
    exec (.duskAgreeTimeout k) s = .next (Bus.toDusk k .awake (untilElapsed ((s.bus k).duskAt + 400000000) s))) ∧
  (∀ (k : Nat) (s : State), (s.bus k).dusk = .hold → (s.bus k).stopped = false →
    exec (.duskHoldEnd k) s = .next (Bus.endDusk k 0 (Bus.raise k 10 0 ((Bus.toDusk k .asleep
      (untilElapsed ((s.bus k).duskAt + 100000000) s)).modBus k (fun b => { b with stb := true }))))) ∧
  (∀ (k : Nat) (s : State), (s.bus k).dawnDue = true → (s.bus k).stopped = false →
    exec (.dawnDelayEnd k) s = .next (Bus.send k 5 0xFF none (leBytes 1 0)
      ((untilElapsed ((s.bus k).duskAt + 1000000) s).modBus k (fun b => { b with dawnDue := false }.pin)))) ∧
  (∀ (k : Nat) (s : State), s.live = true → s.tileOn (k / 16) = true → (s.bus k).stopped = false → (s.bus k).dusk = .asleep →
    exec (.busWake k) s = .next (Bus.raise k 13 0 (Bus.awake k s))) ∧
  (∀ (k : Nat) (s : State), s.live = true → s.tileOn (k / 16) = true → (s.bus k).stopped = true → (s.bus k).wakeEn = true →
    exec (.busWake k) s = .next (Power.wake wakeBus k (Bus.raise k 13 0 s))) ∧
  (∀ (k : Nat) (s : State), s.pw.boot = .off → s.pw.aonBus.getLsbD k = true → s.pw.pwrEn = false →
    exec (.busWake k) s = .next { s with pw := { s.pw with
      pwrEn := true, lastWake := wakeBus + 1, wakeReport := some (wakeBus, k) } })

/-! ## Federation -/

namespace Sys2Proof.Machine.Case

/-- FED_IDENTITY in range, the CHIP as it is or nothing bound to it (R241, R243): PENDING, the commit queued. -/
def fedIdentity : Case where
  spec := specFedIdentity
  pre pk t := decide (pk.u16 8 < 10240) && decide (pk.u8 10 < 64) && decide (pk.u8 11 < 128)
    && (pk.u16 8 == t.fed.chip || !fedBusy t)
    && !bpRefuses t (.identity { chip := pk.u16 8, building := pk.u8 10, cluster := pk.u8 11 })
  ends pk k t := .pend (Nv.enqueue (some k) pk.ctx (.identity { chip := pk.u16 8, building := pk.u8 10, cluster := pk.u8 11 }) t)

/-- LINK, OP and MAXVER in range, and an identity where OP enables (R246). -/
def fedLinkOk (op : Nat) (pk : Packet) (t : State) : Bool :=
  decide (pk.u8 8 < 8) && pk.u8 9 == op && decide (1 ≤ pk.u8 10 ∧ pk.u8 10 ≤ 2) && (op != 1 || t.fed.committed)

/-- FED_LINK that enables a disabled link (R246): it trains. -/
def fedLinkOn : Case where
  spec := specFedLink
  pre pk t := fedLinkOk 1 pk t && !glowing t && !(t.fed.link (pk.u8 8)).enable
  ends pk _ t := .ok 0 (t.modLink (pk.u8 8) (fun k => { k with
    enable := true, maxver := pk.u8 10, state := .training, version := 0, train := k.train + 1, failedAt := t.tb.elapsed }))

/-- FED_LINK that enables a link in GLOW: it trains on return (R259). -/
def fedLinkOnGlow : Case where
  spec := specFedLink
  pre pk t := fedLinkOk 1 pk t && glowing t
  ends pk _ t := .ok 0 (t.modLink (pk.u8 8) (fun k => { k with enable := true, maxver := pk.u8 10 }))

/-- FED_LINK that disables a link. -/
def fedLinkOff : Case where
  spec := specFedLink
  pre pk t := fedLinkOk 0 pk t
  ends pk _ t := .ok 0 (Link.disable (pk.u8 8) (t.modLink (pk.u8 8) (fun k => { k with maxver := pk.u8 10 })))

/-- FED_LINK that retrains an enabled link. -/
def fedLinkRetrain : Case where
  spec := specFedLink
  pre pk t := fedLinkOk 2 pk t && !glowing t && (t.fed.link (pk.u8 8)).enable
  ends pk _ t := .ok 0 (Link.leave (pk.u8 8) (Link.retrain (pk.u8 8))
    (t.modLink (pk.u8 8) (fun k => { k with maxver := pk.u8 10 })))

/-- FED_LINK of an enabled link with OP 1, or with OP 2 of one that is disabled or in electrical idle: MAXVER alone. -/
def fedLinkMaxver (op : Nat) : Case where
  spec := specFedLink
  pre pk t := fedLinkOk op pk t && ((op == 1 && (t.fed.link (pk.u8 8)).enable)
    || (op == 2 && (glowing t || !(t.fed.link (pk.u8 8)).enable)))
  ends pk _ t := .ok 0 (t.modLink (pk.u8 8) (fun k => { k with maxver := pk.u8 10 }))

/-- FED_NET with an identity (R251, R252). -/
def fedNet : Case where
  spec := specFedNet
  pre pk t := decide (1 ≤ pk.u8 40 ∧ pk.u8 40 ≤ 128) && decide (1 ≤ pk.u16 44 ∧ pk.u16 44 ≤ 4094) && t.fed.committed
  ends pk _ t := .ok 0 { t with fed := { t.fed with
    amz := true, announcedAt := if t.fed.amz then t.fed.announcedAt else t.tb.elapsed
    addr := BitVec.ofNat 128 (pk.le 8 16), mcast := BitVec.ofNat 128 (pk.le 24 16), pfx := pk.u8 40, vlanEn := pk.u8 41 == 1
    amzPort := pk.u16 42, vlan := pk.u16 44 } }

/-- FED_PTP in range (R257): the source of the time base is chosen and the servo starts anew. -/
def fedPtp : Case where
  spec := specFedPtp
  pre pk _ := decide (pk.u8 8 ≤ 1) && decide (pk.u8 9 < 128) && decide (-4 ≤ signedOf 8 (pk.u8 13) ∧ signedOf 8 (pk.u8 13) ≤ 1)
  ends pk _ t := .ok 0 { t with
    tb := { t.tb with source := if pk.u8 8 = 1 then .ptp else .host }
    fed := { t.fed with
      ptpDomain := pk.u8 9, masterOk := pk.u8 10 == 1, prio1 := BitVec.ofNat 8 (pk.u8 11), prio2 := BitVec.ofNat 8 (pk.u8 12)
      logSync := signedOf 8 (pk.u8 13), asymNs := signedOf 16 (pk.u16 14), ptpLocked := false, ptpGood := 0, holdover := false
      ptpMet := false, ptpForeign := false, ptpReq := none, ptpMs := 0, ptpDelay := 0, ptpResp := none
      syncAt := t.tb.elapsed } }

/-- FED_EXPORT (R253): entries of groups no longer exported are withdrawn. -/
def fedExport : Case where
  spec := specFedExport
  pre pk _ := pk.u16 8 == 0 || decide (10 ≤ pk.u16 8 ∧ pk.u16 8 ≤ 600)
  ends pk _ t := .ok 0 (Fed.withdrawAll { t with fed := { t.fed with
    sweepS := if pk.u16 8 = 0 then 60 else pk.u16 8, exportMask := BitVec.ofNat 256 (pk.le 16 32) } })

/-- FED_MIRROR of a point of another chip that is not here yet (R254): PENDING, SUBSCRIBE is queued. -/
def fedMirror : Case where
  spec := specFedMirror
  pre pk t := decide (pk.point 8 % 2 ^ 24 < 5242880) && decide (10 ≤ pk.u16 16 ∧ pk.u16 16 ≤ 3600) && fNonNeg (pk.f32 20)
    && chipOf (pk.point 8) != t.fed.chip && decide (chipOf (pk.point 8) < 10240) && (t.point (pk.point 8)).isNone
    && !ahas t.fed.reserved (pk.point 8) && (pk.u8 14 != 1 || decide (pinCount t < 65536)) && decide (t.pts.recs.length + t.fed.reserved.length < 5242880)
    && t.fed.committed
  ends pk k t := .pend (Fed.queue (chipOf (pk.point 8)) (.subscribe (BitVec.ofNat 40 (pk.point 8)))
    { t with fed := { t.fed with reserved := aset t.fed.reserved (pk.point 8) {
      key := k, group := BitVec.ofNat 8 (pk.u8 13), pin := pk.u8 14 == 1, staleS := pk.u16 16, cov := pk.f32 20
      deadline := t.tb.elapsed + 30000000000 } } })

/-- FED_UNMIRROR of a reflection that nothing binds (R261). -/
def fedUnmirror (p : Point) : Case where
  spec := specFedUnmirror
  pre pk t := pointIdOk (pk.point 8) && chipOf (pk.point 8) != t.fed.chip && t.point (pk.point 8) == some p
    && pointSound t (pk.point 8) p && p.reflection && !pointBound t (pk.point 8)
  ends pk _ t := .ok 0 (Point.remove (pk.point 8) p (Fed.queue (chipOf (pk.point 8)) (.cancel (BitVec.ofNat 40 (pk.point 8)))
    (Point.load (pk.point 8) p t).2))

/-- FED_STATUS (Table 11.10). -/
def fedStatus : Case where
  spec := specFedStatus
  pre _ _ := true
  ends _ _ t :=
    let f := t.fed
    .ok (result [(5, 2, f.chip), (7, 1, f.building), (8, 1, f.cluster),
      (9, 1, bit f.isolated + 2 * bit f.ptpLocked + 4 * bit f.holdover + 8 * bit f.en1), (10, 4, linkStates t),
      (14, 2, (f.peers.filter (fun e => e.2.alive)).length), (16, 4, reflectionCount t), (20, 4, f.subs.length),
      (24, 4, toBits 32 f.ptpOffset)]) t

/-- The code of a path. -/
def pathCode : Path → Nat
  | .none => 0
  | .lomuz _ => 1
  | .ether => 2

/-- FED_PEER_READ (R249, Table 11.10): its path, its link and what is known of the chip. -/
def fedPeerRead : Case where
  spec := specFedPeerRead
  pre pk _ := decide (pk.u16 8 < 10240)
  ends pk _ t :=
    let head := result [(6, 1, pathCode (t.fed.path (pk.u16 8))), (7, 1, (t.fed.linkTo (pk.u16 8)).getD 0),
      (22, 4, (reflectionsOf t (pk.u16 8)).length)]
    .ok (match aget t.fed.peers (pk.u16 8) with
      | some p => head + result [(5, 1, p.code), (8, 6, p.serial.toNat), (14, 4, p.boot.toNat),
          (18, 4, (t.tb.elapsed - p.recAt) / 1000000000)]
      | none => head) t

end Sys2Proof.Machine.Case

/-- Commands of federation (R241 to R246, R249, R251 to R254, R257, R259, R261) complete as said. -/
def Obligations.FedCommands : Prop :=
  Case.fedIdentity.Runs .fedIdentity ∧ Case.fedLinkOn.Runs .fedLink ∧ Case.fedLinkOnGlow.Runs .fedLink ∧
  Case.fedLinkOff.Runs .fedLink ∧ Case.fedLinkRetrain.Runs .fedLink ∧ (∀ n, (Case.fedLinkMaxver n).Runs .fedLink) ∧
  Case.fedNet.Runs .fedNet ∧ Case.fedPtp.Runs .fedPtp ∧ Case.fedExport.Runs .fedExport ∧ Case.fedMirror.Runs .fedMirror ∧
  (∀ p, (Case.fedUnmirror p).Runs .fedUnmirror) ∧ Case.fedStatus.Runs .fedStatus ∧ Case.fedPeerRead.Runs .fedPeerRead

/-- Mirror records (R250, R253 to R256): a whole record from a chip with a path is taken, and one with a bad CRC counted; an
UPDATE not older than the reflection, or of a new BOOT_ID, replaces its value; an exported point is granted and another one
refused; a GRANT makes the reflection that a FED_MIRROR reserved, a REFUSE ends either; CANCEL ends a subscription, a sweep
queues its points, and silence makes a reflection STALE. -/
def Obligations.MirrorRecords : Prop :=
  (∀ (via : Via) (r : MirrorRec) (chip : Nat) (s a u v : State) (p : Point) (m : Mirror), fedRuns s = true →
    a = Fed.arrive via s → senderOf a via = some chip → u = Fed.heardFrom via chip a → recordOk 1 r = true →
    chipOf r.point.toNat = chip → u.point r.point.toNat = some p → p.mirror = some m → m.ended = false →
    r.boot ≠ m.boot ∨ p.timestamp.toNat ≤ r.timestamp.toNat → Point.load r.point.toNat p u = (true, v) →
    exec (.update via r) s = .next (Point.store r.point.toNat p.status (p.accept m r u.tb.elapsed)
      (Point.touch r.point.toNat (Fed.countRec via true v)))) ∧
  (∀ (p : Point) (m : Mirror) (r : MirrorRec) (now : Nat), (p.accept m r now).value = r.value ∧
    (p.accept m r now).timestamp = r.timestamp ∧ (p.accept m r now).status.getLsbD stStale = false ∧
    (∀ n ∈ copiedBits, (p.accept m r now).status.getLsbD n = r.status.getLsbD n) ∧
    (∀ n, n ∉ copiedBits → n ≠ stStale → (p.accept m r now).status.getLsbD n = p.status.getLsbD n)) ∧
  (∀ (via : Via) (r : MirrorRec) (chip : Nat) (s a u : State), fedRuns s = true → a = Fed.arrive via s →
    senderOf a via = some chip → u = Fed.countRec via false (Fed.heardFrom via chip a) →
    (recordOk 1 r = false → exec (.update via r) s = .next u) ∧ (recordOk 2 r = false → exec (.subscribe via r) s = .next u) ∧
    (recordOk 3 r = false → exec (.grant via r) s = .next u) ∧ (recordOk 4 r = false → exec (.refuse via r) s = .next u) ∧
    (recordOk 5 r = false → exec (.cancel via r) s = .next u)) ∧
  (∀ (via : Via) (r : MirrorRec) (chip : Nat) (s a u : State), fedRuns s = true → a = Fed.arrive via s →
    senderOf a via = some chip → u = Point.check r.point.toNat (Fed.countRec via true (Fed.heardFrom via chip a)) →
    recordOk 2 r = true → u.fed.isolated = false →
    (Fed.judgeSubscribe u chip r.point.toNat = none → exec (.subscribe via r) s = .next (Fed.queue chip (.grant r.point)
      { u with fed := { u.fed with
        subs := if u.fed.subs.contains (chip, r.point.toNat) then u.fed.subs else u.fed.subs ++ [(chip, r.point.toNat)]
        sweptAt := if ahas u.fed.sweptAt chip then u.fed.sweptAt else aset u.fed.sweptAt chip u.tb.elapsed } })) ∧
    (∀ x, Fed.judgeSubscribe u chip r.point.toNat = some x →
      exec (.subscribe via r) s = .next (Fed.queue chip (.refuse r.point x) u))) ∧
  (∀ (via : Via) (r : MirrorRec) (chip : Nat) (s a u : State) (v : Reserve), fedRuns s = true → a = Fed.arrive via s →
    senderOf a via = some chip → u = Fed.heardFrom via chip a → recordOk 3 r = true → chipOf r.point.toNat = chip →
    aget u.fed.reserved r.point.toNat = some v →
    ∃ w, w = Fed.countRec via true { u with fed := { u.fed with reserved := aerase u.fed.reserved r.point.toNat } } ∧
      exec (.grant via r) s = .next (Cmd.final v.key St.ok 0 (Point.touch r.point.toNat
        (w.putPoint r.point.toNat (newReflection v r w.tb.elapsed).seal)))) ∧
  (∀ (via : Via) (r : MirrorRec) (chip : Nat) (s a u : State), fedRuns s = true → a = Fed.arrive via s →
    senderOf a via = some chip → u = Fed.countRec via true (Fed.heardFrom via chip a) → recordOk 4 r = true →
    chipOf r.point.toNat = chip →
    (∀ v, aget u.fed.reserved r.point.toNat = some v → exec (.refuse via r) s = .next (Cmd.finalBad v.key r.status.toNat
      { u with fed := { u.fed with reserved := aerase u.fed.reserved r.point.toNat } })) ∧
    (∀ (p : Point) (m : Mirror) (w : State), aget u.fed.reserved r.point.toNat = none → u.point r.point.toNat = some p →
      p.mirror = some m → m.ended = false → Point.load r.point.toNat p u = (true, w) →
      exec (.refuse via r) s = .next (Ev.raise 202 0 (packLe [(5, r.point.toNat), (1, r.status.toNat)])
        (Point.store r.point.toNat p.status { p with
          mirror := some { m with ended := true }, status := putBit (putBit p.status stFault true) stStale true } w)))) ∧
  (∀ (via : Via) (r : MirrorRec) (chip : Nat) (s a u : State), fedRuns s = true → a = Fed.arrive via s →
    senderOf a via = some chip → u = Fed.countRec via true (Fed.heardFrom via chip a) → recordOk 5 r = true →
    exec (.cancel via r) s = .next { u with fed := { u.fed with subs := u.fed.subs.filter (fun x => x != (chip, r.point.toNat)) } }) ∧
  (∀ (chip : Nat) (s : State), fedRuns s = true → s.fed.subs.any (fun x => x.1 == chip) = true →
    exec (.sweep chip) s = .next (Fed.sweep chip
      (untilElapsed ((aget s.fed.sweptAt chip).getD 0 + s.fed.sweepS * 1000000000) s))) ∧
  (∀ (id : Nat) (v : Reserve) (s u : State), aget s.fed.reserved id = some v → u = untilElapsed v.deadline s →
    exec (.mirrorTimeout id) s = .next (Cmd.final v.key St.noAck 0 { u with fed := { u.fed with reserved := aerase u.fed.reserved id } })) ∧
  (∀ (id : Nat) (p : Point) (m : Mirror) (s : State), s.point id = some p → p.mirror = some m →
    exec (.reflectionStale id) s = .next (Point.setStale id (untilElapsed (m.acceptedAt + m.staleS * 1000000000) s)))

/-- Links, peers, ports and PTP (R244, R246 to R252, R257, R258, R298): a trained link carries its peer's path, one that trains
with this chip's own CHIP under another serial raises FED_CONFLICT first, and the higher serial is ISOLATED; a lost one trains
again, a whole frame gives its CREDIT and a broken one takes the link down, a hold ends after 400 us; a valid
announcement makes a peer ALIVE, an invalid one is counted, and 15 s of silence make a peer LOST; traffic moves between the
ports; Sync of a master that this clock does not beat corrects the time base within the servo's range, and ten intervals
without it are HOLDOVER. -/
def Obligations.LinksPeersAndPtp : Prop :=
  (∀ (l : Nat) (p : TrainInfo) (s a u : State), fedRuns s = true → (s.fed.link l).enable = true → (s.fed.link l).state = .training →
    a = (if p.chip = s.fed.chip ∧ p.serial ≠ Config.serial then Fed.conflict p.chip p.serial s else s) → Link.miswired a l p = false →
    u = Link.event l 0 p.chip (min (s.fed.link l).maxver p.maxver) (Fed.withPath p.chip (fun s =>
      (s.putPeer p.chip { (aget s.fed.peers p.chip).getD (newPeer s p.serial p.boot s.fed.building p.cluster) with
        serial := p.serial, boot := p.boot, cluster := p.cluster }).modLink l (fun k => { k with
          peerChip := p.chip, peerCluster := p.cluster, peerSerial := p.serial, state := .up
          version := min (s.fed.link l).maxver p.maxver, credit := 256, freed := 0 })) a) →
    exec (.linkTrainingDone l p) s = .next (Fed.noteBoot p.chip ((aget a.fed.peers p.chip).map (·.boot)) p.boot u)) ∧
  (∀ (l : Nat) (p : TrainInfo) (s a : State), fedRuns s = true → (s.fed.link l).enable = true → (s.fed.link l).state = .training →
    a = (if p.chip = s.fed.chip ∧ p.serial ≠ Config.serial then Fed.conflict p.chip p.serial s else s) → Link.miswired a l p = true →
    exec (.linkTrainingDone l p) s = .next (Link.event l 2 p.chip (min (s.fed.link l).maxver p.maxver) (a.modLink l (fun k =>
      { k with peerChip := p.chip, peerCluster := p.cluster, peerSerial := p.serial, state := .miswired, failedAt := a.tb.elapsed })))) ∧
  (∀ (chip : Nat) (serial : BitVec 48) (s : State), (vget (Fed.conflict chip serial s).ev.stat 200 {}).pending = true ∧
    ((Fed.conflict chip serial s).fed.isolated = true ↔ s.fed.isolated = true ∨ serial.toNat < Config.serial.toNat)) ∧
  (∀ (l : Nat) (s : State), fedRuns s = true → (s.fed.link l).enable = true →
    ((s.fed.link l).state = .training ∨ (s.fed.link l).state = .miswired) →
    exec (.linkRetry l) s = .next (Link.retrain l (untilElapsed ((s.fed.link l).failedAt + 1000000000) s))) ∧
  (∀ (l : Nat) (s : State), fedRuns s = true → (s.fed.link l).state = .up ∨ (s.fed.link l).state = .hold →
    exec (.linkDown l) s = .next (Link.leave l (Link.retrain l) (Link.event l 1 (s.fed.link l).peerChip (s.fed.link l).version s))) ∧
  (∀ (l : Nat) (s : State), fedRuns s = true → (s.fed.link l).state = .up →
    (∀ h : FrameHead, frameOk h = true → h.ftype = 0 ∨ h.ftype = 2 → exec (.lomuzFrame l h) s = .next (s.modLink l (fun k =>
      { k with credit := min 256 (k.credit + h.credit.toNat), rxLseq := h.lseq }))) ∧
    (∀ h : FrameHead, frameOk h = false → exec (.lomuzFrame l h) s =
      .next (Link.leave l (Link.retrain l) (Link.event l 1 (s.fed.link l).peerChip (s.fed.link l).version s))) ∧
    exec (.holdOrderedSet l) s = .next (s.modLink l (fun k => { k with state := .hold, holdAt := s.tb.elapsed }))) ∧
  (∀ (l : Nat) (s : State), fedRuns s = true → (s.fed.link l).state = .hold → calRunning s (calKey 4 l) = false →
    exec (.linkHoldEnd l) s = .next ((Cal.apply (calKey 4 l) (untilElapsed ((s.fed.link l).holdAt + 400000) s)).modLink l
      (fun k => { k with state := .up }))) ∧
  (∀ (h : AmzHeader) (s : State), fedRuns s = true → s.fed.amz = true →
    (headerOk h 1 s.fed = false →
      exec (.announce h) s = .next { s with fed := { s.fed with dgDropped := s.fed.dgDropped + 1 } }) ∧
    (headerOk h 1 s.fed = true → h.chip ≠ s.fed.chip →
      h.building ≠ s.fed.building ∨ (buildingPeers s h.chip).length < 1024 → exec (.announce h) s = .next (Fed.takePeer h s)) ∧
    (headerOk h 1 s.fed = true → h.chip = s.fed.chip → exec (.announce h) s = .next (if h.serial = Config.serial then s else
      Fed.conflict h.chip h.serial s))) ∧
  (∀ (p : Peer) (h : AmzHeader) (now : Nat), (p.heardHeader h now).alive = true ∧ (p.heardHeader h now).seenAt = now ∧
    (p.heardHeader h now).boot = h.boot) ∧
  (∀ s u : State, fedRuns s = true → s.fed.amz = true → u = untilElapsed (s.fed.announcedAt + 5000000000) s →
    exec .announceTimer s = .next { u with fed := { u.fed.sendAnnounce with announcedAt := u.tb.elapsed } }) ∧
  (∀ (chip : Nat) (p : Peer) (s : State), s.live = true → aget s.fed.peers chip = some p → p.alive = true →
    exec (.peerLost chip) s = .next (Fed.withPath chip (fun s => { s with fed := { s.fed with peers := amod s.fed.peers chip (fun p =>
      { p with alive := false }) } }) (untilElapsed (p.seenAt + 15000000000) s))) ∧
  (∀ s : State, s.live = true → s.fed.en0Link = true → s.fed.en1 = false →
    exec .enLinkLoss s = .next (Fed.etherChange (Ev.raise 205 0 1 { s with fed := { s.fed with en0Link := false, en1 := true } }))) ∧
  (∀ s : State, s.live = true → s.fed.en0Link = true → s.fed.en1 = true →
    exec .enLinkLoss s = .next { s with fed := { s.fed with en0Link := false } }) ∧
  (∀ s : State, s.live = true → s.fed.en0Link = false →
    exec .enLinkReturn s = .next { s with fed := { s.fed with en0Link := true, en0At := s.tb.elapsed } }) ∧
  (∀ s u : State, s.live = true → s.fed.en0Link = true → s.fed.en1 = true → u = untilElapsed (s.fed.en0At + 10000000000) s →
    exec .enReturn s = .next (Fed.etherChange (Ev.raise 205 0 0 { u with fed := { u.fed with en1 := false } }))) ∧
  (∀ s : State, fedRuns s = true →
    (∀ a, exec (.routerAdvertisement (.advertisement a)) s = .next { s with fed := { s.fed with router := some a } }) ∧
    exec (.routerAdvertisement .foreign) s = .next { s with fed := { s.fed with enDropped := s.fed.enDropped + 1 } }) ∧
  (∀ (d r : Nat) (s : State), fedRuns s = true → d = s.fed.ptpDomain →
    (ptpMaster s = true → exec (.routerAdvertisement (.delayReq d r)) s = .next { s with fed := { s.fed with
      ptpResp := some (r, ptpStampOf s.ns) } }) ∧
    (∀ sent, ptpRuns s = true → s.fed.ptpReq = some sent →
      exec (.routerAdvertisement (.delayResp d r)) s = .next { s with fed := { s.fed with
        ptpReq := none, ptpDelay := (s.fed.ptpMs + ((r : Int) - (sent : Int))) / 2 } })) ∧
  (∀ n : Nat, 64 ∣ ptpStampOf n ∧ ptpStampOf n ≤ 10 * n ∧ 10 * n < ptpStampOf n + 64) ∧
  (∀ (m : PtpSync) (ms o rate : Int) (s u v : State), ptpRuns s = true → ptpTakes s m = true →
    ms = (ptpStampOf s.ns : Int) - (m.origin : Int) → o = (ms - s.fed.ptpDelay) / 10 - s.fed.asymNs →
    u = Ptp.correct o rate { s with fed := { s.fed with ptpMs := ms } } →
    v = Ptp.judge o { u with fed := { u.fed with
      ptpMet := true, ptpForeign := true, ptpOffset := o, syncAt := u.tb.elapsed, holdover := false } } →
    exec (.sync m rate) s = .next { v with fed := { v.fed with
      ptpReq := some (ptpStampOf v.ns), ptpReqs := v.fed.ptpReqs + 1
      ptpMs := v.fed.ptpMs + 10 * ((v.ns : Int) - (s.ns : Int)) } }) ∧
  (∀ (m : PtpSync) (rate : Int) (s : State), ptpTakes s m = false → exec (.sync m rate) s = .next s) ∧
  (∀ r : Int, -500000 ≤ clampRate r ∧ clampRate r ≤ 500000 ∧ (-500000 ≤ r → r ≤ 500000 → clampRate r = r)) ∧
  (∀ s u : State, ptpRuns s = true → s.fed.holdover = false → u = untilElapsed (s.fed.syncAt + 10 * syncNs s.fed.logSync) s →
    exec .holdover s = .next (Ev.raise 204 0 (packLe [(4, u.tb.ratePpb.toNat)])
      { u with fed := { u.fed with holdover := true, ptpForeign := false, ptpLocked := false, ptpGood := 0 } }))

/-! ## Panel heads -/

namespace Sys2Proof.Machine.Case

/-- HEAD names a head of a powered tile, and the sender holds a right on its group. -/
def headOk (right : Nat) (pk : Packet) (t : State) : Bool :=
  tileOk pk t && decide (right ≤ rightOn t pk.ctx (t.head (pk.u8 8)).group)

/-- The configuration that PANEL_CONFIG would leave. -/
def panelNew (pk : Packet) (t : State) : Head :=
  { t.head (pk.u8 8) with cfg0 := pk.f32 16, cfg1 := pk.f32 20, cfg2 := pk.f32 24, cfg3 := pk.f32 28 }

/-- PANEL_CONFIG of a mode in range on a head that is OFF (R265, R270): in force, with new frame buffers. -/
def panelConfig : Case where
  spec := specPanelConfig
  pre pk t :=
    let x := panelNew pk t
    headOk 0 pk t && (t.head (pk.u8 8)).state == .off && field (pk.f32 20).toNat 7 0 == 0 && field (pk.f32 28).toNat 15 0 == 0
      && field (pk.f32 16).toNat 11 8 != 0 && (decide (x.crackPos < 32) || x.crackPos == 255) && modeOk x && buffersFit t (pk.u8 8) x
  ends pk _ t := .ok 0 (t.modHead (pk.u8 8) (fun y => { y with
    cfg0 := pk.f32 16, cfg1 := pk.f32 20, cfg2 := pk.f32 24, cfg3 := pk.f32 28, buffers := true, pixels := [] }))

/-- PANEL_POWER with OP on a head that has a mode, in a state. -/
def powerIn (op : Nat) (st : HeadState) (pk : Packet) (t : State) : Bool :=
  headOk 0 pk t && pk.u8 9 == op && (t.head (pk.u8 8)).state == st && (t.head (pk.u8 8)).buffers && (op == 0 || !t.pw.crit)

/-- The command waits at its head. -/
def powerWaits (pk : Packet) (k : Key) (t : State) : State := t.modHead (pk.u8 8) (fun x => { x with powerKey := some k })

/-- PANEL_POWER on from OFF or FAULT below T_CRIT (R273, R276): PENDING, the rails rise. -/
def panelOn : Case where
  spec := specPanelPower
  pre pk t := powerIn 1 .off pk t || powerIn 1 .fault pk t
  ends pk k t := .pend (Panel.powerOn (pk.u8 8) (powerWaits pk k t))

/-- PANEL_POWER on from SAFE (R277): PENDING, the sequence resumes with the rails that are up. -/
def panelResume : Case where
  spec := specPanelPower
  pre pk t := powerIn 1 .safe pk t
  ends pk k t := .pend (Panel.resume (pk.u8 8) (powerWaits pk k t))

/-- PANEL_POWER on of a lit head, or off of one that is OFF: done at once, the model's reading of R273 and R274, which say that
the command replies PENDING (log 32). -/
def panelDone (op : Nat) : Case where
  spec := specPanelPower
  pre pk t := (op == 1 && powerIn 1 .lit pk t && (t.head (pk.u8 8)).step == .none) || (op == 0 && powerIn 0 .off pk t)
  ends _ _ t := .ok 0 t

/-- PANEL_POWER off of a lit head (R274): PENDING, the black frame comes first. -/
def panelOff : Case where
  spec := specPanelPower
  pre pk t := powerIn 0 .lit pk t && (t.head (pk.u8 8)).step == .none
  ends pk k t := .pend (t.modHead (pk.u8 8) (fun x => { x with powerKey := some k, step := .black, stepAt := t.tb.elapsed }))

/-- PANEL_POWER off of a head that rises (Table 12.13): the command that waits ends with reason 4; of one that is CRACKED
(R279): PENDING, the rails fall. -/
def panelFall (cracked : Bool) : Case where
  spec := specPanelPower
  pre pk t := powerIn 0 (if cracked then .cracked else .rising) pk t
  ends pk k t := .pend (Panel.offNow (pk.u8 8) (powerWaits pk k (if cracked then t else Panel.endPowerBad (pk.u8 8) 4 t)))

/-- PANEL_UPLOAD of a rectangle of the mode from memory it may read (R269): PENDING. -/
def panelUpload : Case where
  spec := specPanelUpload
  pre pk t :=
    let x := t.head (pk.u8 8)
    headOk 2 pk t && decide (pk.u8 9 < 3) && x.buffers && decide (pk.u16 12 + pk.u16 16 ≤ x.hactive) && decide (pk.u16 14 + pk.u16 18 ≤ x.vactive)
      && pk.le 24 8 % 2 ^ 64 % 4 == 0
      && spanFits (spaceOf (pk.u8 10)) (BitVec.ofNat 64 (pk.le 24 8)).toNat
        (if pk.u16 18 = 0 then 0 else pk.u32 20 * (pk.u16 18 - 1) + 4 * pk.u16 16)
  ends pk k t := .pend (t.modHead (pk.u8 8) (fun x => { x with uploads := x.uploads ++ [uploadJob pk k] }))

/-- PANEL_FLIP (R269): PENDING; a flip still waiting ends with this one. -/
def panelFlip : Case where
  spec := specPanelFlip
  pre pk t := headOk 2 pk t && decide (pk.u8 9 < 3) && (t.head (pk.u8 8)).buffers
  ends pk k t := .pend (t.modHead (pk.u8 8) (fun x => { x with
    flip := some (pk.u8 9, k), flipped := x.flipped ++ (x.flip.map (·.2)).toList }))

/-- PANEL_GAMMA of a part in order whose entries rise (R271): the shadow bank alone. -/
def panelGamma : Case where
  spec := specPanelGamma
  pre pk t := headOk 0 pk t && decide (pk.u8 9 < 4) && decide (pk.u8 10 < 3) && decide (pk.u8 11 < 64)
    && (List.range 16).all (fun i => decide (gammaEntry pk i < 2 ^ 14))
    && partInOrder (t.head (pk.u8 8)) (pk.u8 9) (pk.u8 10) (pk.u8 11)
    && rising (partEntries (t.head (pk.u8 8)) pk (3 * pk.u8 9 + pk.u8 10) (pk.u8 11))
  ends pk _ t := .ok 0 (t.modHead (pk.u8 8) (fun x => { x with
    shadow := x.shadow.write pk (3 * pk.u8 9 + pk.u8 10) (pk.u8 11), gammaNext := some (pk.u8 9, pk.u8 10, pk.u8 11 + 1) }))

/-- PANEL_GAMMA of the last part, the IREF codes (R271). -/
def panelIref : Case where
  spec := specPanelGamma
  pre pk t := headOk 0 pk t && decide (pk.u8 9 < 4) && decide (pk.u8 10 < 3) && pk.u8 11 == 64
    && (List.range 16).all (fun i => decide (gammaEntry pk i < 2 ^ 14)) && pk.le 30 18 == 0
    && partInOrder (t.head (pk.u8 8)) (pk.u8 9) (pk.u8 10) 64
  ends pk _ t := .ok 0 (t.modHead (pk.u8 8) (fun x => { x with
    shadow := x.shadow.write pk (3 * pk.u8 9 + pk.u8 10) 64, gammaNext := none }))

/-- PANEL_GAMMA_COMMIT of a bank whose tables rise (R271): PENDING, the copy begins. -/
def panelGammaCommit : Case where
  spec := specPanelGammaCommit
  pre pk t := headOk 0 pk t && (t.head (pk.u8 8)).gammaJob.isNone
  ends pk k t := .pend (t.modHead (pk.u8 8) (fun x => { x with gammaJob := some (k, x.shadow, false) }))

/-- PANEL_BAND by the die or by a point of TYPE 0 (R272): the RESULT is the band shown. -/
def panelBand : Case where
  spec := specPanelBand
  pre pk t := headOk 0 pk t && decide (pk.u8 9 ≤ 1) && bandsOk (pk.f32 24) (pk.f32 28) (pk.f32 32)
    && (pk.u8 9 == 0 || ((Points.load [pk.point 16] t).1 && !bandPointBad (Points.load [pk.point 16] t).2 (pk.point 16)))
  ends pk _ t :=
    let u := if pk.u8 9 = 1 then (Points.load [pk.point 16] t).2 else t
    .ok (result [(5, 1, (u.head (pk.u8 8)).bandShown)]) (u.modHead (pk.u8 8) (fun x => { x with band := packetBand pk x.band }))

/-- PANEL_READ (R292). -/
def panelRead : Case where
  spec := specPanelRead
  pre pk t := headOk 1 pk t
  ends pk _ t :=
    let x := t.head (pk.u8 8)
    .ok (result [(5, 4, phStat t (pk.u8 8)), (9, 4, phTstat t (pk.u8 8)), (13, 4, x.frames.toNat), (17, 4, x.crackR.toNat),
      (21, 1, x.buf)]) t

/-- PANEL_CRACK_SCAN of a head with a crack loop, its tile's converters ready (R280): PENDING, the scan queued. -/
def panelCrackScan : Case where
  spec := specPanelCrackScan
  pre pk t := headOk 2 pk t && scanRanges (packetCrackScan pk (nextKey 0 pk t) (pk.u8 8) (t.head (pk.u8 8)).crackPos)
    && (t.head (pk.u8 8)).crackPos != 255 && (scanReady t (pk.u8 8)).isNone && decide (scanCount (t.tile (pk.u8 8)) < 4)
  ends pk k t := .pend (t.modTile (pk.u8 8) (fun x => { x with
    scans := x.scans ++ [packetCrackScan pk k (pk.u8 8) (t.head (pk.u8 8)).crackPos] }))

/-- GLOW_CONFIG of an area of the mode (R281): it waits for the next frame start. -/
def glowConfig : Case where
  spec := specGlowConfig
  pre pk t :=
    let x := t.head (pk.u8 8)
    headOk 2 pk t && x.buffers && pk.u16 14 % 2 == 0 && decide (pk.u16 14 ≤ 480) && decide (pk.u16 16 ≤ 160)
      && decide (pk.u16 10 + pk.u16 14 ≤ x.hactive) && decide (pk.u16 12 + pk.u16 16 ≤ x.vactive)
  ends pk _ t := .ok 0 (t.modHead (pk.u8 8) (fun x => { x with
    glowNew := some (pk.u8 9 == 1, pk.u16 10, pk.u16 12, pk.u16 14, pk.u16 16) }))

/-- GLOW_LOAD into a region it fits (R282): PENDING. -/
def glowLoad : Case where
  spec := specGlowLoad
  pre pk t := headOk 2 pk t && decide (pk.u8 9 < 3) && decide (pk.u32 12 + pk.u32 16 ≤ glowRegionSize (pk.u8 9))
    && spanFits (spaceOf (pk.u8 10)) (pk.le 24 8) (pk.u32 16)
  ends pk k t := .pend (t.modHead (pk.u8 8) (fun x => { x with loads := x.loads ++ [{
    key := k, buf := pk.u8 9, space := spaceOf (pk.u8 10), x := pk.u32 12, y := 0, w := pk.u32 16, h := 1, pitch := 0
    src := BitVec.ofNat 64 (pk.le 24 8) }] }))

/-- The record of the point that a widget would bind is loaded (R71, R283). -/
def widgetLoad (pk : Packet) (t : State) : Bool × State :=
  if (packetWidget pk).binds then Point.loadAt (packetWidget pk).point.toNat t else (true, t)

/-- GLOW_WIDGET that R283 takes: latched. -/
def glowWidget : Case where
  spec := specGlowWidget
  pre pk t := headOk 2 pk t && decide (pk.u8 9 < 16) && (judgeShape t (pk.u8 8) (packetWidget pk)).isNone && (widgetLoad pk t).1
    && (judgeWidget (widgetLoad pk t).2 pk.ctx (pk.u8 8) (packetWidget pk)).isNone
  ends pk _ t := .ok 0 ((widgetLoad pk t).2.modHead (pk.u8 8) (fun x => { x with
    widgets := vset x.widgets (pk.u8 9) ((packetWidget pk).latched (widgetLoad pk t).2) }))

/-- GLOW_WIDGET of a point whose record fails its CRC (R71). -/
def glowWidgetFails : Case where
  spec := specGlowWidget
  pre pk t := headOk 2 pk t && decide (pk.u8 9 < 16) && (judgeShape t (pk.u8 8) (packetWidget pk)).isNone && !(widgetLoad pk t).1
  ends pk _ t := .cond St.crcFail 0 (widgetLoad pk t).2

/-- TOUCH_CONFIG in range (R285 to R288). -/
def touchConfig : Case where
  spec := specTouchConfig
  pre pk t := headOk 0 pk t && decide (1 ≤ pk.u16 10 ∧ pk.u16 10 ≤ 4095) && decide (pk.u16 12 < pk.u16 10)
    && decide (4 ≤ pk.u8 14 ∧ pk.u8 14 ≤ 15) && decide (pk.u32 16 ≤ 86400)
  ends pk _ t := .ok 0 (t.modHead (pk.u8 8) (fun x => { x with
    touchOn := (pk.u8 9).testBit 0, glowScan := (pk.u8 9).testBit 1, useProfile := (pk.u8 9).testBit 2, th := pk.u16 10
    hyst := pk.u16 12, trackShift := pk.u8 14, holdMaxS := if pk.u32 16 = 0 then 900 else pk.u32 16
    rebase := x.rebase || ((pk.u8 9).testBit 0 && !x.touchOn) }))

/-- TOUCH_RING of a ring that fits (R289). -/
def touchRing : Case where
  spec := specTouchRing
  pre pk t := headOk 2 pk t && decide (6 ≤ pk.u8 9 ∧ pk.u8 9 ≤ 16) && pk.le 24 8 % 8 == 0 && ringFits (rxRing pk) 64
  ends pk _ t := .ok 0 (t.modHead (pk.u8 8) (fun x => { x with ring := some (rxRing pk) }))

/-- TOUCH_REBASE (R287, R288). -/
def touchRebase : Case where
  spec := specTouchRebase
  pre pk t := headOk 2 pk t
  ends pk _ t := .ok 0 (t.modHead (pk.u8 8) (fun x => { x with
    rebase := true, nodes := x.nodes.map (fun n => { n with touched := false, hold := 0, anti := 0, stuck := false }) }))

/-- TOUCH_PROFILE capture with nothing touched (R287): PENDING, 32 scans are summed. -/
def touchCapture : Case where
  spec := specTouchProfile
  pre pk t := headOk 0 pk t && pk.u8 9 == 0 && (t.head (pk.u8 8)).touchOn && (t.head (pk.u8 8)).capture.isNone
    && !(t.head (pk.u8 8)).nodes.any (·.touched)
  ends pk k t := .pend (t.modHead (pk.u8 8) (fun x => { x with capture := some (k, 0, List.replicate 640 0) }))

/-- TOUCH_PROFILE erasure (R287): PENDING, the commit queued. -/
def touchErase : Case where
  spec := specTouchProfile
  pre pk t := headOk 0 pk t && pk.u8 9 == 1 && !bpRefuses t (.profile (pk.u8 8) none)
  ends pk k t := .pend (Nv.enqueue (some k) pk.ctx (.profile (pk.u8 8) none) t)

/-- TOUCH_READ (R292): the status and the first two contacts. -/
def touchRead : Case where
  spec := specTouchRead
  pre pk t := headOk 1 pk t
  ends pk _ t :=
    let c := (t.head (pk.u8 8)).contacts
    let get (i : Nat) : Nat := ((c.drop i).head?.map contactBytes).getD 0
    .ok (result [(5, 4, phTstat t (pk.u8 8)), (9, 1, c.length), (10, 5, get 0), (15, 5, get 1)]) t

end Sys2Proof.Machine.Case

/-- Commands on panel heads (R265 to R274, R280 to R289, R292) complete as said. That PANEL_POWER with OP 1 in LIT, and with OP 0
in OFF, answers OK at once is the model's reading: R273 and R274 say that the command replies PENDING, and nothing is left to do
there (log 32). -/
def Obligations.PanelCommands : Prop :=
  Case.panelConfig.Runs .panelConfig ∧ Case.panelOn.Runs .panelPower ∧ Case.panelResume.Runs .panelPower ∧
  (∀ n, (Case.panelDone n).Runs .panelPower) ∧ Case.panelOff.Runs .panelPower ∧ (∀ b, (Case.panelFall b).Runs .panelPower) ∧
  Case.panelUpload.Runs .panelUpload ∧ Case.panelFlip.Runs .panelFlip ∧ Case.panelGamma.Runs .panelGamma ∧ Case.panelIref.Runs .panelGamma ∧
  Case.panelGammaCommit.Runs .panelGammaCommit ∧ Case.panelBand.Runs .panelBand ∧ Case.panelRead.Runs .panelRead ∧
  Case.panelCrackScan.Runs .panelCrackScan ∧ Case.glowConfig.Runs .glowConfig ∧ Case.glowLoad.Runs .glowLoad ∧
  Case.glowWidget.Runs .glowWidget ∧ Case.glowWidgetFails.Runs .glowWidget ∧ Case.touchConfig.Runs .touchConfig ∧ Case.touchRing.Runs .touchRing ∧
  Case.touchRebase.Runs .touchRebase ∧ Case.touchCapture.Runs .touchProfile ∧ Case.touchErase.Runs .touchProfile ∧
  Case.touchRead.Runs .touchRead

/-- What happens at panel heads (R266 to R269, R271 to R279, R282, R285, R286): copies end, a frame start sends its frame and
advances the sequence, rails follow their power-goods and timers, a fault of a head that is not off turns the emission rail
off, a crack check judges, touch scans follow thresholds. -/
def Obligations.PanelHappenings : Prop :=
  (∀ (h : Nat) (j : CopyJob) (rest : List CopyJob) (s : State), (s.head h).uploads = j :: rest →
    exec (.panelUploadDone h) s = .next (Cmd.final j.key St.ok 0 (s.modHead h (fun y => { y with
      uploads := rest, pixels := (List.range j.h).foldl (uploadRow (s.head h) j s) y.pixels })))) ∧
  (∀ (h : Nat) (j : CopyJob) (rest : List CopyJob) (d : List Byte) (s : State), (s.head h).loads = j :: rest →
    d = s.readMem j.space j.src.toNat j.w →
    exec (.glowLoadDone h) s = .next (Cmd.final j.key St.ok 0 (s.modHead h (fun y =>
      if j.buf = 0 then { y with loads := rest, bitmap := memWrite y.bitmap j.x d }
      else if j.buf = 1 then { y with loads := rest, palette := memWrite y.palette j.x d }
      else { y with loads := rest, glyphs := memWrite y.glyphs j.x d })))) ∧
  (∀ (h : Nat) (k : Key) (g : Gamma) (b : Bool) (s : State), (s.head h).gammaJob = some (k, g, b) →
    (gammaWhole g = true →
      exec (.gammaCopyDone h) s = .next (s.modHead h (fun y => { y with gammaJob := some (k, g, true) }))) ∧
    (gammaWhole g = false → exec (.gammaCopyDone h) s = .next
      (Cmd.finalBad k 5 (s.modHead h (fun y => { y with gammaJob := none, gammaLate := false }))))) ∧
  (∀ (h : Nat) (s : State), s.tileOn h = true → scansFrames (s.head h) = true → (s.head h).step ≠ .blackEnd →
    exec (.frameStart h) s = .next (Panel.frame h (untilElapsed ((s.head h).frameAt + (s.head h).frameNs) s))) ∧
  (∀ (h : Nat) (s : State), h < 4 → ((Panel.frame h s).head h).frames = (s.head h).frames + 1 ∧
    ((Panel.frame h s).head h).frameAt = s.tb.elapsed ∧ ∃ f, ((Panel.frame h s).head h).link = .frame f ∧
      f.fseq = (s.head h).frames.toNat % 256 ∧ (f.scene = none ↔ blackFrame (s.head h) = true)) ∧
  (∀ (h i : Nat) (x : Head) (s u : State), s.tileOn h = true → i < 3 → x = s.head h →
    u = s.modHead h (fun y => { y with
      pg := if (if i = 0 then x.rl else if i = 1 then x.rg else x.re) then y.pg ||| (1#3 <<< i) else y.pg }) →
    exec (.powerGood h i) s = .next (
      if awaitsPg (u.head h).step = true ∧ pgReached (u.head h) = true ∧ u.tb.elapsed ≤ (u.head h).stepAt + stepNs (u.head h) then
        (if (u.head h).step = .gatePg then Panel.step h (.clear 2) u
         else if (u.head h).step = .emitPg then Panel.step h .firstFrame u
         else Panel.step h .lock (u.modHead h (fun x => { x with link := .start (x.frames.toNat % 256) })))
      else u)) ∧
  (∀ (h : Nat) (s : State), h < 4 → s.tileOn h = true → (s.head h).rl = true → (s.head h).step = .lock →
    s.tb.elapsed ≤ (s.head h).stepAt + 1100000 →
    exec (.phLock h) s = .next (Panel.step h (if (s.head h).small then .crack else .gateWait)
      (s.modHead h (fun x => { x with lock := true })))) ∧
  (∀ (h : Nat) (s : State), s.tileOn h = true → ((s.head h).step = .lock ∨ awaitsPg (s.head h).step = true) →
    exec (.railDeadline h) s = .next (Panel.fault h (if (s.head h).step = .lock then 1 else 0)
      (untilElapsed ((s.head h).stepAt + stepNs (s.head h)) s))) ∧
  (∀ (h : Nat) (s u : State), headPowered s h = true → u = untilElapsed ((s.head h).stepAt + stepNs (s.head h)) s →
    ((s.head h).step = .gateWait →
      exec (.railSequenceTimer h) s = .next (Panel.step h .gatePg (u.modHead h (fun x => x.rails true true false)))) ∧
    ((s.head h).step = .blackEnd → exec (.railSequenceTimer h) s = .next (Panel.discharge h u)) ∧
    ((s.head h).step = .logicWait →
      exec (.railSequenceTimer h) s = .next (Panel.reachOff h (u.modHead h (fun x => x.rails false false false))))) ∧
  (∀ (h : Nat) (s u : State), headPowered s h = true → (s.head h).step = .discharge →
    u = (untilElapsed ((s.head h).stepAt + (s.head h).disNs) s).modHead h (fun x => { x.rails x.rl false false with dis := false }) →
    exec (.dischargeEnd h) s = .next (if (s.head h).small = true ∧ (s.head h).state ≠ .fault then Panel.reachOff h u
      else Panel.step h .logicWait u)) ∧
  (∀ (h n : Nat) (c : PanelFaultCause) (x : Head) (s : State), s.tileOn h = true → faultPin (s.head h) c = some (n, x) →
    exec (.panelFault h c) s = .next (if x.state = .rising ∨ x.state = .lit ∨ x.state = .falling
      then Panel.fault h n (s.modHead h (fun _ => x)) else s.modHead h (fun _ => x))) ∧
  (∀ x : Head, (∀ i, i < 3 → x.pg.getLsbD i = true →
      faultPin x (.powerGood i) = some (0, { x with pg := x.pg &&& ~~~(1#3 <<< i) })) ∧
    (x.lock = true → faultPin x .lock = some (1, { x with lock := false })) ∧
    faultPin x .driver = some (2, { x with flt := true })) ∧
  (∀ (h c : Nat) (s : State), h < 4 → ((Panel.fault h c s).head h).state = .fault ∧ ((Panel.fault h c s).head h).re = false ∧
    ((Panel.fault h c s).head h).dis = true ∧ ((Panel.fault h c s).head h).powerKey = none) ∧
  (∀ (h r : Nat) (s v u : State), s.tileOn h = true → r < 2 ^ 32 →
    v = (if (s.head h).step = .crack ∧ (s.head h).small = false then untilElapsed ((s.head h).frameAt + (s.head h).frameNs) s
      else s) →
    u = v.modHead h (fun x => { x with crackR := BitVec.ofNat 32 r, crackRun := false }) →
    ((s.head h).step = .crack → exec (.crackCheck h r) s = .next (
      if (s.head h).crackRmax < r then Panel.endPowerBad h 8 (Panel.crack h u)
      else if (u.head h).re then Panel.step h .firstFrame u
      else Panel.step h .emitPg (u.modHead h (fun x => { x.rails x.rl x.rg true with dis := false })))) ∧
    ((s.head h).step ≠ .crack → (s.head h).crackRun = true →
      exec (.crackCheck h r) s = .next (if (s.head h).crackRmax < r then Panel.litCheckFails h r u else u))) ∧
  (∀ (h : Nat) (s u : State), s.tileOn h = true → (s.head h).state = .lit →
    u = untilTb (s.ns + ((s.head h).crackAt + 1000000000 - s.tb.mono)) s →
    exec (.crackCheckTimer h) s = .next (u.modHead h (fun x => { x with crackAt := u.tb.mono, crackRun := true }))) ∧
  (∀ (h : Nat) (s : State), s.tileOn h = true →
    exec (.panelBandSample h) s = .next (((s.head h).band.load s).modHead h (fun x =>
      { x with band := x.band.sample ((s.head h).band.load s) }))) ∧
  (∀ (h : Nat) (raw : List Int) (s : State), touchScans s h = true → raw.length = 640 →
    exec (.touchScan h raw) s = .next (Touch.scan h raw (if (s.head h).rebase then s
      else untilTb (s.ns + ((s.head h).scanAt + scanNs s - s.tb.mono)) s))) ∧
  (∀ (n : TouchNode) (th hyst raw : Int) (shift dt : Nat), 0 ≤ hyst → hyst < th →
    (n.scan th hyst shift dt raw).delta = n.base - (raw : Rat) ∧
    (n.touched = false → ((th : Int) : Rat) < n.base - (raw : Rat) → (n.scan th hyst shift dt raw).touched = true ∧
      (n.scan th hyst shift dt raw).base = n.base) ∧
    (n.touched = true → n.base - (raw : Rat) < ((th - hyst : Int) : Rat) → (n.scan th hyst shift dt raw).touched = false) ∧
    (n.touched = true → ((th - hyst : Int) : Rat) ≤ n.base - (raw : Rat) → (n.scan th hyst shift dt raw).touched = true ∧
      (n.scan th hyst shift dt raw).hold = n.hold + dt))

/-! ## Calibration and fuses -/

namespace Sys2Proof.Machine.Case

/-- The item of a packet: KIND and INDEX. -/
def itemKey (pk : Packet) : Nat := calKey (pk.u8 8) (pk.u16 10)

/-- KIND and INDEX name an item whose tile is powered (R310); a link is the hub's (log 13). -/
def itemOk (pk : Packet) (t : State) : Bool :=
  decide (pk.u16 10 < calCount (pk.u8 8)) && (pk.u8 8 == 4 || t.tileOn (itemTile (pk.u8 8) (pk.u16 10)))

/-- CAL_RUN of a converter or of the interleave (R100 to R102, R294): PENDING, as ADC_CALIBRATE of the matching ITEM. -/
def calRunConv : Case where
  spec := specCalRun
  pre pk t := itemOk pk t && !glowing t && decide (pk.u8 8 < 3) && (t.tile (pk.u16 10)).refReady
    && !(itemConvs (pk.u8 8)).any (calibrating t (pk.u16 10))
    && (pk.u8 8 != 2 || ((t.conv (pk.u16 10) 0).calibrated && (t.conv (pk.u16 10) 1).calibrated))
  ends pk k t := .pend (Cal.tryAll (pk.u16 10) (t.modCal (itemKey pk) (fun i => { i with
    running := some (some k), since := none })))

/-- The item's two runs begin now. -/
def begins (pk : Packet) (k : Key) (t : State) : State :=
  t.modCal (itemKey pk) (fun i => { i with running := some (some k), since := some t.tb.elapsed })

/-- CAL_RUN of a link that is UP (R297, R298): PENDING, and the link stands in HOLD. -/
def calRunLink : Case where
  spec := specCalRun
  pre pk t := itemOk pk t && !glowing t && pk.u8 8 == 4 && !calRunning t (itemKey pk) && (t.fed.link (pk.u16 10)).state == .up
  ends pk k t := .pend ((begins pk k t).modLink (pk.u16 10) (fun l => { l with state := .hold, holdAt := t.tb.elapsed }))

/-- CAL_RUN of a lit head outside QUIET (R297, R299, R310): PENDING, with one black frame to come for each run. -/
def calRunHead : Case where
  spec := specCalRun
  pre pk t := itemOk pk t && !glowing t && pk.u8 8 == 5 && !calRunning t (itemKey pk) && t.pw.pstate != .quiet
    && (t.head (pk.u16 10)).state == .lit
  ends pk k t := .pend ((begins pk k t).modHead (pk.u16 10) (fun h => { h with calFrames := 2 }))

/-- CAL_RUN of a drive threshold (R297, R300): PENDING, no measurement gathered yet. -/
def calRunDrive : Case where
  spec := specCalRun
  pre pk t := itemOk pk t && !glowing t && pk.u8 8 == 6 && !calRunning t (itemKey pk)
  ends pk k t := .pend ((begins pk k t).modDrive (pk.u16 10 / 24) (pk.u16 10 % 24) (fun d => { d with
    measured := 0, measureAt := t.tb.elapsed }))

/-- CAL_MODE of a mode that the item offers (R296): for its next run. -/
def calMode : Case where
  spec := specCalMode
  pre pk t := itemOk pk t && pk.u8 8 != 3 && decide (pk.u8 12 < 2) && !(pk.u8 8 == 2 && pk.u8 12 == 1) && !calRunning t (itemKey pk)
  ends pk _ t := .ok 0 (t.modCal (itemKey pk) (fun i => { i with nextMode := pk.u8 12 }))

/-- CAL_READ (Table 13.7). -/
def calRead : Case where
  spec := specCalRead
  pre pk t := itemOk pk t
  ends pk _ t :=
    let i := t.calItem (itemKey pk)
    .ok (result [(5, 1, i.nextMode), (6, 1, i.source), (7, 1, bit i.pending.isSome + 2 * bit i.running.isSome),
      (8, 2, i.qualityA.toNat), (10, 2, i.qualityB.toNat), (12, 8, i.stamp.toNat)]) t

/-- CAL_SET_RREF of resistances within 0.1 % of nominal (R301, R303): they are the item's pending values. -/
def calSetRref : Case where
  spec := specCalSetRref
  pre pk t := itemOk pk t && pk.u8 8 == 3 && ohmsWithin 999 1001 (pk.f32 12) && ohmsWithin 39960 40040 (pk.f32 16)
  ends pk _ t := .ok 0 (Cal.setPending 3 (pk.u16 10)
    { (t.calItem (itemKey pk)).active with rlo := pk.f32 12, rhi := pk.f32 16 } t)

/-- CAL_COMMIT with VFUSE in range, PFAIL clear and the energy for it (R308): PENDING; the lowest blank slot is used up, and
the image takes each item's pending value where one waits. -/
def calCommit (m : Monitors) (slot : Nat) : Case where
  spec := specCalCommit
  pre _ t := !glowing t && t.cal.burn.isNone && blankSlot t == some slot && decide (1710 ≤ m.vfuse) && decide (m.vfuse ≤ 1890)
    && !t.pw.pfail && !t.pw.pfailInt && decide ((eReserve t : Rat) + 20 ≤ energyAt t m.holdmon)
  ends _ k t := .pend { t with
    pw := { t.pw with mon := m }
    cal := { t.cal with
      burn := some (k, slot, calImage t, if t.tb.valid then t.sec else 0)
      slots := vmod t.cal.slots slot (fun x => { x with used := true }) } }

/-- FUSE_INFO (Table 13.7). -/
def fuseInfo : Case where
  spec := specFuseInfo
  pre _ _ := true
  ends _ _ t := .ok (fuseInfoResult t) t

end Sys2Proof.Machine.Case

/-- Calibration and fuses. Commands (R294 to R303, R308, Table 13.7) complete as said. At work (R295, R297 to R300, R307, R308): a
run pair ends after its time, that of a head once its black frames are driven and that of a drive channel once it has its
measurements; two runs of a link or a head that agree leave the second run's values pending and the active ones alone, two
that differ leave both; a channel that gathers no 256 measurements in the 10 s of a run ends with reason 6; a burned slot that reads
back right is valid, its CRC over its bytes among it, is the generation in force and leaves every active value; one that does not
is not valid, raises FUSE_GEN_BAD and ends with reason 9. -/
def Obligations.Calibration : Prop :=
  Case.calRunConv.Runs .calRun ∧ Case.calRunLink.Runs .calRun ∧ Case.calRunHead.Runs .calRun ∧ Case.calRunDrive.Runs .calRun ∧
  Case.calMode.Runs .calMode ∧ Case.calRead.Runs .calRead ∧ Case.calSetRref.Runs .calSetRref ∧
  (∀ m slot, (Case.calCommit m slot).Runs (fun q pk => .calCommit q pk m)) ∧ Case.fuseInfo.Runs .fuseInfo ∧
  (∀ (kind index : Nat) (r : CalResult) (b : Nat) (s : State), index < calCount kind →
    (s.calItem (calKey kind index)).since = some b → (kind = 6 → measuredEnough s index = true) →
    (kind = 5 → framesDriven s index = true) →
    exec (.calRunEnd kind index r) s = .next (Cal.finish kind index r (untilElapsed
      (max (if kind = 5 then (s.head index).frameAt + (s.head index).frameNs else 0) (b + runNs kind)) s))) ∧
  (∀ (kind index : Nat) (r : CalResult) (s : State), kind = 4 ∨ kind = 5 → index < calCount kind →
    ((Cal.finish kind index r s).calItem (calKey kind index)).running = none ∧
    ((Cal.finish kind index r s).calItem (calKey kind index)).stamp = BitVec.ofNat 64 s.sec ∧
    ((Cal.finish kind index r s).calItem (calKey kind index)).active = (s.calItem (calKey kind index)).active ∧
    (runsAgree kind (s.calItem (calKey kind index)).nextMode r = true →
      ((Cal.finish kind index r s).calItem (calKey kind index)).qualityA = r.qualityA ∧
      ((Cal.finish kind index r s).calItem (calKey kind index)).pending = some { (s.calItem (calKey kind index)).active with
        mode := (s.calItem (calKey kind index)).nextMode, trims := r.run2 }) ∧
    (runsAgree kind (s.calItem (calKey kind index)).nextMode r = false →
      ((Cal.finish kind index r s).calItem (calKey kind index)).pending = (s.calItem (calKey kind index)).pending)) ∧
  (∀ (c b : Nat) (k : Key) (s u : State), c < 96 → (s.calItem (calKey 6 c)).since = some b →
    (s.calItem (calKey 6 c)).running = some (some k) → measuredEnough s c = false →
    u = untilElapsed (((s.tile (c / 24)).drive (c % 24)).measureAt + 10000000000) s →
    exec (.calMeasureTimeout c) s = .next (Cmd.finalBad k 6
      (u.modCal (calKey 6 c) (fun i => { i with running := none, since := none })))) ∧
  (∀ (k : Key) (slot stamp : Nat) (image : AMap CalVal) (s u : State), s.cal.burn = some (k, slot, image, stamp) →
    u = { s with cal := { s.cal with burn := none } } →
    exec (.fuseBurnDone true) s = .next (Cmd.final k St.ok (result [(5, 1, slot + 1)]) (Fuse.take slot image stamp u)) ∧
    exec (.fuseBurnDone false) s = .next (Cmd.finalBad k 9 (Ev.raise 8 0 (packLe [(1, slot + 1)]) (Fuse.spoil slot image stamp u)))) ∧
  (∀ (slot stamp : Nat) (image : AMap CalVal) (s : State), slotValid (Fuse.spoil slot image stamp s) slot = false) ∧
  (∀ (slot stamp : Nat) (image : AMap CalVal) (s : State), slot < 8 →
    (Fuse.take slot image stamp s).cal.gen = slot + 1 ∧ slotValid (Fuse.take slot image stamp s) slot = true ∧
    (vget (Fuse.take slot image stamp s).cal.slots slot {}).image = image ∧
    (∀ key, key ∈ calInForce s → (Fuse.take slot image stamp s).calItem key = s.calItem key) ∧
    ∀ (key : Nat) (v : CalVal), key ∉ calInForce s → aget s.cal.items key = none → aget image key = some v →
      ((Fuse.take slot image stamp s).calItem key).active = v)

/-! ## The non-volatile store -/

namespace Sys2Proof.Machine.Case

/-- REGION is one of 0 to 11 and not locked out (Table 14.3). -/
def regionOk (pk : Packet) (t : State) : Bool := decide (pk.u8 8 < 12) && !lockedOut t (pk.u8 8)

/-- NV_READ of an open region that no commit ahead of it touches (R322, R326): the bytes stand in memory. -/
def nvRead : Case where
  spec := specNvRead
  pre pk t := regionOk pk t && regionOpen t pk.ctx (pk.u8 8) 0 && (nvSpanFault pk false).isNone
    && overlapsAhead t (pk.u8 8) (pk.u32 10) (pk.u16 14) == 0
  ends pk _ t := .ok 0 (t.writeMem (spaceOf (pk.u8 16)) (pk.le 24 8)
    (memRead t.nv.cells (pk.u8 8 * 131072 + pk.u32 10) (pk.u16 14)))

/-- NV_READ that a commit fetched before it holds back (R326): it waits for every one of them. -/
def nvReadWaits : Case where
  spec := specNvRead
  pre pk t := regionOk pk t && regionOpen t pk.ctx (pk.u8 8) 0 && (nvSpanFault pk false).isNone
    && overlapsAhead t (pk.u8 8) (pk.u32 10) (pk.u16 14) != 0
  ends pk k t := .later { t with nv := { t.nv with reads := t.nv.reads ++ [{
    key := k, region := pk.u8 8, offset := pk.u32 10, len := pk.u16 14, space := spaceOf (pk.u8 16)
    dest := BitVec.ofNat 64 (pk.le 24 8), ahead := overlapsAhead t (pk.u8 8) (pk.u32 10) (pk.u16 14) }] } }

/-- One of the 16 places for commits of NV opcodes is left (R314). -/
def placeLeft (t : State) : Bool := decide ((t.nv.queue.filter (fun x => nvOpCommit x.what)).length < 16)

/-- NV_WRITE to an open region that BP leaves open (R314, R321, R322): PENDING, the data taken and the commit queued. -/
def nvWrite : Case where
  spec := specNvWrite
  pre pk t := regionOk pk t && regionOpen t pk.ctx (pk.u8 8) 1 && (nvSpanFault pk true).isNone
    && !bpProtects t.nv.bp.toNat (pk.u8 8) && placeLeft t
  ends pk k t := .pend (Nv.enqueue (some k) pk.ctx (.write (pk.u8 8) (pk.u32 10)
    (t.readMem (spaceOf (pk.u8 16)) (pk.le 24 8) (pk.u16 14))) t)

/-- NV_STATUS (R326): NVSTAT, the energy, the lockouts, this context's openings, the queue and the region's programs. -/
def nvStatus : Case where
  spec := specNvStatus
  pre pk _ := decide (pk.u8 9 < 16)
  ends pk _ t :=
    let opened := (List.range 12).foldl (fun a i => a + bit (regionOpen t pk.ctx i 1 && !lockedOut t i) * 2 ^ i) 0
    .ok (result [(5, 4, nvStat t), (9, 2, energyMj t), (11, 2, eReserve t), (13, 2, t.nv.lockout.toNat),
      (15, 2, opened), (17, 1, t.nv.queue.length), (18, 4, vget t.nv.programs (pk.u8 9) 0)]) t

/-- NV_BP (R321): PENDING, whatever BP stands at. -/
def nvBp : Case where
  spec := specNvBp
  pre pk t := decide (pk.u8 9 < 4) && placeLeft t
  ends pk k t := .pend (Nv.enqueue (some k) pk.ctx (.bp (BitVec.ofNat 2 (pk.u8 9))) t)

/-- NV_UNLOCK with the right password (R322, Table 14.3): the region is open to this context, the count 0. -/
def nvUnlock : Case where
  spec := specNvUnlock
  pre pk t := regionOk pk t && decide (pk.u8 9 < 2) && decide (hashPw (pk.le 16 8) = pwHash t (pk.u8 8) (pk.u8 9))
  ends pk _ t := .ok 0 { t with nv := { t.nv with
    attempts := vset t.nv.attempts (pk.u8 8) 0
    opens := (pk.ctx, pk.u8 8, pk.u8 9 == 1) :: t.nv.opens.filter (fun o => o != (pk.ctx, pk.u8 8, pk.u8 9 == 1)) } }

/-- NV_UNLOCK with a wrong password short of the third (Table 14.3): NO_RIGHT, one attempt counted. -/
def nvUnlockWrong : Case where
  spec := specNvUnlock
  pre pk t := regionOk pk t && decide (pk.u8 9 < 2) && !decide (hashPw (pk.le 16 8) = pwHash t (pk.u8 8) (pk.u8 9))
    && decide (vget t.nv.attempts (pk.u8 8) 0 < 2)
  ends pk _ t := .cond St.noRight 0 { t with nv := { t.nv with
    attempts := vset t.nv.attempts (pk.u8 8) (vget t.nv.attempts (pk.u8 8) 0 + 1) } }

/-- NV_UNLOCK with the third wrong password (Table 14.3): the region is locked out, its openings end, NV_LOCKOUT. -/
def nvUnlockThird : Case where
  spec := specNvUnlock
  pre pk t := regionOk pk t && decide (pk.u8 9 < 2) && !decide (hashPw (pk.le 16 8) = pwHash t (pk.u8 8) (pk.u8 9))
    && decide (vget t.nv.attempts (pk.u8 8) 0 = 2)
  ends pk _ t := .cond St.noRight 0 (Ev.raise 10 0 (packLe [(1, pk.u8 8)]) { t with nv := { t.nv with
    attempts := vset t.nv.attempts (pk.u8 8) 3
    lockout := t.nv.lockout ||| (1#16 <<< pk.u8 8)
    opens := t.nv.opens.filter (fun o => o.2.1 != pk.u8 8) } })

/-- NV_LOCK (R322): this context's openings that the packet names end. -/
def nvLock : Case where
  spec := specNvLock
  pre pk t := regionOk pk t
  ends pk _ t := .ok 0 { t with nv := { t.nv with opens := t.nv.opens.filter (fun o =>
    !(o.1 == pk.ctx && o.2.1 == pk.u8 8 && (if o.2.2 then (pk.u8 9).testBit 1 else (pk.u8 9).testBit 0))) } }

/-- NV_PASSWORD on a region open for writing (R322): PENDING, the hash queued. -/
def nvPassword : Case where
  spec := specNvPassword
  pre pk t := regionOk pk t && regionOpen t pk.ctx (pk.u8 8) 1 && decide (pk.u8 9 < 2)
    && !bpProtects t.nv.bp.toNat (pk.u8 8) && placeLeft t
  ends pk k t := .pend (Nv.enqueue (some k) pk.ctx (.password (pk.u8 8) (pk.u8 9) (hashPw (pk.le 16 8))) t)

/-- NV_CLEAR (R324): PENDING, the first of its commits queued, without a password. -/
def nvClear : Case where
  spec := specNvClear
  pre pk t := regionOk pk t && !bpProtects t.nv.bp.toNat (pk.u8 8) && placeLeft t
  ends pk k t := .pend (Nv.enqueue (some k) pk.ctx (.clear (pk.u8 8) 0) t)

/-- NV_HOLDUP in range (R317): PENDING. -/
def nvHoldup : Case where
  spec := specNvHoldup
  pre pk t := fPos (pk.f32 16) && fPos (pk.f32 20) && fNonNeg (pk.f32 24) && decide (10 ≤ pk.u16 28 ∧ pk.u16 28 ≤ 1000) && placeLeft t
  ends pk k t := .pend (Nv.enqueue (some k) pk.ctx
    (.holdup { c := pk.f32 16, ratio := pk.f32 20, vMin := pk.f32 24, eReserve := pk.u16 28 }) t)

end Sys2Proof.Machine.Case

/-- Commands on the non-volatile store (R314, R317, R321 to R324, R326, Table 14.3) complete as said. -/
def Obligations.StoreCommands : Prop :=
  Case.nvRead.Runs .nvRead ∧ Case.nvReadWaits.Runs .nvRead ∧ Case.nvWrite.Runs .nvWrite ∧ Case.nvStatus.Runs .nvStatus ∧
  Case.nvBp.Runs .nvBp ∧ Case.nvUnlock.Runs .nvUnlock ∧ Case.nvUnlockWrong.Runs .nvUnlock ∧ Case.nvUnlockThird.Runs .nvUnlock ∧
  Case.nvLock.Runs .nvLock ∧ Case.nvPassword.Runs .nvPassword ∧ Case.nvClear.Runs .nvClear ∧ Case.nvHoldup.Runs .nvHoldup

/-- Commits (R314, R316, R317, R319, R321): the first of the queue starts alone and with the energy for it, its pages staged in
the journal log and its record formed, and is refused without an effect where BP binds it or the energy is short; ending well it stands in the store and nothing else of the store's bytes
changes; ending on a failed page it raises NV_PAGE_FAIL and completes with reason 7. -/
def Obligations.Commits : Prop :=
  (∀ (c : Commit) (rest : List Commit) (holdmon : Nat) (s u : State), s.nv.queue = c :: rest → s.live = true → s.nv.running = none →
    u = { s with pw := { s.pw with mon := { s.pw.mon with holdmon := holdmon } } } →
    (bpRefuses s c.what = true → exec (.nvCommitStart holdmon) s = .next (Nv.refuseFirst c rest St.nvLocked 0 u)) ∧
    (bpRefuses s c.what = false → bankRises s c = true → commitPowered u c.what = false →
      exec (.nvCommitStart holdmon) s = .next (Nv.refuseFirst c rest St.nvLowEnergy 0 u)) ∧
    (∀ r off d, c.what = .write r off d → bpRefuses s c.what = false → (eReserve u : Rat) ≤ energyNow u →
      exec (.nvCommitStart holdmon) s = .next (Nv.stage c.what
        { u with nv := { u.nv with queue := rest, running := some c, recorded := false } }))) ∧
  (∀ (r off : Nat) (d : List Byte) (s t : State), t = Nv.stage (.write r off d) s →
    t.nv.cells = s.nv.cells ∧ t.nv.commitSeq = s.nv.commitSeq + 1 ∧ t.nv.logPrograms = s.nv.logPrograms + pagesOf off d.length ∧
    ∃ x, t.nv.record = some x ∧ x.seq = s.nv.commitSeq ∧ x.targets.map (·.1) = targetPages (.write r off d) ∧
      x.crc = crc32c (journalBytes x.seq x.targets)) ∧
  (∀ (c : Commit) (s : State), s.nv.running = some c → exec (.nvCommitDone none) s = .next (Nv.done c s)) ∧
  (∀ (c : Commit) (page : Nat) (s : State), s.nv.running = some c → commitTargets c.what page = true →
    exec (.nvCommitDone (some page)) s = .next (Nv.failed c page s)) ∧
  (∀ (r off : Nat) (d : List Byte) (s : State), s.memWf = true → d.length ≤ 16384 → ∀ a,
    memGet (Nv.store (.write r off d) s).nv.cells a =
      if r * 131072 + off ≤ a ∧ a < r * 131072 + off + d.length then d.getD (a - (r * 131072 + off)) 0
      else memGet s.nv.cells a) ∧
  (∀ (c : Commit) (rest : List Commit) (st : Byte) (res : Nat) (s : State), (Nv.refuseFirst c rest st res s).nv.queue = rest ∧
    (Nv.refuseFirst c rest st res s).nv.cells = s.nv.cells ∧ (Nv.refuseFirst c rest st res s).nv.programs = s.nv.programs) ∧
  (∀ (r off : Nat) (d : List Byte) (s : State), r < 16 →
    vget (Nv.count (.write r off d) 0 s).nv.programs r 0 = vget s.nv.programs r 0 + pagesOf off d.length)

/-! ## Power, temperature and start-up -/

namespace Sys2Proof.Machine.Case

/-- TILE_POWER on for a gated tile whose rail is up (R13, R339): PENDING, and the tile powers up. -/
def tilePowerOn : Case where
  spec := specTilePower
  pre pk t := decide (pk.u8 8 < 4) && pk.u8 9 == 1 && !glowing t && vget t.tpow (pk.u8 8) .gated == .gated
    && decide (700 ≤ vget t.pw.mon.rails (pk.u8 8) 0)
  ends pk k t := .pend { t with tpow := vset t.tpow (pk.u8 8) (.powering (some k)) }

/-- TILE_POWER off for a powered tile (R13, R14): PENDING, the gating begins. -/
def tilePowerOff : Case where
  spec := specTilePower
  pre pk t := decide (pk.u8 8 < 4) && pk.u8 9 == 0 && !glowing t && vget t.tpow (pk.u8 8) .gated == .on
  ends pk k t := .pend (Tile.gate (pk.u8 8) (.gating (some k)) t)

/-- TILE_POWER to where the tile stands: nothing happens. -/
def tilePowerSame : Case where
  spec := specTilePower
  pre pk t := decide (pk.u8 8 < 4) && !glowing t && ((pk.u8 9 == 0 && vget t.tpow (pk.u8 8) .gated == .gated)
    || (pk.u8 9 == 1 && vget t.tpow (pk.u8 8) .gated == .on))
  ends _ _ t := .ok 0 t

/-- POWER_STATE to another state while no transition runs (R334): PENDING, the transition begins. -/
def powerState : Case where
  spec := specPowerState
  pre pk t := decide (pk.u8 8 < 4) && t.pw.trans.isNone && pk.u8 8 != t.pw.pstate.code
  ends pk k t := .pend (Power.begin (pk.u8 8) { t with pw := { t.pw with trans := some { target := pk.u8 8, key := some k } } })

/-- POWER_STATE to the state in force (R334): OK at once. -/
def powerStateSame : Case where
  spec := specPowerState
  pre pk t := t.pw.trans.isNone && pk.u8 8 == t.pw.pstate.code
  ends pk _ t := .ok (result [(5, 1, pk.u8 8)]) t

/-- POWER_CONFIG in range, WAKE_AT ahead or 0 (R335). -/
def powerConfig : Case where
  spec := specPowerConfig
  pre pk t := decide (pk.u8 8 < 64) && decide (pk.u8 9 < 2) && decide (1 ≤ pk.u8 10 ∧ pk.u8 10 ≤ 63)
    && decide (600 ≤ pk.u16 12 ∧ pk.u16 12 ≤ 1150) && (pk.le 16 8 == 0 || decide (t.sec < pk.le 16 8))
  ends pk _ t := .ok 0 { t with pw := { t.pw with
    wakeMask := BitVec.ofNat 6 (pk.u8 8), wakeTarget := pk.u8 9, presenceMin := pk.u8 10, pfailMv := pk.u16 12
    wakeAt := BitVec.ofNat 64 (pk.le 16 8) } }

/-- POWER_READ (Table 15.12). -/
def powerRead : Case where
  spec := specPowerRead
  pre pk _ := decide (pk.u8 8 < 4)
  ends pk _ t := .ok (result [(5, 1, stateCode t), (6, 1, t.pw.lastWake), (7, 2, t.pw.mon.supmon), (9, 2, t.pw.mon.holdmon),
    (11, 2, vget t.pw.mon.rails (pk.u8 8) 0), (13, 2, t.pw.pfailRises), (15, 8, t.pw.pfailStamp.toNat / 1000000000),
    (23, 1, bit (pfailNow t) + 2 * bit t.pw.pfailStampValid)]) t

/-- CLOCK_SPREAD within its domain's range (R344): 2 % for a tile, 0.5 % for the hub, 1 % for a pixel clock. -/
def clockSpread : Case where
  spec := specClockSpread
  pre pk t := decide (pk.u8 8 < 9) && !glowing t
    && decide (pk.u8 9 ≤ if pk.u8 8 < 4 then 20 else if pk.u8 8 = 4 then 5 else 10)
  ends pk _ t := .ok 0 (Power.setSpread (pk.u8 8) (pk.u8 9) t)

/-- IO_CONFIG of a filter that the class of inputs allows (R345, Table 15.10). -/
def ioFilter : Case where
  spec := specIoConfig
  pre pk t := decide (pk.u8 8 < 3) && !glowing t && decide (pk.u8 9 < if pk.u8 8 = 0 then 2 else 4) && pk.u8 10 == 0
  ends pk _ t := .ok 0 { t with pw := { t.pw with filter := vset t.pw.filter (pk.u8 8) (pk.u8 9) } }

/-- IO_CONFIG of the slew of class 3. -/
def ioSlew : Case where
  spec := specIoConfig
  pre pk t := pk.u8 8 == 3 && !glowing t && pk.u8 9 == 0 && decide (pk.u8 10 < 4)
  ends pk _ t := .ok 0 { t with pw := { t.pw with slew := pk.u8 10 } }

/-- THERM_CONFIG in range with T_THROTTLE at least T_WARN (R342). -/
def thermConfig : Case where
  spec := specThermConfig
  pre pk _ := decide (60 ≤ pk.u8 8 ∧ pk.u8 8 ≤ 120) && decide (70 ≤ pk.u8 9 ∧ pk.u8 9 ≤ 120) && decide (pk.u8 8 ≤ pk.u8 9)
  ends pk _ t := .ok 0 { t with pw := { t.pw with tWarn := pk.u8 8, tThrottle := pk.u8 9 } }

/-- THERM_READ of one sensor (Table 15.12). -/
def thermRead : Case where
  spec := specThermRead
  pre pk _ := decide (pk.u8 8 < 16)
  ends pk _ t :=
    let x := t.sensor (pk.u8 8)
    .ok (result [(5, 2, toBits 16 x.reading), (7, 1, bit x.faulty), (8, 2, toBits 16 x.low), (10, 2, toBits 16 x.high)]) t

/-- THERM_READ of the summary. -/
def thermReadAll : Case where
  spec := specThermRead
  pre pk _ := pk.u8 8 == 0xFF
  ends _ _ t := .ok (thermSummary t) t

/-- THERM_CAP (R343): the cap is kept, and each tile whose level in force changes raises THROTTLE. -/
def thermCap : Case where
  spec := specThermCap
  pre pk _ := decide (pk.u8 8 < 4) && decide (pk.u8 9 < 5)
  ends pk _ t := .ok 0 (Throttle.around (fun s => s.modThrottle (pk.u8 8) (fun x => { x with cap := pk.u8 9 })) t)

end Sys2Proof.Machine.Case

/-- Commands on power and temperature (R13, R334, R335, R339, R342 to R345, Table 15.12) complete as said. -/
def Obligations.PowerCommands : Prop :=
  Case.tilePowerOn.Runs .tilePower ∧ Case.tilePowerOff.Runs .tilePower ∧ Case.tilePowerSame.Runs .tilePower ∧
  Case.powerState.Runs .powerState ∧ Case.powerStateSame.Runs .powerState ∧ Case.powerConfig.Runs .powerConfig ∧
  Case.powerRead.Runs .powerRead ∧ Case.clockSpread.Runs .clockSpread ∧ Case.ioFilter.Runs .ioConfig ∧
  Case.ioSlew.Runs .ioConfig ∧ Case.thermConfig.Runs .thermConfig ∧ Case.thermRead.Runs .thermRead ∧
  Case.thermReadAll.Runs .thermRead ∧ Case.thermCap.Runs .thermCap

/-- From POR release to RDY (R305, R307, R320, R328 to R330, R337 to R339, Table 15.6): the steps follow in order, each with
its failure, rails raised out of order stop the model (R329 guarantees nothing then), an RST_N pulse of 10 us starts up again,
one below 1 us does nothing and one between may do either, and start-up resets everything except the always-on domain and what
the non-volatile stores keep, to the values of R339. -/
def Obligations.StartUp : Prop :=
  (∀ (m : Monitors) (s : State), awaitsPor s = true → railsReady m s.pw.pfailMv = true →
    exec (.porRelease m true) s = .next { Power.startUp s with pw := { (Power.startUp s).pw with mon := m } } ∧
    exec (.porRelease m false) s = .fault .railsOutOfOrder) ∧
  (∀ (low : Nat) (s : State), low < 1000 → exec (.rstN low) s = .next s) ∧
  (∀ (low : Nat) (s u : State), 10000 ≤ low → u = untilElapsed (s.tb.elapsed + low) s → rstActs u = true → u.pw.pfail = false →
    exec (.rstN low) s = .next (Power.startUp u)) ∧
  (∀ (low : Nat) (s u : State), 1000 ≤ low → low < 10000 → u = untilElapsed (s.tb.elapsed + low) s → rstActs u = true →
    u.pw.pfail = false →
    exec (.rstN low) s = .next (Power.startUp u.drawn) ∨ exec (.rstN low) s = .next u.drawn) ∧
  (∀ (s : State), s.pw.boot = .fuseLoad →
    exec (.fuseLoad true) s = .next (Power.bootTo .journal (Fuse.load (untilElapsed (s.pw.porAt + 1200000) s))) ∧
    exec (.fuseLoad false) s = .next (Power.bootTo .fwFault (untilElapsed (s.pw.porAt + 1200000) s))) ∧
  (∀ (s : State), s.pw.boot = .journal →
    exec .journalRecovery s = .next (Power.bootTo .firmware (Fed.restore (Meter.restore (Nv.recover s))))) ∧
  (∀ (x : BootImage) (s : State), s.pw.boot = .firmware → x.address = (if s.pw.slotB then 0x800000 else 0) →
    (x.size ≤ 8388608 ∧ x.keyHash = Config.keyHash ∧ x.signed = true →
      exec (.firmwareVerify x) s = .next (Power.bootTo .dram s)) ∧
    (8388608 < x.size ∨ x.keyHash ≠ Config.keyHash ∨ x.signed = false →
      (s.pw.slotB = false → exec (.firmwareVerify x) s = .next { s with pw := { s.pw with slotB := true } }) ∧
      (s.pw.slotB = true → exec (.firmwareVerify x) s = .next (Power.bootTo .fwFault s)))) ∧
  (∀ (gib : Nat) (s : State), s.pw.boot = .dram → exec (.lpddr5Training true gib) s = .next (Power.ready gib s) ∧
    (s.pw.dramTries < 2 →
      exec (.lpddr5Training false gib) s = .next { s with pw := { s.pw with dramTries := s.pw.dramTries + 1 } }) ∧
    (s.pw.dramTries = 2 →
      exec (.lpddr5Training false gib) s = .next (Power.bootTo .dramFault { s with pw := { s.pw with dramTries := 3 } }))) ∧
  (∀ (s : State), (Power.startUp s).pw.boot = .fuseLoad ∧ (Power.startUp s).tb.now = s.tb.now ∧
    (Power.startUp s).tb.valid = s.tb.valid ∧ (Power.startUp s).tb.ratePpb = s.tb.ratePpb ∧ (Power.startUp s).tb.source = .host ∧
    (Power.startUp s).tpow = Vector.replicate 4 .gated ∧ (Power.startUp s).cl.sessions = [] ∧ (Power.startUp s).pts.recs = [] ∧
    (Power.startUp s).cl.creds = s.cl.creds ∧ (Power.startUp s).hub.setup = .idle ∧ (Power.startUp s).nv.cells = s.nv.cells ∧
    (Power.startUp s).nv.lockout = 0 ∧ (Power.startUp s).nv.bp = s.nv.bp ∧ (Power.startUp s).pw.spread = Vector.replicate 9 0 ∧
    (Power.startUp s).pw.wakeMask = 0 ∧ (Power.startUp s).pw.wakeTarget = 1 ∧ (Power.startUp s).pw.presenceMin = 1 ∧
    (Power.startUp s).pw.pfailMv = 1000 ∧ (Power.startUp s).pw.wakeAt = 0 ∧ (Power.startUp s).pw.tWarn = 100 ∧
    (Power.startUp s).pw.tThrottle = 110 ∧ (Power.startUp s).pw.throttle = Vector.replicate 4 {} ∧
    (Power.startUp s).pw.aonBus = s.pw.aonBus ∧ (Power.startUp s).pw.aonAlarm = s.pw.aonAlarm ∧
    (Power.startUp s).pw.aonPin = s.pw.aonPin ∧ (Power.startUp s).tiles = State.reset.tiles ∧ (Power.startUp s).hub = State.reset.hub ∧
    (Power.startUp s).ev = State.reset.ev ∧ (Power.startUp s).pts = State.reset.pts ∧ (Power.startUp s).fed = State.reset.fed ∧
    (Power.startUp s).shaded = State.reset.shaded ∧ (Power.startUp s).ringMem = State.reset.ringMem)

/-- Power and temperature at work (R14, R331, R334 to R336, R340 to R343, Tables 15.3, 15.5, 15.7, 15.8): tiles come and go,
transitions end, power-fails begin and end, lost rails lead to OFF, wakes start the exit from GLOW or drive PWR_EN, samples
judge sensors and step levels. -/
def Obligations.PowerHappenings : Prop :=
  (∀ (t : Nat) (ok : Bool) (k : Option Key) (s : State), vget s.tpow t .gated = .powering k →
    exec (.tilePowerDone { tile := t, storePass := ok }) s = .next (Cmd.finalOpt k St.ok 0 (Tile.powered t ok s)) ∧
    (t < 4 → (Tile.powered t ok s).tileOn t = true ∧ ((Tile.powered t ok s).tile t).storeTest = some ok)) ∧
  (∀ (t : Nat) (ok : Bool) (k : Option Key) (s : State), vget s.tpow t .gated = .gating k →
    ((s.head t).step = .none → exec (.tilePowerDone { tile := t, storePass := ok }) s = .next (Cmd.finalOpt k St.ok 0 (Tile.dark t s))) ∧
    ((s.head t).step ≠ .none → exec (.tilePowerDone { tile := t, storePass := ok }) s = .next s)) ∧
  (∀ (t : Nat) (s : State), t < 4 → (Tile.dark t s).tile t = {} ∧ (Tile.dark t s).tileOn t = false) ∧
  (∀ (t mv : Nat) (s : State), s.live = true → mv < 680 → vget s.tpow t .gated = .on →
    exec (.tileBrownout t mv) s = .next (Ev.raise 5 0 (packLe [(1, t), (2, mv)]) (Tile.gate t (.gating none) s))) ∧
  (∀ (t mv : Nat) (k : Option Key) (s : State), s.live = true → mv < 680 → vget s.tpow t .gated = .powering k →
    exec (.tileBrownout t mv) s = .next (Cmd.finalOpt k St.badParam (result [(5, 1, 3)])
      (Ev.raise 5 0 (packLe [(1, t), (2, mv)]) (Tile.dark t s)))) ∧
  (∀ (n : Transition) (s : State), s.pw.trans = some n →
    (n.target < 2 → exec .powerTransitionDone s = .next (Power.reached n.target n.key s)) ∧
    (n.target = 2 → panelsLoaded s = true → exec .powerTransitionDone s = .next (Power.reachedGlow n.key s)) ∧
    (2 ≤ n.target → panelsLoaded s = false → exec .powerTransitionDone s = .next s) ∧
    (2 < n.target → panelsLoaded s = true → storeAtRest s = true → exec .powerTransitionDone s = .next (Power.reachedOff n.key s))) ∧
  (∀ (up : Bool) (s : State), (Power.toOff up s).pw.boot = .off ∧ (Power.toOff up s).pw.pwrEn = up ∧
    (Power.toOff up s).tb.now = s.tb.now ∧ (Power.toOff up s).nv.cells = s.nv.cells ∧
    (Power.toOff up s).pw.aonBus = (if s.pw.wakeMask.getLsbD 1 then busWakeMask s else 0) ∧
    (Power.toOff up s).pw.aonAlarm = s.pw.wakeMask.getLsbD 4 ∧ (Power.toOff up s).pw.aonPin = s.pw.wakeMask.getLsbD 5) ∧
  (∀ (sup hold : Nat) (begun : Bool) (s u : State), rstActs s = true → s.pw.pfail = false → sup < s.pw.pfailMv →
    u = { s with pw := { s.pw with pfail := true, mon := { s.pw.mon with supmon := sup, holdmon := hold } } } →
    exec (.pfailRise sup hold begun) s = .next (Power.fail 0 begun (!s.pw.pfailInt) u)) ∧
  (∀ (sup : Nat) (s : State), s.pw.pfail = true → s.pw.pfailMv + 50 ≤ sup →
    exec (.pfailFall sup) s = .next { s with
      pw := { s.pw with pfail := false, mon := { s.pw.mon with supmon := sup } }
      mt := { s.mt with tailDue := false } }) ∧
  (∀ (s : State), rstActs s = true → exec .mainRailLoss s = .next (Power.toOff true s)) ∧
  (∀ (s : State), exec .vddAonLoss s = .next { Power.reset .unpowered s with tb := {}, pw := { boot := .unpowered } }) ∧
  (∀ (cause arg : Nat) (s : State), s.pw.pstate = .glow → s.pw.trans = none →
    Power.wake cause arg s = if s.pw.wakeMask.getLsbD cause then
      Ev.raise 7 cause (packLe [(1, arg)]) { s with pw := { s.pw with
        lastWake := cause + 1, trans := some { target := s.pw.wakeTarget, key := none } } }
      else s) ∧
  (∀ (low : Nat) (s : State), 1000000 ≤ low → (s.live = true → exec (.wakePin low) s = .next (Power.wake 5 0 s)) ∧
    (s.pw.boot = .off → s.pw.aonPin = true → s.pw.pwrEn = false → exec (.wakePin low) s = .next { s with pw := { s.pw with
      pwrEn := true, lastWake := 6, wakeReport := some (5, 0) } })) ∧
  (∀ (s : State), s.tb.valid = true → s.pw.wakeAt ≠ 0 → s.live = true →
    ∃ u, u = untilTb (s.pw.wakeAt.toNat * 1000000000) s ∧
      exec .wakeAlarm s = .next (Power.wake 4 0 { u with pw := { u.pw with wakeAt := 0 } })) ∧
  (∀ (r : Vector Int 16) (m : Monitors) (s : State), rstActs s = true → exec (.thermSample r m) s = .next (Therm.sample r m s)) ∧
  (∀ (x : Sensor) (r : Int), (x.take r).reading = r ∧
    (x.sampled = true → r ≠ x.reading → (x.take r).faulty = false) ∧
    (x.sampled = true → r = x.reading → 999 ≤ x.same → (x.take r).faulty = true)) ∧
  (∀ (t : Nat) (s : State), t < 4 → (vget s.pw.throttle t {}).level < 4 →
    (tileHot s t = true → stepDue (vget s.pw.throttle t {}) s.tb.elapsed = true →
      (vget (Throttle.sample t s).pw.throttle t {}).level = (vget s.pw.throttle t {}).level + 1) ∧
    (tileHot s t = false → (vget (Throttle.sample t s).pw.throttle t {}).level = (vget s.pw.throttle t {}).level)) ∧
  (∀ (t b : Nat) (s u : State), s.live = true → s.tileOn t = true → s.pw.crit = false → 0 < (vget s.pw.throttle t {}).level →
    (vget s.pw.throttle t {}).belowAt = some b →
    u = untilElapsed (max b ((vget s.pw.throttle t {}).steppedAt.getD 0) + 1000000000) s →
    exec (.throttleUp t) s = .next (Throttle.around (fun v => v.modThrottle t (fun x => { x with
      level := x.level - 1, steppedAt := some v.tb.elapsed, episode := decide (1 < x.level) })) u)) ∧
  (∀ (m : Int × Nat) (s : State), s.pw.crit = false → hottest s (List.range 16) = some m → 500 ≤ m.1 →
    Therm.judgeCrit s = Therm.critical m s) ∧
  (∀ (a : Nat) (s u : State), s.pw.coolAt = some a → rstActs s = true → s.pw.crit = true → u = untilElapsed (a + 10000000000) s →
    exec .critEnd s = .next (Ev.raiseCleared 1 0 (thermArg ((dieMax u).getD (0, 0))) { u with pw := { u.pw with
      crit := false, coolAt := none } }))

/-! ## Events and the trouble log -/

namespace Sys2Proof.Machine.Case

/-- EVENT_CONFIG of sources in range with no reserved bit (R350, R351). -/
def eventConfig : Case where
  spec := specEventConfig
  pre pk _ := decide (1 ≤ pk.u8 9 ∧ pk.u8 9 ≤ 8) && decide (pk.u8 8 + pk.u8 9 ≤ 256)
    && pk.le (16 + 4 * pk.u8 9) (32 - 4 * pk.u8 9) == 0
    && (List.range (pk.u8 9)).all (fun i => BitVec.ofNat 32 (pk.u32 (16 + 4 * i)) &&& ~~~evcfgBits == 0)
  ends pk _ t := .ok 0 ((List.range (pk.u8 9)).foldl (fun s i => Ev.configure (pk.u8 8 + i) (BitVec.ofNat 32 (pk.u32 (16 + 4 * i))) s) t)

/-- EVENT_READ (Table 16.6). -/
def eventRead : Case where
  spec := specEventRead
  pre pk _ := decide (1 ≤ pk.u8 9 ∧ pk.u8 9 ≤ 5) && decide (pk.u8 8 + pk.u8 9 ≤ 256)
  ends pk _ t := .ok (result ((List.range (pk.u8 9)).map (fun i => (5 + 4 * i, 4, evstat (vget t.ev.stat (pk.u8 8 + i) {}))))) t

/-- EVENT_PENDING (Table 16.6). -/
def eventPending : Case where
  spec := specEventPending
  pre pk _ := decide (pk.u8 8 < 4)
  ends pk _ t := .ok (result [(5, 8, Ev.pendingBits t.ev (pk.u8 8)), (13, 8, Ev.signalledBits t.ev (pk.u8 8)),
    (21, 2, t.ev.stat.toList.countP (·.pending))]) t

/-- EVENT_ACK (R352, R353): PENDING, SIGNALLED and COUNT of the sources named are cleared, and so is the pending bit of each
masked vector that has nothing left to signal. -/
def eventAck : Case where
  spec := specEventAck
  pre pk _ := decide (pk.u8 8 < 4)
  ends pk _ t := .ok (result [(5, 8, Ev.pendingBits t.ev (pk.u8 8) &&& pk.le 16 8)])
    (Msix.satisfied ((List.range 64).foldl (fun s i => if (pk.le 16 8).testBit i then Ev.ack (64 * pk.u8 8 + i) s else s) t))

/-- EVENT_WAIT (Table 16.6): PENDING, and it waits for an event or its timeout. -/
def eventWait : Case where
  spec := specEventWait
  pre pk _ := decide (pk.u8 8 < 4) && decide (1 ≤ pk.u32 24 ∧ pk.u32 24 ≤ 86400000)
  ends pk k t := .pend { t with ev := { t.ev with waits := t.ev.waits ++ [({
    key := k, quarter := pk.u8 8, mask := BitVec.ofNat 64 (pk.le 16 8)
    deadline := t.tb.elapsed + pk.u32 24 * 1000000 } : EvWait)] } }

/-- EVENT_DETAIL (Table 16.6). -/
def eventDetail : Case where
  spec := specEventDetail
  pre _ _ := true
  ends pk _ t :=
    let x := vget t.ev.stat (pk.u8 8) {}
    .ok (result [(5, 2, x.code.toNat), (7, 12, x.arg.toNat), (19, 4, x.seq.toNat)]) t

/-- LOG_READ to a destination that holds all that COUNT asks for (R356, R381): the entries from FROM_SEQ, or from the oldest
one held, stand in memory, 32 bytes each. The first SEQ that it reports where it copies nothing is free (log 5). -/
def logRead : Case where
  spec := specLogRead
  pre pk _ := decide (1 ≤ pk.u16 16 ∧ pk.u16 16 ≤ 4096) && pk.le 24 8 % 32 == 0 && spanFits (spaceOf (pk.u8 8)) (pk.le 24 8) (32 * pk.u16 16)
  ends pk _ t :=
    let l := (t.ev.log.filter (fun x => !seqBefore x.seq.toNat (pk.u32 12))).take (pk.u16 16)
    .ok (logResult t.ev (pk.u32 12) l (Config.fp t.free)) { (if l.isEmpty then t.drawn else t).writeMem (spaceOf (pk.u8 8)) (pk.le 24 8) (l.flatMap logBytes) with
      ev := { t.ev with readMark := readMarkAfter t.ev l, wrapRaised := false } }

/-- LOG_MARK (Table 16.4) where no unread entry is lost: the mark stands in the log with the sender's context. -/
def logMark : Case where
  spec := specLogMark
  pre _ t := (Ev.wrapLoss t).isNone
  ends pk _ t := .ok (result [(5, 4, t.ev.nextSeq.toNat)]) (Ev.append 0x100 (pk.u16 8) (pk.le 16 12) 0 pk.ctx t)

/-- LOG_CLEAR (R381): the log empties, and SEQ continues. -/
def logClear : Case where
  spec := specLogClear
  pre _ _ := true
  ends _ _ t := .ok 0 { t with ev := { t.ev with log := [], overwrites := 0 } }

end Sys2Proof.Machine.Case

/-- Commands on events and the log (R350 to R352, R356, R358, R381) complete as said, and an EVENT_WAIT ends at its timeout with
WHY 2. -/
def Obligations.EventCommands : Prop :=
  Case.eventConfig.Runs .eventConfig ∧ Case.eventRead.Runs .eventRead ∧ Case.eventPending.Runs .eventPending ∧
  Case.eventAck.Runs .eventAck ∧ Case.eventWait.Runs .eventWait ∧ Case.eventDetail.Runs .eventDetail ∧
  Case.logRead.Runs .logRead ∧ Case.logMark.Runs .logMark ∧ Case.logClear.Runs .logClear ∧
  (∀ (q tag : Nat) (w : EvWait) (s u : State), s.ev.waits.find? (fun w => w.key.q == q && w.key.tag == tag) = some w →
    u = untilElapsed w.deadline s →
    exec (.eventWaitTimeout q tag) s = .next (Cmd.final w.key St.ok (result [(5, 8, Ev.pendingBits u.ev w.quarter), (13, 1, 2)])
      { u with ev := { u.ev with waits := u.ev.waits.filter (fun x => x.key != w.key) } }))

/-- A raise (R351) is one record of its source, followed by that of LOG_WRAP where its log entry loses the first unread one, and
by the end of EVENT_WAITs that it meets. A record: PENDING is set, COUNT counts and saturates, CODE and ARG are kept; a logged source gets the next SEQ and an
entry at the log's end, stamped with TB; a source that MASK leaves open and that is not SIGNALLED signals on its route and is
SIGNALLED, and one that is SIGNALLED or masked does not signal; nothing beyond the
event unit changes, and other sources stay as they are. Clearing MASK of a PENDING source that is not SIGNALLED signals at
once. -/
def Obligations.EventRaise : Prop :=
  (∀ (src code arg : Nat) (s : State), s.ev.waits = [] → Ev.wrapLoss s = none → Ev.raise src code arg s = Ev.recordOne src code arg false s) ∧
  (∀ (src code arg : Nat) (s : State), ∃ u, Ev.raise src code arg s = Ev.settle u.ev.waits.length u ∧
    (Ev.wrapLoss s = none ∨ (optionalSource src = true ∧ field (evCfg s.ev src) 15 15 = 0) → u = Ev.recordOne src code arg false s) ∧
    (∀ seq, Ev.wrapLoss s = some seq → optionalSource src = false ∨ field (evCfg s.ev src) 15 15 = 1 →
      ∃ v, v = Ev.recordOne src code arg false s ∧ u = Ev.recordOne 13 0 seq false { v with ev := { v.ev with wrapRaised := true } })) ∧
  (∀ (src code arg : Nat) (cleared : Bool) (s t : State), src < 256 → t = Ev.recordOne src code arg cleared s →
    (vget t.ev.stat src {}).pending = true ∧ (vget t.ev.stat src {}).count = min 65535 ((vget s.ev.stat src {}).count + 1) ∧
    (vget t.ev.stat src {}).code = BitVec.ofNat 16 code ∧ (vget t.ev.stat src {}).arg = BitVec.ofNat 96 arg ∧
    t.ev.cfg = s.ev.cfg ∧ t.pending = s.pending ∧ t.tb = s.tb ∧ t.tiles = s.tiles ∧ t.pw = s.pw ∧ t.nv = s.nv ∧ t.ringMem = s.ringMem ∧
    (∀ other, other ≠ src → other < 256 → vget t.ev.stat other {} = vget s.ev.stat other {}) ∧
    ((optionalSource src = false ∨ field (evCfg s.ev src) 15 15 = 1) → t.ev.nextSeq = s.ev.nextSeq + 1 ∧
      (vget t.ev.stat src {}).seq = s.ev.nextSeq ∧
      ∃ e, t.ev.log.getLast? = some e ∧ e.seq = s.ev.nextSeq ∧ e.stamp = s.tb.now ∧ e.source = BitVec.ofNat 16 src ∧
        e.code = BitVec.ofNat 16 code ∧ e.arg = BitVec.ofNat 96 arg) ∧
    (optionalSource src = true → field (evCfg s.ev src) 15 15 = 0 → t.ev.log = s.ev.log ∧ t.ev.nextSeq = s.ev.nextSeq) ∧
    (evMasked s.ev src = true → (vget t.ev.stat src {}).signalled = (vget s.ev.stat src {}).signalled ∧ t.hub = s.hub ∧
      t.hostMem = s.hostMem) ∧
    (evMasked s.ev src = false → field (evCfg s.ev src) 13 13 = 1 → (vget t.ev.stat src {}).signalled = true) ∧
    (evMasked s.ev src = false → (vget s.ev.stat src {}).signalled = false → field (evCfg s.ev src) 13 13 = 0 →
      (vget t.ev.stat src {}).signalled = true ∧
        t.hub = (Msix.signal (field (evCfg s.ev src) 7 0) s).hub ∧ t.hostMem = (Msix.signal (field (evCfg s.ev src) 7 0) s).hostMem) ∧
    ((vget s.ev.stat src {}).signalled = true → (vget t.ev.stat src {}).signalled = true ∧ t.hub = s.hub ∧ t.hostMem = s.hostMem)) ∧
  (∀ (src : Nat) (w : Word) (s : State), src < 256 → field w.toNat 14 14 = 0 → (vget s.ev.stat src {}).pending = true →
    (vget s.ev.stat src {}).signalled = false →
    Ev.configure src w s = Ev.signal src { s with ev := { s.ev with cfg := vset s.ev.cfg src w } })
end

