-- ==== Sys2Proof/Laws/Lists.lean ====
section
/-!
SUPPORT. Laws/Lists.lean: reading back what was put into a table, a vector or a memory, and that every operation on a
memory keeps its canonical form.
-/

namespace Sys2Proof.Machine

/-! ## Tables keyed by numbers -/

@[simp] theorem aget_aset {β : Type} (m : AMap β) (a : Nat) (b : β) : aget (aset m a b) a = some b := by
  induction m with
  | nil => simp [aset, aget]
  | cons e r ih =>
    obtain ⟨k, v⟩ := e
    simp only [aset]
    split
    · simp [aget]
    · split
      · simp [aget]
      · next h => simp [aget, h, ih]

theorem aget_aset_other {β : Type} (m : AMap β) (a k : Nat) (b : β) (h : k ≠ a) : aget (aset m a b) k = aget m k := by
  induction m with
  | nil => simp [aset, aget, h]
  | cons e r ih =>
    obtain ⟨j, v⟩ := e
    simp only [aset]
    split
    · simp [aget, h]
    · split
      · next hj => subst hj; simp [aget, h]
      · simp [aget, ih]

@[simp] theorem aget_amod {β : Type} (m : AMap β) (a : Nat) (f : β → β) : aget (amod m a f) a = (aget m a).map f := by
  induction m with
  | nil => simp [amod, aget]
  | cons e r ih =>
    obtain ⟨k, v⟩ := e
    simp only [amod, List.map_cons] at ih ⊢
    by_cases hk : k = a
    · subst hk; simp [aget]
    · simp only [hk, if_false, aget, Ne.symm hk]; exact ih

theorem aget_amod_other {β : Type} (m : AMap β) (a k : Nat) (f : β → β) (h : k ≠ a) : aget (amod m a f) k = aget m k := by
  induction m with
  | nil => simp [amod, aget]
  | cons e r ih =>
    obtain ⟨j, v⟩ := e
    simp only [amod, List.map_cons] at ih ⊢
    by_cases hj : j = a
    · subst hj; simp only [if_true, aget, h, if_false]; exact ih
    · simp only [hj, if_false, aget, ih]

/-! ## Vectors -/

theorem vget_vmod {β : Type} {n : Nat} (v : Vector β n) (t u : Nat) (f : β → β) (d : β) (h : u < n) :
    vget (vmod v t f) u d = if u = t then f (vget v u d) else vget v u d := by
  unfold vget vmod
  split
  · next x hx =>
    obtain ⟨ht, hx⟩ := Vector.getElem?_eq_some_iff.mp hx
    by_cases hu : u = t
    · subst hu; simp [h, hx]
    · simp [hu, Ne.symm hu]
  · next hx =>
    have : n ≤ t := by simpa using hx
    have hu : u ≠ t := by omega
    simp [hu]

theorem vget_vmod_other {β : Type} {n : Nat} (v : Vector β n) (t u : Nat) (f : β → β) (d : β) (h : u ≠ t) :
    vget (vmod v t f) u d = vget v u d := by
  unfold vget vmod
  split
  · simp [Ne.symm h]
  · rfl

theorem vget_vset {β : Type} {n : Nat} (v : Vector β n) (t : Nat) (x d : β) (h : t < n) : vget (vset v t x) t d = x := by
  simp [vget, vset, h]

theorem vget_vset_other {β : Type} {n : Nat} (v : Vector β n) (t u : Nat) (x d : β) (h : u ≠ t) :
    vget (vset v t x) u d = vget v u d := by
  simp [vget, vset, Ne.symm h]

/-! ## Memories -/

/-- A write leaves every other address alone. -/
theorem memGet_memSet_other (m : List Host.Cell) (a x : Nat) (b : Byte) (h : x ≠ a) : memGet (memSet m a b) x = memGet m x := by
  induction m with
  | nil =>
    simp only [memSet]
    split <;> simp [memGet, h]
  | cons e r ih =>
    obtain ⟨k, v⟩ := e
    simp only [memSet]
    split
    · split <;> simp [memGet, h]
    · split
      · next hk =>
        subst hk
        split <;> simp [memGet, h]
      · simp [memGet, ih]

theorem memGet_below (m : List Host.Cell) (k a : Nat) (h : memAbove k m = true) (ha : a ≤ k) : memGet m a = unlisted := by
  induction m generalizing k with
  | nil => rfl
  | cons e r ih =>
    obtain ⟨j, v⟩ := e
    simp only [memAbove, Bool.and_eq_true, decide_eq_true_eq] at h
    have : a ≠ j := by omega
    simp only [memGet, this, if_false]
    exact ih j h.2 (by omega)

theorem memAbove_weaken (m : List Host.Cell) (k a : Nat) (h : memAbove k m = true) (ha : a ≤ k) : memAbove a m = true := by
  cases m with
  | nil => rfl
  | cons e r =>
    obtain ⟨j, v⟩ := e
    simp only [memAbove, Bool.and_eq_true, decide_eq_true_eq] at h ⊢
    exact ⟨⟨by omega, h.1.2⟩, h.2⟩

/-- The canonical form in terms of the addresses above a first one. -/
theorem Memory.wf_cons (k : Nat) (v : Byte) (r : List Host.Cell) :
    Memory.wf ((k, v) :: r) = (decide (v ≠ unlisted) && memAbove k r) := rfl

theorem Memory.wf_of_above (m : List Host.Cell) (k : Nat) (h : memAbove k m = true) : Memory.wf m = true := by
  cases m with
  | nil => rfl
  | cons e r =>
    obtain ⟨j, v⟩ := e
    simp only [memAbove, Bool.and_eq_true, decide_eq_true_eq] at h
    simp [Memory.wf, h]

theorem memAbove_memSet (m : List Host.Cell) (k a : Nat) (b : Byte) (h : memAbove k m = true) (ha : k < a) :
    memAbove k (memSet m a b) = true := by
  induction m generalizing k with
  | nil =>
    simp only [memSet]
    split
    · rfl
    · next hb => simp [memAbove, ha, hb]
  | cons e r ih =>
    obtain ⟨j, v⟩ := e
    simp only [memAbove, Bool.and_eq_true, decide_eq_true_eq] at h
    simp only [memSet]
    split
    · next hj =>
      split
      · simp [memAbove, h]
      · next hb => simp [memAbove, ha, hb, hj, h]
    · split
      · next hj =>
        subst hj
        split
        · exact memAbove_weaken r a k h.2 (by omega)
        · next hb => simp [memAbove, ha, hb, h]
      · simp only [memAbove, Bool.and_eq_true, decide_eq_true_eq]
        exact ⟨h.1, ih j h.2 (by omega)⟩

/-- A write keeps the canonical form. -/
theorem memSet_wf (m : List Host.Cell) (a : Nat) (b : Byte) (h : Memory.wf m = true) : Memory.wf (memSet m a b) = true := by
  cases m with
  | nil =>
    simp only [memSet]
    split
    · rfl
    · next hb => simp [Memory.wf, memAbove, hb]
  | cons e r =>
    obtain ⟨k, v⟩ := e
    simp only [Memory.wf, Bool.and_eq_true, decide_eq_true_eq] at h
    simp only [memSet]
    split
    · next hk =>
      split
      · simp [Memory.wf, h]
      · next hb => simp [Memory.wf, memAbove, hb, hk, h]
    · split
      · next hk =>
        subst hk
        split
        · exact Memory.wf_of_above r a h.2
        · next hb => simp [Memory.wf, hb, h]
      · simp only [Memory.wf, Bool.and_eq_true, decide_eq_true_eq]
        exact ⟨h.1, memAbove_memSet r k a b h.2 (by omega)⟩

/-- A write reads back. -/
theorem memGet_memSet (m : List Host.Cell) (a : Nat) (b : Byte) (h : Memory.wf m = true) : memGet (memSet m a b) a = b := by
  have aux : ∀ (m : List Host.Cell) (k : Nat), memAbove k m = true → memGet (memSet m a b) a = b := by
    intro m
    induction m with
    | nil =>
      intro k _
      simp only [memSet]
      split
      · next hb => simp [memGet, hb]
      · simp [memGet]
    | cons e r ih =>
      intro k hk
      obtain ⟨j, v⟩ := e
      simp only [memAbove, Bool.and_eq_true, decide_eq_true_eq] at hk
      simp only [memSet]
      split
      · next hj =>
        split
        · next hb =>
          have : a ≠ j := by omega
          simp only [memGet, this, if_false, hb]
          exact memGet_below r j a hk.2 (by omega)
        · simp [memGet]
      · split
        · next hj =>
          subst hj
          split
          · next hb => rw [memGet_below r a a hk.2 (Nat.le_refl a), hb]
          · simp [memGet]
        · next hj => simp [memGet, hj, ih j hk.2]
  cases m with
  | nil => exact aux [] 0 rfl
  | cons e r =>
    obtain ⟨k, v⟩ := e
    simp only [Memory.wf, Bool.and_eq_true, decide_eq_true_eq] at h
    cases k with
    | zero =>
      simp only [memSet]
      split
      · omega
      · split
        · next ha =>
          subst ha
          split
          · next hb => rw [memGet_below r 0 0 h.2 (Nat.le_refl 0), hb]
          · simp [memGet]
        · next ha => simp [memGet, ha, aux r 0 h.2]
    | succ k => exact aux _ k (by simp [memAbove, h])

theorem memWrite_wf (l : List Byte) : ∀ (m : List Host.Cell) (a : Nat), Memory.wf m = true → Memory.wf (memWrite m a l) = true := by
  induction l with
  | nil => intro m a h; exact h
  | cons b r ih => intro m a h; exact ih _ _ (memSet_wf m a b h)

theorem memGet_memWrite_other (l : List Byte) : ∀ (m : List Host.Cell) (a x : Nat), (x < a ∨ a + l.length ≤ x) →
    memGet (memWrite m a l) x = memGet m x := by
  induction l with
  | nil => intro m a x _; rfl
  | cons b r ih =>
    intro m a x h
    simp only [List.length_cons] at h
    simp only [memWrite]
    rw [ih _ _ _ (by omega), memGet_memSet_other _ _ _ _ (by omega)]

theorem memRead_length (m : List Host.Cell) (n : Nat) : ∀ a, (memRead m a n).length = n := by
  induction n with
  | zero => intro a; rfl
  | succ n ih => intro a; simp [memRead, ih]

/-- The bytes of a write read back. -/
theorem memRead_memWrite (l : List Byte) : ∀ (m : List Host.Cell) (a : Nat), Memory.wf m = true →
    memRead (memWrite m a l) a l.length = l := by
  induction l with
  | nil => intro m a _; rfl
  | cons b r ih =>
    intro m a h
    simp only [memWrite, List.length_cons, memRead]
    rw [memGet_memWrite_other _ _ _ _ (by omega), memGet_memSet _ _ _ h, ih _ _ (memSet_wf m a b h)]

end Sys2Proof.Machine
end

