-- ==== Sys2Proof/Laws/State.lean ====
section
/-!
SUPPORT. Laws/State.lean: what each update of State leaves alone, field by field, and what it leaves in the place it
changes, so that no later proof unfolds a record update.
-/

namespace Sys2Proof.Machine

/-! ## modTile changes `tiles` alone -/

@[simp] theorem State.modTile_pending (s : State) (t : Nat) (f : Tile → Tile) : (s.modTile t f).pending = s.pending := rfl
@[simp] theorem State.modTile_tb (s : State) (t : Nat) (f : Tile → Tile) : (s.modTile t f).tb = s.tb := rfl
@[simp] theorem State.modTile_ev (s : State) (t : Nat) (f : Tile → Tile) : (s.modTile t f).ev = s.ev := rfl
@[simp] theorem State.modTile_hub (s : State) (t : Nat) (f : Tile → Tile) : (s.modTile t f).hub = s.hub := rfl
@[simp] theorem State.modTile_cl (s : State) (t : Nat) (f : Tile → Tile) : (s.modTile t f).cl = s.cl := rfl
@[simp] theorem State.modTile_pts (s : State) (t : Nat) (f : Tile → Tile) : (s.modTile t f).pts = s.pts := rfl
@[simp] theorem State.modTile_mt (s : State) (t : Nat) (f : Tile → Tile) : (s.modTile t f).mt = s.mt := rfl
@[simp] theorem State.modTile_fed (s : State) (t : Nat) (f : Tile → Tile) : (s.modTile t f).fed = s.fed := rfl
@[simp] theorem State.modTile_cal (s : State) (t : Nat) (f : Tile → Tile) : (s.modTile t f).cal = s.cal := rfl
@[simp] theorem State.modTile_nv (s : State) (t : Nat) (f : Tile → Tile) : (s.modTile t f).nv = s.nv := rfl
@[simp] theorem State.modTile_pw (s : State) (t : Nat) (f : Tile → Tile) : (s.modTile t f).pw = s.pw := rfl
@[simp] theorem State.modTile_tpow (s : State) (t : Nat) (f : Tile → Tile) : (s.modTile t f).tpow = s.tpow := rfl
@[simp] theorem State.modTile_shaded (s : State) (t : Nat) (f : Tile → Tile) : (s.modTile t f).shaded = s.shaded := rfl
@[simp] theorem State.modTile_weekOrigin (s : State) (t : Nat) (f : Tile → Tile) : (s.modTile t f).weekOrigin = s.weekOrigin := rfl
@[simp] theorem State.modTile_hostMem (s : State) (t : Nat) (f : Tile → Tile) : (s.modTile t f).hostMem = s.hostMem := rfl
@[simp] theorem State.modTile_ringMem (s : State) (t : Nat) (f : Tile → Tile) : (s.modTile t f).ringMem = s.ringMem := rfl
@[simp] theorem State.modTile_free (s : State) (t : Nat) (f : Tile → Tile) : (s.modTile t f).free = s.free := rfl

/-! ## modInput changes `tiles` alone -/

@[simp] theorem State.modInput_pending (s : State) (t i : Nat) (f : Input → Input) : (s.modInput t i f).pending = s.pending := rfl
@[simp] theorem State.modInput_tb (s : State) (t i : Nat) (f : Input → Input) : (s.modInput t i f).tb = s.tb := rfl
@[simp] theorem State.modInput_ev (s : State) (t i : Nat) (f : Input → Input) : (s.modInput t i f).ev = s.ev := rfl
@[simp] theorem State.modInput_hub (s : State) (t i : Nat) (f : Input → Input) : (s.modInput t i f).hub = s.hub := rfl
@[simp] theorem State.modInput_cl (s : State) (t i : Nat) (f : Input → Input) : (s.modInput t i f).cl = s.cl := rfl
@[simp] theorem State.modInput_pts (s : State) (t i : Nat) (f : Input → Input) : (s.modInput t i f).pts = s.pts := rfl
@[simp] theorem State.modInput_mt (s : State) (t i : Nat) (f : Input → Input) : (s.modInput t i f).mt = s.mt := rfl
@[simp] theorem State.modInput_fed (s : State) (t i : Nat) (f : Input → Input) : (s.modInput t i f).fed = s.fed := rfl
@[simp] theorem State.modInput_cal (s : State) (t i : Nat) (f : Input → Input) : (s.modInput t i f).cal = s.cal := rfl
@[simp] theorem State.modInput_nv (s : State) (t i : Nat) (f : Input → Input) : (s.modInput t i f).nv = s.nv := rfl
@[simp] theorem State.modInput_pw (s : State) (t i : Nat) (f : Input → Input) : (s.modInput t i f).pw = s.pw := rfl
@[simp] theorem State.modInput_tpow (s : State) (t i : Nat) (f : Input → Input) : (s.modInput t i f).tpow = s.tpow := rfl
@[simp] theorem State.modInput_shaded (s : State) (t i : Nat) (f : Input → Input) : (s.modInput t i f).shaded = s.shaded := rfl
@[simp] theorem State.modInput_weekOrigin (s : State) (t i : Nat) (f : Input → Input) : (s.modInput t i f).weekOrigin = s.weekOrigin := rfl
@[simp] theorem State.modInput_hostMem (s : State) (t i : Nat) (f : Input → Input) : (s.modInput t i f).hostMem = s.hostMem := rfl
@[simp] theorem State.modInput_ringMem (s : State) (t i : Nat) (f : Input → Input) : (s.modInput t i f).ringMem = s.ringMem := rfl
@[simp] theorem State.modInput_free (s : State) (t i : Nat) (f : Input → Input) : (s.modInput t i f).free = s.free := rfl

/-! ## modChan changes `tiles` alone -/

@[simp] theorem State.modChan_pending (s : State) (t c : Nat) (f : Lch → Lch) : (s.modChan t c f).pending = s.pending := rfl
@[simp] theorem State.modChan_tb (s : State) (t c : Nat) (f : Lch → Lch) : (s.modChan t c f).tb = s.tb := rfl
@[simp] theorem State.modChan_ev (s : State) (t c : Nat) (f : Lch → Lch) : (s.modChan t c f).ev = s.ev := rfl
@[simp] theorem State.modChan_hub (s : State) (t c : Nat) (f : Lch → Lch) : (s.modChan t c f).hub = s.hub := rfl
@[simp] theorem State.modChan_cl (s : State) (t c : Nat) (f : Lch → Lch) : (s.modChan t c f).cl = s.cl := rfl
@[simp] theorem State.modChan_pts (s : State) (t c : Nat) (f : Lch → Lch) : (s.modChan t c f).pts = s.pts := rfl
@[simp] theorem State.modChan_mt (s : State) (t c : Nat) (f : Lch → Lch) : (s.modChan t c f).mt = s.mt := rfl
@[simp] theorem State.modChan_fed (s : State) (t c : Nat) (f : Lch → Lch) : (s.modChan t c f).fed = s.fed := rfl
@[simp] theorem State.modChan_cal (s : State) (t c : Nat) (f : Lch → Lch) : (s.modChan t c f).cal = s.cal := rfl
@[simp] theorem State.modChan_nv (s : State) (t c : Nat) (f : Lch → Lch) : (s.modChan t c f).nv = s.nv := rfl
@[simp] theorem State.modChan_pw (s : State) (t c : Nat) (f : Lch → Lch) : (s.modChan t c f).pw = s.pw := rfl
@[simp] theorem State.modChan_tpow (s : State) (t c : Nat) (f : Lch → Lch) : (s.modChan t c f).tpow = s.tpow := rfl
@[simp] theorem State.modChan_shaded (s : State) (t c : Nat) (f : Lch → Lch) : (s.modChan t c f).shaded = s.shaded := rfl
@[simp] theorem State.modChan_weekOrigin (s : State) (t c : Nat) (f : Lch → Lch) : (s.modChan t c f).weekOrigin = s.weekOrigin := rfl
@[simp] theorem State.modChan_hostMem (s : State) (t c : Nat) (f : Lch → Lch) : (s.modChan t c f).hostMem = s.hostMem := rfl
@[simp] theorem State.modChan_ringMem (s : State) (t c : Nat) (f : Lch → Lch) : (s.modChan t c f).ringMem = s.ringMem := rfl
@[simp] theorem State.modChan_free (s : State) (t c : Nat) (f : Lch → Lch) : (s.modChan t c f).free = s.free := rfl

/-! ## modConv changes `tiles` alone -/

@[simp] theorem State.modConv_pending (s : State) (t c : Nat) (f : Conv → Conv) : (s.modConv t c f).pending = s.pending := rfl
@[simp] theorem State.modConv_tb (s : State) (t c : Nat) (f : Conv → Conv) : (s.modConv t c f).tb = s.tb := rfl
@[simp] theorem State.modConv_ev (s : State) (t c : Nat) (f : Conv → Conv) : (s.modConv t c f).ev = s.ev := rfl
@[simp] theorem State.modConv_hub (s : State) (t c : Nat) (f : Conv → Conv) : (s.modConv t c f).hub = s.hub := rfl
@[simp] theorem State.modConv_cl (s : State) (t c : Nat) (f : Conv → Conv) : (s.modConv t c f).cl = s.cl := rfl
@[simp] theorem State.modConv_pts (s : State) (t c : Nat) (f : Conv → Conv) : (s.modConv t c f).pts = s.pts := rfl
@[simp] theorem State.modConv_mt (s : State) (t c : Nat) (f : Conv → Conv) : (s.modConv t c f).mt = s.mt := rfl
@[simp] theorem State.modConv_fed (s : State) (t c : Nat) (f : Conv → Conv) : (s.modConv t c f).fed = s.fed := rfl
@[simp] theorem State.modConv_cal (s : State) (t c : Nat) (f : Conv → Conv) : (s.modConv t c f).cal = s.cal := rfl
@[simp] theorem State.modConv_nv (s : State) (t c : Nat) (f : Conv → Conv) : (s.modConv t c f).nv = s.nv := rfl
@[simp] theorem State.modConv_pw (s : State) (t c : Nat) (f : Conv → Conv) : (s.modConv t c f).pw = s.pw := rfl
@[simp] theorem State.modConv_tpow (s : State) (t c : Nat) (f : Conv → Conv) : (s.modConv t c f).tpow = s.tpow := rfl
@[simp] theorem State.modConv_shaded (s : State) (t c : Nat) (f : Conv → Conv) : (s.modConv t c f).shaded = s.shaded := rfl
@[simp] theorem State.modConv_weekOrigin (s : State) (t c : Nat) (f : Conv → Conv) : (s.modConv t c f).weekOrigin = s.weekOrigin := rfl
@[simp] theorem State.modConv_hostMem (s : State) (t c : Nat) (f : Conv → Conv) : (s.modConv t c f).hostMem = s.hostMem := rfl
@[simp] theorem State.modConv_ringMem (s : State) (t c : Nat) (f : Conv → Conv) : (s.modConv t c f).ringMem = s.ringMem := rfl
@[simp] theorem State.modConv_free (s : State) (t c : Nat) (f : Conv → Conv) : (s.modConv t c f).free = s.free := rfl

/-! ## modPort changes `tiles` alone -/

@[simp] theorem State.modPort_pending (s : State) (t p : Nat) (f : Port → Port) : (s.modPort t p f).pending = s.pending := rfl
@[simp] theorem State.modPort_tb (s : State) (t p : Nat) (f : Port → Port) : (s.modPort t p f).tb = s.tb := rfl
@[simp] theorem State.modPort_ev (s : State) (t p : Nat) (f : Port → Port) : (s.modPort t p f).ev = s.ev := rfl
@[simp] theorem State.modPort_hub (s : State) (t p : Nat) (f : Port → Port) : (s.modPort t p f).hub = s.hub := rfl
@[simp] theorem State.modPort_cl (s : State) (t p : Nat) (f : Port → Port) : (s.modPort t p f).cl = s.cl := rfl
@[simp] theorem State.modPort_pts (s : State) (t p : Nat) (f : Port → Port) : (s.modPort t p f).pts = s.pts := rfl
@[simp] theorem State.modPort_mt (s : State) (t p : Nat) (f : Port → Port) : (s.modPort t p f).mt = s.mt := rfl
@[simp] theorem State.modPort_fed (s : State) (t p : Nat) (f : Port → Port) : (s.modPort t p f).fed = s.fed := rfl
@[simp] theorem State.modPort_cal (s : State) (t p : Nat) (f : Port → Port) : (s.modPort t p f).cal = s.cal := rfl
@[simp] theorem State.modPort_nv (s : State) (t p : Nat) (f : Port → Port) : (s.modPort t p f).nv = s.nv := rfl
@[simp] theorem State.modPort_pw (s : State) (t p : Nat) (f : Port → Port) : (s.modPort t p f).pw = s.pw := rfl
@[simp] theorem State.modPort_tpow (s : State) (t p : Nat) (f : Port → Port) : (s.modPort t p f).tpow = s.tpow := rfl
@[simp] theorem State.modPort_shaded (s : State) (t p : Nat) (f : Port → Port) : (s.modPort t p f).shaded = s.shaded := rfl
@[simp] theorem State.modPort_weekOrigin (s : State) (t p : Nat) (f : Port → Port) : (s.modPort t p f).weekOrigin = s.weekOrigin := rfl
@[simp] theorem State.modPort_hostMem (s : State) (t p : Nat) (f : Port → Port) : (s.modPort t p f).hostMem = s.hostMem := rfl
@[simp] theorem State.modPort_ringMem (s : State) (t p : Nat) (f : Port → Port) : (s.modPort t p f).ringMem = s.ringMem := rfl
@[simp] theorem State.modPort_free (s : State) (t p : Nat) (f : Port → Port) : (s.modPort t p f).free = s.free := rfl

/-! ## modLoop changes `tiles` alone -/

@[simp] theorem State.modLoop_pending (s : State) (t d : Nat) (f : Loop → Loop) : (s.modLoop t d f).pending = s.pending := rfl
@[simp] theorem State.modLoop_tb (s : State) (t d : Nat) (f : Loop → Loop) : (s.modLoop t d f).tb = s.tb := rfl
@[simp] theorem State.modLoop_ev (s : State) (t d : Nat) (f : Loop → Loop) : (s.modLoop t d f).ev = s.ev := rfl
@[simp] theorem State.modLoop_hub (s : State) (t d : Nat) (f : Loop → Loop) : (s.modLoop t d f).hub = s.hub := rfl
@[simp] theorem State.modLoop_cl (s : State) (t d : Nat) (f : Loop → Loop) : (s.modLoop t d f).cl = s.cl := rfl
@[simp] theorem State.modLoop_pts (s : State) (t d : Nat) (f : Loop → Loop) : (s.modLoop t d f).pts = s.pts := rfl
@[simp] theorem State.modLoop_mt (s : State) (t d : Nat) (f : Loop → Loop) : (s.modLoop t d f).mt = s.mt := rfl
@[simp] theorem State.modLoop_fed (s : State) (t d : Nat) (f : Loop → Loop) : (s.modLoop t d f).fed = s.fed := rfl
@[simp] theorem State.modLoop_cal (s : State) (t d : Nat) (f : Loop → Loop) : (s.modLoop t d f).cal = s.cal := rfl
@[simp] theorem State.modLoop_nv (s : State) (t d : Nat) (f : Loop → Loop) : (s.modLoop t d f).nv = s.nv := rfl
@[simp] theorem State.modLoop_pw (s : State) (t d : Nat) (f : Loop → Loop) : (s.modLoop t d f).pw = s.pw := rfl
@[simp] theorem State.modLoop_tpow (s : State) (t d : Nat) (f : Loop → Loop) : (s.modLoop t d f).tpow = s.tpow := rfl
@[simp] theorem State.modLoop_shaded (s : State) (t d : Nat) (f : Loop → Loop) : (s.modLoop t d f).shaded = s.shaded := rfl
@[simp] theorem State.modLoop_weekOrigin (s : State) (t d : Nat) (f : Loop → Loop) : (s.modLoop t d f).weekOrigin = s.weekOrigin := rfl
@[simp] theorem State.modLoop_hostMem (s : State) (t d : Nat) (f : Loop → Loop) : (s.modLoop t d f).hostMem = s.hostMem := rfl
@[simp] theorem State.modLoop_ringMem (s : State) (t d : Nat) (f : Loop → Loop) : (s.modLoop t d f).ringMem = s.ringMem := rfl
@[simp] theorem State.modLoop_free (s : State) (t d : Nat) (f : Loop → Loop) : (s.modLoop t d f).free = s.free := rfl

/-! ## modZone changes `tiles` alone -/

@[simp] theorem State.modZone_pending (s : State) (t z : Nat) (f : Zone → Zone) : (s.modZone t z f).pending = s.pending := rfl
@[simp] theorem State.modZone_tb (s : State) (t z : Nat) (f : Zone → Zone) : (s.modZone t z f).tb = s.tb := rfl
@[simp] theorem State.modZone_ev (s : State) (t z : Nat) (f : Zone → Zone) : (s.modZone t z f).ev = s.ev := rfl
@[simp] theorem State.modZone_hub (s : State) (t z : Nat) (f : Zone → Zone) : (s.modZone t z f).hub = s.hub := rfl
@[simp] theorem State.modZone_cl (s : State) (t z : Nat) (f : Zone → Zone) : (s.modZone t z f).cl = s.cl := rfl
@[simp] theorem State.modZone_pts (s : State) (t z : Nat) (f : Zone → Zone) : (s.modZone t z f).pts = s.pts := rfl
@[simp] theorem State.modZone_mt (s : State) (t z : Nat) (f : Zone → Zone) : (s.modZone t z f).mt = s.mt := rfl
@[simp] theorem State.modZone_fed (s : State) (t z : Nat) (f : Zone → Zone) : (s.modZone t z f).fed = s.fed := rfl
@[simp] theorem State.modZone_cal (s : State) (t z : Nat) (f : Zone → Zone) : (s.modZone t z f).cal = s.cal := rfl
@[simp] theorem State.modZone_nv (s : State) (t z : Nat) (f : Zone → Zone) : (s.modZone t z f).nv = s.nv := rfl
@[simp] theorem State.modZone_pw (s : State) (t z : Nat) (f : Zone → Zone) : (s.modZone t z f).pw = s.pw := rfl
@[simp] theorem State.modZone_tpow (s : State) (t z : Nat) (f : Zone → Zone) : (s.modZone t z f).tpow = s.tpow := rfl
@[simp] theorem State.modZone_shaded (s : State) (t z : Nat) (f : Zone → Zone) : (s.modZone t z f).shaded = s.shaded := rfl
@[simp] theorem State.modZone_weekOrigin (s : State) (t z : Nat) (f : Zone → Zone) : (s.modZone t z f).weekOrigin = s.weekOrigin := rfl
@[simp] theorem State.modZone_hostMem (s : State) (t z : Nat) (f : Zone → Zone) : (s.modZone t z f).hostMem = s.hostMem := rfl
@[simp] theorem State.modZone_ringMem (s : State) (t z : Nat) (f : Zone → Zone) : (s.modZone t z f).ringMem = s.ringMem := rfl
@[simp] theorem State.modZone_free (s : State) (t z : Nat) (f : Zone → Zone) : (s.modZone t z f).free = s.free := rfl

/-! ## modDrive changes `tiles` alone -/

@[simp] theorem State.modDrive_pending (s : State) (t j : Nat) (f : Drive → Drive) : (s.modDrive t j f).pending = s.pending := rfl
@[simp] theorem State.modDrive_tb (s : State) (t j : Nat) (f : Drive → Drive) : (s.modDrive t j f).tb = s.tb := rfl
@[simp] theorem State.modDrive_ev (s : State) (t j : Nat) (f : Drive → Drive) : (s.modDrive t j f).ev = s.ev := rfl
@[simp] theorem State.modDrive_hub (s : State) (t j : Nat) (f : Drive → Drive) : (s.modDrive t j f).hub = s.hub := rfl
@[simp] theorem State.modDrive_cl (s : State) (t j : Nat) (f : Drive → Drive) : (s.modDrive t j f).cl = s.cl := rfl
@[simp] theorem State.modDrive_pts (s : State) (t j : Nat) (f : Drive → Drive) : (s.modDrive t j f).pts = s.pts := rfl
@[simp] theorem State.modDrive_mt (s : State) (t j : Nat) (f : Drive → Drive) : (s.modDrive t j f).mt = s.mt := rfl
@[simp] theorem State.modDrive_fed (s : State) (t j : Nat) (f : Drive → Drive) : (s.modDrive t j f).fed = s.fed := rfl
@[simp] theorem State.modDrive_cal (s : State) (t j : Nat) (f : Drive → Drive) : (s.modDrive t j f).cal = s.cal := rfl
@[simp] theorem State.modDrive_nv (s : State) (t j : Nat) (f : Drive → Drive) : (s.modDrive t j f).nv = s.nv := rfl
@[simp] theorem State.modDrive_pw (s : State) (t j : Nat) (f : Drive → Drive) : (s.modDrive t j f).pw = s.pw := rfl
@[simp] theorem State.modDrive_tpow (s : State) (t j : Nat) (f : Drive → Drive) : (s.modDrive t j f).tpow = s.tpow := rfl
@[simp] theorem State.modDrive_shaded (s : State) (t j : Nat) (f : Drive → Drive) : (s.modDrive t j f).shaded = s.shaded := rfl
@[simp] theorem State.modDrive_weekOrigin (s : State) (t j : Nat) (f : Drive → Drive) : (s.modDrive t j f).weekOrigin = s.weekOrigin := rfl
@[simp] theorem State.modDrive_hostMem (s : State) (t j : Nat) (f : Drive → Drive) : (s.modDrive t j f).hostMem = s.hostMem := rfl
@[simp] theorem State.modDrive_ringMem (s : State) (t j : Nat) (f : Drive → Drive) : (s.modDrive t j f).ringMem = s.ringMem := rfl
@[simp] theorem State.modDrive_free (s : State) (t j : Nat) (f : Drive → Drive) : (s.modDrive t j f).free = s.free := rfl

/-! ## modAo changes `tiles` alone -/

@[simp] theorem State.modAo_pending (s : State) (t k : Nat) (f : Ao → Ao) : (s.modAo t k f).pending = s.pending := rfl
@[simp] theorem State.modAo_tb (s : State) (t k : Nat) (f : Ao → Ao) : (s.modAo t k f).tb = s.tb := rfl
@[simp] theorem State.modAo_ev (s : State) (t k : Nat) (f : Ao → Ao) : (s.modAo t k f).ev = s.ev := rfl
@[simp] theorem State.modAo_hub (s : State) (t k : Nat) (f : Ao → Ao) : (s.modAo t k f).hub = s.hub := rfl
@[simp] theorem State.modAo_cl (s : State) (t k : Nat) (f : Ao → Ao) : (s.modAo t k f).cl = s.cl := rfl
@[simp] theorem State.modAo_pts (s : State) (t k : Nat) (f : Ao → Ao) : (s.modAo t k f).pts = s.pts := rfl
@[simp] theorem State.modAo_mt (s : State) (t k : Nat) (f : Ao → Ao) : (s.modAo t k f).mt = s.mt := rfl
@[simp] theorem State.modAo_fed (s : State) (t k : Nat) (f : Ao → Ao) : (s.modAo t k f).fed = s.fed := rfl
@[simp] theorem State.modAo_cal (s : State) (t k : Nat) (f : Ao → Ao) : (s.modAo t k f).cal = s.cal := rfl
@[simp] theorem State.modAo_nv (s : State) (t k : Nat) (f : Ao → Ao) : (s.modAo t k f).nv = s.nv := rfl
@[simp] theorem State.modAo_pw (s : State) (t k : Nat) (f : Ao → Ao) : (s.modAo t k f).pw = s.pw := rfl
@[simp] theorem State.modAo_tpow (s : State) (t k : Nat) (f : Ao → Ao) : (s.modAo t k f).tpow = s.tpow := rfl
@[simp] theorem State.modAo_shaded (s : State) (t k : Nat) (f : Ao → Ao) : (s.modAo t k f).shaded = s.shaded := rfl
@[simp] theorem State.modAo_weekOrigin (s : State) (t k : Nat) (f : Ao → Ao) : (s.modAo t k f).weekOrigin = s.weekOrigin := rfl
@[simp] theorem State.modAo_hostMem (s : State) (t k : Nat) (f : Ao → Ao) : (s.modAo t k f).hostMem = s.hostMem := rfl
@[simp] theorem State.modAo_ringMem (s : State) (t k : Nat) (f : Ao → Ao) : (s.modAo t k f).ringMem = s.ringMem := rfl
@[simp] theorem State.modAo_free (s : State) (t k : Nat) (f : Ao → Ao) : (s.modAo t k f).free = s.free := rfl

/-! ## modFan changes `tiles` alone -/

@[simp] theorem State.modFan_pending (s : State) (t k : Nat) (f : Fan → Fan) : (s.modFan t k f).pending = s.pending := rfl
@[simp] theorem State.modFan_tb (s : State) (t k : Nat) (f : Fan → Fan) : (s.modFan t k f).tb = s.tb := rfl
@[simp] theorem State.modFan_ev (s : State) (t k : Nat) (f : Fan → Fan) : (s.modFan t k f).ev = s.ev := rfl
@[simp] theorem State.modFan_hub (s : State) (t k : Nat) (f : Fan → Fan) : (s.modFan t k f).hub = s.hub := rfl
@[simp] theorem State.modFan_cl (s : State) (t k : Nat) (f : Fan → Fan) : (s.modFan t k f).cl = s.cl := rfl
@[simp] theorem State.modFan_pts (s : State) (t k : Nat) (f : Fan → Fan) : (s.modFan t k f).pts = s.pts := rfl
@[simp] theorem State.modFan_mt (s : State) (t k : Nat) (f : Fan → Fan) : (s.modFan t k f).mt = s.mt := rfl
@[simp] theorem State.modFan_fed (s : State) (t k : Nat) (f : Fan → Fan) : (s.modFan t k f).fed = s.fed := rfl
@[simp] theorem State.modFan_cal (s : State) (t k : Nat) (f : Fan → Fan) : (s.modFan t k f).cal = s.cal := rfl
@[simp] theorem State.modFan_nv (s : State) (t k : Nat) (f : Fan → Fan) : (s.modFan t k f).nv = s.nv := rfl
@[simp] theorem State.modFan_pw (s : State) (t k : Nat) (f : Fan → Fan) : (s.modFan t k f).pw = s.pw := rfl
@[simp] theorem State.modFan_tpow (s : State) (t k : Nat) (f : Fan → Fan) : (s.modFan t k f).tpow = s.tpow := rfl
@[simp] theorem State.modFan_shaded (s : State) (t k : Nat) (f : Fan → Fan) : (s.modFan t k f).shaded = s.shaded := rfl
@[simp] theorem State.modFan_weekOrigin (s : State) (t k : Nat) (f : Fan → Fan) : (s.modFan t k f).weekOrigin = s.weekOrigin := rfl
@[simp] theorem State.modFan_hostMem (s : State) (t k : Nat) (f : Fan → Fan) : (s.modFan t k f).hostMem = s.hostMem := rfl
@[simp] theorem State.modFan_ringMem (s : State) (t k : Nat) (f : Fan → Fan) : (s.modFan t k f).ringMem = s.ringMem := rfl
@[simp] theorem State.modFan_free (s : State) (t k : Nat) (f : Fan → Fan) : (s.modFan t k f).free = s.free := rfl

/-! ## modBus changes `tiles` alone -/

@[simp] theorem State.modBus_pending (s : State) (k : Nat) (f : Bus → Bus) : (s.modBus k f).pending = s.pending := rfl
@[simp] theorem State.modBus_tb (s : State) (k : Nat) (f : Bus → Bus) : (s.modBus k f).tb = s.tb := rfl
@[simp] theorem State.modBus_ev (s : State) (k : Nat) (f : Bus → Bus) : (s.modBus k f).ev = s.ev := rfl
@[simp] theorem State.modBus_hub (s : State) (k : Nat) (f : Bus → Bus) : (s.modBus k f).hub = s.hub := rfl
@[simp] theorem State.modBus_cl (s : State) (k : Nat) (f : Bus → Bus) : (s.modBus k f).cl = s.cl := rfl
@[simp] theorem State.modBus_pts (s : State) (k : Nat) (f : Bus → Bus) : (s.modBus k f).pts = s.pts := rfl
@[simp] theorem State.modBus_mt (s : State) (k : Nat) (f : Bus → Bus) : (s.modBus k f).mt = s.mt := rfl
@[simp] theorem State.modBus_fed (s : State) (k : Nat) (f : Bus → Bus) : (s.modBus k f).fed = s.fed := rfl
@[simp] theorem State.modBus_cal (s : State) (k : Nat) (f : Bus → Bus) : (s.modBus k f).cal = s.cal := rfl
@[simp] theorem State.modBus_nv (s : State) (k : Nat) (f : Bus → Bus) : (s.modBus k f).nv = s.nv := rfl
@[simp] theorem State.modBus_pw (s : State) (k : Nat) (f : Bus → Bus) : (s.modBus k f).pw = s.pw := rfl
@[simp] theorem State.modBus_tpow (s : State) (k : Nat) (f : Bus → Bus) : (s.modBus k f).tpow = s.tpow := rfl
@[simp] theorem State.modBus_shaded (s : State) (k : Nat) (f : Bus → Bus) : (s.modBus k f).shaded = s.shaded := rfl
@[simp] theorem State.modBus_weekOrigin (s : State) (k : Nat) (f : Bus → Bus) : (s.modBus k f).weekOrigin = s.weekOrigin := rfl
@[simp] theorem State.modBus_hostMem (s : State) (k : Nat) (f : Bus → Bus) : (s.modBus k f).hostMem = s.hostMem := rfl
@[simp] theorem State.modBus_ringMem (s : State) (k : Nat) (f : Bus → Bus) : (s.modBus k f).ringMem = s.ringMem := rfl
@[simp] theorem State.modBus_free (s : State) (k : Nat) (f : Bus → Bus) : (s.modBus k f).free = s.free := rfl

/-! ## modNode changes `tiles` alone -/

@[simp] theorem State.modNode_pending (s : State) (k n : Nat) (f : Node → Node) : (s.modNode k n f).pending = s.pending := rfl
@[simp] theorem State.modNode_tb (s : State) (k n : Nat) (f : Node → Node) : (s.modNode k n f).tb = s.tb := rfl
@[simp] theorem State.modNode_ev (s : State) (k n : Nat) (f : Node → Node) : (s.modNode k n f).ev = s.ev := rfl
@[simp] theorem State.modNode_hub (s : State) (k n : Nat) (f : Node → Node) : (s.modNode k n f).hub = s.hub := rfl
@[simp] theorem State.modNode_cl (s : State) (k n : Nat) (f : Node → Node) : (s.modNode k n f).cl = s.cl := rfl
@[simp] theorem State.modNode_pts (s : State) (k n : Nat) (f : Node → Node) : (s.modNode k n f).pts = s.pts := rfl
@[simp] theorem State.modNode_mt (s : State) (k n : Nat) (f : Node → Node) : (s.modNode k n f).mt = s.mt := rfl
@[simp] theorem State.modNode_fed (s : State) (k n : Nat) (f : Node → Node) : (s.modNode k n f).fed = s.fed := rfl
@[simp] theorem State.modNode_cal (s : State) (k n : Nat) (f : Node → Node) : (s.modNode k n f).cal = s.cal := rfl
@[simp] theorem State.modNode_nv (s : State) (k n : Nat) (f : Node → Node) : (s.modNode k n f).nv = s.nv := rfl
@[simp] theorem State.modNode_pw (s : State) (k n : Nat) (f : Node → Node) : (s.modNode k n f).pw = s.pw := rfl
@[simp] theorem State.modNode_tpow (s : State) (k n : Nat) (f : Node → Node) : (s.modNode k n f).tpow = s.tpow := rfl
@[simp] theorem State.modNode_shaded (s : State) (k n : Nat) (f : Node → Node) : (s.modNode k n f).shaded = s.shaded := rfl
@[simp] theorem State.modNode_weekOrigin (s : State) (k n : Nat) (f : Node → Node) : (s.modNode k n f).weekOrigin = s.weekOrigin := rfl
@[simp] theorem State.modNode_hostMem (s : State) (k n : Nat) (f : Node → Node) : (s.modNode k n f).hostMem = s.hostMem := rfl
@[simp] theorem State.modNode_ringMem (s : State) (k n : Nat) (f : Node → Node) : (s.modNode k n f).ringMem = s.ringMem := rfl
@[simp] theorem State.modNode_free (s : State) (k n : Nat) (f : Node → Node) : (s.modNode k n f).free = s.free := rfl

/-! ## modHead changes `tiles` alone -/

@[simp] theorem State.modHead_pending (s : State) (h : Nat) (f : Head → Head) : (s.modHead h f).pending = s.pending := rfl
@[simp] theorem State.modHead_tb (s : State) (h : Nat) (f : Head → Head) : (s.modHead h f).tb = s.tb := rfl
@[simp] theorem State.modHead_ev (s : State) (h : Nat) (f : Head → Head) : (s.modHead h f).ev = s.ev := rfl
@[simp] theorem State.modHead_hub (s : State) (h : Nat) (f : Head → Head) : (s.modHead h f).hub = s.hub := rfl
@[simp] theorem State.modHead_cl (s : State) (h : Nat) (f : Head → Head) : (s.modHead h f).cl = s.cl := rfl
@[simp] theorem State.modHead_pts (s : State) (h : Nat) (f : Head → Head) : (s.modHead h f).pts = s.pts := rfl
@[simp] theorem State.modHead_mt (s : State) (h : Nat) (f : Head → Head) : (s.modHead h f).mt = s.mt := rfl
@[simp] theorem State.modHead_fed (s : State) (h : Nat) (f : Head → Head) : (s.modHead h f).fed = s.fed := rfl
@[simp] theorem State.modHead_cal (s : State) (h : Nat) (f : Head → Head) : (s.modHead h f).cal = s.cal := rfl
@[simp] theorem State.modHead_nv (s : State) (h : Nat) (f : Head → Head) : (s.modHead h f).nv = s.nv := rfl
@[simp] theorem State.modHead_pw (s : State) (h : Nat) (f : Head → Head) : (s.modHead h f).pw = s.pw := rfl
@[simp] theorem State.modHead_tpow (s : State) (h : Nat) (f : Head → Head) : (s.modHead h f).tpow = s.tpow := rfl
@[simp] theorem State.modHead_shaded (s : State) (h : Nat) (f : Head → Head) : (s.modHead h f).shaded = s.shaded := rfl
@[simp] theorem State.modHead_weekOrigin (s : State) (h : Nat) (f : Head → Head) : (s.modHead h f).weekOrigin = s.weekOrigin := rfl
@[simp] theorem State.modHead_hostMem (s : State) (h : Nat) (f : Head → Head) : (s.modHead h f).hostMem = s.hostMem := rfl
@[simp] theorem State.modHead_ringMem (s : State) (h : Nat) (f : Head → Head) : (s.modHead h f).ringMem = s.ringMem := rfl
@[simp] theorem State.modHead_free (s : State) (h : Nat) (f : Head → Head) : (s.modHead h f).free = s.free := rfl

/-! ## modMeter changes `mt` alone -/

@[simp] theorem State.modMeter_pending (s : State) (t p : Nat) (f : MeterPair → MeterPair) : (s.modMeter t p f).pending = s.pending := rfl
@[simp] theorem State.modMeter_tb (s : State) (t p : Nat) (f : MeterPair → MeterPair) : (s.modMeter t p f).tb = s.tb := rfl
@[simp] theorem State.modMeter_ev (s : State) (t p : Nat) (f : MeterPair → MeterPair) : (s.modMeter t p f).ev = s.ev := rfl
@[simp] theorem State.modMeter_hub (s : State) (t p : Nat) (f : MeterPair → MeterPair) : (s.modMeter t p f).hub = s.hub := rfl
@[simp] theorem State.modMeter_cl (s : State) (t p : Nat) (f : MeterPair → MeterPair) : (s.modMeter t p f).cl = s.cl := rfl
@[simp] theorem State.modMeter_pts (s : State) (t p : Nat) (f : MeterPair → MeterPair) : (s.modMeter t p f).pts = s.pts := rfl
@[simp] theorem State.modMeter_fed (s : State) (t p : Nat) (f : MeterPair → MeterPair) : (s.modMeter t p f).fed = s.fed := rfl
@[simp] theorem State.modMeter_cal (s : State) (t p : Nat) (f : MeterPair → MeterPair) : (s.modMeter t p f).cal = s.cal := rfl
@[simp] theorem State.modMeter_nv (s : State) (t p : Nat) (f : MeterPair → MeterPair) : (s.modMeter t p f).nv = s.nv := rfl
@[simp] theorem State.modMeter_pw (s : State) (t p : Nat) (f : MeterPair → MeterPair) : (s.modMeter t p f).pw = s.pw := rfl
@[simp] theorem State.modMeter_tpow (s : State) (t p : Nat) (f : MeterPair → MeterPair) : (s.modMeter t p f).tpow = s.tpow := rfl
@[simp] theorem State.modMeter_tiles (s : State) (t p : Nat) (f : MeterPair → MeterPair) : (s.modMeter t p f).tiles = s.tiles := rfl
@[simp] theorem State.modMeter_shaded (s : State) (t p : Nat) (f : MeterPair → MeterPair) : (s.modMeter t p f).shaded = s.shaded := rfl
@[simp] theorem State.modMeter_weekOrigin (s : State) (t p : Nat) (f : MeterPair → MeterPair) : (s.modMeter t p f).weekOrigin = s.weekOrigin := rfl
@[simp] theorem State.modMeter_hostMem (s : State) (t p : Nat) (f : MeterPair → MeterPair) : (s.modMeter t p f).hostMem = s.hostMem := rfl
@[simp] theorem State.modMeter_ringMem (s : State) (t p : Nat) (f : MeterPair → MeterPair) : (s.modMeter t p f).ringMem = s.ringMem := rfl
@[simp] theorem State.modMeter_free (s : State) (t p : Nat) (f : MeterPair → MeterPair) : (s.modMeter t p f).free = s.free := rfl

/-! ## modMeters changes `mt` alone -/

@[simp] theorem State.modMeters_pending (s : State) (f : MeterPair → MeterPair) : (s.modMeters f).pending = s.pending := rfl
@[simp] theorem State.modMeters_tb (s : State) (f : MeterPair → MeterPair) : (s.modMeters f).tb = s.tb := rfl
@[simp] theorem State.modMeters_ev (s : State) (f : MeterPair → MeterPair) : (s.modMeters f).ev = s.ev := rfl
@[simp] theorem State.modMeters_hub (s : State) (f : MeterPair → MeterPair) : (s.modMeters f).hub = s.hub := rfl
@[simp] theorem State.modMeters_cl (s : State) (f : MeterPair → MeterPair) : (s.modMeters f).cl = s.cl := rfl
@[simp] theorem State.modMeters_pts (s : State) (f : MeterPair → MeterPair) : (s.modMeters f).pts = s.pts := rfl
@[simp] theorem State.modMeters_fed (s : State) (f : MeterPair → MeterPair) : (s.modMeters f).fed = s.fed := rfl
@[simp] theorem State.modMeters_cal (s : State) (f : MeterPair → MeterPair) : (s.modMeters f).cal = s.cal := rfl
@[simp] theorem State.modMeters_nv (s : State) (f : MeterPair → MeterPair) : (s.modMeters f).nv = s.nv := rfl
@[simp] theorem State.modMeters_pw (s : State) (f : MeterPair → MeterPair) : (s.modMeters f).pw = s.pw := rfl
@[simp] theorem State.modMeters_tpow (s : State) (f : MeterPair → MeterPair) : (s.modMeters f).tpow = s.tpow := rfl
@[simp] theorem State.modMeters_tiles (s : State) (f : MeterPair → MeterPair) : (s.modMeters f).tiles = s.tiles := rfl
@[simp] theorem State.modMeters_shaded (s : State) (f : MeterPair → MeterPair) : (s.modMeters f).shaded = s.shaded := rfl
@[simp] theorem State.modMeters_weekOrigin (s : State) (f : MeterPair → MeterPair) : (s.modMeters f).weekOrigin = s.weekOrigin := rfl
@[simp] theorem State.modMeters_hostMem (s : State) (f : MeterPair → MeterPair) : (s.modMeters f).hostMem = s.hostMem := rfl
@[simp] theorem State.modMeters_ringMem (s : State) (f : MeterPair → MeterPair) : (s.modMeters f).ringMem = s.ringMem := rfl
@[simp] theorem State.modMeters_free (s : State) (f : MeterPair → MeterPair) : (s.modMeters f).free = s.free := rfl

/-! ## modLink changes `fed` alone -/

@[simp] theorem State.modLink_pending (s : State) (l : Nat) (f : Link → Link) : (s.modLink l f).pending = s.pending := rfl
@[simp] theorem State.modLink_tb (s : State) (l : Nat) (f : Link → Link) : (s.modLink l f).tb = s.tb := rfl
@[simp] theorem State.modLink_ev (s : State) (l : Nat) (f : Link → Link) : (s.modLink l f).ev = s.ev := rfl
@[simp] theorem State.modLink_hub (s : State) (l : Nat) (f : Link → Link) : (s.modLink l f).hub = s.hub := rfl
@[simp] theorem State.modLink_cl (s : State) (l : Nat) (f : Link → Link) : (s.modLink l f).cl = s.cl := rfl
@[simp] theorem State.modLink_pts (s : State) (l : Nat) (f : Link → Link) : (s.modLink l f).pts = s.pts := rfl
@[simp] theorem State.modLink_mt (s : State) (l : Nat) (f : Link → Link) : (s.modLink l f).mt = s.mt := rfl
@[simp] theorem State.modLink_cal (s : State) (l : Nat) (f : Link → Link) : (s.modLink l f).cal = s.cal := rfl
@[simp] theorem State.modLink_nv (s : State) (l : Nat) (f : Link → Link) : (s.modLink l f).nv = s.nv := rfl
@[simp] theorem State.modLink_pw (s : State) (l : Nat) (f : Link → Link) : (s.modLink l f).pw = s.pw := rfl
@[simp] theorem State.modLink_tpow (s : State) (l : Nat) (f : Link → Link) : (s.modLink l f).tpow = s.tpow := rfl
@[simp] theorem State.modLink_tiles (s : State) (l : Nat) (f : Link → Link) : (s.modLink l f).tiles = s.tiles := rfl
@[simp] theorem State.modLink_shaded (s : State) (l : Nat) (f : Link → Link) : (s.modLink l f).shaded = s.shaded := rfl
@[simp] theorem State.modLink_weekOrigin (s : State) (l : Nat) (f : Link → Link) : (s.modLink l f).weekOrigin = s.weekOrigin := rfl
@[simp] theorem State.modLink_hostMem (s : State) (l : Nat) (f : Link → Link) : (s.modLink l f).hostMem = s.hostMem := rfl
@[simp] theorem State.modLink_ringMem (s : State) (l : Nat) (f : Link → Link) : (s.modLink l f).ringMem = s.ringMem := rfl
@[simp] theorem State.modLink_free (s : State) (l : Nat) (f : Link → Link) : (s.modLink l f).free = s.free := rfl

/-! ## putPeer changes `fed` alone -/

@[simp] theorem State.putPeer_pending (s : State) (chip : Nat) (p : Peer) : (s.putPeer chip p).pending = s.pending := rfl
@[simp] theorem State.putPeer_tb (s : State) (chip : Nat) (p : Peer) : (s.putPeer chip p).tb = s.tb := rfl
@[simp] theorem State.putPeer_ev (s : State) (chip : Nat) (p : Peer) : (s.putPeer chip p).ev = s.ev := rfl
@[simp] theorem State.putPeer_hub (s : State) (chip : Nat) (p : Peer) : (s.putPeer chip p).hub = s.hub := rfl
@[simp] theorem State.putPeer_cl (s : State) (chip : Nat) (p : Peer) : (s.putPeer chip p).cl = s.cl := rfl
@[simp] theorem State.putPeer_pts (s : State) (chip : Nat) (p : Peer) : (s.putPeer chip p).pts = s.pts := rfl
@[simp] theorem State.putPeer_mt (s : State) (chip : Nat) (p : Peer) : (s.putPeer chip p).mt = s.mt := rfl
@[simp] theorem State.putPeer_cal (s : State) (chip : Nat) (p : Peer) : (s.putPeer chip p).cal = s.cal := rfl
@[simp] theorem State.putPeer_nv (s : State) (chip : Nat) (p : Peer) : (s.putPeer chip p).nv = s.nv := rfl
@[simp] theorem State.putPeer_pw (s : State) (chip : Nat) (p : Peer) : (s.putPeer chip p).pw = s.pw := rfl
@[simp] theorem State.putPeer_tpow (s : State) (chip : Nat) (p : Peer) : (s.putPeer chip p).tpow = s.tpow := rfl
@[simp] theorem State.putPeer_tiles (s : State) (chip : Nat) (p : Peer) : (s.putPeer chip p).tiles = s.tiles := rfl
@[simp] theorem State.putPeer_shaded (s : State) (chip : Nat) (p : Peer) : (s.putPeer chip p).shaded = s.shaded := rfl
@[simp] theorem State.putPeer_weekOrigin (s : State) (chip : Nat) (p : Peer) : (s.putPeer chip p).weekOrigin = s.weekOrigin := rfl
@[simp] theorem State.putPeer_hostMem (s : State) (chip : Nat) (p : Peer) : (s.putPeer chip p).hostMem = s.hostMem := rfl
@[simp] theorem State.putPeer_ringMem (s : State) (chip : Nat) (p : Peer) : (s.putPeer chip p).ringMem = s.ringMem := rfl
@[simp] theorem State.putPeer_free (s : State) (chip : Nat) (p : Peer) : (s.putPeer chip p).free = s.free := rfl

/-! ## modCal changes `cal` alone -/

@[simp] theorem State.modCal_pending (s : State) (key : Nat) (f : CalItem → CalItem) : (s.modCal key f).pending = s.pending := rfl
@[simp] theorem State.modCal_tb (s : State) (key : Nat) (f : CalItem → CalItem) : (s.modCal key f).tb = s.tb := rfl
@[simp] theorem State.modCal_ev (s : State) (key : Nat) (f : CalItem → CalItem) : (s.modCal key f).ev = s.ev := rfl
@[simp] theorem State.modCal_hub (s : State) (key : Nat) (f : CalItem → CalItem) : (s.modCal key f).hub = s.hub := rfl
@[simp] theorem State.modCal_cl (s : State) (key : Nat) (f : CalItem → CalItem) : (s.modCal key f).cl = s.cl := rfl
@[simp] theorem State.modCal_pts (s : State) (key : Nat) (f : CalItem → CalItem) : (s.modCal key f).pts = s.pts := rfl
@[simp] theorem State.modCal_mt (s : State) (key : Nat) (f : CalItem → CalItem) : (s.modCal key f).mt = s.mt := rfl
@[simp] theorem State.modCal_fed (s : State) (key : Nat) (f : CalItem → CalItem) : (s.modCal key f).fed = s.fed := rfl
@[simp] theorem State.modCal_nv (s : State) (key : Nat) (f : CalItem → CalItem) : (s.modCal key f).nv = s.nv := rfl
@[simp] theorem State.modCal_pw (s : State) (key : Nat) (f : CalItem → CalItem) : (s.modCal key f).pw = s.pw := rfl
@[simp] theorem State.modCal_tpow (s : State) (key : Nat) (f : CalItem → CalItem) : (s.modCal key f).tpow = s.tpow := rfl
@[simp] theorem State.modCal_tiles (s : State) (key : Nat) (f : CalItem → CalItem) : (s.modCal key f).tiles = s.tiles := rfl
@[simp] theorem State.modCal_shaded (s : State) (key : Nat) (f : CalItem → CalItem) : (s.modCal key f).shaded = s.shaded := rfl
@[simp] theorem State.modCal_weekOrigin (s : State) (key : Nat) (f : CalItem → CalItem) : (s.modCal key f).weekOrigin = s.weekOrigin := rfl
@[simp] theorem State.modCal_hostMem (s : State) (key : Nat) (f : CalItem → CalItem) : (s.modCal key f).hostMem = s.hostMem := rfl
@[simp] theorem State.modCal_ringMem (s : State) (key : Nat) (f : CalItem → CalItem) : (s.modCal key f).ringMem = s.ringMem := rfl
@[simp] theorem State.modCal_free (s : State) (key : Nat) (f : CalItem → CalItem) : (s.modCal key f).free = s.free := rfl

/-! ## modThrottle changes `pw` alone -/

@[simp] theorem State.modThrottle_pending (s : State) (t : Nat) (f : Throttle → Throttle) : (s.modThrottle t f).pending = s.pending := rfl
@[simp] theorem State.modThrottle_tb (s : State) (t : Nat) (f : Throttle → Throttle) : (s.modThrottle t f).tb = s.tb := rfl
@[simp] theorem State.modThrottle_ev (s : State) (t : Nat) (f : Throttle → Throttle) : (s.modThrottle t f).ev = s.ev := rfl
@[simp] theorem State.modThrottle_hub (s : State) (t : Nat) (f : Throttle → Throttle) : (s.modThrottle t f).hub = s.hub := rfl
@[simp] theorem State.modThrottle_cl (s : State) (t : Nat) (f : Throttle → Throttle) : (s.modThrottle t f).cl = s.cl := rfl
@[simp] theorem State.modThrottle_pts (s : State) (t : Nat) (f : Throttle → Throttle) : (s.modThrottle t f).pts = s.pts := rfl
@[simp] theorem State.modThrottle_mt (s : State) (t : Nat) (f : Throttle → Throttle) : (s.modThrottle t f).mt = s.mt := rfl
@[simp] theorem State.modThrottle_fed (s : State) (t : Nat) (f : Throttle → Throttle) : (s.modThrottle t f).fed = s.fed := rfl
@[simp] theorem State.modThrottle_cal (s : State) (t : Nat) (f : Throttle → Throttle) : (s.modThrottle t f).cal = s.cal := rfl
@[simp] theorem State.modThrottle_nv (s : State) (t : Nat) (f : Throttle → Throttle) : (s.modThrottle t f).nv = s.nv := rfl
@[simp] theorem State.modThrottle_tpow (s : State) (t : Nat) (f : Throttle → Throttle) : (s.modThrottle t f).tpow = s.tpow := rfl
@[simp] theorem State.modThrottle_tiles (s : State) (t : Nat) (f : Throttle → Throttle) : (s.modThrottle t f).tiles = s.tiles := rfl
@[simp] theorem State.modThrottle_shaded (s : State) (t : Nat) (f : Throttle → Throttle) : (s.modThrottle t f).shaded = s.shaded := rfl
@[simp] theorem State.modThrottle_weekOrigin (s : State) (t : Nat) (f : Throttle → Throttle) : (s.modThrottle t f).weekOrigin = s.weekOrigin := rfl
@[simp] theorem State.modThrottle_hostMem (s : State) (t : Nat) (f : Throttle → Throttle) : (s.modThrottle t f).hostMem = s.hostMem := rfl
@[simp] theorem State.modThrottle_ringMem (s : State) (t : Nat) (f : Throttle → Throttle) : (s.modThrottle t f).ringMem = s.ringMem := rfl
@[simp] theorem State.modThrottle_free (s : State) (t : Nat) (f : Throttle → Throttle) : (s.modThrottle t f).free = s.free := rfl

/-! ## modPair changes `hub` alone -/

@[simp] theorem State.modPair_pending (s : State) (q : Nat) (f : Pair → Pair) : (s.modPair q f).pending = s.pending := rfl
@[simp] theorem State.modPair_tb (s : State) (q : Nat) (f : Pair → Pair) : (s.modPair q f).tb = s.tb := rfl
@[simp] theorem State.modPair_ev (s : State) (q : Nat) (f : Pair → Pair) : (s.modPair q f).ev = s.ev := rfl
@[simp] theorem State.modPair_cl (s : State) (q : Nat) (f : Pair → Pair) : (s.modPair q f).cl = s.cl := rfl
@[simp] theorem State.modPair_pts (s : State) (q : Nat) (f : Pair → Pair) : (s.modPair q f).pts = s.pts := rfl
@[simp] theorem State.modPair_mt (s : State) (q : Nat) (f : Pair → Pair) : (s.modPair q f).mt = s.mt := rfl
@[simp] theorem State.modPair_fed (s : State) (q : Nat) (f : Pair → Pair) : (s.modPair q f).fed = s.fed := rfl
@[simp] theorem State.modPair_cal (s : State) (q : Nat) (f : Pair → Pair) : (s.modPair q f).cal = s.cal := rfl
@[simp] theorem State.modPair_nv (s : State) (q : Nat) (f : Pair → Pair) : (s.modPair q f).nv = s.nv := rfl
@[simp] theorem State.modPair_pw (s : State) (q : Nat) (f : Pair → Pair) : (s.modPair q f).pw = s.pw := rfl
@[simp] theorem State.modPair_tpow (s : State) (q : Nat) (f : Pair → Pair) : (s.modPair q f).tpow = s.tpow := rfl
@[simp] theorem State.modPair_tiles (s : State) (q : Nat) (f : Pair → Pair) : (s.modPair q f).tiles = s.tiles := rfl
@[simp] theorem State.modPair_shaded (s : State) (q : Nat) (f : Pair → Pair) : (s.modPair q f).shaded = s.shaded := rfl
@[simp] theorem State.modPair_weekOrigin (s : State) (q : Nat) (f : Pair → Pair) : (s.modPair q f).weekOrigin = s.weekOrigin := rfl
@[simp] theorem State.modPair_hostMem (s : State) (q : Nat) (f : Pair → Pair) : (s.modPair q f).hostMem = s.hostMem := rfl
@[simp] theorem State.modPair_ringMem (s : State) (q : Nat) (f : Pair → Pair) : (s.modPair q f).ringMem = s.ringMem := rfl
@[simp] theorem State.modPair_free (s : State) (q : Nat) (f : Pair → Pair) : (s.modPair q f).free = s.free := rfl

/-! ## putPoint changes `pts` alone -/

@[simp] theorem State.putPoint_pending (s : State) (id : Nat) (p : Point) : (s.putPoint id p).pending = s.pending := rfl
@[simp] theorem State.putPoint_tb (s : State) (id : Nat) (p : Point) : (s.putPoint id p).tb = s.tb := rfl
@[simp] theorem State.putPoint_ev (s : State) (id : Nat) (p : Point) : (s.putPoint id p).ev = s.ev := rfl
@[simp] theorem State.putPoint_hub (s : State) (id : Nat) (p : Point) : (s.putPoint id p).hub = s.hub := rfl
@[simp] theorem State.putPoint_cl (s : State) (id : Nat) (p : Point) : (s.putPoint id p).cl = s.cl := rfl
@[simp] theorem State.putPoint_mt (s : State) (id : Nat) (p : Point) : (s.putPoint id p).mt = s.mt := rfl
@[simp] theorem State.putPoint_fed (s : State) (id : Nat) (p : Point) : (s.putPoint id p).fed = s.fed := rfl
@[simp] theorem State.putPoint_cal (s : State) (id : Nat) (p : Point) : (s.putPoint id p).cal = s.cal := rfl
@[simp] theorem State.putPoint_nv (s : State) (id : Nat) (p : Point) : (s.putPoint id p).nv = s.nv := rfl
@[simp] theorem State.putPoint_pw (s : State) (id : Nat) (p : Point) : (s.putPoint id p).pw = s.pw := rfl
@[simp] theorem State.putPoint_tpow (s : State) (id : Nat) (p : Point) : (s.putPoint id p).tpow = s.tpow := rfl
@[simp] theorem State.putPoint_tiles (s : State) (id : Nat) (p : Point) : (s.putPoint id p).tiles = s.tiles := rfl
@[simp] theorem State.putPoint_shaded (s : State) (id : Nat) (p : Point) : (s.putPoint id p).shaded = s.shaded := rfl
@[simp] theorem State.putPoint_weekOrigin (s : State) (id : Nat) (p : Point) : (s.putPoint id p).weekOrigin = s.weekOrigin := rfl
@[simp] theorem State.putPoint_hostMem (s : State) (id : Nat) (p : Point) : (s.putPoint id p).hostMem = s.hostMem := rfl
@[simp] theorem State.putPoint_ringMem (s : State) (id : Nat) (p : Point) : (s.putPoint id p).ringMem = s.ringMem := rfl
@[simp] theorem State.putPoint_free (s : State) (id : Nat) (p : Point) : (s.putPoint id p).free = s.free := rfl

/-! ## drawn changes `free` alone -/

@[simp] theorem State.drawn_pending (s : State) : (s.drawn).pending = s.pending := rfl
@[simp] theorem State.drawn_tb (s : State) : (s.drawn).tb = s.tb := rfl
@[simp] theorem State.drawn_ev (s : State) : (s.drawn).ev = s.ev := rfl
@[simp] theorem State.drawn_hub (s : State) : (s.drawn).hub = s.hub := rfl
@[simp] theorem State.drawn_cl (s : State) : (s.drawn).cl = s.cl := rfl
@[simp] theorem State.drawn_pts (s : State) : (s.drawn).pts = s.pts := rfl
@[simp] theorem State.drawn_mt (s : State) : (s.drawn).mt = s.mt := rfl
@[simp] theorem State.drawn_fed (s : State) : (s.drawn).fed = s.fed := rfl
@[simp] theorem State.drawn_cal (s : State) : (s.drawn).cal = s.cal := rfl
@[simp] theorem State.drawn_nv (s : State) : (s.drawn).nv = s.nv := rfl
@[simp] theorem State.drawn_pw (s : State) : (s.drawn).pw = s.pw := rfl
@[simp] theorem State.drawn_tpow (s : State) : (s.drawn).tpow = s.tpow := rfl
@[simp] theorem State.drawn_tiles (s : State) : (s.drawn).tiles = s.tiles := rfl
@[simp] theorem State.drawn_shaded (s : State) : (s.drawn).shaded = s.shaded := rfl
@[simp] theorem State.drawn_weekOrigin (s : State) : (s.drawn).weekOrigin = s.weekOrigin := rfl
@[simp] theorem State.drawn_hostMem (s : State) : (s.drawn).hostMem = s.hostMem := rfl
@[simp] theorem State.drawn_ringMem (s : State) : (s.drawn).ringMem = s.ringMem := rfl

/-! ## What an update leaves in its place -/

theorem State.modTile_tile (s : State) (t u : Nat) (f : Tile → Tile) (h : u < 4) :
    (s.modTile t f).tile u = if u = t then f (s.tile u) else s.tile u := by
  simp only [State.tile, State.modTile, vget_vmod _ _ _ _ _ h]

@[simp] theorem State.modTile_tile_self (s : State) (t : Nat) (f : Tile → Tile) (h : t < 4) :
    (s.modTile t f).tile t = f (s.tile t) := by simp [State.modTile_tile s t t f h]

theorem State.modTile_tile_other (s : State) (t u : Nat) (f : Tile → Tile) (h : u ≠ t) :
    (s.modTile t f).tile u = s.tile u := by
  simp only [State.tile, State.modTile, vget_vmod_other _ _ _ _ _ h]

@[simp] theorem State.modTile_tileOn (s : State) (t u : Nat) (f : Tile → Tile) : (s.modTile t f).tileOn u = s.tileOn u := rfl

@[simp] theorem State.modTile_live (s : State) (t : Nat) (f : Tile → Tile) : (s.modTile t f).live = s.live := rfl

@[simp] theorem State.modHead_head (s : State) (h : Nat) (f : Head → Head) (hh : h < 4) : (s.modHead h f).head h = f (s.head h) := by
  simp [State.head, State.modHead, hh]

@[simp] theorem State.modCal_calItem (s : State) (key : Nat) (f : CalItem → CalItem) :
    (s.modCal key f).calItem key = f (s.calItem key) := by
  simp [State.calItem, State.modCal]

theorem State.modCal_calItem_other (s : State) (key k : Nat) (f : CalItem → CalItem) (h : k ≠ key) :
    (s.modCal key f).calItem k = s.calItem k := by
  unfold State.calItem
  rw [State.modCal, aget_aset_other _ _ _ _ h]
  rfl

theorem State.putPoint_point (s : State) (id : Nat) (p : Point) : (s.putPoint id p).point id = some p := by
  simp [State.point, State.putPoint]

theorem State.putPoint_point_other (s : State) (id i : Nat) (p : Point) (h : i ≠ id) : (s.putPoint id p).point i = s.point i := by
  simp [State.point, State.putPoint, aget_aset_other _ _ _ _ h]

theorem State.modPair_pair (s : State) (q : Nat) (f : Pair → Pair) : (s.modPair q f).pair q = (s.pair q).map f := by
  simp [State.pair, State.modPair]

theorem State.modPair_pair_other (s : State) (q i : Nat) (f : Pair → Pair) (h : i ≠ q) : (s.modPair q f).pair i = s.pair i := by
  simp [State.pair, State.modPair, aget_amod_other _ _ _ _ h]

end Sys2Proof.Machine
end

