-- ==== Sys2Proof/Laws/Hub.lean ====
section
/-!
SUPPORT. Laws/Hub.lean: what signalling, replies and raises can change: the event unit, the hub and the two memories of
replies, and nothing else; and that they keep the memories canonical.
-/

namespace Sys2Proof.Machine

/-- `t` is `s` but for the event unit, the hub, host memory and ring memory. -/
def HubOnly (s t : State) : Prop := { t with ev := s.ev, hub := s.hub, hostMem := s.hostMem, ringMem := s.ringMem } = s

theorem HubOnly.refl (s : State) : HubOnly s s := rfl

theorem HubOnly.trans {s t u : State} (h : HubOnly s t) (g : HubOnly t u) : HubOnly s u := by
  unfold HubOnly at *
  rw [← h, ← g]

/-- The same, the later part first. -/
theorem HubOnly.after {s t u : State} (g : HubOnly t u) (h : HubOnly s t) : HubOnly s u := h.trans g

/-- Whatever does not read the event unit, the hub and the two memories reads the same in both. -/
theorem HubOnly.keeps {s t : State} {α : Type} (h : HubOnly s t) (f : State → α)
    (hf : ∀ (u : State) (e : Events) (b : Hub) (m r : List Host.Cell),
      f { u with ev := e, hub := b, hostMem := m, ringMem := r } = f u) : f t = f s := by
  have g : f ({ t with ev := s.ev, hub := s.hub, hostMem := s.hostMem, ringMem := s.ringMem } : State) = f s := congrArg f h
  rwa [hf] at g

/-! ## Memory -/

theorem State.writeMem_hubOnly (s : State) (sp : Space) (a : Nat) (l : List Byte) : HubOnly s (s.writeMem sp a l) := by
  unfold State.writeMem
  split
  · rfl
  · split <;> rfl

/-- Writing to memory keeps both memories canonical. -/
theorem State.writeMem_wf (s : State) (sp : Space) (a : Nat) (l : List Byte) (h : s.memWf = true) :
    (s.writeMem sp a l).memWf = true := by
  simp only [State.memWf, Bool.and_eq_true] at h ⊢
  obtain ⟨⟨h1, h2⟩, h3⟩ := h
  unfold State.writeMem
  split
  · exact ⟨⟨memWrite_wf l _ a h1, h2⟩, h3⟩
  · split
    · exact ⟨⟨h1, memWrite_wf l _ a h2⟩, h3⟩
    · exact ⟨⟨h1, h2⟩, h3⟩

/-- A state whose memories are those of a canonical one is canonical. -/
theorem State.memWf_congr {s t : State} (h : s.memWf = true) (h1 : t.hostMem = s.hostMem) (h2 : t.ringMem = s.ringMem)
    (h3 : t.nv.cells = s.nv.cells) : t.memWf = true := by
  simp only [State.memWf, h1, h2, h3] at *
  exact h

/-! ## Signals -/

theorem Msix.send_hubOnly (v : Nat) (s : State) : HubOnly s (Msix.send v s) := State.writeMem_hubOnly _ _ _ _

theorem Msix.signal_hubOnly (v : Nat) (s : State) : HubOnly s (Msix.signal v s) := by
  unfold Msix.signal
  split
  · rfl
  · split
    · rfl
    · exact Msix.send_hubOnly v s

theorem Msix.signal_wf (v : Nat) (s : State) (h : s.memWf = true) : (Msix.signal v s).memWf = true := by
  unfold Msix.signal
  split
  · exact h
  · split
    · exact h
    · exact State.writeMem_wf _ _ _ _ h

theorem Ev.signal_hubOnly (src : Nat) (s : State) : HubOnly s (Ev.signal src s) := by
  unfold Ev.signal
  dsimp only
  split
  · rfl
  · exact HubOnly.trans (Msix.signal_hubOnly _ s) rfl

theorem Ev.signal_wf (src : Nat) (s : State) (h : s.memWf = true) : (Ev.signal src s).memWf = true := by
  unfold Ev.signal
  dsimp only
  split
  · exact h
  · exact Msix.signal_wf _ s h

/-! ## Raises -/

theorem Ev.append_hubOnly (src code arg flags ctx : Nat) (s : State) : HubOnly s (Ev.append src code arg flags ctx s) := rfl

theorem Ev.recordOne_hubOnly (src code arg : Nat) (cleared : Bool) (s : State) : HubOnly s (Ev.recordOne src code arg cleared s) := by
  unfold Ev.recordOne
  dsimp only
  split <;> split <;> first | rfl | exact HubOnly.after (Ev.signal_hubOnly _ _) rfl

theorem Ev.recordOne_wf (src code arg : Nat) (cleared : Bool) (s : State) (h : s.memWf = true) :
    (Ev.recordOne src code arg cleared s).memWf = true := by
  unfold Ev.recordOne
  dsimp only
  split <;> split <;> first | exact h | exact Ev.signal_wf _ _ h

theorem Ev.record_hubOnly (src code arg : Nat) (cleared : Bool) (s : State) : HubOnly s (Ev.record src code arg cleared s) := by
  unfold Ev.record Ev.wrapCheck
  dsimp only
  split
  · exact HubOnly.after (Ev.recordOne_hubOnly _ _ _ _ _) (HubOnly.trans (Ev.recordOne_hubOnly _ _ _ _ s) rfl)
  · exact Ev.recordOne_hubOnly _ _ _ _ s

theorem Ev.record_wf (src code arg : Nat) (cleared : Bool) (s : State) (h : s.memWf = true) :
    (Ev.record src code arg cleared s).memWf = true := by
  unfold Ev.record Ev.wrapCheck
  dsimp only
  split
  · exact Ev.recordOne_wf _ _ _ _ _ (Ev.recordOne_wf _ _ _ _ s h)
  · exact Ev.recordOne_wf _ _ _ _ s h

/-! ## Replies -/

theorem Cmd.free_hubOnly (k : Option Key) (s : State) : HubOnly s (Cmd.free k s) := by
  cases k <;> rfl

theorem Cmd.free_wf (k : Option Key) (s : State) (h : s.memWf = true) : (Cmd.free k s).memWf = true := by
  cases k <;> exact h

theorem Ring.signal_hubOnly (q : Nat) (s : State) : HubOnly s (Ring.signal q s) := by
  unfold Ring.signal
  split
  · dsimp only
    split
    · exact HubOnly.after (Msix.signal_hubOnly _ _) rfl
    · rfl
  · rfl

theorem Ring.signal_wf (q : Nat) (s : State) (h : s.memWf = true) : (Ring.signal q s).memWf = true := by
  unfold Ring.signal
  split
  · dsimp only
    split
    · exact Msix.signal_wf _ _ h
    · exact h
  · exact h

theorem Ring.post_hubOnly (q : Nat) (r : Reply) (s : State) : HubOnly s (Ring.post q r s) := by
  unfold Ring.post
  split
  · dsimp only
    have h : ∀ t, HubOnly s t → HubOnly s (Cmd.free r.frees t) := fun t ht => ht.trans (Cmd.free_hubOnly _ _)
    have g : ∀ (a : Nat) (l : List Byte) (f : Pair → Pair) (sp : Space), HubOnly s ((s.writeMem sp a l).modPair q f) :=
      fun a l f sp => (State.writeMem_hubOnly s sp a l).trans rfl
    split
    · exact (h _ (g _ _ _ _)).trans (Ring.signal_hubOnly _ _)
    · exact h _ (g _ _ _ _)
  · exact Cmd.free_hubOnly _ _

theorem Ring.post_wf (q : Nat) (r : Reply) (s : State) (h : s.memWf = true) : (Ring.post q r s).memWf = true := by
  unfold Ring.post
  split
  · dsimp only
    have g : ∀ (a : Nat) (l : List Byte) (f : Pair → Pair) (sp : Space),
        (Cmd.free r.frees ((s.writeMem sp a l).modPair q f)).memWf = true :=
      fun a l f sp => Cmd.free_wf _ _ (State.writeMem_wf s sp a l h)
    split
    · exact Ring.signal_wf _ _ (g _ _ _ _)
    · exact g _ _ _ _
  · exact Cmd.free_wf _ _ h

theorem Ring.reply_hubOnly (q : Nat) (r : Reply) (s : State) : HubOnly s (Ring.reply q r s) := by
  unfold Ring.reply
  split
  · split
    · exact Cmd.free_hubOnly _ _
    · split
      · exact Ring.post_hubOnly q r s
      · dsimp only
        split
        · exact HubOnly.after (Ev.record_hubOnly _ _ _ _ _) rfl
        · rfl
  · exact Cmd.free_hubOnly _ _

theorem Ring.reply_wf (q : Nat) (r : Reply) (s : State) (h : s.memWf = true) : (Ring.reply q r s).memWf = true := by
  unfold Ring.reply
  split
  · split
    · exact Cmd.free_wf _ _ h
    · split
      · exact Ring.post_wf q r s h
      · dsimp only
        split
        · exact Ev.record_wf _ _ _ _ _ h
        · exact h
  · exact Cmd.free_wf _ _ h

theorem Cmd.finish_hubOnly (k : Key) (st : Byte) (res : Nat) (s : State) : HubOnly s (Cmd.finish k st res s) := by
  unfold Cmd.finish
  split
  · split
    · exact Cmd.free_hubOnly _ _
    · exact Ring.reply_hubOnly _ _ _
  · rfl

theorem Cmd.finish_wf (k : Key) (st : Byte) (res : Nat) (s : State) (h : s.memWf = true) : (Cmd.finish k st res s).memWf = true := by
  unfold Cmd.finish
  split
  · split
    · exact Cmd.free_wf _ _ h
    · exact Ring.reply_wf _ _ _ h
  · exact h

theorem Ev.settle_hubOnly (n : Nat) : ∀ s : State, HubOnly s (Ev.settle n s) := by
  induction n with
  | zero => intro s; rfl
  | succ n ih =>
    intro s
    unfold Ev.settle
    split
    · exact HubOnly.after (ih _) (HubOnly.after (Cmd.finish_hubOnly _ _ _ _) rfl)
    · rfl

theorem Ev.settle_wf (n : Nat) : ∀ s : State, s.memWf = true → (Ev.settle n s).memWf = true := by
  induction n with
  | zero => intro s h; exact h
  | succ n ih =>
    intro s h
    unfold Ev.settle
    split
    · exact ih _ (Cmd.finish_wf _ _ _ _ h)
    · exact h

/-- A raise changes the event unit, and the replies and signals that follow from it. -/
theorem Ev.raise_hubOnly (src code arg : Nat) (s : State) : HubOnly s (Ev.raise src code arg s) :=
  (Ev.record_hubOnly src code arg false s).trans (Ev.settle_hubOnly _ _)

theorem Ev.raise_wf (src code arg : Nat) (s : State) (h : s.memWf = true) : (Ev.raise src code arg s).memWf = true :=
  Ev.settle_wf _ _ (Ev.record_wf src code arg false s h)

theorem Ev.raiseCleared_hubOnly (src code arg : Nat) (s : State) : HubOnly s (Ev.raiseCleared src code arg s) :=
  (Ev.record_hubOnly src code arg true s).trans (Ev.settle_hubOnly _ _)

theorem Ev.raiseCleared_wf (src code arg : Nat) (s : State) (h : s.memWf = true) : (Ev.raiseCleared src code arg s).memWf = true :=
  Ev.settle_wf _ _ (Ev.record_wf src code arg true s h)

/-- A final reply changes the hub and the events that follow from it. -/
theorem Cmd.final_hubOnly (k : Key) (st : Byte) (res : Nat) (s : State) : HubOnly s (Cmd.final k st res s) :=
  (Cmd.finish_hubOnly k st res s).trans (Ev.settle_hubOnly _ _)

theorem Cmd.final_wf (k : Key) (st : Byte) (res : Nat) (s : State) (h : s.memWf = true) : (Cmd.final k st res s).memWf = true :=
  Ev.settle_wf _ _ (Cmd.finish_wf k st res s h)

theorem Cmd.finalOpt_hubOnly (k : Option Key) (st : Byte) (res : Nat) (s : State) : HubOnly s (Cmd.finalOpt k st res s) := by
  cases k
  · rfl
  · exact Cmd.final_hubOnly _ _ _ _

theorem Cmd.finalOpt_wf (k : Option Key) (st : Byte) (res : Nat) (s : State) (h : s.memWf = true) :
    (Cmd.finalOpt k st res s).memWf = true := by
  cases k
  · exact h
  · exact Cmd.final_wf _ _ _ _ h

theorem Cmd.interim_hubOnly (k : Key) (s : State) : HubOnly s (Cmd.interim k s) := by
  unfold Cmd.interim
  split
  · split
    · rfl
    · exact (Ring.reply_hubOnly _ _ _).trans (Ev.settle_hubOnly _ _)
  · rfl

theorem Cmd.interim_wf (k : Key) (s : State) (h : s.memWf = true) : (Cmd.interim k s).memWf = true := by
  unfold Cmd.interim
  split
  · split
    · exact h
    · exact Ev.settle_wf _ _ (Ring.reply_wf _ _ _ h)
  · exact h

end Sys2Proof.Machine
end

