-- ==== Sys2Proof/Laws/Run.lean ====
section
/-!
SUPPORT. Laws/Run.lean: what running a packet command comes to, said once, so that a case about an opcode follows from
the opcode's own part alone.
-/

namespace Sys2Proof.Machine

/-! ## Taking an entry up keeps the count of started commands -/

@[simp] theorem State.modPair_started (s : State) (q : Nat) (f : Pair → Pair) :
    (s.modPair q f).hub.started = s.hub.started := rfl

@[simp] theorem State.writeMem_hub (s : State) (sp : Space) (a : Nat) (b : List Byte) :
    (s.writeMem sp a b).hub = s.hub := by
  unfold State.writeMem
  split
  · rfl
  · split <;> rfl

theorem Ring.fetchOne_started (q : Nat) (s : State) : (Ring.fetchOne q s).hub.started = s.hub.started := by
  unfold Ring.fetchOne
  split
  · split <;> simp
  · rfl

theorem Ring.place_started (q : Nat) (e : Entry) (s : State) : (Ring.place q e s).hub.started = s.hub.started := rfl

theorem Ring.offer_started (q : Nat) (e : Entry) (s : State) : (Ring.offer q e s).hub.started = s.hub.started := by
  unfold Ring.offer
  dsimp only
  repeat' split
  all_goals first | rfl | rw [Ring.fetchOne_started, Ring.place_started]

theorem Cmd.take_go_started {q : Nat} {e : Entry} {s t : State} {i : Nat} {old : Option (Nat × Option Cred)}
    (h : Cmd.take q e s = .go i old t) : t.hub.started = s.hub.started := by
  unfold Cmd.take at h
  split at h
  · cases h
  · simp only at h
    split at h
    · split at h
      · cases h
      · split at h
        · cases h
        · split at h
          · cases h
          · cases h
            simp [Ring.offer_started]
    · cases h

theorem Cmd.take_go_nextKey {q : Nat} {e : Entry} {s t : State} {i : Nat} {old : Option (Nat × Option Cred)}
    (h : Cmd.take q e s = .go i old t) (pk : Packet) :
    nextKey q pk t = nextKey q pk s := by
  simp only [nextKey, Cmd.take_go_started h]

/-! ## What taking an entry up and giving a verdict its reply can change -/

theorem Ring.fetchOne_hubOnly (q : Nat) (s : State) : HubOnly s (Ring.fetchOne q s) := by
  unfold Ring.fetchOne
  split
  · split
    · exact HubOnly.after (State.writeMem_hubOnly _ _ _ _) rfl
    · rfl
  · rfl

theorem Ring.fetchOne_wf (q : Nat) (s : State) (h : s.memWf = true) : (Ring.fetchOne q s).memWf = true := by
  unfold Ring.fetchOne
  split
  · split
    · exact State.writeMem_wf _ _ _ _ h
    · exact h
  · exact h

theorem Ring.offer_hubOnly (q : Nat) (e : Entry) (s : State) : HubOnly s (Ring.offer q e s) := by
  unfold Ring.offer
  dsimp only
  repeat' split
  all_goals first | rfl | exact HubOnly.after (Ring.fetchOne_hubOnly _ _) rfl

theorem Ring.offer_wf (q : Nat) (e : Entry) (s : State) (h : s.memWf = true) : (Ring.offer q e s).memWf = true := by
  unfold Ring.offer
  dsimp only
  repeat' split
  all_goals first | exact h | exact Ring.fetchOne_wf _ _ h

theorem Ring.pick_hubOnly {s t : State} {q : Nat} (h : Ring.pick s = some (q, t)) : HubOnly s t ∧ (s.memWf = true → t.memWf = true) := by
  unfold Ring.pick at h
  dsimp only at h
  split at h
  · split at h
    · cases h
      exact ⟨rfl, id⟩
    · cases h
  · cases h

theorem Ring.fetchN_hubOnly (n : Nat) : ∀ s : State, HubOnly s (Ring.fetchN n s) := by
  induction n with
  | zero => intro s; rfl
  | succ n ih =>
    intro s
    unfold Ring.fetchN
    split
    · next h => exact (Ring.pick_hubOnly h).1.trans ((Ring.fetchOne_hubOnly _ _).trans (ih _))
    · rfl

theorem Ring.fetchN_wf (n : Nat) : ∀ s : State, s.memWf = true → (Ring.fetchN n s).memWf = true := by
  induction n with
  | zero => intro s h; exact h
  | succ n ih =>
    intro s w
    unfold Ring.fetchN
    split
    · next h => exact ih _ (Ring.fetchOne_wf _ _ ((Ring.pick_hubOnly h).2 w))
    · exact w

/-- Fetching changes the hub and the state words, and nothing else. -/
theorem Ring.fetchAll_hubOnly (s : State) : HubOnly s (Ring.fetchAll s) := Ring.fetchN_hubOnly _ _

theorem Ring.fetchAll_wf (s : State) (h : s.memWf = true) : (Ring.fetchAll s).memWf = true := Ring.fetchN_wf _ _ h

/-- The state in which taking an entry up ends, whichever way. -/
def Took.state : Took → State
  | .stay s => s
  | .go _ _ s => s
  | .dup s => s

theorem Cmd.take_hubOnly (q : Nat) (e : Entry) (s : State) :
    HubOnly s (Cmd.take q e s).state ∧ (s.memWf = true → (Cmd.take q e s).state.memWf = true) := by
  have h := Ring.offer_hubOnly q e s
  have w := Ring.offer_wf q e s
  unfold Cmd.take
  split
  · exact ⟨rfl, id⟩
  · dsimp only
    split
    · split
      · exact ⟨h, w⟩
      · split
        · exact ⟨h.trans rfl, w⟩
        · split
          · exact ⟨h, w⟩
          · exact ⟨h.trans rfl, w⟩
    · exact ⟨h, w⟩

theorem Power.exitBy_wf (cause arg : Nat) (s : State) (h : s.memWf = true) : (Power.exitBy cause arg s).memWf = true :=
  Ev.raise_wf _ _ _ _ h

theorem Power.wake_wf (cause arg : Nat) (s : State) (h : s.memWf = true) : (Power.wake cause arg s).memWf = true := by
  unfold Power.wake
  split
  · exact h
  · split <;> split <;> first | exact Power.exitBy_wf _ _ _ h | exact h

/-- A wake by an entry held leaves the memories canonical. -/
theorem Cmd.wakeHeld_wf (q : Nat) (s t : State) (h : t.memWf = true) : (Cmd.wakeHeld q s t).memWf = true := by
  unfold Cmd.wakeHeld
  split
  · exact Power.wake_wf _ _ _ h
  · exact h

/-! ## Running a packet that passes -/

/-- Taking an entry up leaves the credentials as they stand. -/
theorem Cmd.take_go_creds {q : Nat} {e : Entry} {s t : State} {i : Nat} {old : Option (Nat × Option Cred)}
    (h : Cmd.take q e s = .go i old t) : t.cl.creds = s.cl.creds := by
  have g := (Cmd.take_hubOnly q e s).1.keeps (fun u => u.cl.creds) (fun _ _ _ _ _ => rfl)
  rwa [h] at g

/-- A state judged under an earlier credential is itself again with the credentials that stand. -/
theorem State.withCreds_underCred (s t : State) (old : Option (Nat × Option Cred)) (h : t.cl.creds = s.cl.creds) :
    State.withCreds s (t.underCred old) = t := by
  unfold State.withCreds State.underCred
  rw [← h]
  split <;> rfl

/-- Two states with the same credentials put the same ones back. -/
theorem State.withCreds_congr {s t : State} (h : t.cl.creds = s.cl.creds) : State.withCreds t = State.withCreds s := by
  funext u
  simp only [State.withCreds, h]

/-- A packet that passes R38 runs its opcode's own part in the state begun, and the verdict gets its reply. -/
theorem Cmd.run_passes (sp : OpSpec) (body : Packet → Key → State → Verdict) (q : Nat) (pk : Packet) (s : State)
    (h : Cmd.passes sp q pk s = true) :
    Cmd.run sp body q pk s = Cmd.conclude (nextKey q pk s)
      ((body pk (nextKey q pk s) (Cmd.begun sp q pk s)).map (State.withCreds s))
      (State.withCreds s (Cmd.begun sp q pk s)) := by
  unfold Cmd.run Cmd.runWith
  unfold Cmd.passes at h
  unfold Cmd.begun
  simp only at h ⊢
  cases ht : Cmd.take q (.packet (BitVec.ofNat 12 sp.op) pk) s with
  | stay t => simp [ht] at h
  | dup t => simp [ht] at h
  | go i old t =>
    have h0 : t.cl.creds = s.cl.creds := Cmd.take_go_creds ht
    have hc : (Cmd.enter (BitVec.ofNat 12 sp.op) q pk t).cl.creds = s.cl.creds := h0
    simp only [ht, Option.isNone_iff_eq_none] at h
    simp only [Cmd.take_go_nextKey ht, h, State.withCreds_underCred s _ old hc, State.withCreds_congr hc]

/-- A case holds of a command whose own part ends as the case says wherever its condition holds. -/
theorem Case.runs_of_body (c : Case) (cmd : Nat → Packet → Instr) (body : Packet → Key → State → Verdict)
    (hc : ∀ q pk s, exec (cmd q pk) s = .next (Cmd.run c.spec body q pk s))
    (hb : ∀ pk k t, c.pre pk t = true → body pk k t = c.ends pk k t) : c.Runs cmd := by
  intro q pk s h
  simp only [Case.met, Bool.and_eq_true] at h
  rw [hc, Cmd.run_passes _ _ _ _ _ h.1, hb _ _ _ h.2]

/-- A verdict's reply changes the hub and the events that follow from it, on top of the verdict's own state. -/
theorem Cmd.conclude_hubOnly (k : Key) (v : Verdict) (s : State) : HubOnly (v.stateOr s) (Cmd.conclude k v s) := by
  cases v
  · exact Cmd.final_hubOnly _ _ _ _
  · exact Cmd.final_hubOnly _ _ _ _
  · exact Cmd.final_hubOnly _ _ _ _
  · exact Cmd.interim_hubOnly _ _
  · rfl

theorem Cmd.conclude_wf (k : Key) (v : Verdict) (s : State) (h : (v.stateOr s).memWf = true) : (Cmd.conclude k v s).memWf = true := by
  cases v
  · exact Cmd.final_wf _ _ _ _ h
  · exact Cmd.final_wf _ _ _ _ h
  · exact Cmd.final_wf _ _ _ _ h
  · exact Cmd.interim_wf _ _ h
  · exact h

/-- The credential that judges a command has no part in the memories. -/
theorem State.underCred_wf (s : State) (old : Option (Nat × Option Cred)) (h : s.memWf = true) : (s.underCred old).memWf = true := by
  unfold State.underCred
  split <;> exact h

/-- Nor have the credentials that a verdict puts back. -/
theorem Verdict.withCreds_wf (v : Verdict) (now u t : State) (h : (v.stateOr u).memWf = true) (ht : t.memWf = true) :
    ((v.map (State.withCreds now)).stateOr t).memWf = true := by
  cases v <;> first | exact h | exact ht

/-- A packet command keeps the memories canonical where its opcode's own part does. -/
theorem Cmd.run_wf (sp : OpSpec) (body : Packet → Key → State → Verdict) (q : Nat) (pk : Packet) (s : State)
    (hb : ∀ k t, t.memWf = true → ((body pk k t).stateOr t).memWf = true) (h : s.memWf = true) :
    (Cmd.run sp body q pk s).memWf = true := by
  have ht := (Cmd.take_hubOnly q (.packet (BitVec.ofNat 12 sp.op) pk) s).2 h
  unfold Cmd.run Cmd.runWith
  split
  · next e => rw [e] at ht; exact Cmd.wakeHeld_wf _ _ _ ht
  · next e =>
    rw [e] at ht
    dsimp only
    exact Ev.settle_wf _ _ (Ring.reply_wf _ _ _ ht)
  · next e =>
    rw [e] at ht
    dsimp only
    have he : ∀ t : State, t.memWf = true → (Cmd.enter (BitVec.ofNat 12 sp.op) q pk t).memWf = true := fun _ w => w
    split
    · exact Cmd.final_wf _ _ _ _ (he _ ht)
    · exact Cmd.conclude_wf _ _ _ (Verdict.withCreds_wf _ _ _ _ (hb _ _ (State.underCred_wf _ _ (he _ ht))) (he _ ht))

end Sys2Proof.Machine
end

