-- ==== Sys2Proof/Laws/Time.lean ====
section
/-!
SUPPORT. Laws/Time.lean: what passing time changes: the time base and the federation side's queued records, and nothing
else.
-/

namespace Sys2Proof.Machine

/-- `t` is `s` but for the time base and the federation side. -/
def TimeOnly (s t : State) : Prop := { t with tb := s.tb, fed := s.fed } = s

theorem ticks_timeOnly (n : Nat) (s : State) : TimeOnly s (ticks n s) := by
  unfold ticks
  split <;> rfl

theorem untilElapsed_timeOnly (e : Nat) (s : State) : TimeOnly s (untilElapsed e s) := by
  unfold untilElapsed
  split
  · exact ticks_timeOnly _ _
  · rfl

theorem untilTb_timeOnly (n : Nat) (s : State) : TimeOnly s (untilTb n s) := by
  unfold untilTb
  dsimp only
  split
  · exact ticks_timeOnly _ _
  · rfl

/-- Whatever reads neither the time base nor the federation side reads the same in both. -/
theorem TimeOnly.keeps {s t : State} {α : Type} (h : TimeOnly s t) (f : State → α)
    (hf : ∀ (u : State) (b : TimeBase) (n : Fed), f { u with tb := b, fed := n } = f u) : f t = f s := by
  have g : f ({ t with tb := s.tb, fed := s.fed } : State) = f s := congrArg f h
  rwa [hf] at g

theorem TimeOnly.memWf {s t : State} (h : TimeOnly s t) (w : s.memWf = true) : t.memWf = true :=
  (h.keeps State.memWf (fun _ _ _ => rfl)).trans w

/-- Time that has been reached already does not pass again. -/
theorem untilElapsed_reached (e : Nat) (s : State) (h : e ≤ s.tb.elapsed) : untilElapsed e s = s := by
  simp [untilElapsed, Nat.not_lt.mpr h]

theorem untilTb_reached (n : Nat) (s : State) (h : n ≤ s.ns) : untilTb n s = s := by
  simp [untilTb, Nat.not_lt.mpr h]

/-- Steps of the source add up (R374): the fraction of a nanosecond is carried, and none is lost. -/
theorem ticks_carry (n : Nat) (s : State) : 0 ≤ s.tb.carry → s.tb.carry < 1000000000 →
    0 ≤ (ticks n s).tb.carry ∧ (ticks n s).tb.carry < 1000000000 := by
  intro h0 h1
  unfold ticks
  split
  · dsimp only
    exact ⟨Int.emod_nonneg _ (by decide), Int.emod_lt_of_pos _ (by decide)⟩
  · exact ⟨h0, h1⟩

end Sys2Proof.Machine
end

