-- ==== Sys2Proof/WellFormed.lean ====
section
/-!
DEFINITION. WellFormed.lean: which operands a command may carry: numbers that name a tile, a port, a pair and the like
lie in the ranges of Tables 0.1 and 0.2. A packet's fields are bit vectors, so every packet is well formed; what the
device makes of its contents is R38's.
-/

namespace Sys2Proof

/-- A queue pair number (chapter 2). -/
def pairOk (q : Nat) : Bool := decide (q < 4096)
/-- A tile (Table 0.1). -/
def tileOk (t : Nat) : Bool := decide (t < 4)
/-- Converter A or B (R99). -/
def convOk (c : Nat) : Bool := decide (c < 2)
/-- A universal input of a tile (Table 0.2). -/
def inputOk (i : Nat) : Bool := decide (i < 64)
/-- A tenant number (R51). -/
def tenantOk (t : Nat) : Bool := decide (t < 1024)
/-- A TAG (Table 2.6). -/
def tagOk (t : Nat) : Bool := decide (t < 2048)
/-- A zone slot (R170). -/
def zoneOk (z : Nat) : Bool := decide (z < 4096)
/-- A bus controller of the chip (Table 0.2). -/
def busOk (k : Nat) : Bool := decide (k < 64)
/-- A Lomuz link (Table 0.2). -/
def linkOk (l : Nat) : Bool := decide (l < 8)
/-- A panel head (Table 0.2). -/
def headOk (h : Nat) : Bool := decide (h < 4)
/-- A chip number (R241). -/
def chipOk (c : Nat) : Bool := decide (c < 10240)
/-- A point identifier's chip number and local index (R61). -/
def pointOk (id : Nat) : Bool := decide (id / 16777216 < 10240) && decide (id % 16777216 < 5242880)
/-- An analogue output of a tile (Table 0.2). -/
def aoOk (k : Nat) : Bool := decide (k < 8)
/-- A fan port of a tile (Table 0.2). -/
def fanOk (k : Nat) : Bool := decide (k < 4)
/-- A frame port of the chip (Table 0.2). -/
def framePortOk (k : Nat) : Bool := decide (k < 32)
/-- A drive channel of a tile (Table 0.2). -/
def driveOk (j : Nat) : Bool := decide (j < 24)
/-- A drive channel of the chip (Table 0.2). -/
def driveGlobalOk (j : Nat) : Bool := decide (j < 96)
/-- A 10-bit shunt code (R199). -/
def codeOk (c : Nat) : Bool := decide (c < 1024)
/-- The codes of two shunts. -/
def shuntsOk (x : Shunts) : Bool := codeOk x.code && codeOk x.partner
/-- An edge between neighbouring tiles (chapter 1): T0-T1, T1-T3, T3-T2, T2-T0. -/
def edgeOk (e : Nat) : Bool := decide (e < 4)
/-- Supply or temperature (Table 1.5). -/
def skewKindOk (k : Nat) : Bool := decide (k < 2)
/-- A calibration kind (Table 13.1). -/
def calKindOk (k : Nat) : Bool := decide (k < 7)
/-- An output kind: 1 DRV, 2 AO, 3 FAN (Table 16.1). -/
def outKindOk (k : Nat) : Bool := decide (1 ≤ k) && decide (k ≤ 3)
/-- A power-good input: logic, gate, emission (Table 12.2). -/
def pgOk (i : Nat) : Bool := decide (i < 3)
/-- A BAR0 offset (R25). -/
def bar0Ok (o : Nat) : Bool := decide (o < 65536)
/-- A QSPI address (chapter 2, QSPI framing). -/
def qspiOk (a : Nat) : Bool := decide (a < 16777216)
/-- A link of a bus controller (R229). -/
def busLinkOk (l : Nat) : Bool := decide (l < 256)
/-- A CAN FD frame holds at most 64 bytes of data. -/
def canFrameOk (f : BusFrame) : Bool := decide (f.data.length ≤ 64) && !(f.rtr && (f.fdf || !f.data.isEmpty))
/-- A touch scan reads at most 640 nodes (R285). -/
def nodesOk (raw : List Int) : Bool := decide (raw.length ≤ 640)
/-- A permitted LPDDR5 size (R64). -/
def gibOk (g : Nat) : Bool := g == 2 || g == 4 || g == 8

/-- The command's operands name things that exist. -/
def Instr.wf (i : Instr) : Bool :=
  match i with
  | .tbSet q _ => pairOk q
  | .tbSlew q _ => pairOk q
  | .tbRead q _ => pairOk q
  | .ppsOutRise => true
  | .ppsOutFall => true
  | .ppsInEdge => true
  | .crossTileDelivery src dst => tileOk src && tileOk dst
  | .tileSkewClear edge kind => edgeOk edge && skewKindOk kind
  | .hostFlr => true
  | .registerWrite offset _ _ => bar0Ok offset
  | .setupArm => true
  | .setupDisarm => true
  | .disarmComplete => true
  | .chselWrite _ => true
  | .windowWrite offset _ => bar0Ok offset
  | .doorbell q _ _ => pairOk q
  | .fetchResume => true
  | .packetCrcFail q _ _ => pairOk q
  | .badOpcodePacket q _ _ => pairOk q
  | .coalesceTimeout q => pairOk q
  | .heldReplyWrite q => pairOk q
  | .pairFreed q => pairOk q
  | .windowAccess q _ => pairOk q
  | .qspiWrite address _ => qspiOk address
  | .qspiQwrite address _ => qspiOk address
  | .qspiRead address _ => qspiOk address
  | .qspiQread address _ => qspiOk address
  | .qspiStatus => true
  | .qspiUnknownInstruction _ => true
  | .sessionOpen q _ => pairOk q
  | .sessionProve q _ => pairOk q
  | .nonceLapse tenant => tenantOk tenant
  | .authLockoutEnd tenant => tenantOk tenant
  | .sessionClose q _ => pairOk q
  | .queueCreate q _ => pairOk q
  | .queueDelete q _ => pairOk q
  | .clientInstall q _ => pairOk q
  | .clientRights q _ => pairOk q
  | .clientRemove q _ => pairOk q
  | .pointRead q _ => pairOk q
  | .pointWrite q _ => pairOk q
  | .pointCreate q _ => pairOk q
  | .pointConfig q _ => pairOk q
  | .pointDelete q _ => pairOk q
  | .pointWatch q _ => pairOk q
  | .watchTimeout q tag => pairOk q && tagOk tag
  | .pointSourceUpdate id => pointOk id
  | .inputConfig q _ => pairOk q
  | .inputRead q _ => pairOk q
  | .inputTable q _ => pairOk q
  | .inputTest q _ => pairOk q
  | .seqCycleStart tile conv => tileOk tile && convOk conv
  | .seqEntryStart tile conv => tileOk tile && convOk conv
  | .dwellEnd tile conv _ => tileOk tile && convOk conv
  | .protTrip tile input => tileOk tile && inputOk input
  | .protReclose tile input => tileOk tile && inputOk input
  | .shuntTrip tile input => tileOk tile && inputOk input
  | .pulseEdge tile input _ => tileOk tile && inputOk input
  | .pulseRateWrite tile => tileOk tile
  | .refbufOn q _ => pairOk q
  | .refSettled tile => tileOk tile
  | .refbufOff q _ => pairOk q
  | .adcCalibrate q _ => pairOk q
  | .calRunEnd kind _ _ => calKindOk kind
  | .seqLoad q _ => pairOk q
  | .seqStart q _ => pairOk q
  | .seqStop q _ => pairOk q
  | .seqRead q _ => pairOk q
  | .lchConfig q _ => pairOk q
  | .lchRead q _ => pairOk q
  | .lchWinack q _ => pairOk q
  | .dmaCreate q _ => pairOk q
  | .dmaDelete q _ => pairOk q
  | .urgentConvert q _ => pairOk q
  | .urgentStart tile => tileOk tile
  | .urgentDwellEnd tile _ => tileOk tile
  | .rscan q _ => pairOk q
  | .rscanStart tile => tileOk tile
  | .rscanLaunch tile _ => tileOk tile
  | .rscanEnd tile _ => tileOk tile
  | .meterConfig q _ => pairOk q
  | .meterRead q _ => pairOk q
  | .meterHistory q _ => pairOk q
  | .meterResetPeak q _ => pairOk q
  | .demandConfig q _ => pairOk q
  | .tariffLoad q _ => pairOk q
  | .tariffCommit q _ => pairOk q
  | .tariffRead q _ => pairOk q
  | .meterDwellEnd tile d => tileOk tile && !d.v.isEmpty && d.v.length == d.i.length
  | .intervalClose => true
  | .meterCheckpointDone => true
  | .tariffSwitch => true
  | .tariffRebuildDone => true
  | .tariffSwap => true
  | .meterResultUpdate => true
  | .presenceConfig q _ => pairOk q
  | .presenceRead q _ => pairOk q
  | .presenceTest q _ => pairOk q
  | .presenceRebase q _ => pairOk q
  | .frameReceived port _ _ _ => framePortOk port
  | .presenceSecond => true
  | .loopCreate q _ => pairOk q
  | .loopDelete q _ => pairOk q
  | .loopRead q _ => pairOk q
  | .loopManual q _ => pairOk q
  | .loopTune q _ => pairOk q
  | .loopLoad q _ => pairOk q
  | .loopEvaluation tile => tileOk tile
  | .zoneCreate q _ => pairOk q
  | .zoneDelete q _ => pairOk q
  | .zoneRead q _ => pairOk q
  | .zoneModel q _ => pairOk q
  | .predSolve q _ => pairOk q
  | .predSolveDone tile zone => tileOk tile && zoneOk zone
  | .predSolveTimeout tile zone => tileOk tile && zoneOk zone
  | .predPlanRead q _ => pairOk q
  | .predLearn q _ => pairOk q
  | .predAccept q _ => pairOk q
  | .predPause q _ => pairOk q
  | .predSched q _ => pairOk q
  | .predLoad q _ => pairOk q
  | .zoneTune q _ => pairOk q
  | .zoneBoundary tile zone => tileOk tile && zoneOk zone
  | .solveComplete tile zone => tileOk tile && zoneOk zone
  | .gainRebuildDone tile zone => tileOk tile && zoneOk zone
  | .drvConfig q _ => pairOk q
  | .drvProfile q _ => pairOk q
  | .drvCommand q _ => pairOk q
  | .drvRead q _ => pairOk q
  | .drvClear q _ => pairOk q
  | .drvBand q _ => pairOk q
  | .aoConfig q _ => pairOk q
  | .aoSet q _ => pairOk q
  | .aoRead q _ => pairOk q
  | .fanConfig q _ => pairOk q
  | .fanSet q _ => pairOk q
  | .fanRead q _ => pairOk q
  | .phaseEnd tile ending => tileOk tile && driveOk ending.channel && shuntsOk ending.peaks
  | .currentTrip tile channel shunts => tileOk tile && driveOk channel && shuntsOk shunts
  | .chopOffEnd tile channel => tileOk tile && driveOk channel
  | .overcurrent tile channel => tileOk tile && driveOk channel
  | .offSettleEnd tile channel => tileOk tile && driveOk channel
  | .tpropCycleStart tile channel => tileOk tile && driveOk channel
  | .tpropOnEnd tile channel => tileOk tile && driveOk channel
  | .floatCheck tile channel => tileOk tile && driveOk channel
  | .reversalWaitEnd tile channel => tileOk tile && driveOk channel
  | .driveBandSample tile => tileOk tile
  | .outputWatchdogExpiry tile kind _ => tileOk tile && outKindOk kind
  | .vgateLow => true
  | .vgateRecover => true
  | .aoOverload tile output => tileOk tile && aoOk output
  | .aoOverloadClear tile output => tileOk tile && aoOk output
  | .aoRampStep tile output => tileOk tile && aoOk output
  | .fanKickEnd tile port => tileOk tile && fanOk port
  | .fanTachEdge tile port => tileOk tile && fanOk port
  | .fanSpeedUpdate tile => tileOk tile
  | .busConfig q _ => pairOk q
  | .busStatus q _ => pairOk q
  | .busSend q _ => pairOk q
  | .busCancel q _ => pairOk q
  | .busRecover q _ => pairOk q
  | .busRecoveryDone bus => busOk bus
  | .busFilter q _ => pairOk q
  | .busRxring q _ => pairOk q
  | .busNode q _ => pairOk q
  | .busNodeRead q _ => pairOk q
  | .busAdopt q _ => pairOk q
  | .busRetire q _ => pairOk q
  | .busLink q _ => pairOk q
  | .busDusk q _ => pairOk q
  | .busDawn q _ => pairOk q
  | .transmitComplete bus _ => busOk bus
  | .hostFrame bus f => busOk bus && canFrameOk f
  | .beacon bus f => busOk bus && canFrameOk f
  | .duskPropose bus f => busOk bus && canFrameOk f
  | .duskAgree bus f => busOk bus && canFrameOk f
  | .duskRefuse bus f => busOk bus && canFrameOk f
  | .duskCommit bus f => busOk bus && canFrameOk f
  | .dawn bus f => busOk bus && canFrameOk f
  | .adopt bus f => busOk bus && canFrameOk f
  | .retire bus f => busOk bus && canFrameOk f
  | .pointReport bus f => busOk bus && canFrameOk f
  | .pointWriteAck bus f => busOk bus && canFrameOk f
  | .beaconTimer bus => busOk bus
  | .nodeCheck bus => busOk bus
  | .fragmentTimeout bus => busOk bus
  | .linkAckTimeout bus link => busOk bus && busLinkOk link
  | .duskProposeTimeout bus => busOk bus
  | .duskAgreeTimeout bus => busOk bus
  | .duskHoldEnd bus => busOk bus
  | .busWake bus => busOk bus
  | .dawnDelayEnd bus => busOk bus
  | .fedIdentity q _ => pairOk q
  | .fedLink q _ => pairOk q
  | .fedNet q _ => pairOk q
  | .fedPtp q _ => pairOk q
  | .fedExport q _ => pairOk q
  | .fedMirror q _ => pairOk q
  | .fedUnmirror q _ => pairOk q
  | .fedStatus q _ => pairOk q
  | .fedPeerRead q _ => pairOk q
  | .linkTrainingDone link _ => linkOk link
  | .linkRetry link => linkOk link
  | .linkDown link => linkOk link
  | .lomuzFrame link _ => linkOk link
  | .holdOrderedSet link => linkOk link
  | .linkHoldEnd link => linkOk link
  | .update _ _ => true
  | .subscribe _ _ => true
  | .grant _ _ => true
  | .refuse _ _ => true
  | .cancel _ _ => true
  | .announce _ => true
  | .announceTimer => true
  | .peerLost chip => chipOk chip
  | .enLinkLoss => true
  | .enReturn => true
  | .routerAdvertisement _ => true
  | .sweep chip => chipOk chip
  | .mirrorTimeout id => pointOk id
  | .reflectionStale id => pointOk id
  | .sync _ _ => true
  | .holdover => true
  | .panelConfig q _ => pairOk q
  | .panelPower q _ => pairOk q
  | .panelUpload q _ => pairOk q
  | .panelUploadDone head => headOk head
  | .panelFlip q _ => pairOk q
  | .panelGamma q _ => pairOk q
  | .panelGammaCommit q _ => pairOk q
  | .gammaCopyDone head => headOk head
  | .panelBand q _ => pairOk q
  | .panelRead q _ => pairOk q
  | .panelCrackScan q _ => pairOk q
  | .glowConfig q _ => pairOk q
  | .glowLoad q _ => pairOk q
  | .glowWidget q _ => pairOk q
  | .touchConfig q _ => pairOk q
  | .touchRing q _ => pairOk q
  | .touchRebase q _ => pairOk q
  | .touchProfile q _ => pairOk q
  | .touchRead q _ => pairOk q
  | .frameStart head => headOk head
  | .powerGood head index => headOk head && pgOk index
  | .phLock head => headOk head
  | .railDeadline head => headOk head
  | .railSequenceTimer head => headOk head
  | .dischargeEnd head => headOk head
  | .panelFault head _ => headOk head
  | .crackCheck head _ => headOk head
  | .crackCheckTimer head => headOk head
  | .panelBandSample head => headOk head
  | .touchScan head raw => headOk head && nodesOk raw
  | .calRun q _ => pairOk q
  | .calMode q _ => pairOk q
  | .calRead q _ => pairOk q
  | .calSetRref q _ => pairOk q
  | .calCommit q _ _ => pairOk q
  | .fuseBurnDone _ => true
  | .fuseInfo q _ => pairOk q
  | .calMeasureTimeout channel => driveGlobalOk channel
  | .nvRead q _ => pairOk q
  | .nvWrite q _ => pairOk q
  | .nvStatus q _ => pairOk q
  | .nvBp q _ => pairOk q
  | .nvUnlock q _ => pairOk q
  | .nvLock q _ => pairOk q
  | .nvPassword q _ => pairOk q
  | .nvClear q _ => pairOk q
  | .nvHoldup q _ => pairOk q
  | .nvCommitStart _ => true
  | .nvCommitDone _ => true
  | .tilePower q _ => pairOk q
  | .tilePowerDone done => tileOk done.tile
  | .powerState q _ => pairOk q
  | .powerTransitionDone => true
  | .powerConfig q _ => pairOk q
  | .powerRead q _ => pairOk q
  | .clockSpread q _ => pairOk q
  | .ioConfig q _ => pairOk q
  | .thermConfig q _ => pairOk q
  | .thermRead q _ => pairOk q
  | .thermCap q _ => pairOk q
  | .porRelease _ _ => true
  | .rstN _ => true
  | .fuseLoad _ => true
  | .journalRecovery => true
  | .firmwareVerify _ => true
  | .lpddr5Training _ gib => gibOk gib
  | .tileBrownout tile _ => tileOk tile
  | .pfailRise _ _ _ => true
  | .pfailFall _ => true
  | .mainRailLoss => true
  | .vddAonLoss => true
  | .wakePin _ => true
  | .wakeAlarm => true
  | .thermSample _ _ => true
  | .throttleUp tile => tileOk tile
  | .critEnd => true
  | .eventConfig q _ => pairOk q
  | .eventRead q _ => pairOk q
  | .eventPending q _ => pairOk q
  | .eventAck q _ => pairOk q
  | .eventWait q _ => pairOk q
  | .eventWaitTimeout q tag => pairOk q && tagOk tag
  | .eventDetail q _ => pairOk q
  | .logRead q _ => pairOk q
  | .logMark q _ => pairOk q
  | .logClear q _ => pairOk q
  | .transmitStart bus => busOk bus
  | .receiveError bus => busOk bus
  | .configurationRequest _ => true
  | .enLinkReturn => true
  | .blankingEnd tile channel code => tileOk tile && driveOk channel && codeOk code
  | .glowLoadDone head => headOk head
  | .meterHistoryDone tile => tileOk tile
  | .presenceTestDone tile => tileOk tile

end Sys2Proof
end

