-- ==== Sys2Proof/Tests/Slice0.lean ====
section
/-!
SUPPORT. Tests/Slice0.lean: the author's tests: ill-formed terms that WellFormed refuses, single steps on small states,
and for each statement a witness that meets its hypotheses, clause by clause.
-/

namespace Sys2Proof.Tests

-- one theorem at a time
set_option Elab.async false

open Sys2Proof.Machine

/-! ## States and packets to try -/

/-- A descriptor in host memory, 32 entries. -/
def desc (base : Nat) : RingDesc where
  sqBase := BitVec.ofNat 64 base
  cqBase := BitVec.ofNat 64 (base + 0x1000)
  stateAddr := BitVec.ofNat 64 (base + 0x2000)
  log2Size := 5
  space := .host
  vector := 1
  coalTime := 0
  coalCount := 0

/-- Ready, queue 0 and pair 1 of the owner armed, the owner's session open, every tile powered. -/
def base : State := {
  hub := { setup := .armed, pairs := [(0, { ctx := 0, desc := desc 0x10000 }), (1, { ctx := 0, desc := desc 0x20000 })] }
  cl := { sessions := [(0, { tenant := 0, rev := 2, weight := 4, queueLimit := 4 })]
          creds := [(0, { secret := 1, weight := 4, queueLimit := 4, groupMask := 0xFFFF, prioFloor := 1, rights := 0 })] }
  pw := { boot := .ready, mon := { supmon := 1100, holdmon := 1100, vfuse := 1800, rails := Vector.replicate 4 750 } }
  tpow := Vector.replicate 4 .on }

/-- PARAMS from offsets, widths and values. -/
def params (l : List (Nat × Nat × Nat)) : BitVec 384 :=
  BitVec.ofNat 384 (l.foldl (fun a x => a + x.2.2 % 256 ^ x.2.1 * 256 ^ (x.1 - 8)) 0)

/-- A packet of the owner on pair `q`. -/
def packet (q : Nat) (l : List (Nat × Nat × Nat)) : Packet where
  rev := 2
  irq := false
  suppressOk := false
  fence := false
  tag := 5
  client := 0
  queue := BitVec.ofNat 12 q
  reserved := 0
  params := params l

/-- The case meets a packet of the owner on pair 1. -/
def meets (c : Case) (l : List (Nat × Nat × Nat)) (s : State) : Bool := c.met 1 (packet 1 l) s

/-- The same on queue 0. -/
def meets0 (c : Case) (l : List (Nat × Nat × Nat)) (s : State) : Bool := c.met 0 (packet 0 l) s

/-- The entry is taken up. -/
def goes (q : Nat) (e : Entry) (s : State) : Bool :=
  match Cmd.take q e s with
  | .go _ _ _ => true
  | _ => false

/-- A command in flight on pair `q`. -/
def flying (q tag id : Nat) : InFlight where
  key := { q := q, tag := tag, id := id }
  ctx := 0
  echo := 0
  irq := false
  suppressOk := false
  discard := false

/-- `base` with a command in flight on pair 1. -/
def busy : State := { base with hub := { base.hub with inflight := [flying 1 9 0], started := 1 } }

/-- Its name. -/
def busyKey : Key where
  q := 1
  tag := 9
  id := 0

/-- `s` with pair 1 changed. -/
def pair1 (s : State) (f : Pair → Pair) : State := s.modPair 1 f

/-- A reply for pair 1. -/
def someReply : Reply where
  tag := 9
  status := 0
  echo := 0
  result := 0
  irq := false
  frees := none

/-- `busy` with a full completion ring on pair 1. -/
def full : State := pair1 busy (fun p => { p with cqTail := 31 })

/-! ## Witnesses -/

/-- `base` disciplined by PTP. -/
def ptpTimed : State := { base with tb := { base.tb with source := .ptp } }

theorem witness_TimeBaseAndTiles :
    meets Case.tbSet [(8, 8, 2 ^ 64 - 1), (16, 1, 1)] base = true ∧ meets Case.tbSet [] base = true ∧
      meets Case.tbSlew [(8, 4, 500000)] base = true ∧ meets Case.tbSlew [(8, 4, 2 ^ 32 - 500000)] base = true ∧
      meets Case.tbRead [] base = true ∧ meets Case.tbSetPtp [] ptpTimed = true ∧ meets Case.tbSlewPtp [] ptpTimed = true := by
  decide +kernel
/-- StepRunsFront, PacketRoundTrip, ResetState and StepsGoOn have no hypotheses; the others here: -/
theorem witness_PacketBytesExact :
    (packetBytes 0x032 (packet 1 [])).length = 64 ∧ packetCrcOk (packetBytes 0x032 (packet 1 [])) = true := by
  decide +kernel

theorem witness_PacketStarts :
    specTbRead.op < 4096 ∧ entryOp specTbRead.op = false ∧ base.live = true ∧ base.hub.setup = .armed ∧
      (base.pair 1).isSome = true ∧ ((base.pair 1).map (·.waiting)) = some [] ∧
      ((base.pair 1).map (·.deleting)) = some false ∧ ((base.pair 1).map (·.held)) = some [] ∧ base.hub.fetched = [] ∧
      inFlightCount base < 2048 ∧ ctxCount base 0 < 256 ∧ base.hub.inflight = [] ∧
      glowOk base (.packet 0x032 (packet 1 [])) = true ∧ (packet 1 []).reserved = 0 ∧
      specTbRead.reservedSet (packet 1 []) = false ∧ ((aget base.cl.sessions 0).map (·.rev)) = some 2 ∧
      (packet 1 []).rev.toNat = 2 ∧ hasRight 0x032 false 1 (packet 1 []) { tenant := 0, rev := 2, weight := 4, queueLimit := 4 } base = true := by
  decide +kernel

theorem witness_PacketStarts_session :
    specSessionOpen.op < 4096 ∧ entryOp specSessionOpen.op = true ∧ (packet 0 []).ctx = 0 ∧ (packet 0 []).queue = 0 ∧
      (packet 0 []).rev ≠ 0 ∧ (base.pair 0).isSome = true ∧
      ((base.pair 0).map (fun p => (p.waiting, p.deleting, p.held))) = some ([], false, []) ∧
      specSessionOpen.reservedSet (packet 0 []) = false ∧ glowOk base (.packet 0x100 (packet 0 [])) = true := by
  decide +kernel

theorem witness_PacketStartFrame : (base.pair 1).isSome = true ∧ Cmd.passes specTbRead 1 (packet 1 []) base = true := by
  decide +kernel

theorem witness_ReplyWritten :
    Cmd.find busyKey busy = some (flying 1 9 0) ∧ ((busy.pair 1).map (fun p => (p.deleting, p.held, p.cqFull))) = some (false, [], false) ∧
      busy.hub.msixEnabled = false ∧ spanFits .host 0x21000 32 = true ∧ busy.memWf = true := by
  decide +kernel

theorem witness_ReplyHeld :
    Cmd.find busyKey full = some (flying 1 9 0) ∧ ((full.pair 1).map (fun p => (p.deleting, p.held, p.cqFull))) = some (false, [], true) ∧
      full.hub.msixEnabled = false := by
  decide +kernel

/-- A packet on pair 1 with its session in revision 1. -/
def rev1 : State := { base with cl := { base.cl with sessions := [(0, { tenant := 0, rev := 1, weight := 4, queueLimit := 4 })] } }

theorem witness_RefusedPackets :
    goes 1 (.packet 0x040 { packet 1 [] with reserved := 1 }) base = true ∧
      goes 1 (.packet 0x040 { packet 1 [] with client := 1023 }) base = true ∧ aget base.cl.sessions 1023 = none ∧
      goes 1 (.packet 0x040 { packet 1 [] with rev := 3 }) base = true ∧
      goes 1 (.packet 0x040 { packet 1 [] with rev := 1 }) rev1 = true ∧ specWindowAccess.rev1 = false ∧
      goes 0 (.packet 0x200 (packet 0 [])) base = true ∧
      hasRight 0x200 false 0 (packet 0 []) { tenant := 0, rev := 2, weight := 4, queueLimit := 4 } base = false ∧
      specPointRead.reservedSet (packet 0 []) = false ∧ specWindowAccess.reservedSet (packet 1 []) = false := by
  decide +kernel

theorem witness_RefusedPackets_reserved :
    goes 1 (.packet 0x032 (packet 1 [(40, 1, 1)])) base = true ∧ specTbRead.reservedSet (packet 1 [(40, 1, 1)]) = true ∧
      served (some specTbRead) (aget base.cl.sessions 0) = true ∧ entryOp 0x100 = true ∧
      specSessionOpen.reservedSet { packet 0 [] with rev := 0 } = false ∧ specSessionOpen.reservedSet (packet 1 []) = false ∧
      goes 0 (.packet 0x100 { packet 0 [] with rev := 0 }) base = true ∧ goes 1 (.packet 0x100 (packet 1 [])) base = true := by
  decide +kernel

/-- The entry is taken up as a duplicate. -/
def dups (q : Nat) (e : Entry) (s : State) : Bool :=
  match Cmd.take q e s with
  | .dup _ => true
  | _ => false

theorem witness_RefusedPackets_tag :
    dups 1 (.packet 0x040 { packet 1 [] with tag := 9 }) busy = true ∧ busy.live = true ∧ busy.hub.setup = .armed ∧
      ((busy.pair 1).map (fun p => (p.waiting, p.deleting, p.held))) = some ([], false, []) ∧ busy.hub.fetched = [] ∧
      inFlightCount busy < 2048 ∧ ctxCount busy 0 < 256 ∧
      glowOk busy (.packet 0x040 { packet 1 [] with tag := 9 }) = true ∧ flying 1 9 0 ∈ busy.hub.inflight := by
  decide +kernel

theorem witness_MemoryCanonicalKept : base.memWf = true ∧ (∃ t, step { base with pending := [.ppsInEdge] } = .next t) :=
  ⟨by decide +kernel, ⟨_, rfl⟩⟩

theorem witness_TimePasses :
    base.pending = [] ∧ base.pw.boot = .ready ∧ -500000 ≤ base.tb.ratePpb.toInt ∧ base.tb.ratePpb.toInt ≤ 500000 ∧
      0 ≤ base.tb.carry ∧ base.tb.carry < 1000000000 ∧ base.tb.now.toNat + 100 < 2 ^ 64 ∧ base.tb.elapsed ≤ 0 := by
  decide +kernel

/-- Tile 3 with a drive in TPROP, a sequence of a period and an interval running. -/
def stepping : State :=
  let s := base.modTile 3 (fun x => { x with
    drives := vmod x.drives 23 (fun d => { d with cfg := { d.cfg with cfg0 := 2#32 } })
    convs := vmod x.convs 1 (fun v => { v with active := { v.active with periodMs := 1000 } }) })
  { s with mt := { s.mt with running := true } }

theorem witness_TimePasses_steps :
    0 < (stepping.conv 3 1).active.periodMs ∧ ((stepping.tile 3).drive 23).cfg.mode = 2 ∧ isSlave (stepping.tile 3) 23 = false ∧
      stepping.tileOn 3 = true ∧ loopsRun stepping 3 = true ∧ stepping.mt.running = true ∧ (stepping.tile 3).zones = [] ∧
      stepping.ns < ((stepping.tile 3).drive 23).cycleAt + 1 := by
  decide +kernel

/-- An entry that leaves tile 0 for tile 3. -/
def leaving : CrossEntry where
  dst := 3
  item := .drv 23 0x42480000#32

theorem witness_TimeBaseAndTiles_happenings :
    base.pw.boot ≠ .unpowered ∧ base.pw.boot ≠ .held ∧ ppsComesNext base = true ∧ base.tb.ppsOut = false ∧ ({ base with tb := { ppsOut := true } } : State).tb.ppsOut = true ∧
      (((base.modTile 0 (fun x => { x with xout := [leaving] })).tile 0).xout.find? (fun x => x.dst == 3)) = some leaving ∧
      base.tileOn 0 = true ∧ base.tileOn 3 = true ∧ State.reset.tileOn 3 = false ∧
      ((vget (Vector.replicate 8 ({ stands := true, withinAt := some 0 } : Skew)) 7 {}).withinAt = some 0) := by
  decide +kernel

/-- The first seven words of a descriptor in host memory, 16 entries. -/
def descHead : List Byte := leBytes 24 0x10000 ++ [4, 0, 1, 0]

/-- `base` before arming, with that descriptor and its CRC in SETUP_DESC. -/
def unarmed : State := { base with hub := {
  setupDesc := #v[0x10000, 0, 0, 0, 0, 0, 0x00010004, crc32c descHead] } }

theorem witness_ArmAndDisarm :
    unarmed.live = true ∧ unarmed.hub.setup = .idle ∧ (parseDesc unarmed (setupBytes unarmed)).toOption.isSome = true ∧
      (parseDesc { unarmed with hub := {} } (setupBytes { unarmed with hub := {} })).toOption.isNone = true ∧
      base.hub.setup = .armed ∧ ({ base with hub := { base.hub with setup := .disarming } } : State).hub.setup ≠ .armed := by
  decide +kernel

/-- `base` with input 63 of tile 3 selected and the window open. -/
def windowOpen : State := { base with hub := { base.hub with chsel := 255, winRw := true } }

theorem witness_HostAccesses_registers :
    answers windowOpen = true ∧ chselValid windowOpen = true ∧ chselPort windowOpen.hub = { kind := 0, index := 255 } ∧
      judgeConfig windowOpen 3 63 { ((windowOpen.tile 3).input 63).latestCfg with cfg0 := 1 } = none ∧
      chselValid { base with hub := { base.hub with chsel := 256 } } = false ∧ base.hub.winRw = false := by
  decide +kernel

theorem witness_HostAccesses_qspi : answers base = true ∧ base.memWf = true := by decide +kernel

/-- A deleted pair. -/
def deleted : State := pair1 base (fun p => { p with deleting := true })

/-- In GLOW with host activity enabled, an entry that GLOW holds back waiting on pair 1. -/
def inGlow : State := pair1 { base with pw := { base.pw with pstate := .glow, wakeMask := 1 } }
  (fun p => { p with sqTail := 1, waiting := [(0, .packet 0x200 (packet 1 []))] })

theorem witness_DoorbellsAndRings_wake :
    inGlow.live = true ∧ ((inGlow.pair 1).map (·.deleting)) = some false ∧
      (((Ring.fetchAll inGlow).pair 1).bind (fun p => p.waiting.head?)) = some (0, .packet 0x200 (packet 1 [])) ∧
      glowOk (Ring.fetchAll inGlow) (.packet 0x200 (packet 1 [])) = false ∧ inGlow.pw.wakeMask.getLsbD 0 = true := by
  decide +kernel

theorem witness_DoorbellsAndRings_failed :
    (Ring.offerBad 1 0 0x12345678#32 base).hub.fetched.any (fun f => f.q == 1 && f.index == 0 && f.entry == .bad 0x12345678#32) = true := by
  decide +kernel

theorem witness_DoorbellsAndRings :
    base.live = true ∧ base.hub.setup = .armed ∧ ((base.pair 1).map (fun p => (p.deleting, p.desc.size))) = some (false, 32) ∧
      field (0x001F001F#32 : Word).toNat 15 0 < 32 ∧ field (0x001F001F#32 : Word).toNat 31 16 < 32 ∧ base.pw.pstate = .run ∧
      (base.pair 4095) = none ∧ goes 1 (.bad 0x12345678#32) base = true ∧
      goes 1 (.packet 0xFFF (packet 1 [])) base = true ∧ specOf 0xFFF = none ∧
      ((pair1 base (fun p => { p with unsignalled := 1 })).pair 1).map (·.unsignalled) = some 1 ∧
      ((pair1 base (fun p => { p with held := [someReply] })).pair 1).map (fun p => (p.held, p.cqFull)) = some ([someReply], false) ∧
      (deleted.pair 1).map (·.deleting) = some true ∧ deleted.hub.inflight = [] ∧
      meets Case.windowAccess [(8, 1, 1)] base = true := by
  decide +kernel

theorem witness_HostAccesses_configuration :
    base.tb.elapsed < base.pw.porAt + 20000000 ∧ answers { base with pw := { boot := .firmware }, tb := { elapsed := 20000000 } } = true ∧
      ({ base with tb := { elapsed := 20000000 } } : State).live = true := by
  decide +kernel

/-! ### Sessions, queue pairs, tenants -/

/-- `base` with the owner's session closed. -/
def closed : State := { base with cl := { base.cl with sessions := [] } }

/-- A live nonce of the owner. -/
def nonce : Nonce where
  value := 0x1234
  rev := 2
  lapsesAt := 1000000000

/-- `closed` with that nonce. -/
def asked : State := { closed with cl := { closed.cl with nonces := [(0, nonce)] } }

/-- The owner's secret. -/
def secret : List Byte := leBytes 32 1

/-- The right proof. -/
def proof : Nat := ofLe (hmac secret (leBytes 16 0x1234 ++ leBytes 8 7 ++ leBytes 2 0 ++ leBytes 1 2))

theorem witness_SessionOpen : meets0 Case.sessionOpen [(8, 2, 0)] closed = true := by decide +kernel

theorem witness_SessionProve : meets0 (Case.sessionProve nonce secret 0) [(8, 2, 0), (10, 8, 7), (18, 32, proof)] asked = true := by
  decide +kernel

theorem witness_SessionCommands :
    meets (Case.sessionClose 0) [(8, 2, 0)] base = true ∧ meets0 (Case.sessionClose 0) [(8, 2, 0xFFFF)] base = true ∧
      aget asked.cl.nonces 0 = some nonce ∧
      aget ({ base with cl := { lockouts := [(1023, 5)] } } : State).cl.lockouts 1023 = some 5 := by
  decide +kernel

theorem witness_WrongProofs :
    Cmd.passes specSessionProve 0 (packet 0 [(8, 2, 0), (10, 8, 7)]) asked = true ∧ inLockout asked 0 = false ∧
      liveNonce asked 0 = some nonce ∧ ahas asked.cl.sessions 0 = false ∧ secretOf asked 0 = some secret ∧
      (packet 0 [(8, 2, 0), (10, 8, 7)]).bytes 18 32 ≠ hmac secret (leBytes 16 0x1234 ++ leBytes 8 7 ++ leBytes 2 0 ++ leBytes 1 2) ∧
      (aget ({ asked with cl := { asked.cl with fails := [(0, 2)] } } : State).cl.fails 0).getD 0 = 2 := by
  decide +kernel

/-- A new pair's descriptor. -/
def newDesc : RingDesc where
  sqBase := 0x40000
  cqBase := 0x50000
  stateAddr := 0x60000
  log2Size := 16
  space := .host
  vector := 255
  coalTime := 15
  coalCount := 15

/-- Its first 28 bytes. -/
def newDescBytes : List Byte := leBytes 8 0x40000 ++ leBytes 8 0x50000 ++ leBytes 8 0x60000 ++ [16, 0, 255, 255]

theorem witness_QueueAndClientCommands :
    meets0 (Case.queueCreate newDesc 2) [(8, 28, ofLe newDescBytes), (36, 4, (crc32c newDescBytes).toNat)] base = true ∧
      meets0 (Case.queueDelete { ctx := 0, desc := desc 0x20000 }) [(8, 2, 1)] base = true ∧
      meets0 Case.clientInstall [(8, 2, 1023), (10, 1, 16), (11, 1, 1), (12, 2, 0xFFFF), (14, 1, 1), (16, 32, 2 ^ 256 - 1)] base = true ∧
      meets0 Case.clientRights [(8, 2, 1), (10, 1, 1)]
        { base with cl := { base.cl with creds := base.cl.creds ++ [(1, { secret := 1, weight := 4, queueLimit := 4, groupMask := 0, prioFloor := 1, rights := 0 })] } } = true ∧
      meets0 Case.clientRemove [(8, 2, 1)]
        { base with cl := { base.cl with creds := base.cl.creds ++ [(1, { secret := 1, weight := 4, queueLimit := 4, groupMask := 0, prioFloor := 1, rights := 0 })] } } = true := by
  decide +kernel

/-! ### Points -/

/-- An analogue point without a source, level 8 active at 20.0. -/
def point : Point := {
  value := 0x41A00000, covLast := 0x41A00000, timestamp := 0, status := 0, prioActive := 0x80, type := 0, owner := 0
  group := 1, relinquish := 0x41200000, covIncrement := 0x3F800000, priority := vset (Vector.replicate 16 0) 7 0x41A00000
  source := 0, crc := 0, latest := none, mirror := none }

/-- The same out of service, with a SOURCE. -/
def outPoint : Point := { point with status := 1#32 <<< stOos, source := 0x00FF0301 }

/-- `base` with it as point 5, in the cache. -/
def pointed : State := { base with pts := { recs := [(5, point)], cache := [5] } }

/-- A point of logical channel 255 of tile 3. -/
def sourced : Point := { point with source := 0x00FF0301 }

/-- A channel's result. -/
def lch : Lch := { value := 0x42480000, writes := 1 }

theorem witness_PointCommands :
    meets (Case.pointRead point) [(8, 5, 5), (13, 1, 4)] pointed = true ∧
      meets (Case.pointWrite point) [(8, 5, 5), (13, 1, 16), (16, 4, 0x41F00000)] pointed = true ∧
      meets (Case.pointWrite point) [(8, 5, 5), (13, 1, 1), (16, 4, 0x41F00000)] pointed = true ∧
      meets (Case.pointRelinquish point) [(8, 5, 5), (13, 1, 8), (14, 1, 1)] pointed = true ∧
      meets (Case.pointWriteOut outPoint) [(8, 5, 5), (16, 4, 0x41F00000)]
        { pointed with pts := { pointed.pts with recs := [(5, outPoint)] } } = true ∧
      meets Case.pointCreate [(8, 5, 0), (13, 1, 1), (14, 1, 255), (15, 1, 3), (16, 4, 1), (24, 2, 1023)] base = true ∧
      meets (Case.pointConfig point) [(8, 5, 5), (14, 1, 2), (15, 1, 1), (16, 4, 0x41F00000), (20, 4, 0), (26, 1, 0x3F)] pointed = true ∧
      meets (Case.pointDelete point) [(8, 5, 5)] pointed = true ∧
      meets (Case.pointWatch point) [(8, 5, 5), (16, 4, 86400000)] pointed = true ∧
      (({ pointed with pts := { pointed.pts with watches := [{ id := 5, key := busyKey, deadline := 9 }] } } : State).pts.watches.find?
        (fun x => x.key.q == 1 && x.key.tag == 9)) = some { id := 5, key := busyKey, deadline := 9 } ∧
      (untilElapsed 9 pointed).point 5 = some point ∧ pointSound pointed 5 sourced = true ∧
      sourceNow (base.modTile 3 (fun x => { x with lch := vset x.lch 255 lch })) sourced = some (some (.fp 0x42480000), {}) := by
  decide +kernel

theorem witness_PointCommands_failed :
    pointSound { pointed with pts := { recs := [(5, sourced)], failed := [5] } } 5 sourced = false ∧
      (sourceNow (base.modTile 3 (fun x => { x with lch := vset x.lch 255 lch })) sourced).isSome = true ∧
      sourceNow base point = none := by
  decide +kernel

theorem witness_PresentValue :
    point.oos = false ∧ point.kind = 0 ∧ { point with prioActive := 0 }.prioActive = 0 ∧ point.prioActive.getLsbD 7 = true ∧
      (∀ j, j < 7 → point.prioActive.getLsbD j = false) ∧ { point with status := 1#32 <<< stOos }.oos = true ∧
      { point with source := 1 }.kind ≠ 0 ∧ { point with latest := some (.fp 5) }.latest = some (.fp 5) ∧
      sourceValue point.type (.fp 5) = some 5 ∧ { point with source := 1 }.latest = none ∧ point.type = 0 ∧
      sourceValue { point with type := 1 }.type (.fp 0x7F800000) = none ∧ ffinite 0x7F800000 = false ∧
      sourceValue { point with type := 2 }.type (.fp 0x40200000) = some 3 ∧ ffinite 0x40200000 = true ∧
      maskBit (packet 1 [(26, 1, 0x20)]) 5 = true := by
  decide +kernel

theorem witness_RecordsStored :
    covDue 0 { point with value := 0x41A40000 } = false ∧ covDue 0 { point with value := 0x41A80000 } = true ∧
      covDue 1 point = true := by
  decide +kernel

/-! ### Inputs and converters -/

/-- `base` with tile 3 changed. -/
def on3 (f : Tile → Tile) : State := base.modTile 3 f

/-- A voltage input of range 2. -/
def voltIn : Input := { cfg := { cfg0 := 0x21 } }

/-- An entry: MEASURE of an input for 16 ms to a channel, LAST. -/
def entry (ch input : Nat) : BitVec 64 := BitVec.ofNat 64 (ch * 2 ^ 56 + input * 2 ^ 50 + 1600 * 2 ^ 37 + 2 ^ 32)

/-- The image with that entry first. -/
def image : Image := { entries := vset (Vector.replicate 128 0) 0 (entry 255 63), periodMs := 17, cycles := 1 }

/-- A converter that runs it. -/
def running : Conv := { calibrated := true, running := true, active := image, loaded := image.entries }

/-- Converter A of tile 3 runs that image on input 63. -/
def sampling : State := on3 (fun x => { x with
  inputs := vset x.inputs 63 voltIn, refOn := true, refReady := true, convs := #v[running, { calibrated := true }] })

/-- The four (x, y) pairs of a table part, from x = n on. -/
def tablePart (n : Nat) : List (Nat × Nat × Nat) :=
  (List.range 4).flatMap (fun k => [(16 + 8 * k, 4, (fofInt (4 * n + k : Nat)).toNat), (20 + 8 * k, 4, (fofInt (k : Nat)).toNat)])

/-- Three parts of a table are staged on pair 1. -/
def staged : State := pair1 base (fun p => { p with stage := some {
  kind := .table, tile := 3, index := 31, next := 3
  bytes := (List.range 12).flatMap (fun k => leBytes 4 (fofInt (k : Nat)).toNat ++ leBytes 4 0) } })

theorem witness_InputCommands :
    meets Case.inputConfig [(8, 1, 3), (9, 1, 63), (16, 4, 0x21)] base = true ∧
      meets Case.inputConfigWaits [(8, 1, 3), (9, 1, 63), (16, 4, 0x11)] sampling = true ∧
      meets Case.inputRead [(8, 1, 3), (9, 1, 63)] base = true ∧
      meets Case.inputTest [(8, 1, 3), (9, 1, 63), (12, 2, 4095)] sampling = true ∧
      Cmd.passes specInputTable 1 (packet 1 ([(8, 1, 3), (9, 1, 31), (10, 1, 3)] ++ tablePart 3)) staged = true ∧
      risesStrictly (xyPairs ((((staged.pair 1).bind (·.stage)).map (·.bytes)).getD [] ++
        (packet 1 ([(8, 1, 3), (9, 1, 31), (10, 1, 3)] ++ tablePart 3)).bytes 16 32)) = true ∧
      Cmd.passes specInputTable 1 (packet 1 [(8, 1, 3), (9, 1, 31)]) base = true ∧ base.tileOn 3 = true := by
  decide +kernel

theorem witness_ShadedInputs : (vget ({ base with shaded := #v[0, 0, 0, 1#64 <<< 63] } : State).shaded 3 0).getLsbD 63 = true := by
  decide +kernel

/-- `base` with input 63 of tile 3 in a mode. -/
def moded (m : Nat) : State := on3 (fun x => { x with inputs := vset x.inputs 63 { cfg := { cfg0 := BitVec.ofNat 32 m } } })

theorem witness_InputHappenings :
    base.tileOn 3 = true ∧ ((base.tile 3).input 63).switchOpen = false ∧ (((moded 2).tile 3).input 63).cfg.mode = 2 ∧
      (((moded 2).tile 3).input 63).shuntOpen = false ∧ (((moded 8).tile 3).input 63).cfg.mode = 8 ∧
      pulseNs (((moded 8).tile 3).input 63).cfg.filter ≤ 2000 ∧ base.pw.pstate = .run ∧ base.pw.trans = none ∧
      1999 < pulseNs (((moded 8).tile 3).input 63).cfg.filter := by
  decide +kernel

/-- Both converters of tile 3 stopped, calibrated, the image loaded for A, input 63 in force. -/
def stopped : State := on3 (fun x => { x with
  inputs := vset x.inputs 63 voltIn, refOn := true, refReady := true, ilvCal := true
  convs := #v[{ calibrated := true, loaded := image.entries }, { calibrated := true }] })

theorem witness_SequenceCommands :
    meets Case.refbufOn [(8, 1, 3)] base = true ∧ meets Case.refbufOff [(8, 1, 3)] sampling = true ∧
      meets Case.adcCalibrate [(8, 1, 3), (9, 1, 3)] stopped = true ∧
      meets (Case.adcCalibrateOne 1) [(8, 1, 3), (9, 1, 1)] stopped = true ∧
      meets Case.adcCalibrateBoth [(8, 1, 3), (9, 1, 2)] stopped = true ∧
      meets Case.seqLoad [(8, 1, 3), (9, 1, 1), (10, 1, 127), (11, 1, 1), (16, 8, (entry 255 63).toNat)] stopped = true ∧
      meets Case.seqStart [(8, 1, 3), (9, 1, 0), (12, 4, 17), (16, 4, 1)] stopped = true ∧
      meets Case.seqStartWaits [(8, 1, 3), (9, 1, 0), (12, 4, 0)] sampling = true ∧
      meets Case.seqStop [(8, 1, 3), (9, 1, 0), (10, 1, 1)] sampling = true ∧
      meets Case.seqStopAtEnd [(8, 1, 3), (9, 1, 0)] (sampling.modConv 3 0 (fun v => { v with inCycle := true })) = true ∧
      meets Case.seqRead [(8, 1, 3), (9, 1, 1)] base = true := by
  decide +kernel

/-- A FORMAT 0 buffer of 64 entries in host memory. -/
def ring0 : Ring where
  format := 0
  log2Size := 6
  space := .host
  base := 0x80000
  stateAddr := 0x90000
  notify := 0
  total := 0

/-- `base` with it as buffer 63 of tile 3. -/
def buffered : State := on3 (fun x => { x with bufs := vset x.bufs 63 (some ring0) })

theorem witness_ChannelCommands :
    meets Case.lchConfig [(8, 1, 3), (10, 2, 255), (12, 1, 3), (13, 1, 63), (14, 2, 1), (20, 4, 0x41200000), (24, 4, 0x3F800000)] buffered = true ∧
      meets Case.lchRead [(8, 1, 3), (10, 2, 255)] base = true ∧
      meets Case.lchWinack [(8, 1, 3), (9, 1, 1), (16, 16, 2 ^ 128 - 1)] base = true ∧
      meets Case.dmaCreate [(8, 1, 3), (9, 1, 63), (10, 1, 1), (11, 1, 20), (16, 8, 0x100000), (24, 8, 0x80000)] base = true ∧
      meets Case.dmaDelete [(8, 1, 3), (9, 1, 63)] buffered = true ∧
      meets Case.urgentConvert [(8, 1, 3), (9, 1, 63), (10, 2, 1600), (12, 2, 0xFFFF)] stopped = true ∧
      meets Case.rscan [(8, 1, 3), (9, 1, 31), (10, 1, 16), (11, 1, 10), (12, 2, 1000), (14, 2, 500), (16, 4, 0x3F800000), (20, 1, 0xFF)] stopped = true := by
  decide +kernel

/-- A dwell without a signal. -/
def quiet : Dwell where
  vs := 0
  vl := 0
  vf := 1000000000
  vq := 0
  compliance := false

/-- Converter A of tile 3 dwells on entry 0 of the image. -/
def dwelling : State := sampling.modConv 3 0 (fun v => { v with
  inCycle := true, inDwell := true, snap := some { cfg := { cfg0 := 0x21 }, table := none, spoiled := false, exc := none } })

/-- An urgent conversion of input 63. -/
def urgent63 : Urgent where
  key := none
  input := 63
  kind := .convert 1600 0xFFFF

/-- A scan of position 31. -/
def scan31 : Scan where
  key := none
  position := 31
  avg := 1
  level := 1
  length := 64
  vf := 500
  thresh := 0x3F800000
  rawBuf := none
  crack := none

theorem witness_ConverterHappenings_1 :
    (((on3 (fun x => { x with refOn := true })).tile 3).refReady) = false ∧ convFree sampling 3 0 = true ∧
      (sampling.conv 3 0).inCycle = false ∧
      nextEntry (sampling.modConv 3 0 (fun v => { v with inCycle := true }))
        ((sampling.modConv 3 0 (fun v => { v with inCycle := true })).conv 3 0) = (0, some 0) ∧
      convFree (sampling.modConv 3 0 (fun v => { v with inCycle := true })) 3 0 = true ∧
      heldByB sampling 3 63 = false ∧ (dwelling.conv 3 0).inDwell = true ∧ entKind (dwellEntry dwelling 3 0) = 0 ∧
      (dwelling.conv 3 0).snap.isSome = true := by
  decide +kernel

/-- Its image ends in a PAUSE of 16 ms, and its MEASURE has ended. -/
def pausing : State := sampling.modConv 3 0 (fun v => { v with
  inCycle := true, pos := 1
  active := { image with
    entries := vset (vset image.entries 0 (BitVec.ofNat 64 ((entry 255 63).toNat - 2 ^ 32))) 1
      (BitVec.ofNat 64 (2 ^ 49 + 1600 * 2 ^ 37 + 2 ^ 32)) } })

theorem witness_ConverterHappenings_pause :
    convFree pausing 3 0 = true ∧ nextEntry pausing (pausing.conv 3 0) = (16002000, none) ∧ (pausing.conv 3 0).pos ≠ 0 := by
  decide +kernel

/-- The image whose CRC the converter holds, so that a cycle starts. -/
theorem witness_ConverterHappenings_2 :
    ∃ s : State, convFree s 3 0 = true ∧ (s.conv 3 0).inCycle = false ∧ imageCrc (s.conv 3 0).active = (s.conv 3 0).crc :=
  ⟨sampling.modConv 3 0 (fun v => { v with crc := imageCrc v.active }), by decide +kernel, by decide +kernel, rfl⟩

theorem witness_ConverterHappenings_3 :
    dwellsOn stopped 3 63 = false ∧ calBegun stopped 3 1 = false ∧ (stopped.tile 3).scanning = none ∧
      (stopped.tile 3).urgentOn = false ∧
      ((stopped.modTile 3 (fun x => { x with urgent := [urgent63], urgentOn := true })).tile 3).urgent = [urgent63] ∧
      scanMayStart (stopped.modTile 3 (fun x => { x with scans := [scan31] })) 3 = true ∧ ([] : List (List Int)).length < scan31.avg ∧
      scan31.avg ≤ [[(0 : Int)]].length ∧
      ((base.modCal (calKey 0 3) (fun i => { i with since := some 0 })).calItem (calKey 0 3)).since = some 0 := by
  decide +kernel

/-- A channel whose window runs from 0 to 10 with a hysteresis of 1. -/
def windowed : Lch := { lo := 0, hi := 0x41200000, hyst := 0x3F800000 }

theorem witness_WindowStates : fnum windowed.lo + fnum windowed.hyst < fnum windowed.hi - fnum windowed.hyst ∧ 0 ≤ fnum windowed.hyst := by
  decide +kernel

/-! ### Metering and presence -/

/-- A configuration of inputs 62 and 63, group 1. -/
def meterCfg : MeterCfg where
  vInput := 62
  iInput := 63
  iRange := 0
  group := 1
  phaseCorr := 0
  vScale := 0x3F800000
  iScale := 0x3F800000

/-- A bound pair with an open interval. -/
def meterPair : MeterPair := { cfg := some meterCfg, bound := true, power := 1000000, interval := { opened := true } }

/-- `base` with it as pair 7 of tile 3, intervals running and TB valid. -/
def metering : State := ({ base with mt := { base.mt with running := true, boundary := 900 }, tb := { valid := true } } : State).modMeter 3 7
  (fun _ => meterPair)

theorem witness_MeteringCommands :
    meets Case.meterConfig [(8, 1, 3), (9, 1, 7), (10, 1, 62), (11, 1, 63), (12, 1, 1)] base = true ∧
      meets (Case.meterRead meterCfg) [(8, 1, 3), (9, 1, 7), (10, 1, 10)] metering = true ∧
      meets (Case.meterHistory meterCfg) [(8, 1, 3), (9, 1, 7), (10, 1, 64), (11, 1, 1), (16, 8, 0)] metering = true ∧
      meets Case.meterResetPeak [(8, 1, 3), (9, 1, 7)] metering = true ∧
      meets Case.demandConfig [(9, 1, 5)] metering = true ∧
      meets Case.tariffRates [(10, 2, 4), (12, 1, 9), (16, 8, 1)] base = true ∧
      meets Case.tariffEntries [(9, 1, 1), (10, 2, 1023), (12, 1, 1), (16, 8, 2 ^ 24 + 7)] base = true ∧
      meets Case.tariffCommit [(12, 2, 1024)] base = true ∧ meets Case.tariffRead [] base = true := by
  decide +kernel

/-- Converter B of tile 3 in a METER dwell of pair 7. -/
def meterDwelling : State := metering.modConv 3 1 (fun v => { v with
  running := true, inCycle := true, inDwell := true, meter := some meterCfg
  active := { entries := vset (Vector.replicate 128 0) 0 (BitVec.ofNat 64 (62 * 2 ^ 50 + 2 ^ 48 + 800 * 2 ^ 37 + 2 ^ 32 + 7 * 2 ^ 29)) } })

/-- A METER dwell's samples, and one whose last current sample stands at full scale. -/
def samples : MeterDwell := { v := [11999999999, 0], i := [99999999, -99999999] }
def tooHigh : MeterDwell := { v := [0, 0], i := [0, -100000000] }

/-- The snapshot of the dwell. -/
def meterSnap (spoiled : Bool) : Snap := { cfg := { cfg0 := 9 }, table := none, spoiled := spoiled, exc := none }

theorem witness_MeteringHappenings_dwell :
    fullScale meterCfg samples = false ∧ fullScale meterCfg tooHigh = true ∧
      ((meterDwelling.modConv 3 1 (fun v => { v with snap := some (meterSnap false) })).conv 3 1).snap = some (meterSnap false) ∧
      (meterSnap false).spoiled = false ∧ (meterSnap true).spoiled = true := by
  decide +kernel

/-- A checkpoint. -/
def checkpoint : Checkpoint := Meter.snapshot base

/-- A commit of the tariff for second 1, and one rebuilt. -/
def tariffJob (rebuilt : Bool) : TariffJob where
  key := none
  entries := 0
  atSecond := 1
  rebuilt := rebuilt
  late := false

/-- A bank that switches to tariff 7 in second 1. -/
def bank : Bank := { entries := [(0, 0x1000007)], used := 1 }

theorem witness_MeteringHappenings :
    meterDwelling.tileOn 3 = true ∧ (meterDwelling.conv 3 1).inDwell = true ∧ entKind (dwellEntry meterDwelling 3 1) = 1 ∧
      entPair (dwellEntry meterDwelling 3 1) = 7 ∧ (meterDwelling.conv 3 1).meter = some meterCfg ∧
      metering.mt.running = true ∧ metering.tb.valid = true ∧
      (vget (vset base.mt.copies 3 [({ key := busyKey, pair := 7, count := 64, space := .ring, dest := 0 } : HistoryJob)]) 3 []).length = 1 ∧
      base.nv.running = none ∧ base.mt.shadow.rises 0 = true ∧
      energyOk { base with nv := { holdup := some { c := 0x47C35000, ratio := 0x41200000, vMin := 0x40400000, eReserve := 10 } } } = true ∧
      base.pw.pfail = false ∧ base.sec < 1 ∧
      (Meter.closeDue (untilTb 1000000000 metering).sec (untilTb 1000000000 metering)).tb.valid = true ∧
      bank.tariffAt 0 = base.mt.tariff ∧ bank.nextWhen 0 = some 1 ∧ base.live = true := by
  decide +kernel

/-- The commit of bank 1 with no entry, before and after its rebuild. -/
def bankCommit (b : Option Bank) : Commit := { key := none, ctx := 0, what := .tariff 1 0 b }

/-- A checkpoint of an interval close. -/
def checkpointJob : CheckpointJob := { at' := 0, power := false, image := some checkpoint }

/-- `base` with the energy of a commit: 100,000 µF, ratio 10, 3 V, 10 mJ. -/
def charged : State := { base with nv := { base.nv with
  holdup := some { c := 0x47C35000, ratio := 0x41200000, vMin := 0x40400000, eReserve := 10 } } }

/-- The same with the tariff's commit for second 1, queued or running. -/
def tariffing (run : Bool) : State := { charged with
  mt := { charged.mt with job := some (tariffJob false) }
  nv := { charged.nv with
    queue := if run then [] else [bankCommit none]
    running := if run then some (bankCommit (some bank)) else none } }

theorem witness_MeteringHappenings_jobs :
    ({ base with nv := { base.nv with running := some { key := none, ctx := 0, what := .checkpoint checkpointJob } } } : State).nv.running =
        some { key := none, ctx := 0, what := .checkpoint checkpointJob } ∧
      ({ base with mt := { base.mt with job := some (tariffJob true) } } : State).mt.job = some (tariffJob true) ∧
      (tariffing false).mt.job = some (tariffJob false) ∧ (tariffing false).nv.running = none ∧
      (tariffing false).mt.shadow.rises 0 = true ∧ (tariffing false).nv.queue = [bankCommit none] ∧
      (bankCommit none).what = .tariff (1 - (tariffing false).mt.activeIdx) 0 none ∧ energyOk (tariffing false) = true ∧
      energyOk { tariffing false with nv := base.nv } = false ∧
      (tariffing true).nv.running = some (bankCommit (some bank)) ∧ isTariff (bankCommit (some bank)) = true := by
  decide +kernel

theorem witness_MeteringHappenings_ends :
    ({ bank with entries := [(0, 0x2000007), (1, 0x1000000)] } : Bank).rises 2 = false ∧ energyOk base = false ∧
      ({ tariffJob false with atSecond := 0 } : TariffJob).atSecond ≤ base.sec ∧ bank.tariffAt 1 ≠ base.mt.tariff := by
  decide +kernel

theorem witness_EnergyAccounted :
    meterPair.cfg.isSome = true ∧ meterPair.restored = false ∧ meterPair.bound = true ∧ meterPair.pend = none ∧ 0 ≤ meterPair.power := by
  decide +kernel

theorem witness_IntervalsClosed :
    meterPair.cfg.isSome = true ∧ meterPair.interval.opened = true ∧ meterPair.restored = false ∧
      meterPair.interval.record.demand ≤ meterPair.peakDemand ∧
      meterPair.peakDemand < ({ meterPair with interval := { meterPair.interval with eImp := 1000 } }).interval.record.demand := by
  decide +kernel

/-- A port of 16 pixels that runs. -/
def runningPort : Port := { cfg0 := BitVec.ofNat 32 (16 * 2 ^ 18 + 4 * 2 ^ 10 + 4 * 2 ^ 6 + 16), state := .run, gain := 0x3F800000 }

/-- `base` with it as port 7 of tile 3. -/
def watching : State := on3 (fun x => { x with ports := vset x.ports 7 runningPort })

/-- The fields of a PRESENCE_CONFIG of 8,192 pixels. -/
def presenceFields : List (Nat × Nat × Nat) :=
  [(8, 1, 3), (9, 1, 7), (10, 2, 8192), (12, 1, 128), (14, 1, 15), (16, 4, 0x3F800000), (34, 2, 1)]

theorem witness_PresenceCommandsAndHappenings :
    meets Case.presenceConfig (presenceFields ++ [(13, 1, 3)]) base = true ∧ meets Case.presenceOff presenceFields base = true ∧
      meets Case.presenceRead [(8, 1, 3), (9, 1, 7)] watching = true ∧ meets Case.presenceTest [(8, 1, 3), (9, 1, 7)] watching = true ∧
      meets Case.presenceRebase [(8, 1, 3), (9, 1, 7)] watching = true ∧
      (List.range 8).find? (fun p => !((watching.modPort 3 7 (fun x => { x with test := [busyKey] })).port 3 p).test.isEmpty) = some 7 ∧
      portRuns watching 3 7 = true ∧ (watching.port 3 7).test = [] ∧ (watching.port 3 7).lastStart = none ∧ (watching.port 3 7).pix = 16 ∧
      base.live = true := by
  decide +kernel

/-- A frame began at the present instant. -/
def begun : State := watching.modPort 3 7 (fun x => { x with lastStart := some 0 })

theorem witness_PresenceCommandsAndHappenings_frames :
    portRuns begun 3 7 = true ∧ (begun.port 3 7).lastStart = some 0 ∧ begun.tb.elapsed - 0 < 0 + 33300000 ∧
      16 * (begun.port 3 7).pix = 256 ∧ portRuns { begun with tb := { elapsed := 33300000 } } 3 7 = true ∧
      0 + 33300000 ≤ ({ begun with tb := { elapsed := 33300000 } } : State).tb.elapsed - 0 := by
  decide +kernel

theorem witness_PixelUpdate :
    (pixStep 1 0 5 0 3 1 0).fg = true ∧ (pixStep 1 0 5 0 2 1 0).fg = false ∧ (pixStep 1 4 5 0 3 1 4).age = 0 := by
  decide +kernel

/-! ### Loops and zones -/

/-- A record of `n` bytes from offsets, widths and values. -/
def record (n : Nat) (l : List (Nat × Nat × Nat)) : Nat := l.foldl (fun a x => a + x.2.2 % 256 ^ x.2.1 * 256 ^ x.1) 0 % 256 ^ n

theorem crcFold_append (c : Word) (a b : List Byte) : crcFold c (a ++ b) = crcFold (crcFold c a) b := by
  induction a generalizing c with
  | nil => rfl
  | cons x r ih => exact ih _

theorem leBytes_add (a b v : Nat) : leBytes (a + b) v = leBytes a v ++ leBytes b (v / 256 ^ a) := by
  induction a generalizing v with
  | zero => simp [leBytes]
  | succ n ih => simp only [Nat.succ_add, leBytes, ih, List.cons_append, Nat.div_div_eq_div_mul, Nat.pow_succ, Nat.mul_comm]

/-- The CRC of 124 bytes in four steps. -/
theorem crc_124 (v : Nat) {a b c d : Word} (ha : crcFold 0xFFFFFFFF#32 (leBytes 32 v) = a)
    (hb : crcFold a (leBytes 32 (v / 256 ^ 32)) = b) (hc : crcFold b (leBytes 32 (v / 256 ^ 64)) = c)
    (hd : crcFold c (leBytes 28 (v / 256 ^ 96)) = d) : crc32c (leBytes 124 v) = d ^^^ 0xFFFFFFFF#32 := by
  rw [show 124 = 32 + (32 + (32 + 28)) from rfl, leBytes_add 32, leBytes_add 32, leBytes_add 32]
  rw [Nat.div_div_eq_div_mul, Nat.div_div_eq_div_mul, crc32c, crcFold_append, crcFold_append, crcFold_append, ha, hb]
  rw [show 256 ^ 32 * 256 ^ 32 = 256 ^ 64 from rfl, show 256 ^ 64 * 256 ^ 32 = 256 ^ 96 from rfl, hc, hd]

/-- `point` holds 0 where its CRC should be. -/
theorem point_fails : point.whole = false := by
  rw [Point.whole, pointCrc, crc32c, ← List.take_append_drop 28 (pointBytes point),
    ← List.take_append_drop 28 (List.drop 28 (pointBytes point)),
    ← List.take_append_drop 28 (List.drop 28 (List.drop 28 (pointBytes point))), crcFold_append, crcFold_append, crcFold_append,
    show crcFold 0xFFFFFFFF#32 (List.take 28 (pointBytes point)) = 122907452#32 by decide +kernel,
    show crcFold 122907452#32 (List.take 28 (List.drop 28 (pointBytes point))) = 139519573#32 by decide +kernel,
    show crcFold 139519573#32 (List.take 28 (List.drop 28 (List.drop 28 (pointBytes point)))) = 2807181510#32 by decide +kernel,
    show crcFold 2807181510#32 (List.drop 28 (List.drop 28 (List.drop 28 (pointBytes point)))) = 1310045810#32 by decide +kernel]
  decide +kernel

theorem witness_PointReadFails :
    meets (Case.pointReadFails point) [(8, 5, 5), (13, 1, 0)] { pointed with pts := { pointed.pts with cache := [] } } = true := by
  simp only [meets, Case.met, Case.pointReadFails, point_fails, Bool.not_false, Bool.and_true]
  decide +kernel

/-- A loop that reads channel 255 of tile 3 and binds no output: 1 s, KP `kp`, TI 10 s, 0 to 100. -/
def loopRecord (kp crc : Nat) : Nat :=
  record 128 [(0, 1, 0), (2, 1, 1), (4, 4, 1000000), (16, 1, 1), (17, 1, 3), (18, 2, 255), (56, 4, kp),
    (60, 4, 0x41200000), (76, 4, 0x42C80000), (84, 4, 0x41F00000), (88, 4, 0x3F800000), (124, 4, crc)]

/-- With KP 2 and its CRC, and with KP 1. -/
def loopTwo : Nat := loopRecord 0x40000000 3497796549
def loopOne : Nat := loopRecord 0x3F800000 3924007870

theorem loopTwo_crc : crc32c (leBytes 124 loopTwo) = 797170746#32 ^^^ 0xFFFFFFFF#32 := by
  refine crc_124 loopTwo (a := 3527174859#32) (b := 688064778#32) (c := 3473914706#32) ?_ ?_ ?_ ?_
  all_goals decide +kernel

theorem loopOne_crc : crc32c (leBytes 124 loopOne) = 370959425#32 ^^^ 0xFFFFFFFF#32 := by
  refine crc_124 loopOne (a := 3527174859#32) (b := 4223730979#32) (c := 3980138583#32) ?_ ?_ ?_ ?_
  all_goals decide +kernel

/-- The loop of KP 2. -/
def aLoop : Loop := newLoop (leBytes 128 loopTwo)

theorem aLoop_desc : aLoop.desc = BitVec.ofNat 1024 loopTwo := by decide +kernel

theorem aLoop_whole : aLoop.whole = true := by
  have e : aLoop.desc.toNat = loopTwo := by rw [aLoop_desc]; decide +kernel
  unfold Loop.whole Loop.le
  rw [e, loopTwo_crc]
  decide +kernel

/-- It is admitted, and waits for its first boundary. -/
def stored : Loop := Loop.bookRate { aLoop with next := 500 }

/-- Its descriptor with a CRC of 0. -/
def torn : Loop := { aLoop with desc := BitVec.ofNat 1024 (loopRecord 0x40000000 0) }

theorem torn_fails : torn.whole = false := by
  have e : leBytes 124 torn.desc.toNat = leBytes 124 loopTwo := by decide +kernel
  unfold Loop.whole
  rw [e, loopTwo_crc]
  decide +kernel

/-- LOOP_TUNE of KP to 1. -/
def tuneOne : List (Nat × Nat × Nat) := [(8, 1, 3), (10, 2, 16383), (12, 1, 1), (16, 4, 0x3F800000)]

theorem stored_tuned : tunedDesc stored.desc (packet 1 tuneOne) = BitVec.ofNat 1024 loopOne := by
  have d : stored.desc = aLoop.desc := by
    unfold stored Loop.bookRate
    split <;> rfl
  rw [d]
  have h : (List.range 7).foldl (fun d i => if ((packet 1 tuneOne).u8 12).testBit i
      then descSet d ((tuneOffsets[i]?).getD 4) 4 ((packet 1 tuneOne).u32 (16 + 4 * i)) else d) aLoop.desc
      = BitVec.ofNat 1024 (loopRecord 0x3F800000 3497796549) := by decide +kernel
  have e : leBytes 124 (BitVec.ofNat 1024 (loopRecord 0x3F800000 3497796549)).toNat = leBytes 124 loopOne := by decide +kernel
  unfold tunedDesc
  rw [h, descSeal, e, loopOne_crc]
  decide +kernel

/-- The fields of LOOP_CREATE's PART 3 of it, and pair 1 with the other parts staged. -/
def loopLast : List (Nat × Nat × Nat) := [(8, 1, 3), (10, 2, 65535), (12, 1, 3), (16, 32, loopTwo / 256 ^ 96)]

def staging (kind : StageKind) (index next : Nat) (bytes : List Byte) : State :=
  pair1 base (fun p => { p with stage := some { kind := kind, tile := 3, index := index, next := next, bytes := bytes } })

/-- The loop as number 16,383 of tile 3. -/
def looping : State := on3 (fun x => { x with loops := [(16383, stored)] })

theorem witness_LoopCommands :
    meets Case.loopPartIn [(8, 1, 3), (10, 2, 65535), (12, 1, 2), (16, 4, 7)] (staging .loop 65535 2 (leBytes 64 loopTwo)) = true ∧
      meets (Case.loopDelete stored) [(8, 1, 3), (10, 2, 16383)] looping = true ∧
      meets (Case.loopRead stored) [(8, 1, 3), (10, 2, 16383), (12, 1, 8)] looping = true ∧
      meets (Case.loopManual stored) [(8, 1, 3), (10, 2, 16383), (12, 1, 1), (16, 4, 0x42C80000)] looping = true ∧
      meets (Case.loopManual { stored with state := .manual }) [(8, 1, 3), (10, 2, 16383), (12, 1, 1), (16, 4, 0x42C80000)]
        (looping.modLoop 3 16383 (fun l => { l with state := .manual })) = true ∧
      meets (Case.loopAuto { stored with state := .manual }) [(8, 1, 3), (10, 2, 16383)]
        (looping.modLoop 3 16383 (fun l => { l with state := .manual })) = true ∧
      meets Case.loopLoad [(8, 1, 3)] looping = true := by
  decide +kernel

theorem loopTune_met (l : Loop) (d : BitVec 1024) (pk : Packet) (s : State) (h : tunedDesc l.desc pk = d) :
    (Case.loopTune l).met 1 pk s = (Cmd.passes specLoopTune 1 pk s && (
      let t := Cmd.begun specLoopTune 1 pk s
      let m : Loop := Loop.bookRate { l with desc := d, bumpless := true }
      Case.loopConf l pk t && m.consistent && admits t (pk.u8 8) (pk.u16 10) m && m.period == l.period)) := by
  subst h
  rfl

theorem witness_LoopCommands_tune : meets (Case.loopTune stored) tuneOne looping = true :=
  (loopTune_met _ _ _ _ stored_tuned).trans (by decide +kernel)

theorem witness_LoopCommands_create :
    meets Case.loopCreate loopLast (staging .loop 65535 3 (leBytes 96 loopTwo)) = true ∧
      (Case.loopGiven (packet 1 loopLast)
        (Cmd.begun specLoopCreate 1 (packet 1 loopLast) (staging .loop 65535 3 (leBytes 96 loopTwo)))).whole = true := by
  refine ⟨by decide +kernel, ?_⟩
  rw [show Case.loopGiven (packet 1 loopLast)
    (Cmd.begun specLoopCreate 1 (packet 1 loopLast) (staging .loop 65535 3 (leBytes 96 loopTwo))) = aLoop from by decide +kernel]
  exact aLoop_whole

theorem witness_LoopsEvaluate :
    loopsMayRun looping 3 = true ∧ nextLoopBoundary (looping.tile 3) = some 500 ∧
      (looping.loop 3 16383).isSome = true ∧ aLoop.whole = true ∧ aLoop.state = .auto ∧
      aLoop.faulted (aLoop.inputs looping 3).2 = false ∧
      aLoop.stays (aLoop.inputs looping 3).2 = false ∧ torn.state ≠ .crc ∧ torn.whole = false ∧
      ((looping.modLoop 3 16383 (fun l => { l with state := .crc })).loop 3 16383).map Loop.state = some .crc := by
  refine ⟨?_, ?_, ?_, aLoop_whole, ?_, ?_, ?_, ?_, torn_fails, ?_⟩
  all_goals decide +kernel

theorem witness_LoopBoundaries :
    0 < aLoop.period ∧ aLoop.phase < aLoop.period ∧ aLoop.nextAfter 3 8000000000 = 16000000000 ∧
      chooseStretch (looping.tile 3) 0 = (3, 3) ∧ stored.admittedCls = 0 ∧ { stored with admittedCls := 2 }.admittedCls = 2 := by
  decide +kernel

/-- What a controller of gain 2 computes from, with its integral frozen. -/
def pidFrom (lo hi : Rat) (manual : Option Rat) : PidIn where
  kp := 2
  ti := 0
  td := 0
  tf := 0
  beta := 1
  lo := lo
  hi := hi
  sg := 1
  sp := 30
  pv := 20
  ff := 0
  dt := 1
  first := true
  bump := none
  manual := manual
  freeze := false

theorem witness_ControllerLaw :
    (Pid.eval {} (pidFrom 0 100 none)).2.1 = 20 ∧ (Pid.eval {} (pidFrom 0 10 none)).2.1 = 10 ∧
      (Pid.eval {} (pidFrom 30 100 none)).2.1 = 30 ∧ (Pid.eval {} (pidFrom 0 10 (some 50))).2.1 = 50 := by
  decide +kernel

/-- A zone of one output on channel 255 of tile 3 and one input, order 1, Q `q`: 60 s, HORIZON 4. -/
def zoneRecord (q crc : Nat) : Nat :=
  record 256 [(0, 1, 1), (1, 1, 1), (2, 1, 1), (4, 1, 4), (8, 4, 60), (19, 1, 8), (20, 4, 0x3F800000), (24, 1, 1), (25, 1, 3),
    (26, 2, 255), (88, 4, q), (104, 4, 0x3F800000), (136, 4, 0x3F800000), (152, 4, 0x41A00000), (168, 4, 0x41B00000),
    (184, 4, 0x40000000), (200, 4, 0x3F800000), (216, 4, 0x41200000), (220, 4, 0x3F800000), (252, 4, crc)]

/-- The CRC of 252 bytes in eight steps. -/
theorem crc_252 (v : Nat) {a b c d e f g h : Word} (ha : crcFold 0xFFFFFFFF#32 (leBytes 32 v) = a)
    (hb : crcFold a (leBytes 32 (v / 256 ^ 32)) = b) (hc : crcFold b (leBytes 32 (v / 256 ^ 64)) = c)
    (hd : crcFold c (leBytes 32 (v / 256 ^ 96)) = d) (he : crcFold d (leBytes 32 (v / 256 ^ 128)) = e)
    (hf : crcFold e (leBytes 32 (v / 256 ^ 160)) = f) (hg : crcFold f (leBytes 32 (v / 256 ^ 192)) = g)
    (hh : crcFold g (leBytes 28 (v / 256 ^ 224)) = h) : crc32c (leBytes 252 v) = h ^^^ 0xFFFFFFFF#32 := by
  have s (n m k : Nat) : v / 256 ^ n / 256 ^ m = v / 256 ^ (n + m) := by rw [Nat.div_div_eq_div_mul, Nat.pow_add]
  rw [show 252 = 32 + (32 + (32 + (32 + (32 + (32 + (32 + 28)))))) from rfl, leBytes_add 32, leBytes_add 32, leBytes_add 32,
    leBytes_add 32, leBytes_add 32, leBytes_add 32, leBytes_add 32]
  simp only [Nat.div_div_eq_div_mul, ← Nat.pow_add, crc32c, crcFold_append, ha, hb, hc, hd, he, hf, hg, hh, Nat.reduceAdd]

/-- Q 1 and Q 2 with their CRCs. -/
def zoneOne : Nat := zoneRecord 0x3F800000 2458184453
def zoneTwo : Nat := zoneRecord 0x40000000 2381792691

theorem zoneOne_crc : crc32c (leBytes 252 zoneOne) = 1836782842#32 ^^^ 0xFFFFFFFF#32 := by
  refine crc_252 zoneOne (a := 1449176473#32) (b := 3650754950#32) (c := 3036789409#32) (d := 688115939#32) (e := 2161690924#32)
    (f := 1778161434#32) (g := 3840081771#32) ?_ ?_ ?_ ?_ ?_ ?_ ?_ ?_
  all_goals decide +kernel

theorem zoneTwo_crc : crc32c (leBytes 252 zoneTwo) = 1913174604#32 ^^^ 0xFFFFFFFF#32 := by
  refine crc_252 zoneTwo (a := 1449176473#32) (b := 3650754950#32) (c := 1740879496#32) (d := 187724774#32) (e := 3370616130#32)
    (f := 1046126983#32) (g := 2634757210#32) ?_ ?_ ?_ ?_ ?_ ?_ ?_ ?_
  all_goals decide +kernel

/-- The zone of Q 1. -/
def newOne : Zone := newZone (leBytes 256 zoneOne)

theorem newOne_desc : newOne.desc = BitVec.ofNat 2048 zoneOne := by decide +kernel

theorem newOne_whole : newOne.whole = true := by
  have e : newOne.desc.toNat = zoneOne := by rw [newOne_desc]; decide +kernel
  unfold Zone.whole Zone.le
  rw [e, zoneOne_crc]
  decide +kernel

/-- A model of it, and a plan. -/
def someModel : Model := [[0x3F000000, 0x3F800000, 0]]
def somePlan : Plan where
  moves := [[0], [0x3F800000], [0], [0]]
  occ := [0, 0, 0, 0]
  price := [0, 0, 0, 0]
  cost := 0
  primal := 0
  dual := 0
  infeasible := false

/-- With a model, plans, a candidate that passed its test, and a PRED_SOLVE under way. -/
def aZone : Zone := { newOne with
  next := 60000000000, model := some someModel, prevModel := some someModel, plan := some somePlan, offPlan := some somePlan
  flags := 0x400, learner := { theta := someModel }
  off := [{ key := busyKey, iterations := 64, deadline := 1000 }]
  solve := some {
    deadline := 60000000000, mac := newOne.mac, iterations := 8, y := [0], yPrev := [0], d := [], move := [0], occ := [0, 0, 0, 0], price := [0, 0, 0, 0], limit := [0, 0, 0, 0]
    done := none } }

/-- It is zone 4,095 of tile 3. -/
def zoned : State := on3 (fun x => { x with zones := [(4095, aZone)] })

/-- Fields that name it. -/
def ofZone : List (Nat × Nat × Nat) := [(8, 1, 3), (10, 2, 4095)]

theorem witness_ZoneCommands :
    meets Case.zonePartIn [(8, 1, 3), (10, 2, 65535), (12, 1, 6), (16, 4, 7)] (staging .zone 65535 6 (leBytes 192 zoneOne)) = true ∧
      meets (Case.zoneDelete aZone) ofZone zoned = true ∧
      meets (Case.zoneRead aZone) (ofZone ++ [(12, 1, 17)]) zoned = true ∧
      meets (Case.zoneRead (aZone.put psPlanStale true)) ofZone (zoned.modZone 3 4095 (fun z => z.put psPlanStale true)) = true ∧
      meets (Case.zoneModelIn aZone) (ofZone ++ [(16, 4, 7)]) zoned = true ∧
      meets (Case.zoneModel aZone) (ofZone ++ [(14, 1, 1), (16, 4, 0x3F000000), (20, 4, 0x3F800000)]) zoned = true ∧
      meets (Case.predSolve aZone) (ofZone ++ [(12, 2, 256)]) zoned = true := by
  decide +kernel

theorem witness_ZoneCommands_plan :
    meets (Case.predPlanRead aZone somePlan) (ofZone ++ [(12, 1, 1), (13, 1, 3)]) zoned = true ∧
      meets (Case.predLearn aZone) (ofZone ++ [(12, 4, 1), (16, 4, 0x3F7D70A4)]) zoned = true ∧
      meets (Case.predAccept aZone) ofZone zoned = true ∧
      meets (Case.predRevert aZone someModel) (ofZone ++ [(12, 1, 1)]) zoned = true ∧
      meets (Case.predPause aZone) (ofZone ++ [(12, 1, 1)]) zoned = true ∧
      meets Case.predSched [(8, 1, 3), (12, 1, 31), (13, 1, 4), (16, 1, 63)] base = true ∧
      meets Case.weekOrigin [(8, 1, 3), (12, 1, 255), (16, 8, 5)] base = true ∧
      meets Case.predLoad [(8, 1, 3)] zoned = true := by
  decide +kernel

/-- The fields of ZONE_CREATE's PART 7. -/
def zoneLast : List (Nat × Nat × Nat) := [(8, 1, 3), (10, 2, 65535), (12, 1, 7), (16, 32, zoneOne / 256 ^ 224)]

theorem witness_ZoneCommands_create :
    meets Case.zoneCreate zoneLast (staging .zone 65535 7 (leBytes 224 zoneOne)) = true ∧
      (Case.zoneGiven (packet 1 zoneLast)
        (Cmd.begun specZoneCreate 1 (packet 1 zoneLast) (staging .zone 65535 7 (leBytes 224 zoneOne)))).whole = true := by
  refine ⟨by decide +kernel, ?_⟩
  rw [show Case.zoneGiven (packet 1 zoneLast)
    (Cmd.begun specZoneCreate 1 (packet 1 zoneLast) (staging .zone 65535 7 (leBytes 224 zoneOne))) = newOne from by decide +kernel]
  exact newOne_whole

/-- ZONE_TUNE of Q to 2. -/
def tuneQ : List (Nat × Nat × Nat) := ofZone ++ [(12, 1, 1), (16, 4, 0x40000000)]

theorem aZone_tuned : tunedZone aZone.latest (packet 1 tuneQ) = BitVec.ofNat 2048 zoneTwo := by
  have h : tunedZone aZone.latest (packet 1 tuneQ) = zdescSeal (BitVec.ofNat 2048 (zoneRecord 0x40000000 2458184453)) :=
    congrArg zdescSeal (by decide +kernel)
  have e : leBytes 252 (BitVec.ofNat 2048 (zoneRecord 0x40000000 2458184453)).toNat = leBytes 252 zoneTwo := by decide +kernel
  rw [h, zdescSeal, e, zoneTwo_crc]
  decide +kernel

theorem zoneTune_met (z y : Zone) (d : BitVec 2048) (pk : Packet) (s : State) (h : tunedZone z.latest pk = d)
    (hy : y = { z.latest with desc := d, rebuild := none }) (h1 : Cmd.passes specZoneTune 1 pk s = true)
    (h2 : Case.zoneConf z pk (Cmd.begun specZoneTune 1 pk s) = true) (h3 : (pk.u8 12 % 16 != 0) = true)
    (h4 : (pk.u8 12).testBit 4 = false) (h5 : y.weightsOk = true) (h6 : iterationsOk (y.le 6 2) = true) :
    (Case.zoneTune z).met 1 pk s = true := by
  subst h hy
  show (Cmd.passes specZoneTune 1 pk s && (Case.zoneConf z pk (Cmd.begun specZoneTune 1 pk s) && _ && _ && _ && _)) = true
  rw [h1, h2, h3, h4, h5, h6]
  rfl

/-- The zone as tuned. -/
def tunedTwo : Zone := { aZone.latest with desc := BitVec.ofNat 2048 zoneTwo, rebuild := none }

theorem witness_ZoneCommands_tune : meets (Case.zoneTune aZone) tuneQ zoned = true := by
  refine zoneTune_met aZone tunedTwo _ _ _ aZone_tuned rfl ?_ ?_ ?_ ?_ ?_ ?_
  all_goals decide +kernel

theorem witness_ZoneHappenings :
    (zoned.zone 3 4095).isSome = true ∧ zoned.tileOn 3 = true ∧ firstDue (zoned.tile 3) 4095 aZone = true ∧
      (runningSolve (zoned.tile 3)).map (·.1) = some 4095 ∧ predictorRuns zoned = true ∧ zoned.ns ≤ 60000000000 ∧ aZone.off.length = 1 ∧
      zoned.tb.elapsed ≤ 1000 ∧ aZone.model.isSome = true ∧
      lanesIdle (zoned.modZone 3 4095 (fun z => { z with solve := none })) 3 = true ∧ aZone.plan = some somePlan ∧
      aZone.shifts < aZone.horizon ∧ ({ aZone with shifts := 3 } : Zone).shifts + 1 = aZone.horizon ∧ aZone.state = .running ∧
      aZone.umin 0 < aZone.umax 0 ∧ ffinite (aZone.f32 120) = true ∧ ffinite (aZone.f32 136) = true := by
  decide +kernel

/-! ### Drives, analogue outputs and fans -/

/-- A profile of two phases: 512 for 0.5 s, then 256 held. -/
def twoPhases : List (BitVec 48) :=
  [BitVec.ofNat 48 (512 * 2 ^ 38 + 5 * 2 ^ 28 + 2 ^ 26 + 500 * 2 ^ 10), BitVec.ofNat 48 (256 * 2 ^ 38 + 2 * 2 ^ 36 + 5 * 2 ^ 28)]

/-- A channel of a mode that runs a profile of them. -/
def onIn (mode : Nat) : Drive where
  cfg := { cfg0 := BitVec.ofNat 32 (mode + 2 ^ 8), cfg2 := if mode = 2 then 0x00A00000 else if mode = 3 then 0x190141C0 else 0 }
  state := .on
  run := twoPhases
  gate := .drive
  isOn := true
  boostPeak := 32

/-- Tile 3 with profile 0 of set 0 loaded and channel 20 as given. -/
def driving (d : Drive) : State := on3 (fun x => { x with profiles := vset x.profiles 0 twoPhases, drives := vset x.drives 20 d })

/-- Fields that name channel 20 of tile 3. -/
def ch20 : List (Nat × Nat × Nat) := [(8, 1, 3), (9, 1, 20)]

theorem witness_DriveCommands :
    meets Case.drvConfig (ch20 ++ [(16, 1, 1), (20, 4, 0x07D00000)]) (driving (onIn 3)) = true ∧
      meets Case.drvProfile [(8, 1, 3), (9, 1, 3), (10, 1, 15), (11, 1, 2), (16, 6, 512 * 2 ^ 38 + 5 * 2 ^ 28 + 2 ^ 26 + 500 * 2 ^ 10),
        (22, 6, 256 * 2 ^ 38 + 2 * 2 ^ 36 + 5 * 2 ^ 28)] base = true ∧
      meets Case.drvDemand (ch20 ++ [(16, 4, 0x42C80000)]) (driving (onIn 1)) = true ∧
      meets Case.drvOn (ch20 ++ [(10, 1, 1)]) (driving (onIn 1)) = true ∧
      meets Case.drvOff (ch20 ++ [(10, 1, 2)]) (driving (onIn 1)) = true ∧
      meets (Case.drvBareWaits true) (ch20 ++ [(10, 1, 1)]) (driving { onIn 1 with wait := some {} }) = true ∧
      meets (Case.drvBareWaits false) (ch20 ++ [(10, 1, 2)]) (driving { onIn 1 with wait := some {} }) = true ∧
      meets (Case.drvBareOff true) (ch20 ++ [(10, 1, 1)]) (driving {}) = true ∧
      meets Case.drvRead (ch20) (driving (onIn 1)) = true ∧ meets Case.drvClear [(8, 1, 3), (9, 1, 23)] base = true ∧
      meets Case.drvClearAll [(8, 1, 3), (9, 1, 255)] base = true ∧
      meets Case.drvBand [(8, 1, 3), (28, 4, 0x41A00000), (32, 4, 0x42480000)] base = true := by
  decide +kernel

theorem witness_DriveCommands_rest :
    meets Case.aoConfig [(8, 1, 3), (9, 1, 7), (16, 4, 0x00FFF000)] base = true ∧
      meets Case.aoSet [(8, 1, 3), (9, 1, 7), (16, 4, 0x42C80000)] base = true ∧
      meets Case.aoRead [(8, 1, 3), (9, 1, 7)] base = true ∧
      meets Case.fanConfig [(8, 1, 3), (9, 1, 3), (16, 4, 100 * 2 ^ 13)] base = true ∧
      meets Case.fanSet [(8, 1, 3), (9, 1, 3), (16, 4, 0x42C80000)] base = true ∧
      meets Case.fanRead [(8, 1, 3), (9, 1, 3)] base = true := by
  decide +kernel

/-- A FLOAT pair at 20 % between two directions, asked for 50 %. -/
def reversing : Drive := { onIn 3 with move := .reversing, pos := 20, posValid := true, demand := 0x42480000, nextOpen := true, state := .idle }

theorem witness_DriveHappenings_phases :
    openLoads ((driving (onIn 1)).tile 3) 20 = [] ∧ openLoads ((driving { onIn 1 with boostPeak := 0 }).tile 3) 20 = [20] ∧
      (onIn 1).phase + 1 < (onIn 1).run.length ∧ ({ onIn 1 with phase := 1 } : Drive).run.length ≤ ({ onIn 1 with phase := 1 } : Drive).phase + 1 ∧
      (onIn 1).blanked = false ∧ ({ onIn 1 with state := .latched } : Drive).spare = true ∧ ({ onIn 1 with gate := .slow } : Drive).gate ≠ .drive ∧ ({ onIn 1 with blanked := true } : Drive).blanked = true ∧
      ({ onIn 2 with state := .latched } : Drive).free = false ∧ (onIn 2).wait = none ∧ fnum (onIn 2).demand ≤ 100 ∧
      ({ onIn 1 with state := .latched } : Drive).gate ≠ .off := by
  decide +kernel

theorem witness_DriveHappenings :
    (driving (onIn 1)).tileOn 3 = true ∧ ((driving (onIn 1)).tile 3).drive 20 = onIn 1 ∧ (onIn 1).state = .on ∧
      phEnd (onIn 1).entry = 0 ∧ phTarget (onIn 1).entry ≤ (onIn 1).boostPeak * 16 ∧ (onIn 1).gate = .drive ∧
      phEnd (onIn 1).entry ≠ 1 ∧ (driving (onIn 1)).pw.gateLow = false ∧ 22 ∉ pairMembers ((driving (onIn 1)).tile 3) 20 ∧
      (((driving { onIn 1 with state := .offPhase }).tile 3).drive 20).state = .offPhase ∧
      (onIn 2).cfg.mode = 2 ∧ (onIn 2).free = true ∧ isSlave ((driving (onIn 2)).tile 3) 20 = false ∧ 0 < (onIn 2).cfg.cycleS ∧
      0 ≤ fnum (onIn 2).demand ∧ (((driving { onIn 2 with onUntil := some 5 }).tile 3).drive 20).onUntil = some 5 ∧
      (onIn 3).cfg.mode = 3 ∧ reversing.wantsMove = true ∧
      (reversing.posValid && decide (reversing.pos < reversing.aim.1)) = reversing.nextOpen ∧ (base.tile 3).band.band ≤ 3 := by
  decide +kernel

theorem witness_OutputHappenings :
    watchdogAt (driving (onIn 1)) 3 1 20 = some 1000000000 ∧
      watchdogAt (base.modAo 3 7 (fun a => { a with cfg1 := 0x100 })) 3 2 7 = some 1000000000 ∧
      watchdogAt (base.modFan 3 3 (fun f => { f with cfg1 := 0x100 })) 3 3 3 = some 1000000000 ∧
      base.live = true ∧ base.pw.gateLow = false ∧
      ({ driving (onIn 1) with pw := { base.pw with gateLow := true } } : State).pw.gateLow = true ∧
      ((base.tile 3).ao 7).overload = false ∧ base.tileOn 3 = true ∧
      (((base.modAo 3 7 (fun a => { a with target := 5 })).tile 3).ao 7).code ≠ 5 ∧
      (((base.modFan 3 3 (fun f => { f with kicking := true })).tile 3).fan 3).kicking = true ∧
      ((base.tile 3).fan 3).stallRpm ≤ 60 * ((base.tile 3).fan 3).pulses / ((base.tile 3).fan 3).ppr := by
  decide +kernel

/-! ### The building bus -/

/-- `base` with controller 63 as given. -/
def bused (b : Bus) : State := on3 (fun x => { x with buses := vset x.buses 15 b })

/-- A node that is ALIVE. -/
def aNode : Node := { state := .alive, serial := 7, epoch := 1, version := 2 }

/-- A controller in MODE NORMAL, FD on, node 5, with node 9 alive. -/
def aBus : Bus where
  cfg0 := 0x00101421
  cfg3 := 0x14058000
  fc := .active
  nodes := vset (Vector.replicate 64 {}) 9 aNode

/-- A message of the host on its way. -/
def aFrame : TxBuf where
  key := some busyKey
  link := none
  ctx := 0
  fdf := false
  brs := false
  ide := false
  id := 0x123
  data := [1]
  attempts := 0
  ackErrors := 0
  onBus := false

/-- A link that waits for its acknowledgement the `n`th time. -/
def aLink (n : Nat) : BusLink where
  point := 5
  node := 9
  object := 7
  level := 8
  seq := 1
  wait := some (0, n, 0)

theorem witness_BusCommands :
    meets Case.busConfig [(8, 1, 63), (16, 4, 0x00100001), (20, 4, 2 ^ 27 + 126 * 2 ^ 19 + 31 * 2 ^ 12 + 31 * 2 ^ 5),
        (24, 4, 13 * 2 ^ 22 + 4 * 2 ^ 18 + 4 * 2 ^ 14 + 2 ^ 6), (28, 4, 0x14058000)] base = true ∧
      meets Case.busStatus [(8, 1, 63), (9, 1, 1)] base = true ∧
      meets Case.busSend [(8, 1, 63), (9, 1, 2), (10, 1, 12), (12, 4, 0x7FF)] (bused aBus) = true ∧
      meets (Case.busCancel aFrame) [(8, 1, 63), (10, 2, 1), (12, 2, 9)] (bused { aBus with tx := [aFrame] }) = true ∧
      meets Case.busRecover [(8, 1, 63)] (bused { aBus with fc := .busOff }) = true ∧
      meets Case.busFilter [(8, 1, 63), (9, 1, 15), (10, 1, 3)] base = true ∧
      meets Case.busRxring [(8, 1, 63), (9, 1, 16), (16, 8, 0x400000), (24, 8, 8)] base = true ∧
      meets Case.busNode [(8, 1, 63), (9, 1, 63), (22, 1, 3), (23, 1, 2)] base = true ∧
      meets Case.busNodeFree [(8, 1, 63), (9, 1, 63), (10, 1, 1)] base = true := by
  decide +kernel

theorem witness_BusCommands_rest :
    meets Case.busNodeRead [(8, 1, 63), (9, 1, 63)] base = true ∧
      meets (Case.busAdopt 2) [(8, 1, 63), (9, 1, 9), (16, 6, 8)] (bused aBus) = true ∧
      meets Case.busLink [(8, 1, 63), (9, 1, 255), (11, 1, 63), (14, 1, 16), (16, 5, 5)] pointed = true ∧
      ({ aNode with version := 1 } : Node).version ≠ 2 ∧
      meets Case.busUnlink [(8, 1, 63), (9, 1, 255), (10, 1, 1)] base = true ∧
      meets Case.busDusk [(8, 1, 63)] (bused aBus) = true ∧
      meets Case.busDawn [(8, 1, 63)] (bused { aBus with dusk := .hold }) = true ∧
      meets Case.busDawn [(8, 1, 63)] (bused { aBus with dusk := .asleep }) = true := by
  decide +kernel

theorem busRetire_met (pk : Packet) (s : State) (h : Cmd.passes specBusRetire 1 pk s = true)
    (h1 : Case.busOk pk (Cmd.begun specBusRetire 1 pk s) = true) (h2 : BitVec.ofNat 48 (pk.le 16 6) ≠ Config.serial)
    (h3 : ((Cmd.begun specBusRetire 1 pk s).bus (pk.u8 8)).nodes.toList.any (fun e => e.state != .free
      && e.serial == BitVec.ofNat 48 (pk.le 16 6)) = false) : Case.busRetire.met 1 pk s = true := by
  show (Cmd.passes specBusRetire 1 pk s && (Case.busOk pk (Cmd.begun specBusRetire 1 pk s) && !(_ == _
    || ((Cmd.begun specBusRetire 1 pk s).bus (pk.u8 8)).nodes.toList.any _))) = true
  rw [h, h1, h3, beq_false_of_ne h2]
  rfl

/-- Of two serials at most one is the chip's own. -/
theorem witness_BusCommands_retire :
    meets Case.busRetire [(8, 1, 63), (16, 6, 1)] base = true ∨ meets Case.busRetire [(8, 1, 63), (16, 6, 2)] base = true := by
  by_cases h : Config.serial = 1
  · refine .inr (busRetire_met _ _ ?_ ?_ (by rw [h]; decide +kernel) ?_) <;> decide +kernel
  · refine .inl (busRetire_met _ _ ?_ ?_ (fun e => h (by rw [← e]; decide +kernel)) ?_) <;> decide +kernel

/-- A frame of a class from node 9 to node 5. -/
def frameOf (c prio : Nat) (data : List Byte) : BusFrame where
  ide := true
  fdf := false
  brs := false
  esi := false
  id := BitVec.ofNat 29 (profileId prio c 5 9 1 1 0)
  data := data

/-- A base frame. -/
def baseFrame : BusFrame where
  ide := false
  fdf := false
  brs := false
  esi := false
  id := 5
  data := [1, 2]

theorem ofLe_leBytes (n v : Nat) : ofLe (leBytes n v) = v % 256 ^ n := by
  induction n generalizing v with
  | zero => simp [leBytes, ofLe, Nat.mod_one]
  | succ n ih =>
    simp only [leBytes, ofLe, ih, BitVec.toNat_ofNat, Nat.reducePow]
    rw [Nat.pow_succ, Nat.mul_comm (256 ^ n), Nat.mod_mul]

theorem serialAt_own : serialAt (leBytes 6 Config.serial.toNat) 0 = Config.serial := by
  unfold serialAt
  have h : ((leBytes 6 Config.serial.toNat).drop 0).take 6 = leBytes 6 Config.serial.toNat := by simp [leBytes]
  rw [h, ofLe_leBytes, Nat.mod_eq_of_lt (by simpa using Config.serial.isLt)]
  simp

theorem witness_BusFrames :
    (bused { aBus with tx := [aFrame] }).tileOn 3 = true ∧ aBus.sending = true ∧ aBus.dawnDue = false ∧
      ({ aBus with tx := [aFrame] } : Bus).flying = none ∧ firstFrame [aFrame] = some aFrame ∧
      ({ aBus with tx := [{ aFrame with onBus := true }] } : Bus).flying.isSome = true ∧ ({ aBus with stopped := true } : Bus).stopped = true ∧
      aBus.receiving = true ∧ (({ aBus with tecCnt := 256 } : Bus).fc) = .active ∧ aFrame.ackErrors + 1 < aBus.retryLimit ∧
      aBus.retryLimit ≤ ({ aFrame with ackErrors := 255 } : TxBuf).ackErrors + 1 := by
  decide +kernel

/-- The state in which a frame has been heard by controller 63. -/
def heard (f : BusFrame) (b : Bus) : State := Case.heard 63 f (bused b)

/-- Every receive buffer of it holds a frame, and ring writes stall. -/
def fullBus : Bus := { aBus with rx := List.replicate 128 [] }

theorem witness_BusFrames_discarded :
    Case.hears 63 baseFrame (bused fullBus) = true ∧ 128 ≤ ((heard { baseFrame with stalled := true } fullBus).bus 63).rx.length ∧
      ((heard baseFrame aBus).bus 63).rx.length < 128 ∧ ({ baseFrame with rtr := true } : BusFrame).rtr = true ∧
      baseFrame.rtr = false ∧ ((heard baseFrame { aBus with filters := vset aBus.filters 15 { enable := true, ide := false, mtch := 0, mask := 0 } }).bus 63).filterFor
        baseFrame = some 15 := by
  decide +kernel

/-- A frame of class `c` with those bytes is a message for controller 63. -/
def message (c prio : Nat) (data : List Byte) (b : Bus) : Bool :=
  let f := frameOf c prio data
  Case.hears 63 f (bused b) && decide (((heard f b).bus 63).rx.length < 128) && Case.messageFor c 63 f data (heard f b)

/-- What controller 63 then holds. -/
def then63 (c prio : Nat) (data : List Byte) (b : Bus) : Bus := (Case.assembled 63 (frameOf c prio data) (heard (frameOf c prio data) b)).bus 63

theorem witness_BusFrames_messages :
    message 0 6 (leBytes 6 7 ++ [0x20, 0]) aBus = true ∧ message 1 3 [1, 0] aBus = true ∧
      message 2 3 [1, 0] { aBus with dusk := .proposing, proposal := 1 } = true ∧
      message 3 3 [1, 0] { aBus with dusk := .proposing, proposal := 1 } = true ∧
      (then63 2 3 [1, 0] { aBus with dusk := .proposing, proposal := 1 }).dusk = .proposing ∧
      (then63 3 3 [1, 0] { aBus with dusk := .proposing, proposal := 1 }).proposal.toNat = ofLe [1, 0] ∧
      message 4 3 [1, 0] { aBus with dusk := .agreed, proposal := 1 } = true ∧
      (then63 4 3 [1, 0] { aBus with dusk := .agreed, proposal := 1 }).dusk = .agreed := by
  decide +kernel

theorem witness_BusFrames_messages_rest :
    message 5 0 [0] { aBus with dusk := .hold } = true ∧ (then63 5 0 [0] { aBus with dusk := .hold }).dusk = .hold ∧
      message 6 2 [] aBus = true ∧ message 8 5 [] aBus = true ∧
      message 10 4 [7, 0, 1, 0] aBus = true ∧ message 28 1 [1] aBus = true ∧ hostClass 28 = true ∧ engineClass 28 = false := by
  decide +kernel

/-- RETIRE of the chip's own serial. -/
def retireOwn : BusFrame := frameOf 7 1 (leBytes 6 Config.serial.toNat)

theorem witness_BusFrames_retired : Case.messageFor 7 63 retireOwn retireOwn.data (heard retireOwn aBus) = true := by
  have h : (Bus.assemble 63 retireOwn (heard retireOwn aBus)).1 = some retireOwn.data := rfl
  unfold Case.messageFor
  rw [h, beq_self_eq_true]
  decide +kernel

theorem witness_BusFrames_retire : serialAt (frameOf 7 1 (leBytes 6 Config.serial.toNat)).data 0 = Config.serial := serialAt_own

theorem witness_BusTimes :
    base.tileOn 3 = true ∧ ({ aBus with fc := .recovering } : Bus).fc = .recovering ∧ aBus.stopped = false ∧ aBus.sending = true ∧
      aBus.mode ≠ 0 ∧ aBus.dusk ≠ .asleep ∧ (aBus.node 9).state = .alive ∧ (aBus.node 9).v1Seen = none ∧
      (aBus.node 9).lastBeacon + aBus.deadlineNs < ({ base with tb := { mono := 10000000001 } } : State).tb.mono ∧
      ({ aBus with reasm := [{ head := 0, bytes := [], next := 1, lastAt := 0, lost := false }] } : Bus).reasm.find? (fun r => !r.lost) =
        some { head := 0, bytes := [], next := 1, lastAt := 0, lost := false } ∧
      aget [(255, aLink 3)] 255 = some (aLink 3) ∧ (aLink 3).wait = some (0, 3, 0) ∧ (aLink 4).wait = some (0, 4, 0) ∧
      ({ aBus with dusk := .proposing } : Bus).dusk = .proposing ∧ ({ aBus with dusk := .agreed } : Bus).dusk = .agreed ∧
      ({ aBus with dusk := .hold } : Bus).dusk = .hold ∧ ({ aBus with dawnDue := true } : Bus).dawnDue = true ∧
      ((bused { aBus with dusk := .asleep }).bus 63).dusk = .asleep ∧ (bused aBus).live = true ∧
      ((bused { aBus with stopped := true, cfg0 := 8 }).bus 63).wakeEn = true ∧
      ({ base.pw with boot := .off, aonBus := 0x8000000000000000, pwrEn := false } : Power).aonBus.getLsbD 63 = true := by
  decide +kernel

/-! ### Federation -/

/-- Identifier 3 of chip 9. -/
def far : Nat := 9 * 2 ^ 24 + 3

/-- A reflection of it. -/
def reflected : Point := { point with
  status := BitVec.ofNat 32 (2 ^ stReflection), source := 7, mirror := some { boot := 5, staleS := 60, acceptedAt := 0, ended := false } }

/-- `base` with an identity and LZ7 up to chip 9. -/
def linked : State := { base with fed := { base.fed with
  chip := 7, committed := true, amz := true
  links := vset base.fed.links 7 { enable := true, state := .up, version := 2, peerChip := 9 } } }

/-- With LZ7 in another state. -/
def linkIn (x : LinkState) : State := linked.modLink 7 (fun k => { k with state := x })

/-- With the reflection in the store and the cache. -/
def mirrored : State := { linked with pts := { linked.pts with recs := [(far, reflected)], cache := [far] } }

/-- A peer heard of. -/
def aPeer : Peer where
  serial := 1
  boot := 5
  building := 0
  cluster := 0
  alive := true
  heard := true
  seenAt := 0
  recAt := 0
  annSeq := some 9
  recSeq := none
  lost := 0
  txSeq := 0

theorem witness_FedCommands :
    meets Case.fedIdentity [(8, 2, 10239), (10, 1, 63), (11, 1, 127)] base = true ∧
      meets Case.fedLinkOn [(8, 1, 0), (9, 1, 1), (10, 1, 2)] linked = true ∧ meets Case.fedLinkOff [(8, 1, 7), (10, 1, 1)] linked = true ∧
      meets Case.fedLinkRetrain [(8, 1, 7), (9, 1, 2), (10, 1, 1)] linked = true ∧
      meets (Case.fedLinkMaxver 1) [(8, 1, 7), (9, 1, 1), (10, 1, 1)] linked = true ∧
      meets (Case.fedLinkMaxver 2) [(8, 1, 0), (9, 1, 2), (10, 1, 1)] linked = true ∧
      meets Case.fedNet [(40, 1, 128), (41, 1, 1), (44, 2, 4094)] linked = true ∧
      meets Case.fedPtp [(8, 1, 1), (9, 1, 127), (13, 1, 252)] base = true ∧ meets Case.fedExport [(8, 2, 600)] base = true ∧
      meets Case.fedMirror [(8, 5, far), (16, 2, 3600)] linked = true ∧ meets (Case.fedUnmirror reflected) [(8, 5, far)] mirrored = true ∧
      meets Case.fedStatus [] base = true ∧
      meets Case.fedPeerRead [(8, 2, 12)]
        ({ linked with fed := { linked.fed with peers := [(12, { aPeer with alive := false })] } } : State) = true := by
  decide +kernel

/-- A record of identifier 3 of chip 9, of a type. -/
def record9 (type : Nat) : MirrorRec where
  flags := 0
  point := BitVec.ofNat 40 far
  status := 0x20
  timestamp := 2 ^ 40
  boot := 5
  value := 42
  crc := crc32c (leBytes 2 type ++ leBytes 5 far ++ [0x20] ++ leBytes 6 (2 ^ 40) ++ leBytes 2 5)

/-- A FED_MIRROR that waits. -/
def reserved9 : Reserve where
  key := busyKey
  group := 1
  pin := false
  staleS := 60
  cov := 0
  deadline := 30000000000

/-- `linked` while it waits. -/
def waiting9 : State := { linked with fed := { linked.fed with reserved := [(far, reserved9)] } }

/-- A record frame of LZ7. -/
def recordHead : FrameHead where
  ftype := 1
  lseq := 255
  credit := 0xFFFF
  lcrc := crc8 [1, 255, 0xFF, 0xFF]

/-- It brings the records. -/
def via7 : Via := .lomuz 7 recordHead

theorem witness_FedCommands_glow :
    meets Case.fedLinkOnGlow [(8, 1, 7), (9, 1, 1), (10, 1, 2)]
      ({ linked with pw := { linked.pw with trans := some { target := 2, key := none } } } : State) = true := by
  decide +kernel

theorem witness_MirrorRecords :
    fedRuns mirrored = true ∧ senderOf (Fed.arrive via7 mirrored) via7 = some 9 ∧ chipOf far = 9 ∧
      (Fed.heardFrom via7 9 (Fed.arrive via7 mirrored)).point far = some reflected ∧
      reflected.timestamp.toNat ≤ (record9 1).timestamp.toNat ∧
      (Point.load far reflected (Fed.heardFrom via7 9 (Fed.arrive via7 mirrored))).1 = true ∧
      mirrored.fed.isolated = false ∧ Fed.judgeSubscribe mirrored 9 far = some 7 ∧
      aget (Fed.heardFrom via7 9 (Fed.arrive via7 waiting9)).fed.reserved far = some reserved9 := by
  decide +kernel

theorem witness_MirrorRecords_whole :
    recordOk 1 (record9 1) = true ∧ recordOk 2 (record9 2) = true ∧ recordOk 3 (record9 3) = true := by
  decide +kernel

theorem witness_MirrorRecords_ends :
    recordOk 4 (record9 4) = true ∧ recordOk 5 (record9 5) = true ∧ mirrored.point far = some reflected := by
  decide +kernel

theorem witness_MirrorRecords_broken : recordOk 1 { record9 1 with crc := 0 } = false := by
  decide +kernel

theorem witness_MirrorRecords_sweep :
    ({ linked with fed := { linked.fed with subs := [(9, 5)] } } : State).fed.subs.any (fun x => x.1 == 9) = true := by
  decide +kernel

/-- The chip is the origin, and exports every group. -/
def exporting : State := { linked with
  fed := { linked.fed with chip := 9, exportMask := BitVec.ofNat 256 (2 ^ 256 - 1) }
  pts := { linked.pts with recs := [(far, point)], cache := [far] } }

theorem witness_MirrorRecords_subscribe : Fed.judgeSubscribe exporting 8 far = none := by
  decide +kernel

/-- A training with a chip of another cluster and a serial. -/
def training (l : Nat) (v : BitVec 48) : TrainInfo where
  maxver := 1
  serial := v
  chip := 12
  cluster := l
  boot := 3

theorem miswired_serial (l : Nat) (v : BitVec 48) (h : v ≠ Config.serial)
    (h1 : ((decide (l < 7) && (training 1 v).cluster != (linkIn .training).fed.cluster)
      || (l == 7 && (training 1 v).cluster == (linkIn .training).fed.cluster)) = false)
    (h2 : (List.range l).any (fun i => ((linkIn .training).fed.link i).carries
      && ((linkIn .training).fed.link i).peerSerial == v) = false) : Link.miswired (linkIn .training) l (training 1 v) = false := by
  show (_ || _ || (v == Config.serial) || _) = false
  rw [h1, beq_false_of_ne h]
  exact h2

/-- Of two serials at most one is the chip's own. -/
theorem witness_LinksPeersAndPtp_trained :
    Link.miswired (linkIn .training) 7 (training 1 1) = false ∨ Link.miswired (linkIn .training) 7 (training 1 2) = false := by
  by_cases h : Config.serial = 1
  · refine .inr (miswired_serial 7 2 (by rw [h]; decide +kernel) ?_ ?_) <;> decide +kernel
  · refine .inl (miswired_serial 7 1 (fun e => h e.symm) ?_ ?_) <;> decide +kernel

/-- The header of an ANNOUNCE. -/
def header (chip building : Nat) : AmzHeader :=
  let h : AmzHeader := {
    magic := 0x5A41, version := 1, kind := 1, chip := chip, dst := 0xFFFF, serial := 1, building := building, cluster := 0
    boot := 3, seq := 9, count := 0, hcrc := 0, sumsOk := true }
  { h with hcrc := crc32c (headerBytes h) }

/-- A credit frame, and its CREDIT. -/
def creditHead : FrameHead where
  ftype := 2
  lseq := 0
  credit := 256
  lcrc := crc8 [2, 0, 0, 1]

/-- A Sync of domain 0 of a master whose priority no clock beats. -/
def aSync : PtpSync where
  domain := 0
  prio1 := 0
  quality := 0
  prio2 := 0
  identity := 0
  origin := 100

theorem witness_LinksPeersAndPtp_frames :
    frameOk creditHead = true ∧ creditHead.ftype = 2 ∧ frameOk { creditHead with lcrc := creditHead.lcrc + 1 } = false ∧
      headerOk (header 12 5) 1 linked.fed = true ∧ headerOk (header 7 0) 1 linked.fed = true ∧ (header 7 0).chip = linked.fed.chip ∧
      headerOk { header 12 5 with sumsOk := false } 1 linked.fed = false ∧ (buildingPeers linked 12).length < 1024 ∧
      ptpTakes linked aSync = true ∧ ptpTakes linked { aSync with domain := 127 } = false := by
  decide +kernel

theorem witness_LinksPeersAndPtp :
    fedRuns (linkIn .training) = true ∧ ((linkIn .training).fed.link 7).enable = true ∧ ((linkIn .training).fed.link 7).state = .training ∧
      (training 1 1).chip ≠ (linkIn .training).fed.chip ∧ Link.miswired (linkIn .training) 7 (training 0 1) = true ∧
      (linked.fed.link 7).state = .up ∧ ((linkIn .hold).fed.link 7).state = .hold ∧ calRunning (linkIn .hold) (calKey 4 7) = false ∧
      linked.fed.amz = true ∧ (header 12 5).chip ≠ linked.fed.chip ∧ (header 12 5).building ≠ linked.fed.building ∧
      linked.live = true ∧ aget [(12, aPeer)] 12 = some aPeer ∧ linked.fed.en0Link = true ∧ linked.fed.en1 = false ∧
      ({ linked.fed with en0Link := false } : Fed).en0Link = false ∧ ({ linked.fed with en1 := true } : Fed).en1 = true ∧
      ptpRuns ({ linked with tb := { linked.tb with source := .ptp } } : State) = true ∧ linked.fed.holdover = false := by
  decide +kernel

/-! ### Panel heads -/

/-- `base` with 4 GiB of LPDDR5. -/
def base4 : State := { base with pw := { base.pw with gib := 4 } }

/-- `base` with head 3 as given. -/
def headed (h : Head) : State := base.modHead 3 (fun _ => h)

/-- A head of one driver, 320 by 240 at 60 frames a second, with its buffers. -/
def aHead : Head := { cfg0 := 0x0021E5FF, cfg1 := BitVec.ofNat 32 (320 * 2 ^ 20 + 240 * 2 ^ 8), buffers := true }

/-- The same lit. -/
def litHead : Head := { aHead with state := .lit, rl := true, rg := true, re := true, pg := 7, lock := true }

theorem witness_PanelCommands :
    meets Case.panelConfig [(8, 1, 3), (16, 4, 0x0021E5FF), (20, 4, 320 * 2 ^ 20 + 240 * 2 ^ 8)] base4 = true ∧
      meets Case.panelOn [(8, 1, 3), (9, 1, 1)] (headed aHead) = true ∧ meets Case.panelOff [(8, 1, 3)] (headed litHead) = true ∧
      meets Case.panelUpload [(8, 1, 3), (9, 1, 2), (16, 2, 320), (18, 2, 240), (20, 4, 1280)] (headed aHead) = true ∧
      meets Case.panelFlip [(8, 1, 3), (9, 1, 2)] (headed aHead) = true ∧
      meets Case.panelGamma [(8, 1, 3), (9, 1, 3), (10, 1, 2), (46, 2, 16383)] base = true ∧
      meets Case.panelBand [(8, 1, 3), (28, 4, 0x41A00000), (32, 4, 0x42480000)] base = true ∧
      meets Case.panelRead [(8, 1, 3)] base = true := by
  decide +kernel

theorem witness_PanelCommands_power :
    meets Case.panelOn [(8, 1, 3), (9, 1, 1)] (headed { aHead with state := .fault }) = true ∧
      meets Case.panelResume [(8, 1, 3), (9, 1, 1)] (headed { aHead with state := .safe, rl := true }) = true ∧
      meets (Case.panelDone 1) [(8, 1, 3), (9, 1, 1)] (headed litHead) = true ∧
      meets (Case.panelDone 0) [(8, 1, 3)] (headed aHead) = true ∧
      meets (Case.panelFall false) [(8, 1, 3)] (headed { aHead with state := .rising, step := .lock, rl := true }) = true ∧
      meets (Case.panelFall true) [(8, 1, 3)] (headed { aHead with state := .cracked, rl := true }) = true := by
  decide +kernel

theorem witness_PanelCommands_gamma :
    meets Case.panelGammaCommit [(8, 1, 3)] base = true ∧
      meets Case.panelIref [(8, 1, 3), (9, 1, 3), (10, 1, 2), (11, 1, 64), (16, 2, 16383)] (headed { aHead with gammaNext := some (3, 2, 64) }) = true := by
  decide +kernel

/-- A widget of a point that is marked as failed. -/
theorem witness_PanelCommands_widget :
    meets Case.glowWidgetFails [(8, 1, 3), (9, 1, 15), (16, 1, 1), (26, 5, 5), (31, 1, 0x10)]
      { pointed with pts := { pointed.pts with failed := [5] } } = true := by
  decide +kernel

/-- Tile 3 ready for scans, its head's crack loop on position 31. -/
def scanning3 : State := ((sampling.modHead 3 (fun _ => { aHead with cfg0 := 0x0021E51F })).modTile 3 (fun x => { x with
  refReady := true, ilvCal := true, convs := x.convs.map (fun v => { v with calibrated := true }) }))

theorem witness_PanelCommands_glow :
    meets Case.panelCrackScan [(8, 1, 3), (10, 1, 1), (11, 1, 1), (14, 2, 700)] scanning3 = true ∧
      meets Case.glowConfig [(8, 1, 3), (9, 1, 1), (14, 2, 320), (16, 2, 160)] (headed aHead) = true ∧
      meets Case.glowLoad [(8, 1, 3), (9, 1, 2), (16, 4, 6144)] base = true ∧
      meets Case.glowWidget [(8, 1, 3), (9, 1, 15)] base = true ∧
      meets Case.touchConfig [(8, 1, 3), (9, 1, 7), (10, 2, 4095), (12, 2, 50), (14, 1, 15)] base = true ∧
      meets Case.touchRing [(8, 1, 3), (9, 1, 6)] base = true ∧ meets Case.touchRebase [(8, 1, 3)] base = true ∧
      meets Case.touchCapture [(8, 1, 3)] (headed { aHead with touchOn := true }) = true ∧
      meets Case.touchErase [(8, 1, 3), (9, 1, 1)] base = true ∧ meets Case.touchRead [(8, 1, 3)] base = true := by
  decide +kernel

/-- A copy. -/
def aCopy : CopyJob where
  key := busyKey
  buf := 0
  space := .host
  x := 0
  y := 0
  w := 1
  h := 1
  pitch := 0
  src := 0

/-- A node of base 100 that is not touched. -/
def aTouch : TouchNode := { base := 100 }

theorem witness_PanelHappenings :
    ((headed { aHead with uploads := [aCopy] }).head 3).uploads = [aCopy] ∧ ((headed { aHead with loads := [aCopy] }).head 3).loads = [aCopy] ∧
      aCopy.buf = 0 ∧ (headed litHead).tileOn 3 = true ∧ scansFrames litHead = true ∧ litHead.step ≠ .blackEnd ∧
      ({ litHead with step := .emitPg } : Head).re = true ∧ (headed litHead).tb.elapsed ≤ litHead.stepAt + 10000000 ∧
      ({ litHead with step := .lock } : Head).rl = true ∧ ({ litHead with step := .gateWait } : Head).step = .gateWait ∧
      ({ litHead with step := .discharge, state := .falling } : Head).small = true ∧ litHead.state = .lit ∧ litHead.pg.getLsbD 2 = true ∧
      ({ litHead with crackRun := true } : Head).crackRun = true ∧ 2000 ≤ litHead.crackRmax ∧ litHead.crackRmax < 2001 ∧
      touchScans (headed { aHead with touchOn := true }) 3 = true ∧ (List.replicate 640 (0 : Int)).length = 640 ∧
      (aTouch.scan 40 10 4 1 50).touched = true ∧ (({ aTouch with touched := true } : TouchNode).scan 40 10 4 1 70).touched = true ∧
      (({ aTouch with touched := true } : TouchNode).scan 40 10 4 1 71).touched = false := by
  decide +kernel

theorem witness_PanelHappenings_rails :
    headPowered (headed { litHead with step := .gateWait }) 3 = true ∧ ({ litHead with step := .blackEnd } : Head).step = .blackEnd ∧
      ({ litHead with step := .logicWait } : Head).step = .logicWait ∧ awaitsPg .emitPg = true ∧
      (faultPin litHead (.powerGood 2)).isSome = true ∧ (faultPin litHead .lock).isSome = true ∧ (faultPin litHead .driver).isSome = true ∧
      ({ aHead with step := .crack } : Head).step = .crack ∧ litHead.step ≠ .crack ∧
      (headed { aHead with state := .rising, step := .lock, rl := true }).tb.elapsed ≤ 0 + 1100000 := by
  decide +kernel

theorem witness_PanelHappenings_gamma :
    ((headed { aHead with gammaJob := some (busyKey, {}, false) }).head 3).gammaJob = some (busyKey, {}, false) := by
  decide +kernel

/-! ### Calibration and fuses -/

/-- Tile 3 with its reference ready and both converters calibrated, its link 7 up and its head lit. -/
def tuned : State :=
  let s := (base.modTile 3 (fun x => { x with
    refOn := true, refReady := true, convs := x.convs.map (fun v => { v with calibrated := true }) })).modLink 7 (fun l => { l with
      state := .up })
  s.modHead 3 (fun _ => litHead)

/-- Energy for a burn: the readings of an energy source at 12.1 V behind a ratio of 11. -/
def rich : Monitors where
  supmon := 1100
  holdmon := 1100
  vfuse := 1890
  rails := Vector.replicate 4 750

/-- `base` with NV_HOLDUP done: 10,000 µF, ratio 11, 1 V, 60 mJ. -/
def held : State := { base with nv := { base.nv with
  holdup := some { c := 0x461C4000, ratio := 0x41300000, vMin := 0x3F800000, eReserve := 60 } } }

theorem witness_Calibration :
    meets Case.calRunConv [(8, 1, 2), (10, 2, 3)] tuned = true ∧ meets Case.calRunConv [(8, 1, 0), (10, 2, 3)] tuned = true ∧
      meets Case.calRunLink [(8, 1, 4), (10, 2, 7)] tuned = true ∧ meets Case.calRunHead [(8, 1, 5), (10, 2, 3)] tuned = true ∧
      meets Case.calRunDrive [(8, 1, 6), (10, 2, 95)] tuned = true ∧ meets Case.calMode [(8, 1, 6), (10, 2, 95), (12, 1, 1)] base = true ∧
      meets Case.calRead [(8, 1, 6), (10, 2, 95)] base = true ∧
      meets Case.calSetRref [(8, 1, 3), (10, 2, 3), (12, 4, 0x447A4000), (16, 4, 0x471C4000)] base = true ∧
      meets Case.fuseInfo [] base = true := by
  decide +kernel

theorem witness_Calibration_commit : meets (Case.calCommit rich 0) [] held = true := by
  decide +kernel

/-- Two runs of a head that differ by three taps. -/
def apart : CalResult where
  run1 := [1]
  run2 := [4]
  qualityA := 9
  qualityB := 0

/-- Two that differ by two. -/
def near : CalResult := { apart with run2 := [3] }

/-- An item that runs since 5 ns. -/
def calFrom5 (key : Nat) : State := busy.modCal key (fun i => { i with running := some (some busyKey), since := some 5 })

theorem witness_Calibration_happenings :
    ((calFrom5 (calKey 5 3)).calItem (calKey 5 3)).since = some 5 ∧ framesDriven (calFrom5 (calKey 5 3)) 3 = true ∧
      runsAgree 5 ((calFrom5 (calKey 5 3)).calItem (calKey 5 3)).nextMode near = true ∧
      runsAgree 5 ((calFrom5 (calKey 5 3)).calItem (calKey 5 3)).nextMode apart = false ∧
      ((calFrom5 (calKey 6 95)).calItem (calKey 6 95)).running = some (some busyKey) ∧
      ((calFrom5 (calKey 6 95)).calItem (calKey 6 95)).since = some 5 ∧
      measuredEnough ((calFrom5 (calKey 6 95)).modDrive 3 23 (fun d => { d with state := .on })) 95 = false ∧
      ({ base with cal := { base.cal with burn := some (busyKey, 7, [], 0) } } : State).cal.burn = some (busyKey, 7, [], 0) := by
  decide +kernel

theorem witness_Calibration_items :
    calKey 4 7 ∈ calInForce base ∧ calKey 0 3 ∉ calInForce State.reset ∧ aget State.reset.cal.items (calKey 0 3) = none ∧
      aget [(calKey 0 3, ({ mode := 1 } : CalVal))] (calKey 0 3) = some { mode := 1 } ∧
      ((Fuse.take 2 [(calKey 0 3, { mode := 1 })] 0 State.reset).calItem (calKey 0 3)).active.mode = 1 := by
  decide +kernel

/-! ### The non-volatile store -/

/-- A commit of a page, queued. -/
def aCommit : Commit where
  key := some busyKey
  ctx := 0
  what := .write 11 131000 [1, 2]

/-- `held` with it queued and the command in flight. -/
def queued : State := { held with
  hub := busy.hub
  nv := { held.nv with queue := [aCommit], cells := [(11 * 131072 + 131000, 7)] } }

theorem witness_StoreCommands :
    meets Case.nvRead [(8, 1, 11), (10, 4, 131000), (14, 2, 72)] held = true ∧
      meets Case.nvReadWaits [(8, 1, 11), (10, 4, 130816), (14, 2, 256)] queued = true ∧
      meets Case.nvWrite [(8, 1, 11), (10, 4, 131068), (14, 2, 4)] base = true ∧ meets Case.nvStatus [(9, 1, 15)] held = true ∧
      meets Case.nvBp [(9, 1, 3)] base = true ∧ meets Case.nvUnlock [(8, 1, 11), (9, 1, 1)] base = true ∧
      meets Case.nvLock [(8, 1, 11), (9, 1, 2)] base = true ∧ meets Case.nvPassword [(8, 1, 11), (9, 1, 1)] base = true ∧
      meets Case.nvClear [(8, 1, 11)] base = true ∧
      meets Case.nvHoldup [(8, 1, 0), (16, 4, 0x461C4000), (20, 4, 0x41300000), (28, 2, 10)] base = true := by
  decide +kernel

/-- Region 11 with a writing password set and `n` attempts counted. -/
def guarded (n : Nat) : State := { base with nv := { base.nv with
  writePw := vset base.nv.writePw 11 (some 1), attempts := vset base.nv.attempts 11 n } }

theorem witness_StoreCommands_wrong :
    meets Case.nvUnlockWrong [(8, 1, 11), (9, 1, 1)] (guarded 1) = true ∧
      meets Case.nvUnlockThird [(8, 1, 11), (9, 1, 1)] (guarded 2) = true := by
  decide +kernel

theorem witness_Commits :
    queued.nv.queue = [aCommit] ∧ queued.live = true ∧ queued.nv.running = none ∧
      bpRefuses queued aCommit.what = false ∧ bankRises queued aCommit = true ∧ bpRefuses { queued with nv := { queued.nv with bp := 2 } } aCommit.what = true ∧
      energyOk queued = true ∧ commitPowered { queued with pw := { queued.pw with mon := { queued.pw.mon with holdmon := 0 } } } aCommit.what = false ∧
      commitTargets aCommit.what 6143 = true ∧ queued.memWf = true := by
  decide +kernel

/-! ### Power, temperature and start-up -/

/-- `base` with tile 3 gated. -/
def gated3 : State := { base with tpow := vset base.tpow 3 .gated }

theorem witness_PowerCommands :
    meets Case.tilePowerOn [(8, 1, 3), (9, 1, 1)] gated3 = true ∧ meets Case.tilePowerOff [(8, 1, 3)] base = true ∧
      meets Case.tilePowerSame [(8, 1, 3)] gated3 = true ∧ meets Case.tilePowerSame [(8, 1, 3), (9, 1, 1)] base = true ∧
      meets Case.powerState [(8, 1, 3)] base = true ∧ meets Case.powerStateSame [(8, 1, 0)] base = true ∧
      meets Case.powerConfig [(8, 1, 63), (9, 1, 1), (10, 1, 63), (12, 2, 1150), (16, 8, 1)] base = true ∧
      meets Case.powerRead [(8, 1, 3)] base = true ∧ meets Case.clockSpread [(8, 1, 8), (9, 1, 10)] base = true ∧
      meets Case.clockSpread [(8, 1, 3), (9, 1, 20)] base = true ∧ meets Case.ioFilter [(8, 1, 2), (9, 1, 3)] base = true ∧
      meets Case.ioSlew [(8, 1, 3), (10, 1, 3)] base = true ∧ meets Case.thermConfig [(8, 1, 120), (9, 1, 120)] base = true ∧
      meets Case.thermRead [(8, 1, 15)] base = true ∧ meets Case.thermReadAll [(8, 1, 255)] base = true ∧
      meets Case.thermCap [(8, 1, 3), (9, 1, 4)] base = true := by
  decide +kernel

/-- Supplies that let POR release come. -/
def supplies : Monitors where
  supmon := 1051
  holdmon := 0
  vfuse := 0
  rails := Vector.replicate 4 99

/-- A step of start-up. -/
def atBoot (b : Boot) : State := Power.bootTo b State.reset

theorem witness_StartUp :
    awaitsPor State.reset = true ∧ railsReady supplies State.reset.pw.pfailMv = true ∧
      rstActs (untilElapsed (base.tb.elapsed + 10000) base) = true ∧
      (untilElapsed (base.tb.elapsed + 10000) base).pw.pfail = false ∧
      rstActs (untilElapsed (base.tb.elapsed + 1000) base) = true ∧
      (untilElapsed (base.tb.elapsed + 1000) base).pw.pfail = false ∧ (atBoot .fuseLoad).pw.boot = .fuseLoad ∧
      (atBoot .journal).pw.boot = .journal ∧ (atBoot .firmware).pw.slotB = false ∧
      ({ (atBoot .firmware).pw with slotB := true } : Power).slotB = true ∧ (atBoot .dram).pw.dramTries < 2 ∧
      ({ (atBoot .dram).pw with dramTries := 2 } : Power).dramTries = 2 := by
  decide +kernel

/-- A firmware image of `size` bytes in slot B, signed under the key that the fuses name. -/
def imageB (size : Nat) : BootImage where
  address := 0x800000
  size := size
  keyHash := Config.keyHash
  signed := true

theorem witness_StartUp_image :
    ({ atBoot .firmware with pw := { (atBoot .firmware).pw with slotB := true } } : State).pw.boot = .firmware ∧
      (imageB 8388608).address = 0x800000 ∧ (imageB 8388608).size ≤ 8388608 ∧ (imageB 8388608).keyHash = Config.keyHash ∧
      (imageB 8388608).signed = true ∧ 8388608 < (imageB 8388609).size :=
  ⟨by decide +kernel, rfl, by decide, rfl, rfl, by decide⟩

/-- `base` with its power as given. -/
def powered (f : Power → Power) : State := { base with pw := f base.pw }

/-- A hot sensor of the hub. -/
def hotHub : State := powered (fun p => { p with
  sensors := vset p.sensors 12 { reading := 500, sampled := true }
  throttle := vset p.throttle 3 { level := 3, steppedAt := some 0, episode := true, belowAt := some 7 } })

theorem witness_PowerHappenings :
    vget ({ base with tpow := vset base.tpow 3 (.powering (some busyKey)) } : State).tpow 3 .gated = .powering (some busyKey) ∧
      vget ({ base with tpow := vset base.tpow 3 (.gating none) } : State).tpow 3 .gated = .gating none ∧
      vget base.tpow 3 .gated = .on ∧ base.live = true ∧
      (powered (fun p => { p with trans := some { target := 3, key := none } })).pw.trans = some { target := 3, key := none } ∧
      storeAtRest base = true ∧ panelsLoaded base = true ∧ panelsLoaded (headed { aHead with uploads := [aCopy] }) = false ∧
      (base.head 3).step = .none ∧ ({ aHead with step := .discharge } : Head).step ≠ .none ∧ rstActs base = true ∧ base.pw.pfail = false ∧ 999 < base.pw.pfailMv ∧
      (powered (fun p => { p with pfail := true })).pw.pfail = true ∧ base.pw.pfailMv + 50 ≤ 1050 ∧ base.pw.boot = .ready ∧
      (powered (fun p => { p with pstate := .glow, wakeMask := 32 })).pw.wakeMask.getLsbD 5 = true ∧
      (powered (fun p => { p with boot := .off, aonPin := true, pwrEn := false })).pw.pwrEn = false ∧
      ({ base with tb := { base.tb with valid := true }, pw := { base.pw with wakeAt := 1 } } : State).sec ≤ 1 ∧
      tileHot hotHub 3 = true ∧ stepDue (vget hotHub.pw.throttle 3 {}) 100000000 = true ∧ tileHot base 3 = false ∧
      (vget hotHub.pw.throttle 3 {}).belowAt = some 7 ∧ hottest hotHub (List.range 16) = some (500, 12) ∧
      (powered (fun p => { p with crit := true, coolAt := some 9 })).pw.coolAt = some 9 ∧
      (({ reading := 4, sampled := true, same := 999 } : Sensor).take 4).faulty = true := by
  decide +kernel

/-! ### Events and the trouble log -/

theorem witness_EventCommands :
    meets Case.eventConfig [(8, 1, 248), (9, 1, 8), (44, 4, 0xE3FF)] base = true ∧
      meets Case.eventRead [(8, 1, 251), (9, 1, 5)] base = true ∧ meets Case.eventPending [(8, 1, 3)] base = true ∧
      meets Case.eventAck [(8, 1, 3), (16, 8, 0xFFFFFFFFFFFFFFFF)] base = true ∧
      meets Case.eventWait [(8, 1, 3), (16, 8, 1), (24, 4, 86400000)] base = true ∧ meets Case.eventDetail [(8, 1, 255)] base = true ∧
      meets Case.logRead [(16, 2, 4096), (24, 8, 32)] base = true ∧
      meets Case.logMark [(8, 2, 7), (16, 8, 9)] base = true ∧ meets Case.logClear [] base = true := by
  decide +kernel

/-- A wait of pair 1. -/
def aWait : EvWait where
  key := busyKey
  quarter := 0
  mask := 1
  deadline := 44

theorem witness_EventCommands_timeout :
    ({ base.ev with waits := [aWait] } : Events).waits.find? (fun w => w.key.q == 1 && w.key.tag == 9) = some aWait := by
  decide +kernel

theorem witness_EventRaise :
    base.ev.waits = [] ∧ Ev.wrapLoss base = none ∧ optionalSource 0 = false ∧ optionalSource 32 = true ∧
      evMasked base.ev 255 = true ∧ field (evCfg ({ base.ev with cfg := vset base.ev.cfg 32 0x2000#32 }) 32) 13 13 = 1 ∧
      evMasked ({ base.ev with cfg := vset base.ev.cfg 32 0x2000#32 }) 32 = false ∧
      field (evCfg ({ base.ev with cfg := vset base.ev.cfg 32 0x2000#32 }) 32) 15 15 = 0 ∧
      field (evCfg base.ev 32) 13 13 = 0 ∧ ({ base.hub with msixEnabled := true } : Hub).msixEnabled = true ∧
      (vget base.ev.stat 32 {}).signalled = false ∧ (vget (vset base.ev.stat 32 { pending := true }) 32 {}).pending = true ∧
      field (0xBFFF#32 : Word).toNat 14 14 = 0 := by
  decide +kernel

/-! ## Ill-formed terms are refused, one for each check -/

/-- A frame of 65 bytes. -/
def longFrame : BusFrame where
  ide := false
  fdf := true
  brs := false
  esi := false
  id := 0
  data := List.replicate 65 0

/-- A remote frame that carries data. -/
def remoteFrame : BusFrame := { longFrame with fdf := false, rtr := true, data := [0] }

/-- A calibration result without values. -/
def noRuns : CalResult where
  run1 := []
  run2 := []
  qualityA := 0
  qualityB := 0

theorem test_wf_hub : Instr.wf (.tbSet 4096 (packet 1 [])) = false ∧ Instr.wf (.crossTileDelivery 0 4) = false ∧
    Instr.wf (.crossTileDelivery 4 0) = false ∧ Instr.wf (.tileSkewClear 4 0) = false ∧ Instr.wf (.tileSkewClear 0 2) = false ∧
    Instr.wf (.registerWrite 65536 4 0) = false ∧ Instr.wf (.qspiWrite 16777216 []) = false ∧
    Instr.wf (.nonceLapse 1024) = false ∧ Instr.wf (.watchTimeout 0 2048) = false := by
  decide +kernel

theorem test_wf_tiles : Instr.wf (.seqCycleStart 0 2) = false ∧ Instr.wf (.protTrip 0 64) = false ∧
    Instr.wf (.predSolveDone 0 4096) = false ∧ Instr.wf (.phaseEnd 0 { channel := 24, peaks := { code := 0 } }) = false ∧ Instr.wf (.currentTrip 0 0 { code := 1024 }) = false ∧
    Instr.wf (.aoOverload 0 8) = false ∧ Instr.wf (.fanKickEnd 0 4) = false ∧ Instr.wf (.outputWatchdogExpiry 0 0 0) = false ∧
    Instr.wf (.outputWatchdogExpiry 0 4 0) = false ∧ Instr.wf (.frameReceived 32 0 0 []) = false ∧
    Instr.wf (.meterDwellEnd 0 { v := [], i := [] }) = false ∧ Instr.wf (.meterDwellEnd 0 { v := [0], i := [] }) = false := by
  decide +kernel

theorem test_wf_outside : Instr.wf (.busRecoveryDone 64) = false ∧ Instr.wf (.linkAckTimeout 0 256) = false ∧
    Instr.wf (.hostFrame 0 longFrame) = false ∧ Instr.wf (.hostFrame 0 remoteFrame) = false ∧
    Instr.wf (.hostFrame 0 { remoteFrame with fdf := true, data := [] }) = false ∧ Instr.wf (.peerLost 10240) = false ∧
    Instr.wf (.pointSourceUpdate (10240 * 16777216)) = false ∧ Instr.wf (.pointSourceUpdate 5242880) = false ∧
    Instr.wf (.panelUploadDone 4) = false ∧ Instr.wf (.powerGood 0 3) = false ∧
    Instr.wf (.touchScan 0 (List.replicate 641 0)) = false ∧ Instr.wf (.calMeasureTimeout 96) = false ∧
    Instr.wf (.calRunEnd 7 0 noRuns) = false ∧ Instr.wf (.lpddr5Training true 3) = false := by
  decide +kernel

theorem test_wf_link : Instr.wf (.linkRetry 8) = false := by decide +kernel

theorem test_wf_accepts : Instr.wf (.tbSet 4095 (packet 1 [])) = true ∧ Instr.wf (.frameReceived 31 0 0 []) = true ∧
    Instr.wf (.pointSourceUpdate (10239 * 16777216 + 5242879)) = true := by
  decide +kernel

/-! ## Words and bytes from the spec's examples -/

-- chapter 2: the CRC of the nine ASCII bytes "123456789"
theorem test_crc_check : crc32c [0x31, 0x32, 0x33, 0x34, 0x35, 0x36, 0x37, 0x38, 0x39] = 0xE3069283#32 := by decide +kernel

/-- The packet of Table 2.13. -/
def tableExample : Packet where
  rev := 2
  irq := true
  suppressOk := false
  fence := false
  tag := 0x05A
  client := 3
  queue := 17
  reserved := 0
  params := 0

-- Table 2.13
theorem test_packet_bytes : (packetBytes 0x032 tableExample).take 12 =
    [0x32, 0x20, 0x5A, 0x20, 0x03, 0x00, 0x11, 0x00, 0, 0, 0, 0] := by
  decide +kernel

-- Table 2.14: the reply's first word is 0x805A
theorem test_reply_word : (replyBytes true { someReply with tag := 0x05A }).take 2 = [0x5A, 0x80] := by decide +kernel

-- chapter 14: 856 bytes at 8,064 of region 3 cover four pages from global page 1,567 on
theorem test_commit_pages : commitPages (.write 3 8064 (List.replicate 856 1)) = (3, 31, 4) ∧ 512 * 3 + 31 = 1567 := by
  decide +kernel

-- Table 12.8: the finger that returns gives delta 350 and is touched; the lifted one gives delta -350
theorem test_touch : (({ base := 3000 } : TouchNode).scan 200 50 8 8 2650).touched = true ∧
    (({ base := 3000 } : TouchNode).scan 200 50 8 8 2650).delta = 350 ∧
    (({ base := 2650 } : TouchNode).scan 200 50 8 8 3000).delta = -350 := by
  decide +kernel


/-! ## Single steps -/

/-- The state a step leads to. -/
def after (o : Host.Outcome State Fault Refusal) : Option State :=
  match o with
  | .next s => some s
  | _ => none

theorem test_idle : (after (step base)).map (fun s => s.tb.now.toNat) = some 20 := by decide +kernel

theorem test_porRelease : (after (step { State.reset with pending := [.porRelease supplies true] })).map (fun s => s.pw.boot) =
    some .fuseLoad := by
  decide +kernel

theorem test_porOrder : step { State.reset with pending := [.porRelease supplies false] } = .fault .railsOutOfOrder := rfl

theorem test_fetchWord : State.reset.withFetchWord 16 0x1234 = State.reset := by rfl

theorem test_tbSlew : (after (step { base with pending := [.tbSlew 1 (packet 1 [(8, 4, 120)])] })).map
    (fun s => s.tb.ratePpb) = some 120 := by
  decide +kernel

-- Table 2.7: TAG with PHASE, STATUS, ECHO, and the reason in byte 5
theorem test_reply_reason : (Cmd.final busyKey St.badParam (result [(5, 1, 1)]) busy).readMem .host 0x21000 6 = [9, 0x80, St.badParam, 0, 0, 1] := by
  decide +kernel
end Sys2Proof.Tests
end

section
/-!
Final replies (R32, R36, R40): the layout of a reply's 32 bytes, and what writing one to its completion ring leaves in
the two memories, in the pairs and among the commands in flight. Settles O7.
-/

namespace Sys2Proof.Machine

/-! ## Little-endian bytes -/

@[simp] theorem leBytes_length (n v : Nat) : (leBytes n v).length = n := by
  induction n generalizing v with
  | zero => rfl
  | succ n ih => simp [leBytes, ih]

/-- A number that fits its bytes is the number they spell. -/
theorem ofLe_leBytes_of_lt {n v : Nat} (h : v < 256 ^ n) : ofLe (leBytes n v) = v := by
  induction n generalizing v with
  | zero => simp [leBytes, ofLe, Nat.lt_one_iff.mp h]
  | succ n ih =>
    have hq : v / 256 < 256 ^ n := Nat.div_lt_of_lt_mul (by rwa [Nat.pow_succ'] at h)
    simp only [leBytes, ofLe, ih hq, BitVec.toNat_ofNat, Nat.reducePow]
    exact Nat.mod_add_div v 256

/-- The bytes of a word that fills them spell its value. -/
theorem ofLe_leBytes_toNat {w : Nat} (n : Nat) (x : BitVec w) (h : w = 8 * n) : ofLe (leBytes n x.toNat) = x.toNat := by
  refine ofLe_leBytes_of_lt (x.isLt.trans_eq ?_)
  rw [h, Nat.pow_mul]

/-! ## The layout of a reply (Table 2.7) -/

@[simp] theorem replyBytes_length (phase : Bool) (r : Reply) : (replyBytes phase r).length = 32 := by simp [replyBytes]

theorem replyBytes_word (phase : Bool) (r : Reply) :
    (replyBytes phase r).take 2 = leBytes 2 (r.tag.toNat + bit phase * 2 ^ 15) := by
  simp [replyBytes]

theorem replyBytes_status (phase : Bool) (r : Reply) : (replyBytes phase r)[2]? = some r.status := by
  simp [replyBytes]

theorem replyBytes_echo (phase : Bool) (r : Reply) : ((replyBytes phase r).drop 3).take 2 = leBytes 2 r.echo.toNat := by
  simp [replyBytes, List.drop_append, List.take_append]

theorem replyBytes_result (phase : Bool) (r : Reply) :
    ((replyBytes phase r).drop 5).take 23 = leBytes 23 r.result.toNat := by
  simp [replyBytes, List.drop_append, List.take_append]

theorem replyBytes_crc (phase : Bool) (r : Reply) :
    (replyBytes phase r).drop 28 = leBytes 4 (crc32c ((replyBytes phase r).take 28)).toNat := by
  simp [replyBytes, List.drop_append, List.take_append, List.drop_of_length_le, List.take_of_length_le]

/-- The first two bytes leave room for TAG and, above four reserved bits, PHASE. -/
theorem tag_phase_fits (tag : BitVec 11) (phase : Bool) : tag.toNat + bit phase * 2 ^ 15 < 256 ^ 2 := by
  have tagLt := tag.isLt
  have bitLe : bit phase ≤ 1 := by cases phase <;> decide
  omega

/-! ## Writing and reading memory -/

/-- A write that fits its memory reads back. -/
theorem State.readMem_writeMem (s : State) (sp : Space) (a : Nat) (l : List Byte) (fits : spanFits sp a l.length = true)
    (wf : s.memWf = true) : (s.writeMem sp a l).readMem sp a l.length = l := by
  simp only [State.memWf, Bool.and_eq_true] at wf
  obtain ⟨⟨hostWf, ringWf⟩, -⟩ := wf
  cases sp with
  | host => exact memRead_memWrite l _ a hostWf
  | ring =>
    have fits' : a + l.length ≤ ringSize := by simpa [spanFits] using fits
    simp only [State.writeMem, State.readMem, if_pos fits']
    exact memRead_memWrite l _ a ringWf

/-- A write changes no byte outside its span. -/
theorem State.readMem_writeMem_other (s : State) (sp sp' : Space) (a x : Nat) (l : List Byte)
    (h : ¬ (sp' = sp ∧ a ≤ x ∧ x < a + l.length)) : (s.writeMem sp a l).readMem sp' x 1 = s.readMem sp' x 1 := by
  have away : sp' = sp → x < a ∨ a + l.length ≤ x := fun same => by
    by_contra inside
    exact h ⟨same, by omega, by omega⟩
  cases sp <;> cases sp' <;> simp only [State.writeMem]
  · simp [State.readMem, memRead, memGet_memWrite_other _ _ _ _ (away rfl)]
  · rfl
  · split <;> rfl
  · split
    · simp [State.readMem, memRead, memGet_memWrite_other _ _ _ _ (away rfl)]
    · rfl

/-- A write changes the two memories alone. -/
theorem State.writeMem_frame (s : State) (sp : Space) (a : Nat) (l : List Byte) :
    { s.writeMem sp a l with hostMem := s.hostMem, ringMem := s.ringMem } = s := by
  unfold State.writeMem
  split
  · rfl
  · split <;> rfl

@[simp] theorem State.writeMem_pair (s : State) (sp : Space) (a q : Nat) (l : List Byte) :
    (s.writeMem sp a l).pair q = s.pair q := by simp [State.pair]

/-! ## Changing a pair and freeing a tag -/

theorem amod_amod {β : Type} (m : AMap β) (a : Nat) (f g : β → β) : amod (amod m a f) a g = amod m a (g ∘ f) := by
  simp only [amod, List.map_map]
  refine List.map_congr_left fun e _ => ?_
  by_cases h : e.1 = a <;> simp [h]

theorem State.modPair_modPair (s : State) (q : Nat) (f g : Pair → Pair) :
    (s.modPair q f).modPair q g = s.modPair q (g ∘ f) := by
  simp only [State.modPair, amod_amod]

@[simp] theorem State.modPair_readMem (s : State) (q : Nat) (f : Pair → Pair) (sp : Space) (a n : Nat) :
    (s.modPair q f).readMem sp a n = s.readMem sp a n := rfl

@[simp] theorem Cmd.free_readMem (k : Option Key) (s : State) (sp : Space) (a n : Nat) :
    (Cmd.free k s).readMem sp a n = s.readMem sp a n := by cases k <;> rfl

@[simp] theorem Cmd.free_pair (k : Option Key) (s : State) (q : Nat) : (Cmd.free k s).pair q = s.pair q := by
  cases k <;> rfl

theorem Cmd.free_modPair (k : Option Key) (s : State) (q : Nat) (f : Pair → Pair) :
    (Cmd.free k s).modPair q f = Cmd.free k (s.modPair q f) := by cases k <;> rfl

/-- A freed tag is no longer in flight (R40). -/
theorem Cmd.find_free_self (k : Key) (s : State) : Cmd.find k (Cmd.free (some k) s) = none := by
  simp [Cmd.find, Cmd.free]

/-! ## A reply on its way to its completion ring -/

/-- With MSI-X disabled a signal writes no message: it marks the pair's replies as signalled (R33, R353). -/
theorem Ring.signal_of_msixOff {q : Nat} {s : State} (hp : (s.pair q).isSome = true) (off : s.hub.msixEnabled = false) :
    Ring.signal q s = s.modPair q (fun p => { p with unsignalled := 0 }) := by
  obtain ⟨p, hp⟩ := Option.isSome_iff_exists.mp hp
  simp only [Ring.signal, hp]
  cases p.desc.space with
  | host => simp [Msix.signal, State.modPair, off]
  | ring => rfl

/-- With MSI-X disabled, writing a reply is one write to the next slot, one change of the pair, which moves the slot
index on and turns PHASE over where it wraps, and the freeing of its tag (R32, R36, R40). -/
theorem Ring.post_of_msixOff {q : Nat} {s : State} {p : Pair} (r : Reply) (hp : s.pair q = some p)
    (off : s.hub.msixEnabled = false) :
    ∃ f : Pair → Pair,
      Ring.post q r s = Cmd.free r.frees
        ((s.writeMem p.desc.space (p.desc.cqBase.toNat + 32 * p.cqTail) (replyBytes p.phase r)).modPair q f) ∧
      (f p).cqTail = (p.cqTail + 1) % p.desc.size ∧
      (f p).phase = if (p.cqTail + 1) % p.desc.size = 0 then !p.phase else p.phase := by
  simp only [Ring.post, hp]
  split
  · rw [Ring.signal_of_msixOff (by simp [State.modPair_pair, hp]) (by cases r.frees <;> simp [Cmd.free, State.modPair, off]),
      Cmd.free_modPair, State.modPair_modPair]
    exact ⟨_, rfl, rfl, rfl⟩
  · exact ⟨_, rfl, rfl, rfl⟩

/-- A reply to a pair that is not being deleted, holds none and has room is written at once (R36, Table 2.12). -/
theorem Ring.reply_of_room {q : Nat} {s : State} {p : Pair} (r : Reply) (hp : s.pair q = some p) (live : p.deleting = false)
    (noneHeld : p.held = []) (room : p.cqFull = false) : Ring.reply q r s = Ring.post q r s := by
  simp [Ring.reply, hp, live, noneHeld, room]

/-- A command whose reply is neither discarded nor suppressed gives it to the pair that held it (R36). -/
theorem Cmd.finish_of_replies {k : Key} {s : State} {c : InFlight} (st : Byte) (res : Nat) (hc : Cmd.find k s = some c)
    (kept : c.discard = false) (shown : (c.suppressOk && st == St.ok) = false) :
    Cmd.finish k st res s = Ring.reply k.q (replyOf c st res (some k)) s := by
  simp [Cmd.finish, hc, kept, shown]

/-- PHASE turns over exactly where the slot index wraps to 0 (R32). -/
theorem phase_kept_iff (n : Nat) (phase : Bool) : (if n = 0 then !phase else phase) = phase ↔ n ≠ 0 := by
  split <;> simp [*]

/-- Settles O7: the reply's bytes by Table 2.7, field by field; the finish of a command as one write, one change of its
pair and the freeing of its tag. -/
theorem replyWritten : Obligations.ReplyWritten := by
  unfold Obligations.ReplyWritten
  refine ⟨?layout, ?written⟩
  case layout =>
    rintro phase r l rfl
    refine ⟨replyBytes_length phase r, ?_, replyBytes_status phase r, ?_, ?_, ?_⟩
    · rw [replyBytes_word, ofLe_leBytes_of_lt (tag_phase_fits r.tag phase)]
    · rw [replyBytes_echo, ofLe_leBytes_toNat 2 r.echo rfl]
    · rw [replyBytes_result, ofLe_leBytes_toNat 23 r.result rfl]
    · rw [replyBytes_crc, ofLe_leBytes_toNat 4 _ rfl]
  case written =>
    rintro k st res s c p hc kept shown hp live noneHeld room off fits wf t rfl
    obtain ⟨f, posted, tail, phase⟩ := Ring.post_of_msixOff (replyOf c st res (some k)) hp off
    rw [Cmd.finish_of_replies st res hc kept shown, Ring.reply_of_room _ hp live noneHeld room, posted]
    refine ⟨?_, Cmd.find_free_self k _, ⟨f p, ?_, tail, ?_⟩, ?_, fun sp a outside => ?_⟩
    · simpa using State.readMem_writeMem s p.desc.space _ (replyBytes p.phase (replyOf c st res (some k)))
        (by simpa using fits) wf
    · simp [State.modPair_pair, hp]
    · rw [phase, tail]
      exact phase_kept_iff _ _
    · simpa [Cmd.free, State.modPair, replyOf] using State.writeMem_frame s _ _ _
    · simpa using State.readMem_writeMem_other s _ sp _ a _ (by simpa using outside)

end Sys2Proof.Machine
end

section
/-!
The boundaries of a loop and its stretch factors (R152, R161): the next boundary as one floor division by the stretched
period, and the order in which the factors are tried. Settles O38.
-/

namespace Sys2Proof.Machine

/-! ## The next boundary (R152) -/

/-- The stretched period in ns: 2^`e` periods. -/
def Loop.stretchedPeriod (l : Loop) (e : Nat) : Nat := 2 ^ e * (l.period * 1000)

theorem Loop.stretchedPeriod_pos {l : Loop} (e : Nat) (h : 0 < l.period) : 0 < l.stretchedPeriod e :=
  Nat.mul_pos (Nat.two_pow_pos e) (Nat.mul_pos h (by decide))

theorem Loop.period_le_stretchedPeriod (l : Loop) (e : Nat) : l.period * 1000 ≤ l.stretchedPeriod e :=
  Nat.le_mul_of_pos_left _ (Nat.two_pow_pos e)

/-- Rounding up the quotient of a successor gives the floor quotient and one. -/
theorem ceil_succ_eq_floor_add_one (q : Int) {m : Int} (h : 0 < m) : (q + 1 + m - 1) / m = q / m + 1 := by
  rw [show q + 1 + m - 1 = q + m by omega, Int.add_ediv_of_dvd_right dvd_rfl, Int.ediv_self h.ne']

/-- Rounding the boundary's index up to a multiple of the factor is one floor division by the stretched period. -/
theorem Loop.nextAfter_eq_floor (l : Loop) (e now : Nat) :
    l.nextAfter e now =
      ((l.phase * 1000 : Nat) + (((now : Int) - (l.phase * 1000 : Nat)) / l.stretchedPeriod e + 1) * l.stretchedPeriod e).toNat := by
  have hm : (0 : Int) < (2 ^ e : Nat) := mod_cast Nat.two_pow_pos e
  have hS : (l.stretchedPeriod e : Int) = (l.period * 1000 : Nat) * (2 ^ e : Nat) := by
    rw [← Int.natCast_mul, Nat.mul_comm, Loop.stretchedPeriod]
  simp only [Loop.nextAfter]
  rw [ceil_succ_eq_floor_add_one _ hm, Int.ediv_ediv_of_nonneg (Int.natCast_nonneg _), hS, Int.mul_assoc,
    Int.mul_comm ((2 ^ e : Nat) : Int)]

/-- With PHASE below PERIOD the next boundary is PHASE plus the least number of stretched periods that lies after now. -/
theorem Loop.nextAfter_least {l : Loop} (e now : Nat) (hp : 0 < l.period) (hph : l.phase < l.period) :
    ∃ n : Nat, l.nextAfter e now = l.phase * 1000 + n * l.stretchedPeriod e ∧
      now < l.phase * 1000 + n * l.stretchedPeriod e ∧
      ∀ j : Nat, now < l.phase * 1000 + j * l.stretchedPeriod e → n ≤ j := by
  have hS : (0 : Int) < l.stretchedPeriod e := mod_cast Loop.stretchedPeriod_pos e hp
  have hfit : l.phase * 1000 < l.stretchedPeriod e := by
    have := l.period_le_stretchedPeriod e
    omega
  rw [Loop.nextAfter_eq_floor]
  generalize l.stretchedPeriod e = S at hS hfit ⊢
  generalize l.phase * 1000 = ph at hfit ⊢
  have hq : 0 ≤ ((now : Int) - ph) / S + 1 := by
    have : -1 ≤ ((now : Int) - ph) / S := (Int.le_ediv_iff_mul_le hS).mpr (by omega)
    omega
  obtain ⟨n, hn⟩ := Int.eq_ofNat_of_zero_le hq
  refine ⟨n, ?value, ?after, fun j hj => ?least⟩
  case value =>
    rw [hn]
    exact mod_cast Int.toNat_natCast (ph + n * S)
  case after =>
    have h : (now : Int) - ph < n * S := hn ▸ Int.lt_ediv_add_one_mul_self _ hS
    zify
    omega
  case least =>
    have h : ((now : Int) - ph) / S < j := (Int.ediv_lt_iff_lt_mul hS).mpr (by zify at hj; omega)
    omega

/-- The next boundary is the first instant after now that lies a whole number of stretched periods after PHASE. -/
theorem Loop.nextAfter_spec {l : Loop} (e now : Nat) (hp : 0 < l.period) (hph : l.phase < l.period) :
    now < l.nextAfter e now ∧ l.phase * 1000 ≤ l.nextAfter e now ∧
      (l.nextAfter e now - l.phase * 1000) % l.stretchedPeriod e = 0 ∧
      ∀ c, now < c → l.phase * 1000 ≤ c → (c - l.phase * 1000) % l.stretchedPeriod e = 0 → l.nextAfter e now ≤ c := by
  obtain ⟨n, value, after, least⟩ := Loop.nextAfter_least e now hp hph
  rw [value]
  refine ⟨after, Nat.le_add_right _ _, by simp, fun c hc hle hmod => ?_⟩
  obtain ⟨j, hj⟩ := Nat.dvd_of_mod_eq_zero hmod
  obtain rfl : c = l.phase * 1000 + j * l.stretchedPeriod e := by rw [Nat.mul_comm j, ← hj, Nat.add_sub_cancel' hle]
  exact Nat.add_le_add_left (Nat.mul_le_mul_right _ (least j hc)) _

/-! ## The factors chosen (R161) -/

/-- The order in which R161 tries the pairs: s1 outside, s2 inside. -/
def TriedBefore (p q : Nat × Nat) : Prop := p.1 < q.1 ∨ (p.1 = q.1 ∧ p.2 < q.2)

theorem TriedBefore.irrefl (p : Nat × Nat) : ¬ TriedBefore p p := by simp [TriedBefore]

theorem TriedBefore.asymm {p q : Nat × Nat} (h : TriedBefore p q) : ¬ TriedBefore q p := by
  simp only [TriedBefore] at h ⊢
  omega

theorem stretchPairs_ordered : stretchPairs.Pairwise TriedBefore := by
  simp [stretchPairs, TriedBefore]

theorem mem_stretchPairs {p : Nat × Nat} : p ∈ stretchPairs ↔ p.1 ≤ p.2 ∧ p.2 ≤ 3 := by
  obtain ⟨c, d⟩ := p
  simp only [stretchPairs, List.mem_cons, Prod.mk.injEq, List.not_mem_nil, or_false]
  omega

/-- Of a list in the order R161 tries, what `find?` gives is preceded only by pairs that fail. -/
theorem fails_of_triedBefore_find {l : List (Nat × Nat)} {f : Nat × Nat → Bool} {p q : Nat × Nat}
    (ordered : l.Pairwise TriedBefore) (found : l.find? f = some p) (hq : q ∈ l) (before : TriedBefore q p) :
    f q = false := by
  obtain ⟨_, front, back, rfl, fail⟩ := List.find?_eq_some_iff_append.mp found
  obtain ⟨_, tail, _⟩ := List.pairwise_append.mp ordered
  rcases List.mem_append.mp hq with front_q | back_q
  · simpa using fail q front_q
  · rcases List.mem_cons.mp back_q with rfl | later
    · exact absurd before (TriedBefore.irrefl q)
    · exact absurd before ((List.rel_of_pairwise_cons tail later).asymm)

/-- The factors chosen are a pair of R161, carried by the capacity unless they are the last, and every pair tried before
them is too much for it. -/
theorem chooseStretch_first (x : Tile) (cap : Nat) :
    chooseStretch x cap ∈ stretchPairs ∧
      (stretched8 x (chooseStretch x cap).1 (chooseStretch x cap).2 ≤ 8 * cap ∨ chooseStretch x cap = (3, 3)) ∧
      ∀ p ∈ stretchPairs, TriedBefore p (chooseStretch x cap) → 8 * cap < stretched8 x p.1 p.2 := by
  rw [chooseStretch]
  cases h : stretchPairs.find? (fun p => decide (stretched8 x p.1 p.2 ≤ 8 * cap)) with
  | none =>
    refine ⟨by decide, .inr rfl, fun p hp _ => ?_⟩
    simpa using List.find?_eq_none.mp h p hp
  | some q =>
    refine ⟨List.mem_of_find?_eq_some h, .inl (by simpa using List.find?_some h), fun p hp before => ?_⟩
    simpa using fails_of_triedBefore_find stretchPairs_ordered h hp before

/-! ## dt (R152) -/

theorem Loop.lawIn_dt (s : State) (t b : Nat) (l : Loop) (vs : List (Option F32)) :
    (Loop.lawIn s t b l vs).dt = (2 : Rat) ^ stretchOf (s.tile t) l * (l.period : Rat) / 1000000 := by
  simp [Loop.lawIn]

/-- Settles O38: the boundary is the least one after now, since rounding its index up is a floor division by the
stretched period; the factors are the first of a list that is in the order of R161; dt by the class. -/
theorem loopBoundaries : Obligations.LoopBoundaries := by
  unfold Obligations.LoopBoundaries
  refine ⟨?boundary, ?factors, ?dt⟩
  case boundary =>
    rintro l e now b hp hph rfl
    exact Loop.nextAfter_spec e now hp hph
  case factors =>
    intro x cap a b chosen
    obtain ⟨mem, carried, first⟩ := chooseStretch_first x cap
    rw [chosen] at mem carried first
    obtain ⟨hab, hb⟩ := mem_stretchPairs.mp mem
    exact ⟨hab, hb, carried.imp_right Prod.mk.inj, fun c d hcd hd before =>
      first (c, d) (mem_stretchPairs.mpr ⟨hcd, hd⟩) before⟩
  case dt =>
    intro s t b l vs
    refine ⟨Loop.lawIn_dt s t b l vs, ?_, ?_, ?_⟩ <;> intro cls <;> simp [stretchOf, cls]

end Sys2Proof.Machine
end

section
/-!
Start-up (R305, R320, R328 to R330, R337 to R339, Table 15.6): the rules of POR release, of an RST_N pulse by its length
and of the steps that follow, and what start-up leaves of each part of the state. Settles O57.
-/

namespace Sys2Proof.Machine

/-! ## Happenings at their time (log 8) -/

theorem whenever_of_true {c : Bool} (h : c = true) (f : State → State) (s : State) : whenever c f s = f s := by
  simp [whenever, h]

/-! ## What start-up leaves of each part (R330, R339) -/

section Parts
variable (s : State)

@[simp] theorem Power.startUp_tb : (Power.startUp s).tb = { s.tb with source := .host, ppsOut := false } := rfl
@[simp] theorem Power.startUp_ev : (Power.startUp s).ev = State.reset.ev := rfl
@[simp] theorem Power.startUp_hub : (Power.startUp s).hub = State.reset.hub := rfl
@[simp] theorem Power.startUp_cl : (Power.startUp s).cl = { creds := s.cl.creds } := rfl
@[simp] theorem Power.startUp_pts : (Power.startUp s).pts = State.reset.pts := rfl
@[simp] theorem Power.startUp_fed : (Power.startUp s).fed = State.reset.fed := rfl
@[simp] theorem Power.startUp_nv : (Power.startUp s).nv = { s.nv with
    queue := [], reads := [], opens := [], lockout := 0, attempts := Vector.replicate 16 0
    recovered := false, rolledBack := false, pageFail := false } := rfl
@[simp] theorem Power.startUp_pw : (Power.startUp s).pw = {
    boot := .fuseLoad, porAt := s.tb.elapsed, lastWake := s.pw.lastWake, aonBus := s.pw.aonBus
    aonAlarm := s.pw.aonAlarm, aonPin := s.pw.aonPin, wakeReport := s.pw.wakeReport, pwrEn := s.pw.pwrEn
    mon := s.pw.mon, gateLow := s.pw.gateLow
    pfailStamp := s.pw.pfailStamp, pfailStampValid := s.pw.pfailStampValid } := rfl
@[simp] theorem Power.startUp_tpow : (Power.startUp s).tpow = State.reset.tpow := rfl
@[simp] theorem Power.startUp_tiles : (Power.startUp s).tiles = State.reset.tiles := rfl
@[simp] theorem Power.startUp_shaded : (Power.startUp s).shaded = State.reset.shaded := rfl
@[simp] theorem Power.startUp_ringMem : (Power.startUp s).ringMem = State.reset.ringMem := rfl

end Parts

/-! ## POR release (R328, R329) -/

/-- POR release with the supplies ready turns on the order in which they rose alone. -/
theorem exec_porRelease_of_ready {m : Monitors} {s : State} (waits : awaitsPor s = true)
    (ready : railsReady m s.pw.pfailMv = true) (ordered : Bool) :
    exec (.porRelease m ordered) s =
      if ordered then .next { Power.startUp s with pw := { (Power.startUp s).pw with mon := m } }
      else .fault .railsOutOfOrder := by
  change execPorRelease m ordered s = _
  rw [execPorRelease, waits, ready, Bool.and_self, if_pos rfl]

/-! ## RST_N (R330) -/

theorem Power.rst_of_noPfail {s : State} (h : s.pw.pfail = false) : Power.rst s = Power.startUp s := by
  simp [Power.rst, h]

theorem exec_rstN_of_ignored {low : Nat} (s : State) (short : low < 1000) : exec (.rstN low) s = .next s := by
  change execRstN low s = _
  rw [execRstN, if_pos short]

/-- A pulse that is not ignored acts at its end: from 10 us on it resets, and below it resets as a free value has it. -/
theorem exec_rstN_of_acts {low : Nat} {s u : State} (long : 1000 ≤ low)
    (atEnd : u = untilElapsed (s.tb.elapsed + low) s) (acts : rstActs u = true) :
    exec (.rstN low) s = .next (if 10000 ≤ low then Power.rst u
      else if Config.bool u.free then Power.rst u.drawn else u.drawn) := by
  change execRstN low s = _
  rw [execRstN, if_neg (Nat.not_lt.mpr long), ← atEnd]
  simp only [acts, Bool.not_true, Bool.false_eq_true, if_false]

/-! ## The steps of start-up (Table 15.6) -/

section Steps
variable {s : State}

theorem exec_fuseLoad_of_due (due : s.pw.boot = .fuseLoad) (good : Bool) :
    exec (.fuseLoad good) s =
      .next (if good then Power.bootTo .journal (Fuse.load (untilElapsed (s.pw.porAt + 1200000) s))
        else Power.bootTo .fwFault (untilElapsed (s.pw.porAt + 1200000) s)) := by
  change execFuseLoad good s = _
  rw [execFuseLoad, whenever_of_true (by simp [due])]

theorem exec_journalRecovery_of_due (due : s.pw.boot = .journal) :
    exec .journalRecovery s = .next (Power.bootTo .firmware (Fed.restore (Meter.restore (Nv.recover s)))) := by
  change execJournalRecovery s = _
  rw [execJournalRecovery, whenever_of_true (by simp [due])]

/-- The three checks of R338. -/
theorem BootImage.verified_iff (x : BootImage) :
    BootImage.verified x = true ↔ x.size ≤ 8388608 ∧ x.keyHash = Config.keyHash ∧ x.signed = true := by
  simp only [BootImage.verified, Bool.and_eq_true, decide_eq_true_eq, beq_iff_eq, and_assoc]
  exact Iff.rfl

/-- An image fails by any one of the three checks. -/
theorem BootImage.not_verified_iff (x : BootImage) :
    BootImage.verified x = false ↔ 8388608 < x.size ∨ x.keyHash ≠ Config.keyHash ∨ x.signed = false := by
  rw [← Bool.not_eq_true, BootImage.verified_iff]
  simp only [not_and_or, Nat.not_le, Bool.not_eq_true, ne_eq]

theorem exec_firmwareVerify_of_due {x : BootImage} (due : s.pw.boot = .firmware)
    (slot : x.address = flashSlot s.pw.slotB) :
    exec (.firmwareVerify x) s =
      .next (if BootImage.verified x then Power.bootTo .dram s
        else if s.pw.slotB then Power.bootTo .fwFault s
        else { s with pw := { s.pw with slotB := true } }) := by
  change execFirmwareVerify x s = _
  rw [execFirmwareVerify, whenever_of_true (by simp [due, slot])]

theorem exec_lpddr5Training_of_due (due : s.pw.boot = .dram) (good : Bool) (gib : Nat) :
    exec (.lpddr5Training good gib) s =
      .next (if good then Power.ready gib s
        else if 2 ≤ s.pw.dramTries then Power.bootTo .dramFault { s with pw := { s.pw with dramTries := 3 } }
        else { s with pw := { s.pw with dramTries := s.pw.dramTries + 1 } }) := by
  change execLpddr5Training good gib s = _
  rw [execLpddr5Training, whenever_of_true (by simp [due])]

end Steps

/-- Settles O57: each step by its rule at its time, an RST_N pulse by where its length falls, and the state that start-up
leaves part by part. -/
theorem startUp : Obligations.StartUp := by
  unfold Obligations.StartUp
  refine ⟨?por, ?ignored, ?resets, ?free, ?fuse, ?journal, ?firmware, ?dram, ?left⟩
  case por =>
    intro m s waits ready
    exact ⟨exec_porRelease_of_ready waits ready true, exec_porRelease_of_ready waits ready false⟩
  case ignored => exact fun low s short => exec_rstN_of_ignored s short
  case resets =>
    intro low s u long atEnd acts noPfail
    rw [exec_rstN_of_acts (by omega) atEnd acts, if_pos long, Power.rst_of_noPfail noPfail]
  case free =>
    intro low s u long short atEnd acts noPfail
    rw [exec_rstN_of_acts long atEnd acts, if_neg (Nat.not_le.mpr short), Power.rst_of_noPfail (s := u.drawn) noPfail]
    cases Config.bool u.free
    · exact .inr rfl
    · exact .inl rfl
  case fuse => exact fun s due => ⟨exec_fuseLoad_of_due due true, exec_fuseLoad_of_due due false⟩
  case journal => exact fun s due => exec_journalRecovery_of_due due
  case firmware =>
    intro x s due slot
    rw [exec_firmwareVerify_of_due due slot]
    refine ⟨fun whole => ?_, fun fails => ⟨fun slotA => ?_, fun slotB => ?_⟩⟩
    · rw [if_pos ((BootImage.verified_iff x).mpr whole)]
    · simp [(BootImage.not_verified_iff x).mpr fails, slotA]
    · simp [(BootImage.not_verified_iff x).mpr fails, slotB]
  case dram =>
    intro gib s due
    rw [exec_lpddr5Training_of_due due, exec_lpddr5Training_of_due due]
    refine ⟨rfl, fun left => ?_, fun last => ?_⟩
    · simp [Nat.not_le.mpr left]
    · simp [last]
  case left =>
    intro s
    simp [State.reset]

end Sys2Proof.Machine
end

section
/-!
Raising an event source (R349 to R353, R356): a record is a note of the source's detail and log entry, which stays in the
event unit, and then the signal on its route where MASK leaves it open and it is not SIGNALLED. Settles O60.
-/

namespace Sys2Proof.Machine

/-! ## Counters and single bits -/

theorem satInc_eq_min (n v : Nat) : satInc n v = min (2 ^ n - 1) (v + 1) := by
  have := Nat.two_pow_pos n
  unfold satInc
  split <;> omega

theorem field_bit_ne_one_iff (v k : Nat) : field v k k ≠ 1 ↔ field v k k = 0 := by
  have hlt : field v k k < 2 := by
    rw [field, Nat.add_sub_cancel_left]
    exact Nat.mod_lt _ Nat.two_pos
  omega

/-- There is no element to change past a vector's end. -/
theorem vmod_of_le {β : Type} {n : Nat} (v : Vector β n) {i : Nat} (f : β → β) (h : n ≤ i) : vmod v i f = v := by
  simp [vmod, h]

/-! ## Signals (R351, R353) -/

/-- A vector's message and pending bit do not turn on the event unit, and leave it alone. -/
theorem Msix.signal_withEv (v : Nat) (s : State) (e : Events) :
    Msix.signal v { s with ev := e } = { Msix.signal v s with ev := e } := by
  simp only [Msix.signal, Msix.send, State.writeMem]
  split
  · rfl
  · split <;> rfl

@[simp] theorem Msix.signal_ev (v : Nat) (s : State) : (Msix.signal v s).ev = s.ev := by
  have same : Msix.signal v s = { Msix.signal v s with ev := s.ev } := Msix.signal_withEv v s s.ev
  rw [same]

@[simp] theorem Msix.signal_ringMem (v : Nat) (s : State) : (Msix.signal v s).ringMem = s.ringMem := by
  simp only [Msix.signal, Msix.send, State.writeMem]
  split
  · rfl
  · split <;> rfl

@[simp] theorem Ev.signal_ev (src : Nat) (s : State) :
    (Ev.signal src s).ev = { s.ev with stat := vmod s.ev.stat src (fun x => { x with signalled := true }) } := by
  simp only [Ev.signal]
  split
  · rfl
  · rw [Msix.signal_ev]

@[simp] theorem Ev.signal_ringMem (src : Nat) (s : State) : (Ev.signal src s).ringMem = s.ringMem := by
  simp only [Ev.signal]
  split
  · rfl
  · rw [Msix.signal_ringMem]

/-- A source routed to MSI-X signals its vector. -/
theorem Ev.signal_of_msix {src : Nat} {s : State} (route : field (evCfg s.ev src) 13 13 = 0) :
    (Ev.signal src s).hub = (Msix.signal (field (evCfg s.ev src) 7 0) s).hub ∧
      (Ev.signal src s).hostMem = (Msix.signal (field (evCfg s.ev src) 7 0) s).hostMem := by
  simp [Ev.signal, route]

/-! ## The note of a raise (R351 steps 1 and 2) -/

/-- A source whose raises go to the log: Always, or Optional with LOG set (Table 16.1, Table 16.2). -/
def Ev.logs (e : Events) (src : Nat) : Bool := !optionalSource src || field (evCfg e src) 15 15 == 1

theorem Ev.logs_iff (e : Events) (src : Nat) :
    Ev.logs e src = true ↔ optionalSource src = false ∨ field (evCfg e src) 15 15 = 1 := by
  simp [Ev.logs]

theorem Ev.not_logs_iff (e : Events) (src : Nat) :
    Ev.logs e src = false ↔ optionalSource src = true ∧ field (evCfg e src) 15 15 = 0 := by
  simp [Ev.logs, ← field_bit_ne_one_iff]

/-- PENDING, COUNT, CODE and ARG of a source by a raise. -/
def Ev.mark (src code arg : Nat) (s : State) : State :=
  { s with ev := { s.ev with stat := vmod s.ev.stat src (fun x =>
    { x with pending := true, count := satInc 16 x.count, code := BitVec.ofNat 16 code, arg := BitVec.ofNat 96 arg }) } }

/-- A raise up to its signal: the source's detail, and its log entry where it is logged. -/
def Ev.note (src code arg : Nat) (cleared : Bool) (s : State) : State :=
  let marked := Ev.mark src code arg s
  if Ev.logs s.ev src then
    let t := Ev.append src code arg (2 * bit cleared + 4 * bit (evMasked s.ev src)) 0 marked
    { t with ev := { t.ev with stat := vmod t.ev.stat src (fun x => { x with seq := s.ev.nextSeq }) } }
  else marked

section Note
variable (src code arg : Nat) (cleared : Bool) (s : State)

theorem Ev.note_of_logs (h : Ev.logs s.ev src = true) :
    Ev.note src code arg cleared s =
      let t := Ev.append src code arg (2 * bit cleared + 4 * bit (evMasked s.ev src)) 0 (Ev.mark src code arg s)
      { t with ev := { t.ev with stat := vmod t.ev.stat src (fun x => { x with seq := s.ev.nextSeq }) } } := if_pos h

theorem Ev.note_of_not_logs (h : Ev.logs s.ev src = false) :
    Ev.note src code arg cleared s = Ev.mark src code arg s := if_neg (Bool.eq_false_iff.mp h)

/-- A note stays in the event unit. -/
theorem Ev.note_evOnly : Ev.note src code arg cleared s = { s with ev := (Ev.note src code arg cleared s).ev } := by
  simp only [Ev.note]
  split <;> rfl

@[simp] theorem Ev.note_cfg : (Ev.note src code arg cleared s).ev.cfg = s.ev.cfg := by
  simp only [Ev.note]
  split <;> rfl

@[simp] theorem Ev.note_waits : (Ev.note src code arg cleared s).ev.waits = s.ev.waits := by
  simp only [Ev.note]
  split <;> rfl

/-- The source's status after the note: SIGNALLED as it was, SEQ that of the entry. -/
theorem Ev.note_stat (h : src < 256) :
    vget (Ev.note src code arg cleared s).ev.stat src {} =
      { pending := true, signalled := (vget s.ev.stat src {}).signalled
        count := min 65535 ((vget s.ev.stat src {}).count + 1)
        code := BitVec.ofNat 16 code, arg := BitVec.ofNat 96 arg
        seq := if Ev.logs s.ev src then s.ev.nextSeq else (vget s.ev.stat src {}).seq } := by
  simp only [Ev.note]
  split <;> simp [Ev.mark, Ev.append, vget_vmod _ _ _ _ _ h, satInc_eq_min]

theorem Ev.note_stat_other {other : Nat} (h : other ≠ src) :
    vget (Ev.note src code arg cleared s).ev.stat other {} = vget s.ev.stat other {} := by
  simp only [Ev.note]
  split <;> simp [Ev.mark, Ev.append, vget_vmod_other _ _ _ _ _ h]

/-- A note leaves SIGNALLED as it was. -/
theorem Ev.note_signalled :
    (vget (Ev.note src code arg cleared s).ev.stat src {}).signalled = (vget s.ev.stat src {}).signalled := by
  rcases Nat.lt_or_ge src 256 with h | h
  · rw [Ev.note_stat _ _ _ _ _ h]
  · simp only [Ev.note]
    split <;> simp [Ev.mark, Ev.append, vmod_of_le _ _ h]

/-- A logged source's entry stands at the log's end, with the next SEQ. -/
theorem Ev.note_entry (h : Ev.logs s.ev src = true) :
    (Ev.note src code arg cleared s).ev.nextSeq = s.ev.nextSeq + 1 ∧
      ∃ e, (Ev.note src code arg cleared s).ev.log.getLast? = some e ∧ e.seq = s.ev.nextSeq ∧ e.stamp = s.tb.now ∧
        e.source = BitVec.ofNat 16 src ∧ e.code = BitVec.ofNat 16 code ∧ e.arg = BitVec.ofNat 96 arg := by
  rw [Ev.note_of_logs _ _ _ _ _ h]
  exact ⟨rfl, _, List.getLast?_concat, rfl, rfl, rfl, rfl, rfl⟩

theorem Ev.note_unlogged (h : Ev.logs s.ev src = false) :
    (Ev.note src code arg cleared s).ev.log = s.ev.log ∧ (Ev.note src code arg cleared s).ev.nextSeq = s.ev.nextSeq := by
  rw [Ev.note_of_not_logs _ _ _ _ _ h]
  exact ⟨rfl, rfl⟩

end Note

/-! ## One record (R351) -/

/-- A source signals when MASK leaves it open and it is not SIGNALLED. -/
def Ev.signals (e : Events) (src : Nat) : Bool := !evMasked e src && !(vget e.stat src {}).signalled

theorem Ev.signals_of_masked {e : Events} {src : Nat} (h : evMasked e src = true) : Ev.signals e src = false := by
  rw [Ev.signals, h, Bool.not_true, Bool.false_and]

theorem Ev.signals_of_signalled {e : Events} {src : Nat} (h : (vget e.stat src {}).signalled = true) :
    Ev.signals e src = false := by
  rw [Ev.signals, h, Bool.not_true, Bool.and_false]

theorem Ev.signals_of_open {e : Events} {src : Nat} (unmasked : evMasked e src = false)
    (quiet : (vget e.stat src {}).signalled = false) : Ev.signals e src = true := by
  rw [Ev.signals, unmasked, quiet, Bool.not_false, Bool.and_self]

/-- Past MASK a source is SIGNALLED already or signals. -/
theorem Ev.signalled_or_signals {e : Events} {src : Nat} (unmasked : evMasked e src = false) :
    ((vget e.stat src {}).signalled || Ev.signals e src) = true := by
  rw [Ev.signals, unmasked, Bool.not_false, Bool.true_and, Bool.or_not_self]

section Record
variable (src code arg : Nat) (cleared : Bool) (s : State)

/-- A record is the note and then the signal, if any. -/
theorem Ev.recordOne_eq :
    Ev.recordOne src code arg cleared s =
      if Ev.signals s.ev src then Ev.signal src (Ev.note src code arg cleared s) else Ev.note src code arg cleared s := by
  rw [Ev.signals, ← Ev.note_signalled src code arg cleared s]
  rfl

/-- A record leaves the event unit as the note does, but for SIGNALLED of its source. -/
theorem Ev.recordOne_ev :
    (Ev.recordOne src code arg cleared s).ev =
      { (Ev.note src code arg cleared s).ev with
        stat := if Ev.signals s.ev src then
            vmod (Ev.note src code arg cleared s).ev.stat src (fun x => { x with signalled := true })
          else (Ev.note src code arg cleared s).ev.stat } := by
  rw [Ev.recordOne_eq]
  split
  · exact Ev.signal_ev _ _
  · rfl

@[simp] theorem Ev.recordOne_cfg : (Ev.recordOne src code arg cleared s).ev.cfg = s.ev.cfg := by
  rw [Ev.recordOne_ev, Ev.note_cfg]

@[simp] theorem Ev.recordOne_waits : (Ev.recordOne src code arg cleared s).ev.waits = s.ev.waits := by
  rw [Ev.recordOne_ev, Ev.note_waits]

@[simp] theorem Ev.recordOne_ringMem : (Ev.recordOne src code arg cleared s).ringMem = s.ringMem := by
  rw [Ev.recordOne_eq, Ev.note_evOnly]
  split
  · exact Ev.signal_ringMem _ _
  · rfl

/-- The source's status after a record: SIGNALLED where it was or where the record signals. -/
theorem Ev.recordOne_stat (h : src < 256) :
    vget (Ev.recordOne src code arg cleared s).ev.stat src {} =
      { pending := true, signalled := (vget s.ev.stat src {}).signalled || Ev.signals s.ev src
        count := min 65535 ((vget s.ev.stat src {}).count + 1)
        code := BitVec.ofNat 16 code, arg := BitVec.ofNat 96 arg
        seq := if Ev.logs s.ev src then s.ev.nextSeq else (vget s.ev.stat src {}).seq } := by
  rw [Ev.recordOne_ev]
  cases Ev.signals s.ev src with
  | true => rw [if_pos rfl, vget_vmod _ _ _ _ _ h, if_pos rfl, Ev.note_stat _ _ _ _ _ h, Bool.or_true]
  | false => rw [if_neg Bool.false_ne_true, Ev.note_stat _ _ _ _ _ h, Bool.or_false]

theorem Ev.recordOne_stat_other {other : Nat} (ne : other ≠ src) :
    vget (Ev.recordOne src code arg cleared s).ev.stat other {} = vget s.ev.stat other {} := by
  have note := Ev.note_stat_other src code arg cleared s ne
  rw [Ev.recordOne_ev]
  split
  · exact (vget_vmod_other _ _ _ _ _ ne).trans note
  · exact note

theorem Ev.recordOne_entry (h : Ev.logs s.ev src = true) :
    (Ev.recordOne src code arg cleared s).ev.nextSeq = s.ev.nextSeq + 1 ∧
      ∃ e, (Ev.recordOne src code arg cleared s).ev.log.getLast? = some e ∧ e.seq = s.ev.nextSeq ∧ e.stamp = s.tb.now ∧
        e.source = BitVec.ofNat 16 src ∧ e.code = BitVec.ofNat 16 code ∧ e.arg = BitVec.ofNat 96 arg := by
  rw [Ev.recordOne_ev]
  exact Ev.note_entry src code arg cleared s h

theorem Ev.recordOne_unlogged (h : Ev.logs s.ev src = false) :
    (Ev.recordOne src code arg cleared s).ev.log = s.ev.log ∧
      (Ev.recordOne src code arg cleared s).ev.nextSeq = s.ev.nextSeq := by
  rw [Ev.recordOne_ev]
  exact Ev.note_unlogged src code arg cleared s h

/-- A source that does not signal touches neither the hub nor host memory. -/
theorem Ev.recordOne_of_silent (h : Ev.signals s.ev src = false) :
    (Ev.recordOne src code arg cleared s).hub = s.hub ∧ (Ev.recordOne src code arg cleared s).hostMem = s.hostMem := by
  rw [Ev.recordOne_eq, if_neg (Bool.eq_false_iff.mp h), Ev.note_evOnly]
  exact ⟨rfl, rfl⟩

/-- A source that signals on MSI-X does to the hub and host memory what its vector does. -/
theorem Ev.recordOne_of_msix (h : Ev.signals s.ev src = true) (route : field (evCfg s.ev src) 13 13 = 0) :
    (Ev.recordOne src code arg cleared s).hub = (Msix.signal (field (evCfg s.ev src) 7 0) s).hub ∧
      (Ev.recordOne src code arg cleared s).hostMem = (Msix.signal (field (evCfg s.ev src) 7 0) s).hostMem := by
  have cfg : evCfg (Ev.note src code arg cleared s).ev src = evCfg s.ev src := by rw [evCfg, Ev.note_cfg, evCfg]
  obtain ⟨hub, host⟩ := Ev.signal_of_msix (cfg ▸ route)
  rw [Ev.recordOne_eq, if_pos h, hub, host, cfg, Ev.note_evOnly, Msix.signal_withEv]
  exact ⟨rfl, rfl⟩

/-! ## A raise with the LOG_WRAP it causes (R356) -/

/-- A record whose entry loses no unread one, or that has none, is all. -/
theorem Ev.record_of_keeps (h : Ev.wrapLoss s = none ∨ Ev.logs s.ev src = false) :
    Ev.record src code arg cleared s = Ev.recordOne src code arg cleared s := by
  have lost : (if Ev.logs s.ev src then Ev.wrapLoss s else none) = none := by
    rcases h with h | h <;> simp [h]
  exact congrArg (Ev.wrapCheck · _) lost

/-- A log entry that loses the first unread one is followed by the record of LOG_WRAP. -/
theorem Ev.record_of_loses {seq : Nat} (lost : Ev.wrapLoss s = some seq) (h : Ev.logs s.ev src = true) :
    Ev.record src code arg cleared s = Ev.recordOne 13 0 seq false
      { Ev.recordOne src code arg cleared s with
        ev := { (Ev.recordOne src code arg cleared s).ev with wrapRaised := true } } := by
  have lost' : (if Ev.logs s.ev src then Ev.wrapLoss s else none) = some seq := by rw [if_pos h, lost]
  exact congrArg (Ev.wrapCheck · _) lost'

/-- With no EVENT_WAIT in flight a raise that loses no unread entry is one record. -/
theorem Ev.raise_of_no_waits (waits : s.ev.waits = []) (h : Ev.wrapLoss s = none) :
    Ev.raise src code arg s = Ev.recordOne src code arg false s := by
  simp [Ev.raise, Ev.record_of_keeps _ _ _ _ _ (.inl h), waits, Ev.settle]

end Record

/-! ## Clearing MASK (R351) -/

theorem Ev.configure_of_unmasked_pending {src : Nat} {w : Word} {s : State} (h : src < 256)
    (unmasked : field w.toNat 14 14 = 0) (pending : (vget s.ev.stat src {}).pending = true)
    (quiet : (vget s.ev.stat src {}).signalled = false) :
    Ev.configure src w s = Ev.signal src { s with ev := { s.ev with cfg := vset s.ev.cfg src w } } := by
  have opened : evMasked { s.ev with cfg := vset s.ev.cfg src w } src = false := by
    simp [evMasked, evCfg, vget_vset _ _ _ _ h, unmasked]
  simp only [Ev.configure, opened, pending, quiet, Bool.not_false, Bool.and_self, if_true]

/-- Settles O60: a raise is its record, with that of LOG_WRAP where the entry loses one, and the end of the waits; a record
by the source's status after it, its log entry, and its signal where MASK leaves it open and it is not SIGNALLED. -/
theorem eventRaise : Obligations.EventRaise := by
  unfold Obligations.EventRaise
  refine ⟨?single, ?parts, ?record, ?unmask⟩
  case single => exact fun src code arg s => Ev.raise_of_no_waits src code arg s
  case parts =>
    intro src code arg s
    refine ⟨Ev.record src code arg false s, rfl, fun keeps => ?_, fun seq lost logged => ⟨_, rfl, ?_⟩⟩
    · exact Ev.record_of_keeps _ _ _ _ _ (keeps.imp_right (Ev.not_logs_iff _ _).mpr)
    · exact Ev.record_of_loses _ _ _ _ _ lost ((Ev.logs_iff _ _).mpr logged)
  case record =>
    rintro src code arg cleared s t h rfl
    have frame := Ev.recordOne_hubOnly src code arg cleared s
    rw [Ev.recordOne_stat _ _ _ _ _ h]
    refine ⟨rfl, rfl, rfl, rfl, Ev.recordOne_cfg _ _ _ _ _, frame.keeps State.pending fun _ _ _ _ _ => rfl,
      frame.keeps State.tb fun _ _ _ _ _ => rfl, frame.keeps State.tiles fun _ _ _ _ _ => rfl,
      frame.keeps State.pw fun _ _ _ _ _ => rfl, frame.keeps State.nv fun _ _ _ _ _ => rfl,
      Ev.recordOne_ringMem _ _ _ _ _, fun other ne _ => Ev.recordOne_stat_other _ _ _ _ _ ne,
      ?logged, ?unlogged, ?masked, ?unmasked, ?signals, ?signalled⟩
    case logged =>
      intro logged
      have logs := (Ev.logs_iff _ _).mpr logged
      obtain ⟨seq, entry⟩ := Ev.recordOne_entry src code arg cleared s logs
      exact ⟨seq, if_pos logs, entry⟩
    case unlogged =>
      exact fun optional off => Ev.recordOne_unlogged _ _ _ _ _ ((Ev.not_logs_iff _ _).mpr ⟨optional, off⟩)
    case masked =>
      exact fun masked => ⟨by rw [Ev.signals_of_masked masked, Bool.or_false],
        Ev.recordOne_of_silent _ _ _ _ _ (Ev.signals_of_masked masked)⟩
    case unmasked => exact fun unmasked _ => Ev.signalled_or_signals unmasked
    case signals =>
      exact fun unmasked quiet route =>
        ⟨Ev.signalled_or_signals unmasked,
          Ev.recordOne_of_msix _ _ _ _ _ (Ev.signals_of_open unmasked quiet) route⟩
    case signalled =>
      exact fun already => ⟨by rw [already, Bool.true_or],
        Ev.recordOne_of_silent _ _ _ _ _ (Ev.signals_of_signalled already)⟩
  case unmask =>
    exact fun src w s h unmasked pending quiet => Ev.configure_of_unmasked_pending h unmasked pending quiet

end Sys2Proof.Machine
end

section
/-!
One step: the command at the front of the queue, the state right after reset, and the one stop. Settles O1, O2 and O11.
-/

namespace Sys2Proof.Machine

/-- Settles O1: with a command in front, `step` is `exec` on the rest. -/
theorem stepRunsFront : Obligations.StepRunsFront := by
  unfold Obligations.StepRunsFront
  exact fun _ _ _ => rfl

theorem vget_ofFn {β : Type} {n : Nat} (f : Fin n → β) (i : Nat) (d : β) (h : i < n) : vget (Vector.ofFn f) i d = f ⟨i, h⟩ := by
  simp [vget, h]

theorem vget_replicate {β : Type} {n : Nat} (x : β) (i : Nat) (d : β) (h : i < n) : vget (Vector.replicate n x) i d = x := by
  simp [vget, h]

/-- A memory with nothing listed reads 0. -/
theorem State.reset_readMem (sp : Space) (a : Nat) : State.reset.readMem sp a 1 = [0] := by cases sp <;> rfl

/-- Settles O2: every register by its reset value, the event sources by their number. -/
theorem resetState : Obligations.ResetState := by
  unfold Obligations.ResetState
  refine ⟨rfl, rfl, rfl, rfl, rfl, rfl, rfl, rfl, fun i hi => ⟨?cfg, ?quiet⟩, fun t ht => ?off, rfl, rfl, rfl, State.reset_readMem⟩
  case cfg =>
    simp only [evCfg, State.reset, vget_ofFn _ _ _ hi, BitVec.toNat_add, BitVec.toNat_ofNat]
    omega
  case quiet => simp only [State.reset, vget_replicate _ _ _ hi]
  case off =>
    simp only [State.tileOn, State.reset, vget_replicate _ _ _ ht]
    rfl

/-- A command other than POR_RELEASE, or with the rails in order, has a next state. -/
theorem exec_next_or_rails (c : Instr) (s : State) :
    (∃ t, exec c s = .next t) ∨ ∃ m, c = .porRelease m false ∧ exec c s = .fault .railsOutOfOrder := by
  cases c
  case porRelease m inOrder =>
    by_cases released : (awaitsPor s && railsReady m s.pw.pfailMv) = true
    · cases inOrder with
      | false => exact .inr ⟨m, rfl, if_pos released⟩
      | true => exact .inl ⟨_, if_pos released⟩
    · exact .inl ⟨s, if_neg released⟩
  all_goals exact .inl ⟨_, rfl⟩

/-- Settles O11: an empty queue idles, and of the commands POR_RELEASE with its rails out of order alone stops. -/
theorem stepsGoOn : Obligations.StepsGoOn := by
  unfold Obligations.StepsGoOn
  intro s
  match h : s.pending with
  | [] => exact .inl ⟨idleTick s, by rw [step, h]⟩
  | c :: rest =>
    have front : step s = exec c { s with pending := rest } := by rw [step, h]
    rcases exec_next_or_rails c { s with pending := rest } with ⟨t, next⟩ | ⟨m, rfl, stop⟩
    · exact .inl ⟨t, front.trans next⟩
    · exact .inr ⟨m, rest, rfl, front.trans stop⟩

end Sys2Proof.Machine
end

section
/-!
The canonical form of the memories (log 4), operation by operation in the model's order: each operation that reaches host
memory, ring memory or the non-volatile array leaves them canonical, and so does every command. Settles O10.
-/

namespace Sys2Proof.Machine

/-! ### Shapes that operations share -/

theorem State.ite_wf {c : Prop} [Decidable c] {a b : State} (ha : a.memWf = true) (hb : b.memWf = true) :
    (if c then a else b).memWf = true := by
  split
  · exact ha
  · exact hb

theorem State.foldl_wf {α : Type} {f : State → α → State} {l : List α} {s : State}
    (hf : ∀ t x, t.memWf = true → (f t x).memWf = true) (h : s.memWf = true) : (l.foldl f s).memWf = true :=
  List.foldlRecOn (motive := fun t : State => t.memWf = true) l f h (fun t ht x _ => hf t x ht)

theorem whenever_wf {c : Bool} {f : State → State} {s : State} (hf : ∀ t, t.memWf = true → (f t).memWf = true)
    (h : s.memWf = true) : (whenever c f s).memWf = true :=
  State.ite_wf (hf s h) h

theorem ticks_wf (n : Nat) (s : State) (h : s.memWf = true) : (ticks n s).memWf = true := (ticks_timeOnly n s).memWf h

theorem untilElapsed_wf (e : Nat) (s : State) (h : s.memWf = true) : (untilElapsed e s).memWf = true :=
  (untilElapsed_timeOnly e s).memWf h

theorem untilTb_wf (n : Nat) (s : State) (h : s.memWf = true) : (untilTb n s).memWf = true := (untilTb_timeOnly n s).memWf h

/-- Wherever a command ends, the memories are canonical. -/
def StaysWf (o : Host.Outcome State Fault Refusal) : Prop := ∀ t, o = .next t → t.memWf = true

theorem StaysWf.next {t : State} (h : t.memWf = true) : StaysWf (.next t) := by
  rintro _ ⟨⟩
  exact h


theorem State.memWf_iff {s : State} :
    s.memWf = true ↔ (Memory.wf s.hostMem = true ∧ Memory.wf s.ringMem = true) ∧ Memory.wf s.nv.cells = true := by
  simp only [State.memWf, Bool.and_eq_true]

/-- Cells written to the non-volatile array leave it canonical. -/
theorem State.withCells_wf {s : State} {a : Nat} (l : List Byte) (h : s.memWf = true) :
    ({ s with nv := { s.nv with cells := memWrite s.nv.cells a l } } : State).memWf = true := by
  obtain ⟨⟨host, ring⟩, cells⟩ := State.memWf_iff.mp h
  exact State.memWf_iff.mpr ⟨⟨host, ring⟩, memWrite_wf l _ a cells⟩

/-- Single bytes written one after the other leave a memory canonical. -/
theorem memSets_wf {α : Type} (at_ : α → Nat) (byte : α → Byte) (l : List α) : ∀ m : List Host.Cell, Memory.wf m = true →
    Memory.wf (l.foldl (fun m x => memSet m (at_ x) (byte x)) m) = true := by
  induction l with
  | nil => exact fun _ h => h
  | cons x l ih => exact fun m h => ih _ (memSet_wf m (at_ x) (byte x) h)

theorem State.withRing_wf {s : State} {m : List Host.Cell} (hm : Memory.wf m = true) (h : s.memWf = true) :
    ({ s with ringMem := m } : State).memWf = true := by
  obtain ⟨⟨host, -⟩, cells⟩ := State.memWf_iff.mp h
  exact State.memWf_iff.mpr ⟨⟨host, hm⟩, cells⟩

theorem State.withHost_wf {s : State} {m : List Host.Cell} (hm : Memory.wf m = true) (h : s.memWf = true) :
    ({ s with hostMem := m } : State).memWf = true := by
  obtain ⟨⟨-, ring⟩, cells⟩ := State.memWf_iff.mp h
  exact State.memWf_iff.mpr ⟨⟨hm, ring⟩, cells⟩

theorem State.modTile_wf {t : Nat} {f : Tile → Tile} {s : State} (h : s.memWf = true) : (s.modTile t f).memWf = true := h

theorem State.modBus_wf {k : Nat} {f : Bus → Bus} {s : State} (h : s.memWf = true) : (s.modBus k f).memWf = true := h

theorem State.modDrive_wf {t i : Nat} {f : Drive → Drive} {s : State} (h : s.memWf = true) :
    (s.modDrive t i f).memWf = true := h

theorem State.modAo_wf {t i : Nat} {f : Ao → Ao} {s : State} (h : s.memWf = true) : (s.modAo t i f).memWf = true := h

theorem State.modFan_wf {t i : Nat} {f : Fan → Fan} {s : State} (h : s.memWf = true) :
    (s.modFan t i f).memWf = true := h

theorem State.modHead_wf {k : Nat} {f : Head → Head} {s : State} (h : s.memWf = true) : (s.modHead k f).memWf = true := h

theorem State.modNode_wf {k n : Nat} {f : Node → Node} {s : State} (h : s.memWf = true) :
    (s.modNode k n f).memWf = true := h

theorem State.withMt_wf {m : Metering} {s : State} (h : s.memWf = true) : ({ s with mt := m } : State).memWf = true := h
theorem State.withTb_wf {t : TimeBase} {s : State} (h : s.memWf = true) : ({ s with tb := t } : State).memWf = true := h
theorem State.withPw_wf {p : Power} {s : State} (h : s.memWf = true) : ({ s with pw := p } : State).memWf = true := h
theorem State.withFed_wf {f : Fed} {s : State} (h : s.memWf = true) : ({ s with fed := f } : State).memWf = true := h

/-! ### Signals and replies -/

theorem Msix.send_wf (v : Nat) (s : State) (h : s.memWf = true) : (Msix.send v s).memWf = true :=
  State.writeMem_wf _ _ _ _ h

theorem Msix.flush_wf (s : State) (h : s.memWf = true) : (Msix.flush s).memWf = true :=
  State.ite_wf (State.foldl_wf (fun _ _ hx => State.ite_wf (Msix.send_wf _ _ hx) hx) h) h

theorem Ev.wrapCheck_wf (lost : Option Nat) (s : State) (h : s.memWf = true) : (Ev.wrapCheck lost s).memWf = true := by
  unfold Ev.wrapCheck
  dsimp only
  split
  · exact Ev.recordOne_wf _ _ _ _ _ h
  exact h

theorem Msix.satisfied_wf (s : State) (h : s.memWf = true) : (Msix.satisfied s).memWf = true := State.ite_wf h h

theorem Cmd.finalBad_wf (k : Key) (reason : Nat) (s : State) (h : s.memWf = true) :
    (Cmd.finalBad k reason s).memWf = true :=
  Cmd.final_wf _ _ _ _ h


/-! ### Federation: records queued -/

theorem Fed.queue_wf (chip : Nat) (what : Sent) (s : State) (h : s.memWf = true) : (Fed.queue chip what s).memWf = true :=
  State.ite_wf h h

theorem Fed.queueUpdate_wf (chip id : Nat) (sweep : Bool) (s : State) (h : s.memWf = true) :
    (Fed.queueUpdate chip id sweep s).memWf = true :=
  Fed.queue_wf _ _ _ h

theorem Fed.updates_wf (id : Nat) (s : State) (h : s.memWf = true) : (Fed.updates id s).memWf = true :=
  State.ite_wf h (State.foldl_wf (fun _ _ hx => Fed.queueUpdate_wf _ _ _ _ hx) h)

theorem Fed.withdraw_wf (y : Nat × Nat) (s : State) (h : s.memWf = true) : (Fed.withdraw y s).memWf = true :=
  Fed.queue_wf _ _ _ h

/-! ### Time -/

theorem idleTick_wf (s : State) (h : s.memWf = true) : (idleTick s).memWf = true := ticks_wf _ _ h

/-! ### Events and the log -/

theorem Ev.configure_wf (src : Nat) (w : Word) (s : State) (h : s.memWf = true) : (Ev.configure src w s).memWf = true :=
  State.ite_wf (Ev.signal_wf _ _ h) h

theorem bodyEventConfig_wf (pk : Packet) (k : Key) (s : State) (u : State) (hu : u.memWf = true) (h : s.memWf = true) :
    ((bodyEventConfig pk k s).stateOr u).memWf = true := by
  unfold bodyEventConfig
  dsimp only
  iterate 2 (split; exact hu)
  exact State.foldl_wf (fun _ _ hx => Ev.configure_wf _ _ _ hx) h

theorem bodyEventRead_wf (pk : Packet) (k : Key) (s : State) (u : State) (hu : u.memWf = true) (h : s.memWf = true) :
    ((bodyEventRead pk k s).stateOr u).memWf = true := by
  unfold bodyEventRead
  dsimp only
  split
  · exact hu
  exact h

theorem bodyEventPending_wf (pk : Packet) (k : Key) (s : State) (u : State) (hu : u.memWf = true) (h : s.memWf = true) :
    ((bodyEventPending pk k s).stateOr u).memWf = true := by
  unfold bodyEventPending
  dsimp only
  split
  · exact hu
  exact h

theorem bodyEventDetail_wf (pk : Packet) (k : Key) (s : State) (u : State) (_hu : u.memWf = true) (h : s.memWf = true) :
    ((bodyEventDetail pk k s).stateOr u).memWf = true :=
  h

theorem bodyEventAck_wf (pk : Packet) (k : Key) (s : State) (u : State) (hu : u.memWf = true) (h : s.memWf = true) :
    ((bodyEventAck pk k s).stateOr u).memWf = true := by
  unfold bodyEventAck
  dsimp only
  split
  · exact hu
  exact Msix.satisfied_wf _ (State.foldl_wf (fun _ _ hx => State.ite_wf hx hx) h)

theorem bodyEventWait_wf (pk : Packet) (k : Key) (s : State) (u : State) (hu : u.memWf = true) (h : s.memWf = true) :
    ((bodyEventWait pk k s).stateOr u).memWf = true := by
  unfold bodyEventWait
  dsimp only
  split
  · exact hu
  exact h

theorem execEventWaitTimeout_wf (q tag : Nat) (s : State) (h : s.memWf = true) :
    StaysWf (execEventWaitTimeout q tag s) := by
  unfold execEventWaitTimeout
  refine StaysWf.next ?_
  dsimp only
  split
  · exact Cmd.final_wf _ _ _ _ (untilElapsed_wf _ _ h)
  exact h

theorem bodyLogRead_wf (pk : Packet) (k : Key) (s : State) (u : State) (hu : u.memWf = true) (h : s.memWf = true) :
    ((bodyLogRead pk k s).stateOr u).memWf = true := by
  unfold bodyLogRead
  dsimp only
  iterate 2 (split; exact hu)
  exact State.writeMem_wf _ _ _ _ (State.ite_wf h h)

theorem bodyLogMark_wf (pk : Packet) (k : Key) (s : State) (u : State) (_hu : u.memWf = true) (h : s.memWf = true) :
    ((bodyLogMark pk k s).stateOr u).memWf = true :=
  Ev.wrapCheck_wf _ _ h

theorem bodyLogClear_wf (pk : Packet) (k : Key) (s : State) (u : State) (_hu : u.memWf = true) (h : s.memWf = true) :
    ((bodyLogClear pk k s).stateOr u).memWf = true :=
  h

/-! ### The non-volatile store -/

theorem Nv.submit_wf (k : Key) (ctx : Nat) (c : CommitKind) (s : State) (u : State) (hu : u.memWf = true)
    (h : s.memWf = true) :
    ((Nv.submit k ctx c s).stateOr u).memWf = true := by
  unfold Nv.submit
  iterate 2 (split; exact hu)
  exact h

theorem Nv.region_wf (pk : Packet) (s : State) {u : State} {f : Nat → Verdict} (hf : ∀ k, ((f k).stateOr u).memWf = true)
    (hu : u.memWf = true) : ((Nv.region pk s f).stateOr u).memWf = true := by
  unfold Nv.region
  dsimp only
  split
  · exact hu
  split
  · exact hu
  exact hf _

theorem nvCopy_wf (r off len : Nat) (sp : Space) (dest : Nat) (s : State) (h : s.memWf = true) :
    (nvCopy r off len sp dest s).memWf = true :=
  State.writeMem_wf _ _ _ _ h

theorem Nv.serve_wf (s : State) (h : s.memWf = true) : (Nv.serve s).memWf = true :=
  State.foldl_wf (fun _ _ hx => Cmd.final_wf _ _ _ _ (nvCopy_wf _ _ _ _ _ _ hx)) h

theorem bodyNvRead_wf (pk : Packet) (k : Key) (s : State) (u : State) (hu : u.memWf = true) (h : s.memWf = true) :
    ((bodyNvRead pk k s).stateOr u).memWf = true := by
  unfold bodyNvRead
  refine Nv.region_wf _ _ (fun _ => ?_) hu
  dsimp only
  iterate 2 (split; exact hu)
  split
  · exact nvCopy_wf _ _ _ _ _ _ h
  exact h

theorem bodyNvWrite_wf (pk : Packet) (k : Key) (s : State) (u : State) (hu : u.memWf = true) (h : s.memWf = true) :
    ((bodyNvWrite pk k s).stateOr u).memWf = true := by
  unfold bodyNvWrite
  refine Nv.region_wf _ _ (fun _ => ?_) hu
  iterate 2 (split; exact hu)
  exact Nv.submit_wf _ _ _ _ _ hu h

theorem bodyNvStatus_wf (pk : Packet) (k : Key) (s : State) (u : State) (hu : u.memWf = true) (h : s.memWf = true) :
    ((bodyNvStatus pk k s).stateOr u).memWf = true := by
  unfold bodyNvStatus
  dsimp only
  split
  · exact hu
  exact h

theorem bodyNvBp_wf (pk : Packet) (k : Key) (s : State) (u : State) (hu : u.memWf = true) (h : s.memWf = true) :
    ((bodyNvBp pk k s).stateOr u).memWf = true := by
  unfold bodyNvBp
  split
  · exact hu
  exact Nv.submit_wf _ _ _ _ _ hu h

theorem bodyNvClear_wf (pk : Packet) (k : Key) (s : State) (u : State) (hu : u.memWf = true) (h : s.memWf = true) :
    ((bodyNvClear pk k s).stateOr u).memWf = true :=
  Nv.region_wf _ _ (fun _ => Nv.submit_wf _ _ _ _ _ hu h) hu

theorem bodyNvHoldup_wf (pk : Packet) (k : Key) (s : State) (u : State) (hu : u.memWf = true) (h : s.memWf = true) :
    ((bodyNvHoldup pk k s).stateOr u).memWf = true := by
  unfold bodyNvHoldup
  dsimp only
  split
  · exact hu
  exact Nv.submit_wf _ _ _ _ _ hu h

theorem wrongPassword_wf (r : Nat) (s : State) (h : s.memWf = true) : (wrongPassword r s).memWf = true :=
  State.ite_wf (Ev.raise_wf _ _ _ _ h) h

theorem bodyNvUnlock_wf (pk : Packet) (k : Key) (s : State) (u : State) (hu : u.memWf = true) (h : s.memWf = true) :
    ((bodyNvUnlock pk k s).stateOr u).memWf = true := by
  unfold bodyNvUnlock
  refine Nv.region_wf _ _ (fun _ => ?_) hu
  dsimp only
  split
  · exact hu
  split
  · exact h
  exact wrongPassword_wf _ _ h

theorem bodyNvLock_wf (pk : Packet) (k : Key) (s : State) (u : State) (hu : u.memWf = true) (h : s.memWf = true) :
    ((bodyNvLock pk k s).stateOr u).memWf = true :=
  Nv.region_wf _ _ (fun _ => h) hu

theorem bodyNvPassword_wf (pk : Packet) (k : Key) (s : State) (u : State) (hu : u.memWf = true) (h : s.memWf = true) :
    ((bodyNvPassword pk k s).stateOr u).memWf = true := by
  unfold bodyNvPassword
  refine Nv.region_wf _ _ (fun _ => ?_) hu
  iterate 2 (split; exact hu)
  exact Nv.submit_wf _ _ _ _ _ hu h

/-! ### Sessions, pairs and tenants -/

theorem Ring.delete_wf (q : Nat) (s : State) (h : s.memWf = true) : (Ring.delete q s).memWf = true := by
  unfold Ring.delete
  dsimp only
  split
  · exact State.ite_wf (State.foldl_wf (fun _ _ hx => Cmd.free_wf _ _ hx) h) (State.foldl_wf
      (fun _ _ hx => Cmd.free_wf _ _ hx) h)
  exact h

theorem Tariff.dropJob_wf (c : Commit) (s : State) (h : s.memWf = true) : (Tariff.dropJob c s).memWf = true :=
  State.ite_wf h h

theorem Nv.dropQueued_wf (c : Nat) (s : State) (h : s.memWf = true) : (Nv.dropQueued c s).memWf = true :=
  Nv.serve_wf _ (State.foldl_wf (fun _ _ hx => Cmd.free_wf _ _ hx) (State.foldl_wf
      (fun _ _ hx => Tariff.dropJob_wf _ _ hx) h))

theorem closeSession_wf (c : Nat) (s : State) (h : s.memWf = true) : (closeSession c s).memWf = true := by
  unfold closeSession
  refine State.ite_wf ?_ h
  extract_lets dropped deleted staged
  have hDeleted : deleted.memWf = true := State.foldl_wf (fun t q ht => Ring.delete_wf q t ht) (Nv.dropQueued_wf c s h)
  clear_value deleted
  have hStaged : staged.memWf = true := State.ite_wf hDeleted hDeleted
  clear_value staged
  exact hStaged

theorem bodySessionOpen_wf (pk : Packet) (k : Key) (s : State) (u : State) (hu : u.memWf = true) (h : s.memWf = true) :
    ((bodySessionOpen pk k s).stateOr u).memWf = true := by
  unfold bodySessionOpen
  dsimp only
  iterate 3 (split; exact hu)
  exact h

theorem failedProof_wf (t : Nat) (s : State) (h : s.memWf = true) : (failedProof t s).memWf = true :=
  State.ite_wf (Ev.raise_wf _ _ _ _ h) h

theorem bodySessionProve_wf (pk : Packet) (k : Key) (s : State) (u : State) (hu : u.memWf = true) (h : s.memWf = true) :
    ((bodySessionProve pk k s).stateOr u).memWf = true := by
  unfold bodySessionProve
  dsimp only
  split
  · exact h
  iterate 2 (split; exact hu)
  split
  · exact h
  iterate 2 (split; exact failedProof_wf _ _ h)
  split
  · exact h
  exact h

theorem execNonceLapse_wf (tenant : Nat) (s : State) (h : s.memWf = true) : StaysWf (execNonceLapse tenant s) := by
  unfold execNonceLapse
  refine StaysWf.next ?_
  split
  · exact untilElapsed_wf _ _ h
  exact h

theorem execAuthLockoutEnd_wf (tenant : Nat) (s : State) (h : s.memWf = true) :
    StaysWf (execAuthLockoutEnd tenant s) := by
  unfold execAuthLockoutEnd
  refine StaysWf.next ?_
  dsimp only
  split
  · exact untilElapsed_wf _ _ h
  exact h

theorem bodySessionClose_wf (pk : Packet) (k : Key) (s : State) (u : State) (hu : u.memWf = true) (h : s.memWf = true) :
    ((bodySessionClose pk k s).stateOr u).memWf = true := by
  unfold bodySessionClose
  dsimp only
  split
  · split
    · exact hu
    split
    · exact hu
    exact closeSession_wf _ _ h
  iterate 2 (split; exact hu)
  exact closeSession_wf _ _ h

theorem bodyQueueCreate_wf (pk : Packet) (k : Key) (s : State) (u : State) (hu : u.memWf = true) (h : s.memWf = true) :
    ((bodyQueueCreate pk k s).stateOr u).memWf = true := by
  unfold bodyQueueCreate
  dsimp only
  iterate 3 (split; exact hu)
  exact h

theorem bodyQueueDelete_wf (pk : Packet) (k : Key) (s : State) (u : State) (hu : u.memWf = true) (h : s.memWf = true) :
    ((bodyQueueDelete pk k s).stateOr u).memWf = true := by
  unfold bodyQueueDelete
  dsimp only
  iterate 3 (split; exact hu)
  exact Ring.delete_wf _ _ h

theorem bodyClientInstall_wf (pk : Packet) (k : Key) (s : State) (u : State) (hu : u.memWf = true) (h : s.memWf = true) :
    ((bodyClientInstall pk k s).stateOr u).memWf = true := by
  unfold bodyClientInstall
  dsimp only
  split
  · exact hu
  exact Nv.submit_wf _ _ _ _ _ hu h

theorem bodyClientRights_wf (pk : Packet) (k : Key) (s : State) (u : State) (hu : u.memWf = true) (h : s.memWf = true) :
    ((bodyClientRights pk k s).stateOr u).memWf = true := by
  unfold bodyClientRights
  dsimp only
  iterate 2 (split; exact hu)
  exact Nv.submit_wf _ _ _ _ _ hu h

theorem bodyClientRemove_wf (pk : Packet) (k : Key) (s : State) (u : State) (hu : u.memWf = true) (h : s.memWf = true) :
    ((bodyClientRemove pk k s).stateOr u).memWf = true := by
  unfold bodyClientRemove
  dsimp only
  iterate 2 (split; exact hu)
  exact Nv.submit_wf _ _ _ _ _ hu h

/-! ### Rings -/

theorem Setup.arm_wf (s : State) (h : s.memWf = true) : (Setup.arm s).memWf = true := by
  unfold Setup.arm
  refine State.ite_wf h ?_
  dsimp only
  split
  · exact h
  exact h

theorem execSetupArm_wf (s : State) (h : s.memWf = true) : StaysWf (execSetupArm s) := StaysWf.next (Setup.arm_wf _ h)

theorem Setup.disarm_wf (s : State) (h : s.memWf = true) : (Setup.disarm s).memWf = true :=
  State.foldl_wf (fun _ _ hx => Ring.delete_wf _ _ hx) (State.foldl_wf (fun _ _ hx => closeSession_wf _ _ hx) h)

theorem execSetupDisarm_wf (s : State) (h : s.memWf = true) : StaysWf (execSetupDisarm s) :=
  StaysWf.next (Setup.disarm_wf _ h)

theorem execHostFlr_wf (s : State) (h : s.memWf = true) : StaysWf (execHostFlr s) := StaysWf.next (Setup.disarm_wf _ h)

theorem execDisarmComplete_wf (s : State) (h : s.memWf = true) : StaysWf (execDisarmComplete s) :=
  StaysWf.next (whenever_wf (fun _ hx => hx) h)

theorem badDoorbell_wf (q : Nat) (value : Word) (s : State) (h : s.memWf = true) : (badDoorbell q value s).memWf = true :=
  Ev.raise_wf _ _ _ _ h

theorem Ring.doorbell_wf (q : Nat) (value : Word) (s : State) (h : s.memWf = true) :
    (Ring.doorbell q value s).memWf = true := by
  unfold Ring.doorbell
  refine State.ite_wf h ?_
  dsimp only
  split
  · exact badDoorbell_wf _ _ _ h
  exact State.ite_wf (badDoorbell_wf _ _ _ h) (State.ite_wf (Power.wake_wf _ _ _ (Ring.fetchAll_wf _
      (Msix.satisfied_wf _ h))) (Ring.fetchAll_wf _ (Msix.satisfied_wf _ h)))

theorem execFetchResume_wf (s : State) (h : s.memWf = true) : StaysWf (execFetchResume s) :=
  StaysWf.next (Ring.fetchAll_wf _ h)

theorem Ring.offerBad_wf (q index : Nat) (head : Word) (s : State) (h : s.memWf = true) :
    (Ring.offerBad q index head s).memWf = true := by
  unfold Ring.offerBad
  dsimp only
  split
  · refine State.ite_wf ?_ h
    split
    · exact State.ite_wf (Ring.fetchOne_wf _ _ h) h
    exact h
  exact h

theorem execPacketCrcFail_wf (q index : Nat) (head : Word) (s : State) (h : s.memWf = true) :
    StaysWf (execPacketCrcFail q index head s) := by
  unfold execPacketCrcFail
  refine StaysWf.next ?_
  refine State.ite_wf h ?_
  dsimp only
  exact State.ite_wf (Ev.settle_wf _ _ (Ring.reply_wf _ _ _ (Ring.offerBad_wf _ _ _ _ h))) (Ring.offerBad_wf _ _ _ _ h)

theorem execCoalesceTimeout_wf (q : Nat) (s : State) (h : s.memWf = true) : StaysWf (execCoalesceTimeout q s) := by
  unfold execCoalesceTimeout
  refine StaysWf.next ?_
  split
  · exact State.ite_wf (Ring.signal_wf _ _ (untilElapsed_wf _ _ h)) h
  exact h

theorem Ring.writeHeld_wf (q n : Nat) : ∀ s : State, s.memWf = true → (Ring.writeHeld q n s).memWf = true := by
  induction n with
  | zero => exact fun _ h => h
  | succ n ih =>
    intro s h
    unfold Ring.writeHeld
    split
    · split
      · exact State.ite_wf h (ih _ (Ring.post_wf _ _ _ h))
      · exact h
    · exact h

theorem execHeldReplyWrite_wf (q : Nat) (s : State) (h : s.memWf = true) : StaysWf (execHeldReplyWrite q s) := by
  unfold execHeldReplyWrite
  refine StaysWf.next ?_
  split
  · exact Ring.fetchAll_wf _ (Ring.writeHeld_wf _ _ _ h)
  exact h

theorem execPairFreed_wf (q : Nat) (s : State) (h : s.memWf = true) : StaysWf (execPairFreed q s) := by
  unfold execPairFreed
  refine StaysWf.next ?_
  dsimp only
  split
  · exact State.ite_wf h h
  exact h

theorem bodyWindowAccess_wf (pk : Packet) (k : Key) (s : State) (u : State) (hu : u.memWf = true) (h : s.memWf = true) :
    ((bodyWindowAccess pk k s).stateOr u).memWf = true := by
  unfold bodyWindowAccess
  dsimp only
  split
  · exact hu
  exact h

/-! ### Building bus: links -/

theorem Bus.raise_wf (k n node : Nat) (s : State) (h : s.memWf = true) : (Bus.raise k n node s).memWf = true :=
  State.ite_wf h (Ev.raise_wf _ _ _ _ h)

theorem Bus.send_wf (k cls dest : Nat) (link : Option Nat) (data : List Byte) (s : State) (h : s.memWf = true) :
    (Bus.send k cls dest link data s).memWf = true :=
  State.ite_wf (State.foldl_wf (fun _ _ hx => hx) h) h

theorem Bus.beacon_wf (k : Nat) (s : State) (h : s.memWf = true) : (Bus.beacon k s).memWf = true :=
  Bus.send_wf _ _ _ _ _ _ h

theorem Bus.linkFrame_wf (k i : Nat) (l : BusLink) (value : Word) (s : State) (h : s.memWf = true) :
    (Bus.linkFrame k i l value s).memWf = true :=
  Bus.send_wf _ _ _ _ _ _ h

theorem Bus.linkWrite_wf (k i : Nat) (value : Word) (s : State) (h : s.memWf = true) :
    (Bus.linkWrite k i value s).memWf = true := by
  unfold Bus.linkWrite
  dsimp only
  split
  · exact Bus.linkFrame_wf _ _ _ _ _ h
  exact h

/-! ### Calibration items -/

theorem Cal.apply_wf (key : Nat) (s : State) (h : s.memWf = true) : (Cal.apply key s).memWf = true := by
  unfold Cal.apply
  refine State.ite_wf h ?_
  split
  · exact h
  exact h

theorem Cal.applyBoth_wf (key : Nat) (s : State) (h : s.memWf = true) : (Cal.applyBoth key s).memWf = true :=
  State.ite_wf (Cal.apply_wf _ _ h) h

theorem Cal.pass_wf (key : Nat) (gone : BitVec 2) (s : State) (h : s.memWf = true) :
    (Cal.pass key gone s).memWf = true := by
  unfold Cal.pass
  split
  · exact Cal.applyBoth_wf _ _ h
  exact h

theorem Cal.cycleEnd_wf (t c : Nat) (s : State) (h : s.memWf = true) : (Cal.cycleEnd t c s).memWf = true :=
  State.ite_wf h (Cal.pass_wf _ _ _ (Cal.pass_wf _ _ _ (Cal.apply_wf _ _ h)))

theorem Cal.takeStopped_wf (kind index : Nat) (s : State) (h : s.memWf = true) :
    (Cal.takeStopped kind index s).memWf = true :=
  State.ite_wf (State.ite_wf h (Cal.apply_wf _ _ h)) (State.ite_wf (Cal.pass_wf _ _ _ h) h)

theorem Cal.setPending_wf (kind index : Nat) (v : CalVal) (s : State) (h : s.memWf = true) :
    (Cal.setPending kind index v s).memWf = true :=
  Cal.takeStopped_wf _ _ _ h

theorem Cal.loseTile_wf (t : Nat) (s : State) (h : s.memWf = true) : (Cal.loseTile t s).memWf = true := h

/-! ### Glow widgets -/

theorem Panel.redraw_wf (h : Nat) (s : State) (hs : s.memWf = true) : (Panel.redraw h s).memWf = true :=
  State.ite_wf hs hs

theorem Panel.forget_wf (id : Nat) (s : State) (h : s.memWf = true) : (Panel.forget id s).memWf = true :=
  State.foldl_wf (fun _ _ hx => State.ite_wf hx hx) h

theorem Panel.faultLatch_wf (id : Nat) (s : State) (h : s.memWf = true) : (Panel.faultLatch id s).memWf = true :=
  State.foldl_wf (fun _ _ hx => State.ite_wf hx hx) h

theorem Panel.latch_wf (id : Nat) (p : Point) (s : State) (h : s.memWf = true) : (Panel.latch id p s).memWf = true :=
  State.ite_wf h (State.foldl_wf (fun _ _ hx => State.ite_wf hx hx) h)

/-! ### Point records -/

theorem Point.load_wf (id : Nat) (p : Point) (s : State) (h : s.memWf = true) : (Point.load id p s).2.memWf = true := by
  unfold Point.load
  dsimp only
  split
  · dsimp only
    exact h
  split
  · exact h
  dsimp only
  exact Panel.faultLatch_wf _ _ (Ev.raise_wf _ _ _ _ h)

theorem Point.loadAt_wf (id : Nat) (s : State) (h : s.memWf = true) : (Point.loadAt id s).2.memWf = true := by
  unfold Point.loadAt
  split
  · exact Point.load_wf _ _ _ h
  exact h

theorem Points.load_wf (ids : List Nat) (s : State) (h : s.memWf = true) : (Points.load ids s).2.memWf = true :=
  List.foldlRecOn (motive := fun a : Bool × State => a.2.memWf = true) ids _ (b := (true, s)) h
    (fun a ha id _ => Point.loadAt_wf id a.2 ha)

theorem onRecords_wf (ids : List Nat) {before s u : State} {f : State → Verdict}
    (hf : ∀ x, x.memWf = true → ((f x).stateOr u).memWf = true) (hb : before.memWf = true) (h : s.memWf = true) :
    ((onRecords ids before s f).stateOr u).memWf = true := by
  unfold onRecords
  dsimp only
  split
  · exact hf _ (Points.load_wf ids s h)
  · exact Points.load_wf ids before hb

theorem Point.check_wf (id : Nat) (s : State) (h : s.memWf = true) : (Point.check id s).memWf = true := by
  unfold Point.check
  split
  · exact State.ite_wf h (Point.load_wf _ _ _ h)
  exact h

theorem Point.endWatches_wf (id why : Nat) (p : Point) (s : State) (h : s.memWf = true) :
    (Point.endWatches id why p s).memWf = true :=
  State.foldl_wf (fun _ _ hx => Cmd.final_wf _ _ _ _ hx) h

theorem Point.notify_wf (id : Nat) (p : Point) (s : State) (h : s.memWf = true) : (Point.notify id p s).memWf = true :=
  State.foldl_wf (fun _ _ hx => Bus.linkWrite_wf _ _ _ _ hx) (Panel.latch_wf _ _ _ (Fed.updates_wf _ _
      (Point.endWatches_wf _ _ _ _ h)))

theorem Point.store_wf (id : Nat) (old : Word) (p : Point) (s : State) (h : s.memWf = true) :
    (Point.store id old p s).memWf = true := by
  unfold Point.store
  refine State.ite_wf ?_ h
  dsimp only
  exact Point.notify_wf _ _ _ h

theorem Point.update_wf (id : Nat) (old : Word) (p : Point) (s : State) (h : s.memWf = true) :
    (Point.update id old p s).memWf = true :=
  Point.store_wf _ _ _ _ h

theorem Point.deliver_wf (id : Nat) (v : Option SrcVal) (f : SrcFlags) (s : State) (h : s.memWf = true) :
    (Point.deliver id v f s).memWf = true := by
  unfold Point.deliver
  dsimp only
  split
  · exact State.ite_wf (Point.update_wf _ _ _ _ (Point.load_wf _ _ _ h)) (Point.load_wf _ _ _ h)
  exact h

theorem Points.deliver_wf (pick : BitVec 128 → Bool) (v : Option SrcVal) (f : SrcFlags) (s : State) (h : s.memWf = true) :
    (Points.deliver pick v f s).memWf = true :=
  State.foldl_wf (fun _ _ hx => Point.deliver_wf _ _ _ _ hx) h

theorem Point.restatus_wf (id : Nat) (change : Word → Word) (s : State) (h : s.memWf = true) :
    (Point.restatus id change s).memWf = true := by
  unfold Point.restatus
  dsimp only
  split
  · exact State.ite_wf (Point.load_wf _ _ _ h) (Point.store_wf _ _ _ _ (Point.load_wf _ _ _ h))
  exact h

theorem Points.flag_wf (pick : BitVec 128 → Bool) (change : Word → Word) (s : State) (h : s.memWf = true) :
    (Points.flag pick change s).memWf = true :=
  State.foldl_wf (fun _ _ hx => Point.restatus_wf _ _ _ hx) h

theorem Fed.recheck_wf (y : Nat × Nat) (s : State) (h : s.memWf = true) : (Fed.recheck y s).memWf = true := by
  unfold Fed.recheck
  dsimp only
  split
  · exact State.ite_wf (Fed.withdraw_wf _ _ (Point.load_wf _ _ _ h)) (Point.load_wf _ _ _ h)
  exact h

theorem Fed.withdrawAll_wf (s : State) (h : s.memWf = true) : (Fed.withdrawAll s).memWf = true :=
  State.foldl_wf (fun _ _ hx => Fed.recheck_wf _ _ hx) h

/-! ### Inputs and channels -/

theorem Input.setFaults_wf (t i flags : Nat) (s : State) (h : s.memWf = true) :
    (Input.setFaults t i flags s).memWf = true := by
  unfold Input.setFaults
  refine State.ite_wf h ?_
  dsimp only
  exact Ev.raise_wf _ _ _ _ h

theorem faultedDwell_wf (t i n : Nat) (s : State) (h : s.memWf = true) : (faultedDwell t i n s).2.memWf = true :=
  Input.setFaults_wf _ _ _ _ h

theorem goodDwell_wf (t i : Nat) (v : Option F32) (oor : Bool) (s : State) (h : s.memWf = true) :
    (goodDwell t i v oor s).2.memWf = true :=
  Input.setFaults_wf _ _ _ _ h

theorem formResult_wf (t conv i : Nat) (snap : Snap) (d : Dwell) (s : State) (h : s.memWf = true) :
    (formResult t conv i snap d s).2.memWf = true := by
  unfold formResult
  extract_lets c x open' u resistive need v
  have hu : u.memWf = true := State.ite_wf h h
  have hv : v.memWf = true := hu
  clear_value x u v resistive open'
  split
  · exact hu
  iterate 4 (split; exact faultedDwell_wf _ _ _ _ hu)
  split
  · exact goodDwell_wf _ _ _ _ _ hv
  · exact goodDwell_wf _ _ _ _ _ hu

theorem beginDwell_wf (t : Nat) (l : List Nat) (ns : Nat) (s : State) (h : s.memWf = true) :
    (beginDwell t l ns s).2.memWf = true :=
  State.foldl_wf (fun _ _ hx => hx) h

theorem Ring.append_wf (r : Ring) (entry : List Byte) (s : State) (h : s.memWf = true) :
    (Ring.append r entry s).2.memWf = true :=
  State.writeMem_wf _ _ _ _ (State.writeMem_wf _ _ _ _ h)

theorem Dma.append_wf (t b : Nat) (entry : List Byte) (s : State) (h : s.memWf = true) :
    (Dma.append t b entry s).memWf = true := by
  unfold Dma.append
  dsimp only
  split
  · exact State.ite_wf (Ev.raise_wf _ _ _ _ (Ring.append_wf _ _ _ h)) (Ring.append_wf _ _ _ h)
  exact h

theorem Lch.window_wf (t c : Nat) (s : State) (h : s.memWf = true) : (Lch.window t c s).memWf = true :=
  State.ite_wf h (Ev.raise_wf _ _ _ _ h)

theorem Lch.buffer_wf (t c : Nat) (s : State) (h : s.memWf = true) : (Lch.buffer t c s).memWf = true :=
  State.ite_wf h (State.ite_wf (Dma.append_wf _ _ _ _ h) h)

theorem Lch.write_wf (t c : Nat) (v : Option F32) (flags : Nat) (seqno : Option Nat) (s : State) (h : s.memWf = true) :
    (Lch.write t c v flags seqno s).memWf = true :=
  Lch.buffer_wf _ _ _ (State.ite_wf (Lch.window_wf _ _ _ (Points.deliver_wf _ _ _ _ (State.foldl_wf
      (fun _ _ hx => hx) h))) (Points.deliver_wf _ _ _ _ (State.foldl_wf (fun _ _ hx => hx) h)))

/-! ### Building bus: frames -/

theorem Bus.endSend_wf (f : TxBuf) (st : Byte) (outcome : Nat) (s : State) (h : s.memWf = true) :
    (Bus.endSend f st outcome s).memWf = true :=
  Cmd.finalOpt_wf _ _ _ _ h

theorem Bus.failSend_wf (f : TxBuf) (st : Byte) (s : State) (h : s.memWf = true) : (Bus.failSend f st s).memWf = true :=
  Cmd.finalOpt_wf _ _ _ _ h

theorem Bus.flush_wf (k : Nat) (st : Byte) (s : State) (h : s.memWf = true) : (Bus.flush k st s).memWf = true :=
  State.foldl_wf (fun _ _ hx => Bus.failSend_wf _ _ _ hx) h

theorem Bus.endRecover_wf (k : Nat) (st : Byte) (s : State) (h : s.memWf = true) : (Bus.endRecover k st s).memWf = true :=
  Cmd.finalOpt_wf _ _ _ _ h

theorem Bus.endDusk_wf (k outcome : Nat) (s : State) (h : s.memWf = true) : (Bus.endDusk k outcome s).memWf = true :=
  Cmd.finalOpt_wf _ _ _ _ h

theorem Bus.confine_wf (k : Nat) (s : State) (h : s.memWf = true) : (Bus.confine k s).memWf = true :=
  State.ite_wf h (State.ite_wf (Bus.raise_wf _ _ _ _ (Bus.flush_wf _ _ _ h)) (State.ite_wf (Bus.raise_wf _ _ _ _ h) h))

theorem Bus.heard_wf (k : Nat) (s : State) (h : s.memWf = true) : (Bus.heard k s).memWf = true :=
  State.ite_wf (Bus.raise_wf _ _ _ _ h) h

theorem Bus.received_wf (k : Nat) (s : State) (h : s.memWf = true) : (Bus.received k s).memWf = true :=
  Bus.heard_wf _ _ (Bus.confine_wf _ _ (State.ite_wf h h))

theorem Bus.receiveError_wf (k : Nat) (s : State) (h : s.memWf = true) : (Bus.receiveError k s).memWf = true :=
  Bus.confine_wf _ _ h

theorem Bus.ringPut_wf (k : Nat) (entry : List Byte) (s : State) (h : s.memWf = true) :
    (Bus.ringPut k entry s).memWf = true := by
  unfold Bus.ringPut
  dsimp only
  split
  · exact State.ite_wf (Bus.raise_wf _ _ _ _ (Ring.append_wf _ _ _ h)) (Ring.append_wf _ _ _ h)
  exact h

theorem Bus.drain_wf (k : Nat) (s : State) (h : s.memWf = true) : (Bus.drain k s).memWf = true :=
  State.foldl_wf (fun _ _ hx => Bus.ringPut_wf _ _ _ hx) h

theorem Bus.rxPut_wf (k : Nat) (stalled : Bool) (entry : List Byte) (s : State) (h : s.memWf = true) :
    (Bus.rxPut k stalled entry s).memWf = true :=
  State.ite_wf h (Bus.ringPut_wf _ _ _ h)

theorem Bus.deliver_wf (k : Nat) (f : BusFrame) (reassembled : Bool) (filter : Nat) (data : List Byte) (s : State)
    (h : s.memWf = true) :
    (Bus.deliver k f reassembled filter data s).memWf = true := by
  unfold Bus.deliver
  refine State.ite_wf h ?_
  dsimp only
  exact State.foldl_wf (fun _ _ hx => Bus.rxPut_wf _ _ _ _ hx) (Bus.rxPut_wf _ _ _ _ h)

theorem Bus.offer_wf (k : Nat) (f : BusFrame) (s : State) (h : s.memWf = true) : (Bus.offer k f s).memWf = true := by
  unfold Bus.offer
  split
  · exact Bus.deliver_wf _ _ _ _ _ _ h
  exact h

theorem Node.fault_wf (k n : Nat) (b : Bool) (s : State) (h : s.memWf = true) : (Node.fault k n b s).memWf = true :=
  Points.flag_wf _ _ _ h

theorem Node.unreliable_wf (k n : Nat) (b : Bool) (s : State) (h : s.memWf = true) :
    (Node.unreliable k n b s).memWf = true :=
  Points.flag_wf _ _ _ h

theorem Bus.autoRetire_wf (k n : Nat) (v : BitVec 48) (s : State) (h : s.memWf = true) :
    (Bus.autoRetire k n v s).memWf = true :=
  State.ite_wf (Bus.send_wf _ _ _ _ _ _ h) h

theorem Bus.afterimage_wf (k n : Nat) (f : BusFrame) (s : State) (h : s.memWf = true) :
    (Bus.afterimage k n f s).memWf = true :=
  State.ite_wf (Bus.raise_wf _ _ _ _ h) (Bus.autoRetire_wf _ _ _ _ (State.ite_wf (Node.unreliable_wf _ _ _ _
      (Bus.raise_wf _ _ _ _ h)) (Bus.raise_wf _ _ _ _ h)))

theorem Bus.toDusk_wf (k : Nat) (d : Dusk) (s : State) (h : s.memWf = true) : (Bus.toDusk k d s).memWf = true := h

theorem Bus.tryCommit_wf (k : Nat) (s : State) (h : s.memWf = true) : (Bus.tryCommit k s).memWf = true :=
  State.ite_wf (Bus.send_wf _ _ _ _ _ _ h) h

theorem Bus.refused_wf (k outcome : Nat) (s : State) (h : s.memWf = true) : (Bus.refused k outcome s).memWf = true :=
  Bus.endDusk_wf _ _ _ (Bus.raise_wf _ _ _ _ h)

theorem Bus.leaveHold_wf (k cause : Nat) (s : State) (h : s.memWf = true) : (Bus.leaveHold k cause s).memWf = true :=
  Bus.endDusk_wf _ _ _ (Bus.raise_wf _ _ _ _ (Bus.send_wf _ _ _ _ _ _ h))

theorem Bus.localWake_wf (k : Nat) (s : State) (h : s.memWf = true) : (Bus.localWake k s).memWf = true := by
  unfold Bus.localWake
  split
  · exact Bus.leaveHold_wf _ _ _ h
  · exact h
  · exact h
  · exact h
  · exact h

theorem Bus.onBeacon_wf (k n : Nat) (f : BusFrame) (s : State) (h : s.memWf = true) :
    (Bus.onBeacon k n f s).memWf = true := by
  unfold Bus.onBeacon
  dsimp only
  split
  · exact State.ite_wf h (Bus.raise_wf _ _ _ _ h)
  · exact h
  · exact Node.fault_wf _ _ _ _ (Bus.raise_wf _ _ _ _ h)
  · exact Node.fault_wf _ _ _ _ (Bus.raise_wf _ _ _ _ h)

theorem Bus.onPropose_wf (k n proposal : Nat) (s : State) (h : s.memWf = true) :
    (Bus.onPropose k n proposal s).memWf = true := by
  unfold Bus.onPropose
  dsimp only
  split
  · exact State.ite_wf (Bus.send_wf _ _ _ _ _ _ h) (Bus.send_wf _ _ _ _ _ _ h)
  · exact State.ite_wf (State.ite_wf (Bus.send_wf _ _ _ _ _ _ (Bus.refused_wf _ _ _ h)) (Bus.send_wf _ _ _ _ _ _
      (Bus.refused_wf _ _ _ h))) h
  · exact h
  · exact h
  · exact h

theorem Bus.onAdopt_wf (k : Nat) (data : List Byte) (s : State) (h : s.memWf = true) :
    (Bus.onAdopt k data s).memWf = true :=
  State.ite_wf (State.ite_wf (Bus.beacon_wf _ _ h) h) (State.ite_wf h h)

theorem Bus.retire_wf (k : Nat) (s : State) (h : s.memWf = true) : (Bus.retire k s).memWf = true :=
  Bus.raise_wf _ _ _ _ (Bus.flush_wf _ _ _ (Bus.endRecover_wf _ _ _ h))

theorem Bus.record_wf (k n : Nat) (rec : List Byte) (s : State) (h : s.memWf = true) :
    (Bus.record k n rec s).memWf = true :=
  State.ite_wf h (Points.deliver_wf _ _ _ _ h)

theorem Bus.onReport_wf (k n : Nat) (data : List Byte) (s : State) (h : s.memWf = true) :
    (Bus.onReport k n data s).memWf = true :=
  State.foldl_wf (fun _ _ hx => Bus.record_wf _ _ _ _ hx) h

theorem Bus.onAck_wf (k n : Nat) (data : List Byte) (s : State) (h : s.memWf = true) :
    (Bus.onAck k n data s).memWf = true := by
  unfold Bus.onAck
  dsimp only
  split
  · exact State.ite_wf h (Bus.raise_wf _ _ _ _ h)
  exact h

theorem Bus.engine_wf (k : Nat) (f : BusFrame) (data : List Byte) (s : State) (h : s.memWf = true) :
    (Bus.engine k f data s).memWf = true := by
  unfold Bus.engine
  dsimp only
  split
  · exact Bus.onBeacon_wf _ _ _ _ h
  · exact Bus.onPropose_wf _ _ _ _ h
  · exact State.ite_wf (Bus.tryCommit_wf _ _ h) h
  · exact State.ite_wf (Bus.refused_wf _ _ _ h) h
  · exact State.ite_wf h h
  · exact State.ite_wf (Bus.leaveHold_wf _ _ _ h) h
  · exact Bus.onAdopt_wf _ _ _ h
  · exact State.ite_wf (Bus.retire_wf _ _ h) h
  · exact Bus.onReport_wf _ _ _ _ h
  · exact Bus.onAck_wf _ _ _ _ h
  · exact h

theorem Bus.loseMessage_wf (k : Nat) (head : BitVec 24) (s : State) (h : s.memWf = true) :
    (Bus.loseMessage k head s).memWf = true :=
  Bus.raise_wf _ _ _ _ h

theorem Bus.strayFragment_wf (k : Nat) (head : BitVec 24) (lost last : Bool) (s : State) (h : s.memWf = true) :
    (Bus.strayFragment k head lost last s).memWf = true :=
  State.ite_wf (State.ite_wf h (Bus.loseMessage_wf _ _ _ h)) (State.ite_wf h (Bus.loseMessage_wf _ _ _ h))

theorem Bus.assemble_wf (k : Nat) (f : BusFrame) (s : State) (h : s.memWf = true) :
    (Bus.assemble k f s).2.memWf = true := by
  unfold Bus.assemble
  dsimp only
  split
  · split
    · split
      · dsimp only
        exact h
      dsimp only
      exact h
    split
    · split
      · split
        · dsimp only
          exact h
        dsimp only
        exact Bus.loseMessage_wf _ _ _ h
      split
      · dsimp only
        exact h
      dsimp only
      exact Bus.loseMessage_wf _ _ _ h
    dsimp only
    exact Bus.strayFragment_wf _ _ _ _ _ h
  split
  · split
    · dsimp only
      exact h
    dsimp only
    exact h
  dsimp only
  exact Bus.strayFragment_wf _ _ _ _ _ h

theorem Bus.profileFrame_wf (k : Nat) (f : BusFrame) (s : State) (h : s.memWf = true) :
    (Bus.profileFrame k f s).memWf = true := by
  unfold Bus.profileFrame
  dsimp only
  refine State.ite_wf ?_ (State.ite_wf (Bus.deliver_wf _ _ _ _ _ _ (Bus.offer_wf _ _ _ h)) (Bus.offer_wf _ _ _ h))
  split
  · exact State.ite_wf (State.ite_wf (State.ite_wf (Bus.deliver_wf _ _ _ _ _ _ (Bus.deliver_wf _ _ _ _ _ _
      (Bus.assemble_wf _ _ _ h))) (Bus.deliver_wf _ _ _ _ _ _ (Bus.assemble_wf _ _ _ h)))
      (Bus.deliver_wf _ _ _ _ _ _ (Bus.assemble_wf _ _ _ h))) (Bus.engine_wf _ _ _ _ (State.ite_wf
      (Bus.deliver_wf _ _ _ _ _ _ (Bus.assemble_wf _ _ _ h)) (Bus.assemble_wf _ _ _ h)))
  exact State.ite_wf (Bus.deliver_wf _ _ _ _ _ _ (Bus.assemble_wf _ _ _ h)) (Bus.assemble_wf _ _ _ h)

theorem Bus.checkFrame_wf (k : Nat) (f : BusFrame) (s : State) (h : s.memWf = true) :
    (Bus.checkFrame k f s).memWf = true :=
  State.ite_wf h (State.ite_wf (Bus.afterimage_wf _ _ _ _ h) (State.ite_wf h (Bus.profileFrame_wf _ _ _ h)))

theorem Bus.halt_wf (k : Nat) (s : State) (h : s.memWf = true) : (Bus.halt k s).memWf = true := Bus.flush_wf _ _ _ h

theorem Bus.stop_wf (k : Nat) (s : State) (h : s.memWf = true) : (Bus.stop k s).memWf = true :=
  State.ite_wf h (Bus.halt_wf _ _ h)

theorem Bus.foreignEnd_wf (k : Nat) (s : State) (h : s.memWf = true) : (Bus.foreignEnd k s).memWf = true :=
  State.ite_wf (whenever_wf (fun _ hx => Bus.halt_wf _ _ hx) h) h

theorem Bus.hear_wf (k : Nat) (f : BusFrame) (s : State) (h : s.memWf = true) : (Bus.hear k f s).memWf = true := by
  unfold Bus.hear
  dsimp only
  exact State.ite_wf h (State.ite_wf (Bus.raise_wf _ _ _ _ (Bus.received_wf _ _ (State.ite_wf h
      (Bus.drain_wf _ _ h)))) (State.ite_wf (Bus.received_wf _ _ (State.ite_wf h (Bus.drain_wf _ _ h)))
      (State.ite_wf (Bus.checkFrame_wf _ _ _ (Bus.received_wf _ _ (State.ite_wf h (Bus.drain_wf _ _ h))))
      (Bus.offer_wf _ _ _ (Bus.received_wf _ _ (State.ite_wf h (Bus.drain_wf _ _ h)))))))

theorem Bus.receive_wf (k : Nat) (f : BusFrame) (s : State) (h : s.memWf = true) : (Bus.receive k f s).memWf = true :=
  Bus.foreignEnd_wf _ _ (Bus.hear_wf _ _ _ h)

theorem Bus.resume_wf (k : Nat) (s : State) (h : s.memWf = true) : (Bus.resume k s).memWf = true :=
  State.ite_wf h (State.ite_wf (Bus.endDusk_wf _ _ _ (Bus.raise_wf _ _ _ _ h)) h)

theorem Bus.gate_wf (k : Nat) (s : State) (h : s.memWf = true) : (Bus.gate k s).memWf = true :=
  Cmd.finalOpt_wf _ _ _ _ (Bus.endRecover_wf _ _ _ (Bus.flush_wf _ _ _ h))

/-! ### Sequences -/

theorem applyConfigs_wf (t : Nat) (l : List (BitVec 64)) (s : State) (h : s.memWf = true) :
    (applyConfigs t l s).memWf = true :=
  State.foldl_wf (fun _ _ hx => hx) h

theorem Seq.swap_wf (t c : Nat) (s : State) (h : s.memWf = true) : (Seq.swap t c s).memWf = true := by
  unfold Seq.swap
  split
  · exact h
  exact h

theorem Seq.stop_wf (t c : Nat) (s : State) (h : s.memWf = true) : (Seq.stop t c s).memWf = true := by
  unfold Seq.stop
  refine State.ite_wf ?_ h
  dsimp only
  exact Seq.swap_wf _ _ _ (Cal.cycleEnd_wf _ _ _ (applyConfigs_wf _ _ _ h))

theorem Seq.slip_wf (t c ns : Nat) (s : State) (h : s.memWf = true) : (Seq.slip t c ns s).memWf = true :=
  State.ite_wf h (Ev.raise_wf _ _ _ _ h)

theorem Seq.cycleEnd_wf (t c : Nat) (s : State) (h : s.memWf = true) : (Seq.cycleEnd t c s).memWf = true := by
  unfold Seq.cycleEnd
  extract_lets v ended applied placed slipped
  have hApplied : applied.memWf = true := Cal.cycleEnd_wf _ _ _ (applyConfigs_wf _ _ _ h)
  have hSlipped : slipped.memWf = true := Seq.slip_wf _ _ _ _ hApplied
  exact State.ite_wf (Seq.stop_wf _ _ _ hSlipped) (Seq.swap_wf _ _ _ hSlipped)

theorem Seq.moveOn_wf (t c : Nat) (s : State) (h : s.memWf = true) : (Seq.moveOn t c s).memWf = true := by
  unfold Seq.moveOn
  dsimp only
  split
  · exact Seq.cycleEnd_wf _ _ _ h
  exact h

theorem Seq.dwell_wf (t c i : Nat) (s : State) (h : s.memWf = true) : (Seq.dwell t c i s).memWf = true :=
  beginDwell_wf _ _ _ _ h

theorem Seq.next_wf (t c : Nat) (s : State) (h : s.memWf = true) : (Seq.next t c s).memWf = true := by
  unfold Seq.next
  dsimp only
  split
  · exact State.ite_wf (untilElapsed_wf _ _ h) (Seq.dwell_wf _ _ _ _ (untilElapsed_wf _ _ h))
  exact Seq.cycleEnd_wf _ _ _ (untilElapsed_wf _ _ h)

theorem Scan.pause_wf (t : Nat) (s : State) (h : s.memWf = true) : (Scan.pause t s).memWf = true := h

theorem Seq.suspend_wf (t c : Nat) (s : State) (h : s.memWf = true) : (Seq.suspend t c s).memWf = true := h

theorem Seq.release_wf (t c : Nat) (s : State) (h : s.memWf = true) : (Seq.release t c s).memWf = true := by
  unfold Seq.release
  refine State.ite_wf h ?_
  dsimp only
  exact State.ite_wf (Seq.slip_wf _ _ _ _ h) h

theorem Scan.resume_wf (t : Nat) (s : State) (h : s.memWf = true) : (Scan.resume t s).memWf = true := h

theorem Seq.releaseBoth_wf (t : Nat) (s : State) (h : s.memWf = true) : (Seq.releaseBoth t s).memWf = true :=
  Seq.release_wf _ _ _ (Seq.release_wf _ _ _ h)

theorem Seq.start_wf (t c : Nat) (s : State) (h : s.memWf = true) : (Seq.start t c s).memWf = true := by
  unfold Seq.start
  dsimp only
  refine State.ite_wf (Ev.raise_wf _ _ _ _ (Seq.stop_wf _ _ _ (untilElapsed_wf _ _ (untilTb_wf _ _ h)))) ?_
  split
  · exact State.ite_wf (untilElapsed_wf _ _ (untilTb_wf _ _ h)) (Seq.dwell_wf _ _ _ _ (untilElapsed_wf _ _
      (untilTb_wf _ _ h)))
  · exact Seq.cycleEnd_wf _ _ _ (untilElapsed_wf _ _ (untilTb_wf _ _ h))
  · exact untilElapsed_wf _ _ (untilTb_wf _ _ h)

theorem execSeqCycleStart_wf (tile conv : Nat) (s : State) (h : s.memWf = true) :
    StaysWf (execSeqCycleStart tile conv s) :=
  StaysWf.next (whenever_wf (fun _ hx => Seq.start_wf _ _ _ hx) h)

theorem execSeqEntryStart_wf (tile conv : Nat) (s : State) (h : s.memWf = true) :
    StaysWf (execSeqEntryStart tile conv s) :=
  StaysWf.next (whenever_wf (fun _ hx => Seq.next_wf _ _ _ hx) h)

theorem Seq.dwellEnd_wf (t c : Nat) (d : Dwell) (s : State) (h : s.memWf = true) :
    (Seq.dwellEnd t c d s).memWf = true := by
  unfold Seq.dwellEnd
  dsimp only
  split
  · exact Seq.moveOn_wf _ _ _ (Lch.write_wf _ _ _ _ _ _ (formResult_wf _ _ _ _ _ _ (untilElapsed_wf _ _ h)))
  exact untilElapsed_wf _ _ h

theorem execDwellEnd_wf (tile conv : Nat) (d : Dwell) (s : State) (h : s.memWf = true) :
    StaysWf (execDwellEnd tile conv d s) :=
  StaysWf.next (whenever_wf (fun _ hx => Seq.dwellEnd_wf _ _ _ _ hx) h)

/-! ### Calibration runs -/

theorem Cal.tryBegin_wf (t kind : Nat) (s : State) (h : s.memWf = true) : (Cal.tryBegin t kind s).memWf = true :=
  State.ite_wf (State.foldl_wf (fun _ _ hx => hx) h) h

theorem Cal.tryAll_wf (t : Nat) (s : State) (h : s.memWf = true) : (Cal.tryAll t s).memWf = true :=
  Cal.tryBegin_wf _ _ _ (Cal.tryBegin_wf _ _ _ (Cal.tryBegin_wf _ _ _ h))

theorem Cal.converters_wf (t item : Nat) (k : Key) (s : State) (u : State) (hu : u.memWf = true) (h : s.memWf = true) :
    ((Cal.converters t item k s).stateOr u).memWf = true := by
  unfold Cal.converters
  dsimp only
  iterate 3 (split; exact hu)
  exact Cal.tryAll_wf _ _ (State.foldl_wf (fun _ _ hx => hx) h)

theorem Cal.mark_wf (t kind : Nat) (both : Bool) (s : State) (h : s.memWf = true) :
    (Cal.mark t kind both s).memWf = true :=
  State.ite_wf h (State.ite_wf h (State.ite_wf h h))

theorem Cal.takeQuiet_wf (index : Nat) (s : State) (h : s.memWf = true) : (Cal.takeQuiet index s).memWf = true :=
  State.ite_wf (Cal.apply_wf _ _ h) h

theorem Cal.keep_wf (kind index mode : Nat) (trims : List Int) (s : State) (h : s.memWf = true) :
    (Cal.keep kind index mode trims s).memWf = true :=
  State.ite_wf (Cal.takeQuiet_wf _ _ (Cal.setPending_wf _ _ _ _ h)) (Cal.setPending_wf _ _ _ _ h)

theorem Cal.afterGlow_wf (t : Nat) (s : State) (h : s.memWf = true) : (Cal.afterGlow t s).memWf = true :=
  State.foldl_wf (fun _ _ hx => Cal.takeQuiet_wf _ _ hx) (State.foldl_wf (fun _ _ hx => Cal.takeStopped_wf _ _ _ hx) h)

theorem Cal.reply_wf (k : Option Key) (st : Byte) (res : Nat) (s : State) (h : s.memWf = true) :
    (Cal.reply k st res s).memWf = true :=
  Cmd.finalOpt_wf _ _ _ _ h

theorem Cal.finish_wf (kind index : Nat) (r : CalResult) (s : State) (h : s.memWf = true) :
    (Cal.finish kind index r s).memWf = true := by
  unfold Cal.finish
  dsimp only
  exact State.ite_wf (State.ite_wf (Cal.tryAll_wf _ _ (Seq.releaseBoth_wf _ _ (Cal.keep_wf _ _ _ _ _
      (State.ite_wf h h)))) (Cal.reply_wf _ _ _ _ (State.ite_wf (Seq.releaseBoth_wf _ _ (State.ite_wf
      (Cal.mark_wf _ _ _ _ (Cal.keep_wf _ _ _ _ _ (State.ite_wf h h))) (Cal.keep_wf _ _ _ _ _ (State.ite_wf h h))))
      (State.ite_wf (Cal.mark_wf _ _ _ _ (Cal.keep_wf _ _ _ _ _ (State.ite_wf h h))) (Cal.keep_wf _ _ _ _ _
      (State.ite_wf h h)))))) (Cal.reply_wf _ _ _ _ (State.ite_wf (Cal.tryAll_wf _ _ (Seq.releaseBoth_wf _ _
      (State.ite_wf (State.ite_wf h h) (State.ite_wf h h)))) (State.ite_wf (State.ite_wf h h) (State.ite_wf h h))))

theorem execCalRunEnd_wf (kind index : Nat) (r : CalResult) (s : State) (h : s.memWf = true) :
    StaysWf (execCalRunEnd kind index r s) := by
  unfold execCalRunEnd
  refine StaysWf.next ?_
  dsimp only
  split
  · exact State.ite_wf (Cal.finish_wf _ _ _ _ (untilElapsed_wf _ _ h)) h
  exact h

theorem Cal.abortTile_wf (t : Nat) (st : Byte) (s : State) (h : s.memWf = true) :
    (Cal.abortTile t st s).memWf = true := by
  unfold Cal.abortTile
  refine State.foldl_wf (fun _ _ hx => ?_) h
  split
  · exact Cal.reply_wf _ _ _ _ hx
  exact hx

theorem Cal.endRun_wf (key : Nat) (st : Byte) (res : Nat) (s : State) (h : s.memWf = true) :
    (Cal.endRun key st res s).memWf = true := by
  unfold Cal.endRun
  split
  · exact Cal.reply_wf _ _ _ _ h
  exact h

theorem Cal.abort_wf (key : Nat) (s : State) (h : s.memWf = true) : (Cal.abort key s).memWf = true :=
  Cal.endRun_wf _ _ _ _ h

/-! ### Commands on inputs -/

theorem onTile_wf (pk : Packet) (s : State) {u : State} {f : Nat → Verdict} (hf : ∀ t, ((f t).stateOr u).memWf = true)
    (hu : u.memWf = true) : ((onTile pk s f).stateOr u).memWf = true := by
  unfold onTile
  dsimp only
  split
  · exact hu
  split
  · exact hu
  exact hf _

theorem onInput_wf (pk : Packet) (s : State) {u : State} {f : Nat → Nat → Verdict}
    (hf : ∀ t i, ((f t i).stateOr u).memWf = true) (hu : u.memWf = true) : ((onInput pk s f).stateOr u).memWf = true := by
  refine onTile_wf _ _ (fun t => ?_) hu
  split
  · exact hu
  exact hf _ _

theorem Input.configure_wf (t i : Nat) (c : InCfg) (s : State) (h : s.memWf = true) :
    (Input.configure t i c s).memWf = true :=
  State.ite_wf h h

theorem bodyInputConfig_wf (pk : Packet) (k : Key) (s : State) (u : State) (hu : u.memWf = true) (h : s.memWf = true) :
    ((bodyInputConfig pk k s).stateOr u).memWf = true := by
  unfold bodyInputConfig
  refine onInput_wf _ _ (fun _ _ => ?_) hu
  split
  · exact hu
  exact Input.configure_wf _ _ _ _ h

theorem bodyInputRead_wf (pk : Packet) (k : Key) (s : State) (u : State) (hu : u.memWf = true) (h : s.memWf = true) :
    ((bodyInputRead pk k s).stateOr u).memWf = true :=
  onInput_wf _ _ (fun _ _ => h) hu


theorem Stage.put_wf {q tile index part : Nat} {kind : StageKind} {bytes : List Byte} {s u : State}
    (put : Stage.put q kind tile index part bytes s = some u) (h : s.memWf = true) : u.memWf = true := by
  unfold Stage.put at put
  split at put
  · cases put
    exact h
  split at put
  · split at put
    · cases put
      exact h
    · cases put
  · cases put

theorem bodyInputTable_wf (pk : Packet) (k : Key) (s u : State) (hu : u.memWf = true) (h : s.memWf = true) :
    ((bodyInputTable pk k s).stateOr u).memWf = true := by
  unfold bodyInputTable
  refine onTile_wf _ _ (fun _ => ?_) hu
  dsimp only
  split
  · exact hu
  split
  · exact hu
  · next put =>
    have staged := Stage.put_wf put h
    split
    · exact staged
    split
    · exact staged
    · exact hu

theorem Urgent.enqueue_wf (t : Nat) (u : Urgent) (s : State) (w : State) (hw : w.memWf = true) (h : s.memWf = true) :
    ((Urgent.enqueue t u s).stateOr w).memWf = true := by
  unfold Urgent.enqueue
  split
  · exact hw
  exact h

theorem bodyInputTest_wf (pk : Packet) (k : Key) (s : State) (u : State) (hu : u.memWf = true) (h : s.memWf = true) :
    ((bodyInputTest pk k s).stateOr u).memWf = true := by
  unfold bodyInputTest
  refine onInput_wf _ _ (fun _ _ => ?_) hu
  iterate 2 (split; exact hu)
  exact Urgent.enqueue_wf _ _ _ _ hu h

theorem Input.tripped_wf (t i : Nat) (s : State) (h : s.memWf = true) : (Input.tripped t i s).memWf = true :=
  Input.setFaults_wf _ _ _ _ h

theorem execProtTrip_wf (tile input : Nat) (s : State) (h : s.memWf = true) : StaysWf (execProtTrip tile input s) :=
  StaysWf.next (whenever_wf (fun _ hx => Input.tripped_wf _ _ _ hx) h)

theorem execProtReclose_wf (tile input : Nat) (s : State) (h : s.memWf = true) : StaysWf (execProtReclose tile input s) :=
  StaysWf.next (whenever_wf (fun _ hx => hx) h)

theorem execShuntTrip_wf (tile input : Nat) (s : State) (h : s.memWf = true) : StaysWf (execShuntTrip tile input s) :=
  StaysWf.next (whenever_wf (fun _ hx => Input.tripped_wf _ _ _ hx) h)

theorem execPulseEdge_wf (tile input heldNs : Nat) (s : State) (h : s.memWf = true) :
    StaysWf (execPulseEdge tile input heldNs s) :=
  StaysWf.next (whenever_wf (fun _ hx => hx) h)

theorem Pulse.write_wf (t i : Nat) (s : State) (h : s.memWf = true) : (Pulse.write t i s).memWf = true :=
  State.ite_wf (Lch.write_wf _ _ _ _ _ _ h) h

theorem execPulseRateWrite_wf (tile : Nat) (s : State) (h : s.memWf = true) : StaysWf (execPulseRateWrite tile s) :=
  StaysWf.next (whenever_wf (fun _ hx => State.foldl_wf (fun _ _ ht => Pulse.write_wf _ _ _ ht)
    (State.modTile_wf (untilTb_wf _ _ hx))) h)

/-! ### Commands on converters -/

theorem bodyRefbufOn_wf (pk : Packet) (k : Key) (s : State) (u : State) (hu : u.memWf = true) (h : s.memWf = true) :
    ((bodyRefbufOn pk k s).stateOr u).memWf = true := by
  unfold bodyRefbufOn
  refine onTile_wf _ _ (fun _ => ?_) hu
  split
  · exact h
  exact h

theorem execRefSettled_wf (tile : Nat) (s : State) (h : s.memWf = true) : StaysWf (execRefSettled tile s) :=
  StaysWf.next (whenever_wf (fun _ hx => State.modTile_wf (untilElapsed_wf _ _ hx)) h)

theorem Tile.endWork_wf (t : Nat) (st : Byte) (s : State) (h : s.memWf = true) : (Tile.endWork t st s).memWf = true :=
  State.foldl_wf (fun _ _ hx => Cmd.finalOpt_wf _ _ _ _ hx) h

theorem Refbuf.off_wf (t : Nat) (s : State) (h : s.memWf = true) : (Refbuf.off t s).memWf = true := by
  unfold Refbuf.off
  extract_lets a b
  have ha : a.memWf = true := Seq.stop_wf _ _ _ (Seq.stop_wf _ _ _ h)
  clear_value a
  have hb : b.memWf = true := ha
  clear_value b
  exact Cal.abortTile_wf _ _ _ (Tile.endWork_wf _ _ _ hb)

theorem bodyRefbufOff_wf (pk : Packet) (k : Key) (s : State) (u : State) (hu : u.memWf = true) (h : s.memWf = true) :
    ((bodyRefbufOff pk k s).stateOr u).memWf = true := by
  refine onTile_wf _ _ (fun t => ?_) hu
  dsimp only [Verdict.stateOr]
  exact Refbuf.off_wf t s h

theorem bodyAdcCalibrate_wf (pk : Packet) (k : Key) (s : State) (u : State) (hu : u.memWf = true) (h : s.memWf = true) :
    ((bodyAdcCalibrate pk k s).stateOr u).memWf = true :=
  onTile_wf _ _ (fun _ => Cal.converters_wf _ _ _ _ _ hu h) hu

theorem Seq.load_wf (t c : Nat) (l : List (BitVec 64)) : ∀ (i : Nat) (s : State), s.memWf = true →
    (Seq.load t c l i s).memWf = true := by
  induction l with
  | nil => exact fun _ _ h => h
  | cons _ _ ih => exact fun _ _ h => ih _ _ h

theorem bodySeqLoad_wf (pk : Packet) (k : Key) (s : State) (u : State) (hu : u.memWf = true) (h : s.memWf = true) :
    ((bodySeqLoad pk k s).stateOr u).memWf = true := by
  unfold bodySeqLoad
  refine onTile_wf _ _ (fun _ => ?_) hu
  dsimp only
  iterate 3 (split; exact hu)
  exact Seq.load_wf _ _ _ _ _ h

theorem bodySeqStart_wf (pk : Packet) (k : Key) (s : State) (u : State) (hu : u.memWf = true) (h : s.memWf = true) :
    ((bodySeqStart pk k s).stateOr u).memWf = true := by
  unfold bodySeqStart
  refine onTile_wf _ _ (fun _ => ?_) hu
  dsimp only
  iterate 5 (split; exact hu)
  split
  · split
    · exact hu
    exact hu
  iterate 2 (split; exact hu)
  split
  · exact h
  exact h

theorem bodySeqStop_wf (pk : Packet) (k : Key) (s : State) (u : State) (hu : u.memWf = true) (h : s.memWf = true) :
    ((bodySeqStop pk k s).stateOr u).memWf = true := by
  unfold bodySeqStop
  refine onTile_wf _ _ (fun _ => ?_) hu
  dsimp only
  split
  · exact h
  split
  · exact Seq.stop_wf _ _ _ h
  exact h

theorem bodySeqRead_wf (pk : Packet) (k : Key) (s : State) (u : State) (hu : u.memWf = true) (h : s.memWf = true) :
    ((bodySeqRead pk k s).stateOr u).memWf = true :=
  onTile_wf _ _ (fun _ => h) hu

theorem onChannel_wf (pk : Packet) (s : State) {u : State} {f : Nat → Nat → Verdict}
    (hf : ∀ t c, ((f t c).stateOr u).memWf = true) (hu : u.memWf = true) : ((onChannel pk s f).stateOr u).memWf = true := by
  refine onTile_wf _ _ (fun t => ?_) hu
  split
  · exact hu
  exact hf _ _

theorem bodyLchConfig_wf (pk : Packet) (k : Key) (s : State) (u : State) (hu : u.memWf = true) (h : s.memWf = true) :
    ((bodyLchConfig pk k s).stateOr u).memWf = true := by
  unfold bodyLchConfig
  refine onChannel_wf _ _ (fun _ _ => ?_) hu
  dsimp only
  iterate 3 (split; exact hu)
  exact h

theorem bodyLchRead_wf (pk : Packet) (k : Key) (s : State) (u : State) (hu : u.memWf = true) (h : s.memWf = true) :
    ((bodyLchRead pk k s).stateOr u).memWf = true :=
  onChannel_wf _ _ (fun _ _ => h) hu

theorem bodyLchWinack_wf (pk : Packet) (k : Key) (s : State) (u : State) (hu : u.memWf = true) (h : s.memWf = true) :
    ((bodyLchWinack pk k s).stateOr u).memWf = true := by
  unfold bodyLchWinack
  exact onTile_wf _ _ (fun _ => State.foldl_wf (fun _ _ hx => State.ite_wf hx hx) h) hu

theorem bodyDmaCreate_wf (pk : Packet) (k : Key) (s : State) (u : State) (hu : u.memWf = true) (h : s.memWf = true) :
    ((bodyDmaCreate pk k s).stateOr u).memWf = true := by
  unfold bodyDmaCreate
  refine onTile_wf _ _ (fun _ => ?_) hu
  dsimp only
  iterate 4 (split; exact hu)
  exact h

theorem bodyDmaDelete_wf (pk : Packet) (k : Key) (s : State) (u : State) (hu : u.memWf = true) (h : s.memWf = true) :
    ((bodyDmaDelete pk k s).stateOr u).memWf = true := by
  unfold bodyDmaDelete
  refine onTile_wf _ _ (fun _ => ?_) hu
  dsimp only
  iterate 2 (split; exact hu)
  exact h

theorem bodyUrgentConvert_wf (pk : Packet) (k : Key) (s : State) (u : State) (hu : u.memWf = true) (h : s.memWf = true) :
    ((bodyUrgentConvert pk k s).stateOr u).memWf = true := by
  unfold bodyUrgentConvert
  refine onInput_wf _ _ (fun _ _ => ?_) hu
  dsimp only
  iterate 3 (split; exact hu)
  split
  · split
    · exact hu
    exact hu
  exact Urgent.enqueue_wf _ _ _ _ hu h

theorem Urgent.start_wf (t : Nat) (u : Urgent) (s : State) (h : s.memWf = true) : (Urgent.start t u s).memWf = true := by
  unfold Urgent.start
  dsimp only
  split
  · exact beginDwell_wf _ _ _ _ (State.ite_wf h h)
  exact beginDwell_wf _ _ _ _ (State.ite_wf h h)

theorem execUrgentStart_wf (tile : Nat) (s : State) (h : s.memWf = true) : StaysWf (execUrgentStart tile s) := by
  unfold execUrgentStart
  refine StaysWf.next ?_
  split
  · exact whenever_wf (fun _ hx => Urgent.start_wf _ _ _ hx) h
  exact h

theorem Urgent.pop_wf (t : Nat) (s : State) (h : s.memWf = true) : (Urgent.pop t s).memWf = true :=
  Seq.releaseBoth_wf _ _ (Cal.tryAll_wf _ _ h)

theorem Urgent.endTest_wf (t : Nat) (u : Urgent) (kind level : Nat) (tol : F32) (d : Dwell) (s : State)
    (h : s.memWf = true) :
    (Urgent.endTest t u kind level tol d s).memWf = true :=
  Cmd.finalOpt_wf _ _ _ _ (Urgent.pop_wf _ _ h)

theorem Urgent.endConvert_wf (t : Nat) (u : Urgent) (ch : Nat) (snap : Snap) (d : Dwell) (s : State) (h : s.memWf = true) :
    (Urgent.endConvert t u ch snap d s).memWf = true :=
  Cmd.finalOpt_wf _ _ _ _ (Urgent.pop_wf _ _ (State.ite_wf (Lch.write_wf _ _ _ _ _ _ (formResult_wf _ _ _ _ _ _ h))
      (formResult_wf _ _ _ _ _ _ h)))

theorem execUrgentDwellEnd_wf (tile : Nat) (d : Dwell) (s : State) (h : s.memWf = true) :
    StaysWf (execUrgentDwellEnd tile d s) := by
  unfold execUrgentDwellEnd
  refine StaysWf.next ?_
  dsimp only
  split
  · refine State.ite_wf ?_ h
    split
    · exact Urgent.endConvert_wf _ _ _ _ _ _ (untilElapsed_wf _ _ h)
    exact Urgent.endTest_wf _ _ _ _ _ _ _ (untilElapsed_wf _ _ h)
  exact h

/-! ### Commands on buses -/

theorem onCtrl_wf (pk : Packet) (s : State) {u : State} {f : Nat → Verdict} (hf : ∀ k, ((f k).stateOr u).memWf = true)
    (hu : u.memWf = true) : ((onCtrl pk s f).stateOr u).memWf = true := by
  unfold onCtrl
  dsimp only
  split
  · exact hu
  split
  · exact hu
  exact hf _

theorem onCtrlRight_wf (right : Nat) (pk : Packet) (s : State) {u : State} {f : Nat → Verdict}
    (hf : ∀ k, ((f k).stateOr u).memWf = true) (hu : u.memWf = true) :
        ((onCtrlRight right pk s f).stateOr u).memWf = true := by
  refine onCtrl_wf _ _ (fun k => ?_) hu
  split
  · exact hu
  exact hf _

theorem Bus.configure_wf (k : Nat) (c0 c1 c2 c3 : Word) (groups : List Byte) (s : State) (h : s.memWf = true) :
    (Bus.configure k c0 c1 c2 c3 groups s).memWf = true :=
  State.ite_wf (Bus.endDusk_wf _ _ _ (Bus.endRecover_wf _ _ _ (State.ite_wf h (Bus.flush_wf _ _ _ h))))
      (State.ite_wf h (Bus.flush_wf _ _ _ h))

theorem Bus.command_wf (k : Nat) (c0 c1 c2 c3 : Word) (groups : List Byte) (s : State) (u : State)
    (hu : u.memWf = true) (h : s.memWf = true) :
    ((Bus.command k c0 c1 c2 c3 groups s).stateOr u).memWf = true := by
  unfold Bus.command
  iterate 2 (split; exact hu)
  exact Bus.configure_wf _ _ _ _ _ _ _ h

theorem bodyBusConfig_wf (pk : Packet) (k : Key) (s : State) (u : State) (hu : u.memWf = true) (h : s.memWf = true) :
    ((bodyBusConfig pk k s).stateOr u).memWf = true :=
  onCtrl_wf _ _ (fun _ => Bus.command_wf _ _ _ _ _ _ _ _ hu h) hu

theorem bodyBusStatus_wf (pk : Packet) (k : Key) (s : State) (u : State) (hu : u.memWf = true) (h : s.memWf = true) :
    ((bodyBusStatus pk k s).stateOr u).memWf = true :=
  onCtrlRight_wf _ _ _ (fun _ => State.ite_wf h h) hu

theorem bodyBusSend_wf (pk : Packet) (k : Key) (s : State) (u : State) (hu : u.memWf = true) (h : s.memWf = true) :
    ((bodyBusSend pk k s).stateOr u).memWf = true := by
  unfold bodyBusSend
  refine onCtrlRight_wf _ _ _ (fun _ => ?_) hu
  dsimp only
  iterate 4 (split; exact hu)
  exact Bus.localWake_wf _ _ h

theorem bodyBusCancel_wf (pk : Packet) (k : Key) (s : State) (u : State) (hu : u.memWf = true) (h : s.memWf = true) :
    ((bodyBusCancel pk k s).stateOr u).memWf = true := by
  unfold bodyBusCancel
  refine onCtrlRight_wf _ _ _ (fun _ => ?_) hu
  dsimp only
  iterate 3 (split; exact hu)
  exact Bus.endSend_wf _ _ _ _ h

theorem bodyBusRecover_wf (pk : Packet) (k : Key) (s : State) (u : State) (hu : u.memWf = true) (h : s.memWf = true) :
    ((bodyBusRecover pk k s).stateOr u).memWf = true := by
  unfold bodyBusRecover
  refine onCtrl_wf _ _ (fun _ => ?_) hu
  split
  · exact hu
  exact h

theorem execBusRecoveryDone_wf (bus : Nat) (s : State) (h : s.memWf = true) : StaysWf (execBusRecoveryDone bus s) := by
  unfold execBusRecoveryDone
  refine StaysWf.next ?_
  refine whenever_wf (fun _ hx => ?_) h
  dsimp only
  exact Cmd.finalOpt_wf _ _ _ _ (Bus.raise_wf _ _ _ _ hx)

theorem bodyBusFilter_wf (pk : Packet) (k : Key) (s : State) (u : State) (hu : u.memWf = true) (h : s.memWf = true) :
    ((bodyBusFilter pk k s).stateOr u).memWf = true := by
  unfold bodyBusFilter
  refine onCtrl_wf _ _ (fun _ => ?_) hu
  split
  · exact hu
  exact h

theorem bodyBusRxring_wf (pk : Packet) (k : Key) (s : State) (u : State) (hu : u.memWf = true) (h : s.memWf = true) :
    ((bodyBusRxring pk k s).stateOr u).memWf = true := by
  unfold bodyBusRxring
  refine onCtrl_wf _ _ (fun _ => ?_) hu
  dsimp only
  iterate 2 (split; exact hu)
  exact h

theorem bodyBusNode_wf (pk : Packet) (k : Key) (s : State) (u : State) (hu : u.memWf = true) (h : s.memWf = true) :
    ((bodyBusNode pk k s).stateOr u).memWf = true := by
  unfold bodyBusNode
  refine onCtrl_wf _ _ (fun _ => ?_) hu
  dsimp only
  split
  · exact hu
  split
  · exact h
  split
  · exact hu
  exact h

theorem bodyBusNodeRead_wf (pk : Packet) (k : Key) (s : State) (u : State) (hu : u.memWf = true) (h : s.memWf = true) :
    ((bodyBusNodeRead pk k s).stateOr u).memWf = true := by
  unfold bodyBusNodeRead
  refine onCtrlRight_wf _ _ _ (fun _ => ?_) hu
  dsimp only
  split
  · exact hu
  exact h

theorem bodyBusAdopt_wf (pk : Packet) (k : Key) (s : State) (u : State) (hu : u.memWf = true) (h : s.memWf = true) :
    ((bodyBusAdopt pk k s).stateOr u).memWf = true := by
  unfold bodyBusAdopt
  refine onCtrl_wf _ _ (fun _ => ?_) hu
  dsimp only
  iterate 2 (split; exact hu)
  exact Bus.send_wf _ _ _ _ _ _ h

theorem bodyBusRetire_wf (pk : Packet) (k : Key) (s : State) (u : State) (hu : u.memWf = true) (h : s.memWf = true) :
    ((bodyBusRetire pk k s).stateOr u).memWf = true := by
  unfold bodyBusRetire
  refine onCtrl_wf _ _ (fun _ => ?_) hu
  dsimp only
  split
  · exact hu
  exact Bus.send_wf _ _ _ _ _ _ h

theorem bodyBusLink_wf (pk : Packet) (k : Key) (s : State) (u : State) (hu : u.memWf = true) (h : s.memWf = true) :
    ((bodyBusLink pk k s).stateOr u).memWf = true := by
  unfold bodyBusLink
  refine onCtrl_wf _ _ (fun _ => ?_) hu
  dsimp only
  split
  · exact h
  iterate 3 (split; exact hu)
  split
  · exact Point.loadAt_wf _ _ h
  split
  · exact hu
  exact Point.loadAt_wf _ _ h

theorem bodyBusDusk_wf (pk : Packet) (k : Key) (s : State) (u : State) (hu : u.memWf = true) (h : s.memWf = true) :
    ((bodyBusDusk pk k s).stateOr u).memWf = true := by
  unfold bodyBusDusk
  refine onCtrlRight_wf _ _ _ (fun _ => ?_) hu
  dsimp only
  split
  · exact hu
  exact Bus.tryCommit_wf _ _ (Bus.send_wf _ _ _ _ _ _ h)

theorem bodyBusDawn_wf (pk : Packet) (k : Key) (s : State) (u : State) (hu : u.memWf = true) (h : s.memWf = true) :
    ((bodyBusDawn pk k s).stateOr u).memWf = true :=
  onCtrlRight_wf _ _ _ (fun _ => Bus.localWake_wf _ _ h) hu

theorem execTransmitStart_wf (bus : Nat) (s : State) (h : s.memWf = true) : StaysWf (execTransmitStart bus s) := by
  unfold execTransmitStart
  refine StaysWf.next ?_
  dsimp only
  refine State.ite_wf h ?_
  split
  · exact h
  exact h

theorem Bus.ackError_wf (k : Nat) (f : TxBuf) (s : State) (h : s.memWf = true) : (Bus.ackError k f s).memWf = true :=
  Bus.confine_wf _ _ (State.ite_wf (State.ite_wf (Bus.failSend_wf _ _ _ h) (Bus.raise_wf _ _ _ _
      (Bus.failSend_wf _ _ _ h))) h)

theorem Bus.txError_wf (k : Nat) (f : TxBuf) (s : State) (h : s.memWf = true) : (Bus.txError k f s).memWf = true :=
  Bus.confine_wf _ _ h

theorem Bus.sent_wf (k : Nat) (f : TxBuf) (s : State) (h : s.memWf = true) : (Bus.sent k f s).memWf = true :=
  Bus.heard_wf _ _ (Bus.endSend_wf _ _ _ _ (Bus.confine_wf _ _ h))

theorem Bus.attemptEnd_wf (k : Nat) (f : TxBuf) (how : TxEnd) (s : State) (h : s.memWf = true) :
    (Bus.attemptEnd k f how s).memWf = true := by
  unfold Bus.attemptEnd
  split
  · exact Bus.sent_wf _ _ _ h
  · exact h
  · exact Bus.ackError_wf _ _ _ h
  · exact Bus.txError_wf _ _ _ h
  · exact Bus.txError_wf _ _ _ h

theorem execTransmitComplete_wf (bus : Nat) (how : TxEnd) (s : State) (h : s.memWf = true) :
    StaysWf (execTransmitComplete bus how s) := by
  unfold execTransmitComplete
  refine StaysWf.next ?_
  split
  · exact h
  exact State.ite_wf h (whenever_wf (fun _ hx => Bus.halt_wf _ _ hx) (Bus.attemptEnd_wf _ _ _ _ h))

theorem execReceiveError_wf (bus : Nat) (s : State) (h : s.memWf = true) : StaysWf (execReceiveError bus s) :=
  StaysWf.next (whenever_wf (fun _ hx => Bus.foreignEnd_wf _ _ (Bus.receiveError_wf _ _ hx)) h)

theorem execHostFrame_wf (bus : Nat) (f : BusFrame) (s : State) (h : s.memWf = true) : StaysWf (execHostFrame bus f s) :=
  StaysWf.next (whenever_wf (fun _ hx => Bus.receive_wf _ _ _ hx) h)

theorem execBeacon_wf (bus : Nat) (f : BusFrame) (s : State) (h : s.memWf = true) : StaysWf (execBeacon bus f s) :=
  StaysWf.next (whenever_wf (fun _ hx => Bus.receive_wf _ _ _ hx) h)

theorem execDuskPropose_wf (bus : Nat) (f : BusFrame) (s : State) (h : s.memWf = true) :
    StaysWf (execDuskPropose bus f s) :=
  StaysWf.next (whenever_wf (fun _ hx => Bus.receive_wf _ _ _ hx) h)

theorem execDuskAgree_wf (bus : Nat) (f : BusFrame) (s : State) (h : s.memWf = true) : StaysWf (execDuskAgree bus f s) :=
  StaysWf.next (whenever_wf (fun _ hx => Bus.receive_wf _ _ _ hx) h)

theorem execDuskRefuse_wf (bus : Nat) (f : BusFrame) (s : State) (h : s.memWf = true) :
    StaysWf (execDuskRefuse bus f s) :=
  StaysWf.next (whenever_wf (fun _ hx => Bus.receive_wf _ _ _ hx) h)

theorem execDuskCommit_wf (bus : Nat) (f : BusFrame) (s : State) (h : s.memWf = true) :
    StaysWf (execDuskCommit bus f s) :=
  StaysWf.next (whenever_wf (fun _ hx => Bus.receive_wf _ _ _ hx) h)

theorem execDawn_wf (bus : Nat) (f : BusFrame) (s : State) (h : s.memWf = true) : StaysWf (execDawn bus f s) :=
  StaysWf.next (whenever_wf (fun _ hx => Bus.receive_wf _ _ _ hx) h)

theorem execAdopt_wf (bus : Nat) (f : BusFrame) (s : State) (h : s.memWf = true) : StaysWf (execAdopt bus f s) :=
  StaysWf.next (whenever_wf (fun _ hx => Bus.receive_wf _ _ _ hx) h)

theorem execRetire_wf (bus : Nat) (f : BusFrame) (s : State) (h : s.memWf = true) : StaysWf (execRetire bus f s) :=
  StaysWf.next (whenever_wf (fun _ hx => Bus.receive_wf _ _ _ hx) h)

theorem execPointReport_wf (bus : Nat) (f : BusFrame) (s : State) (h : s.memWf = true) :
    StaysWf (execPointReport bus f s) :=
  StaysWf.next (whenever_wf (fun _ hx => Bus.receive_wf _ _ _ hx) h)

theorem execPointWriteAck_wf (bus : Nat) (f : BusFrame) (s : State) (h : s.memWf = true) :
    StaysWf (execPointWriteAck bus f s) :=
  StaysWf.next (whenever_wf (fun _ hx => Bus.receive_wf _ _ _ hx) h)

theorem execBeaconTimer_wf (bus : Nat) (s : State) (h : s.memWf = true) : StaysWf (execBeaconTimer bus s) := by
  unfold execBeaconTimer
  refine StaysWf.next ?_
  refine whenever_wf (fun _ hx => ?_) h
  dsimp only
  exact Bus.beacon_wf _ _ (untilElapsed_wf _ _ hx)

theorem Node.check_wf (k n : Nat) (s : State) (h : s.memWf = true) : (Node.check k n s).memWf = true := by
  unfold Node.check
  extract_lets b e u raised
  have hu : u.memWf = true := by
    unfold u
    split
    · exact State.ite_wf (Node.unreliable_wf _ _ _ _ (State.modNode_wf h)) h
    · exact h
  clear_value u
  have hRaised : raised.memWf = true := Bus.raise_wf _ _ _ _ (State.modNode_wf hu)
  exact State.ite_wf (State.ite_wf (Node.fault_wf _ _ _ _ hRaised) hRaised) hu

theorem Bus.checkNodes_wf (k : Nat) (s : State) (h : s.memWf = true) : (Bus.checkNodes k s).memWf = true :=
  Bus.tryCommit_wf _ _ (State.foldl_wf (fun _ _ hx => Node.check_wf _ _ _ hx) h)

theorem execNodeCheck_wf (bus : Nat) (s : State) (h : s.memWf = true) : StaysWf (execNodeCheck bus s) :=
  StaysWf.next (whenever_wf (fun _ hx => Bus.checkNodes_wf _ _ hx) h)

theorem execFragmentTimeout_wf (bus : Nat) (s : State) (h : s.memWf = true) : StaysWf (execFragmentTimeout bus s) := by
  unfold execFragmentTimeout
  refine StaysWf.next ?_
  split
  · exact Bus.loseMessage_wf _ _ _ (untilElapsed_wf _ _ h)
  exact h

theorem execLinkAckTimeout_wf (bus link : Nat) (s : State) (h : s.memWf = true) :
    StaysWf (execLinkAckTimeout bus link s) := by
  refine StaysWf.next ?_
  split
  · split
    · next t _ =>
      have waited := untilElapsed_wf (t + 100000000) s h
      exact State.ite_wf (Bus.linkFrame_wf _ _ _ _ _ (State.modBus_wf waited)) (Bus.raise_wf _ _ _ _
          (State.modBus_wf waited))
    · exact h
  · exact h

theorem execDuskProposeTimeout_wf (bus : Nat) (s : State) (h : s.memWf = true) : StaysWf (execDuskProposeTimeout bus s) :=
  StaysWf.next (whenever_wf (fun _ hx => Bus.refused_wf _ _ _ (untilElapsed_wf _ _ hx)) h)

theorem execDuskAgreeTimeout_wf (bus : Nat) (s : State) (h : s.memWf = true) : StaysWf (execDuskAgreeTimeout bus s) :=
  StaysWf.next (whenever_wf (fun _ hx => Bus.toDusk_wf _ _ _ (untilElapsed_wf _ _ hx)) h)

theorem execDuskHoldEnd_wf (bus : Nat) (s : State) (h : s.memWf = true) : StaysWf (execDuskHoldEnd bus s) :=
  StaysWf.next (whenever_wf (fun _ hx => Bus.endDusk_wf _ _ _ (Bus.raise_wf _ _ _ _
    (State.modBus_wf (Bus.toDusk_wf _ _ _ (untilElapsed_wf _ _ hx))))) h)

theorem execDawnDelayEnd_wf (bus : Nat) (s : State) (h : s.memWf = true) : StaysWf (execDawnDelayEnd bus s) := by
  unfold execDawnDelayEnd
  refine StaysWf.next ?_
  refine whenever_wf (fun _ hx => ?_) h
  dsimp only
  exact Bus.send_wf _ _ _ _ _ _ (untilElapsed_wf _ _ hx)

theorem Power.offWake_wf (cause arg : Nat) (enabled : Bool) (s : State) (h : s.memWf = true) :
    (Power.offWake cause arg enabled s).memWf = true :=
  State.ite_wf h h

theorem execBusWake_wf (bus : Nat) (s : State) (h : s.memWf = true) : StaysWf (execBusWake bus s) :=
  StaysWf.next (State.ite_wf (Power.offWake_wf _ _ _ _ h) (State.ite_wf h (State.ite_wf (State.ite_wf
      (Power.wake_wf _ _ _ (Bus.raise_wf _ _ _ _ h)) h) (State.ite_wf (Bus.raise_wf _ _ _ _ h) h))))

/-! ### Outputs -/

theorem driveFault_wf (t code kind index stat : Nat) (s : State) (h : s.memWf = true) :
    (driveFault t code kind index stat s).memWf = true :=
  Ev.raise_wf _ _ _ _ h

theorem Drv.rescale_wf (t mhz : Nat) (s : State) (h : s.memWf = true) : (Drv.rescale t mhz s).memWf = true := h

theorem Drv.on_wf (t j : Nat) (s : State) (h : s.memWf = true) : (Drv.on t j s).memWf = true :=
  State.foldl_wf (fun _ _ hx => hx) h

theorem Drv.takeCal_wf (t j : Nat) (s : State) (h : s.memWf = true) : (Drv.takeCal t j s).memWf = true :=
  Cal.apply_wf _ _ h

theorem Drv.off_wf (t j : Nat) (s : State) (h : s.memWf = true) : (Drv.off t j s).memWf = true :=
  State.foldl_wf (fun _ _ hx => State.ite_wf (Drv.takeCal_wf _ _ _ hx) hx) h

theorem Drv.stopMove_wf (t j : Nat) (s : State) (h : s.memWf = true) : (Drv.stopMove t j s).memWf = true := by
  unfold Drv.stopMove
  dsimp only
  split
  · exact Drv.off_wf _ _ _ h
  · exact Drv.off_wf _ _ _ h
  · exact h
  · exact h

theorem Drv.drive_wf (t j : Nat) (opens : Bool) (s : State) (h : s.memWf = true) : (Drv.drive t j opens s).memWf = true :=
  State.ite_wf h h

theorem Drv.startMove_wf (t j : Nat) (s : State) (h : s.memWf = true) : (Drv.startMove t j s).memWf = true :=
  State.ite_wf h (Drv.drive_wf _ _ _ _ h)

theorem Drv.followMove_wf (t j : Nat) (s : State) (h : s.memWf = true) : (Drv.followMove t j s).memWf = true :=
  State.ite_wf (State.ite_wf (Drv.startMove_wf _ _ _ (Drv.stopMove_wf _ _ _ h)) (Drv.stopMove_wf _ _ _ h))
      (State.ite_wf h (State.ite_wf (State.ite_wf (Drv.startMove_wf _ _ _ (Drv.stopMove_wf _ _ _ h))
      (Drv.stopMove_wf _ _ _ h)) h))

theorem Drv.floatCheck_wf (t j : Nat) (s : State) (h : s.memWf = true) : (Drv.floatCheck t j s).memWf = true := by
  unfold Drv.floatCheck
  dsimp only
  split
  · exact State.ite_wf (Drv.startMove_wf _ _ _ h) h
  · exact h
  · exact Drv.followMove_wf _ _ _ h
  · exact Drv.followMove_wf _ _ _ h

theorem Drv.switch_wf (t j : Nat) (b : Bool) (s : State) (h : s.memWf = true) : (Drv.switch t j b s).memWf = true := by
  unfold Drv.switch
  refine State.ite_wf h ?_
  dsimp only
  exact State.ite_wf (Drv.on_wf _ _ _ h) (Drv.off_wf _ _ _ h)

theorem Drv.act_wf (t j : Nat) (s : State) (h : s.memWf = true) : (Drv.act t j s).memWf = true :=
  State.ite_wf h (State.ite_wf (Drv.switch_wf _ _ _ _ h) (State.ite_wf h h))

theorem Drv.demand_wf (t j : Nat) (v : F32) (s : State) (h : s.memWf = true) : (Drv.demand t j v s).memWf = true :=
  Drv.act_wf _ _ _ h

theorem Drv.fallback_wf (t j : Nat) (s : State) (h : s.memWf = true) : (Drv.fallback t j s).memWf = true :=
  State.ite_wf h (State.ite_wf (Drv.act_wf _ _ _ h) (State.ite_wf (Drv.stopMove_wf _ _ _ h) (State.ite_wf h
      (Drv.off_wf _ _ _ h))))

theorem Drv.safe_wf (t : Nat) (s : State) (h : s.memWf = true) : (Drv.safe t s).memWf = true :=
  State.foldl_wf (fun _ _ hx => hx) h

theorem Out.fallbackRest_wf (t : Nat) (s : State) (h : s.memWf = true) : (Out.fallbackRest t s).memWf = true := h

theorem Out.fallbackAll_wf (t : Nat) (s : State) (h : s.memWf = true) : (Out.fallbackAll t s).memWf = true :=
  State.foldl_wf (fun _ _ hx => State.ite_wf hx (Drv.fallback_wf _ _ _ hx)) h

theorem Out.fallback_wf (b : Nat) (s : State) (h : s.memWf = true) : (Out.fallback b s).memWf = true :=
  State.ite_wf h (State.ite_wf (Drv.fallback_wf _ _ _ h) (State.ite_wf h (State.ite_wf h h)))

theorem Out.deliver_wf (kind t k : Nat) (v : F32) (s : State) (h : s.memWf = true) :
    (Out.deliver kind t k v s).memWf = true :=
  State.ite_wf h (State.ite_wf (Drv.demand_wf _ _ _ _ h) (State.ite_wf h (State.ite_wf h h)))

theorem BandUnit.load_wf (b : BandUnit) (s : State) (h : s.memWf = true) : (BandUnit.load b s).memWf = true :=
  State.ite_wf (Point.check_wf _ _ h) h

/-! ### Commands on outputs -/

theorem onOutput_wf (n : Nat) (pk : Packet) (s : State) {u : State} {f : Nat → Nat → Verdict}
    (hf : ∀ t k, ((f t k).stateOr u).memWf = true) (hu : u.memWf = true) :
        ((onOutput n pk s f).stateOr u).memWf = true := by
  unfold onOutput
  dsimp only
  split
  · exact hu
  split
  · exact hu
  exact hf _ _

theorem Drv.take_wf (t j : Nat) (c : DrvCfg) (s : State) (h : s.memWf = true) : (Drv.take t j c s).memWf = true :=
  State.ite_wf (Drv.stopMove_wf _ _ _ h) h

theorem Drv.apply_wf (t j : Nat) (c : DrvCfg) (s : State) (h : s.memWf = true) : (Drv.apply t j c s).memWf = true :=
  State.ite_wf (Drv.act_wf _ _ _ (Drv.take_wf _ _ _ _ h)) (Drv.take_wf _ _ _ _ h)

theorem Drv.takeWait_wf (t j : Nat) (s : State) (h : s.memWf = true) : (Drv.takeWait t j s).memWf = true := by
  unfold Drv.takeWait
  dsimp only
  split
  · exact State.ite_wf (Drv.apply_wf _ _ _ _ h) h
  exact h

theorem Drv.configure_wf (t j : Nat) (c : DrvCfg) (s : State) (h : s.memWf = true) :
    (Drv.configure t j c s).memWf = true :=
  State.ite_wf (Drv.takeWait_wf _ _ _ (Drv.off_wf _ _ _ (Drv.stopMove_wf _ _ _ h))) (Drv.apply_wf _ _ _ _ h)

theorem Drv.command_wf (t j : Nat) (c : DrvCfg) (s : State) (u : State) (hu : u.memWf = true) (h : s.memWf = true) :
    ((Drv.command t j c s).stateOr u).memWf = true := by
  unfold Drv.command
  iterate 2 (split; exact hu)
  exact Drv.configure_wf _ _ _ _ h

theorem bodyDrvConfig_wf (pk : Packet) (k : Key) (s : State) (u : State) (hu : u.memWf = true) (h : s.memWf = true) :
    ((bodyDrvConfig pk k s).stateOr u).memWf = true :=
  onOutput_wf _ _ _ (fun _ _ => Drv.command_wf _ _ _ _ _ hu h) hu

theorem bodyDrvProfile_wf (pk : Packet) (k : Key) (s : State) (u : State) (hu : u.memWf = true) (h : s.memWf = true) :
    ((bodyDrvProfile pk k s).stateOr u).memWf = true := by
  unfold bodyDrvProfile
  dsimp only
  iterate 5 (split; exact hu)
  exact h

theorem Drv.bare_wf (t j : Nat) (b : Bool) (s : State) (h : s.memWf = true) : (Drv.bare t j b s).memWf = true :=
  State.ite_wf (Drv.act_wf _ _ _ h) (State.ite_wf (State.ite_wf (Drv.on_wf _ _ _ h) (Drv.off_wf _ _ _ h)) h)

theorem bodyDrvCommand_wf (pk : Packet) (k : Key) (s : State) (u : State) (hu : u.memWf = true) (h : s.memWf = true) :
    ((bodyDrvCommand pk k s).stateOr u).memWf = true := by
  unfold bodyDrvCommand
  refine onOutput_wf _ _ _ (fun _ _ => ?_) hu
  dsimp only
  iterate 3 (split; exact hu)
  split
  · split
    · exact Drv.demand_wf _ _ _ _ h
    exact hu
  split
  · exact hu
  exact Drv.bare_wf _ _ _ _ h

theorem bodyDrvRead_wf (pk : Packet) (k : Key) (s : State) (u : State) (hu : u.memWf = true) (h : s.memWf = true) :
    ((bodyDrvRead pk k s).stateOr u).memWf = true := by
  unfold bodyDrvRead
  refine onOutput_wf _ _ _ (fun _ _ => ?_) hu
  dsimp only
  split
  · exact hu
  exact h

theorem Drv.freed_wf (t j : Nat) (s : State) (h : s.memWf = true) : (Drv.freed t j s).memWf = true :=
  Drv.takeWait_wf _ _ _ (Drv.takeCal_wf _ _ _ h)

theorem Drv.clear_wf (t j : Nat) (s : State) (h : s.memWf = true) : (Drv.clear t j s).memWf = true := by
  unfold Drv.clear
  refine State.foldl_wf (fun _ _ hx => ?_) h
  dsimp only
  exact State.ite_wf (Drv.freed_wf _ _ _ hx) hx

theorem Drv.endSafe_wf (t : Nat) (s : State) (h : s.memWf = true) : (Drv.endSafe t s).memWf = true :=
  State.foldl_wf (fun _ _ hx => State.ite_wf (Drv.freed_wf _ _ _ hx) hx) h

theorem bodyDrvClear_wf (pk : Packet) (k : Key) (s : State) (u : State) (hu : u.memWf = true) (h : s.memWf = true) :
    ((bodyDrvClear pk k s).stateOr u).memWf = true := by
  unfold bodyDrvClear
  dsimp only
  iterate 3 (split; exact hu)
  split
  · have cleared := State.foldl_wf (f := fun s j => Drv.clear (pk.u8 8) j s) (l := List.range 24)
      (fun _ _ hx => Drv.clear_wf _ _ _ hx) h
    dsimp only [Verdict.stateOr]
    exact Drv.endSafe_wf _ _ cleared
  · exact Drv.clear_wf _ _ _ h

theorem bodyDrvBand_wf (pk : Packet) (k : Key) (s : State) (u : State) (hu : u.memWf = true) (h : s.memWf = true) :
    ((bodyDrvBand pk k s).stateOr u).memWf = true := by
  unfold bodyDrvBand
  dsimp only
  iterate 4 (split; exact hu)
  refine onRecords_wf _ (fun _ hx => ?_) h h
  split
  · exact hu
  exact hx

theorem Ao.command_wf (t k : Nat) (c0 c1 c2 : Word) (s : State) (u : State) (hu : u.memWf = true) (h : s.memWf = true) :
    ((Ao.command t k c0 c1 c2 s).stateOr u).memWf = true := by
  unfold Ao.command
  dsimp only
  iterate 2 (split; exact hu)
  exact h

theorem bodyAoConfig_wf (pk : Packet) (k : Key) (s : State) (u : State) (hu : u.memWf = true) (h : s.memWf = true) :
    ((bodyAoConfig pk k s).stateOr u).memWf = true :=
  onOutput_wf _ _ _ (fun _ _ => Ao.command_wf _ _ _ _ _ _ _ hu h) hu

theorem bodyAoSet_wf (pk : Packet) (k : Key) (s : State) (u : State) (hu : u.memWf = true) (h : s.memWf = true) :
    ((bodyAoSet pk k s).stateOr u).memWf = true := by
  unfold bodyAoSet
  refine onOutput_wf _ _ _ (fun _ _ => ?_) hu
  iterate 2 (split; exact hu)
  exact h

theorem bodyAoRead_wf (pk : Packet) (k : Key) (s : State) (u : State) (hu : u.memWf = true) (h : s.memWf = true) :
    ((bodyAoRead pk k s).stateOr u).memWf = true := by
  unfold bodyAoRead
  refine onOutput_wf _ _ _ (fun _ _ => ?_) hu
  dsimp only
  split
  · exact hu
  exact h

theorem Fan.command_wf (t k : Nat) (c0 c1 c2 : Word) (s : State) (u : State) (hu : u.memWf = true) (h : s.memWf = true) :
    ((Fan.command t k c0 c1 c2 s).stateOr u).memWf = true := by
  unfold Fan.command
  dsimp only
  iterate 2 (split; exact hu)
  exact h

theorem bodyFanConfig_wf (pk : Packet) (k : Key) (s : State) (u : State) (hu : u.memWf = true) (h : s.memWf = true) :
    ((bodyFanConfig pk k s).stateOr u).memWf = true :=
  onOutput_wf _ _ _ (fun _ _ => Fan.command_wf _ _ _ _ _ _ _ hu h) hu

theorem bodyFanSet_wf (pk : Packet) (k : Key) (s : State) (u : State) (hu : u.memWf = true) (h : s.memWf = true) :
    ((bodyFanSet pk k s).stateOr u).memWf = true := by
  unfold bodyFanSet
  refine onOutput_wf _ _ _ (fun _ _ => ?_) hu
  iterate 2 (split; exact hu)
  exact h

theorem bodyFanRead_wf (pk : Packet) (k : Key) (s : State) (u : State) (hu : u.memWf = true) (h : s.memWf = true) :
    ((bodyFanRead pk k s).stateOr u).memWf = true := by
  unfold bodyFanRead
  refine onOutput_wf _ _ _ (fun _ _ => ?_) hu
  dsimp only
  split
  · exact hu
  exact h

theorem Drv.latch_wf (t code : Nat) (members faulted : List Nat) (gate : Gate) (s : State) (h : s.memWf = true) :
    (Drv.latch t code members faulted gate s).memWf = true :=
  State.foldl_wf (fun _ _ hx => driveFault_wf _ _ _ _ _ _ hx) (State.foldl_wf (fun _ _ hx => hx) h)

theorem Drv.sawPeaks_wf (t j : Nat) (c : Shunts) (s : State) (h : s.memWf = true) : (Drv.sawPeaks t j c s).memWf = true :=
  State.foldl_wf (fun _ _ hx => hx) h

theorem Drv.endPhase_wf (t j : Nat) (s : State) (h : s.memWf = true) : (Drv.endPhase t j s).memWf = true :=
  State.ite_wf (Drv.latch_wf _ _ _ _ _ _ h) (State.ite_wf (State.foldl_wf (fun _ _ hx => hx) h) (Drv.off_wf _ _ _
      (State.foldl_wf (fun _ _ hx => hx) h)))

theorem execPhaseEnd_wf (tile : Nat) (ending : PhaseEnding) (s : State) (h : s.memWf = true) :
    StaysWf (execPhaseEnd tile ending s) := by
  unfold execPhaseEnd
  refine StaysWf.next ?_
  refine whenever_wf (fun _ hx => ?_) h
  dsimp only
  exact Drv.endPhase_wf _ _ _ (State.ite_wf (State.foldl_wf (fun _ _ hx => hx) (Drv.sawPeaks_wf _ _ _ _
      (untilElapsed_wf _ _ hx))) (Drv.sawPeaks_wf _ _ _ _ (untilElapsed_wf _ _ hx)))

theorem Drv.trip_wf (t j : Nat) (c : Shunts) (s : State) (h : s.memWf = true) : (Drv.trip t j c s).memWf = true :=
  State.ite_wf (Drv.endPhase_wf _ _ _ (State.ite_wf (State.foldl_wf (fun _ _ hx => hx) (Drv.sawPeaks_wf _ _ _ _ h))
      (Drv.sawPeaks_wf _ _ _ _ h))) (State.ite_wf (State.foldl_wf (fun _ _ hx => hx) (Drv.sawPeaks_wf _ _ _ _ h))
      (Drv.sawPeaks_wf _ _ _ _ h))

theorem execCurrentTrip_wf (tile channel : Nat) (shunts : Shunts) (s : State) (h : s.memWf = true) :
    StaysWf (execCurrentTrip tile channel shunts s) :=
  StaysWf.next (whenever_wf (fun _ hx => Drv.trip_wf _ _ _ _ hx) h)

theorem execChopOffEnd_wf (tile channel : Nat) (s : State) (h : s.memWf = true) :
    StaysWf (execChopOffEnd tile channel s) := by
  unfold execChopOffEnd
  refine StaysWf.next ?_
  refine whenever_wf (fun _ hx => ?_) h
  dsimp only
  exact untilElapsed_wf _ _ hx

theorem Drv.countMeasure_wf (t j : Nat) (s : State) (h : s.memWf = true) : (Drv.countMeasure t j s).memWf = true :=
  State.ite_wf h h

theorem execBlankingEnd_wf (tile channel code : Nat) (s : State) (h : s.memWf = true) :
    StaysWf (execBlankingEnd tile channel code s) := by
  unfold execBlankingEnd
  refine StaysWf.next ?_
  exact State.ite_wf (Drv.countMeasure_wf _ _ _ (untilElapsed_wf _ _ h)) (whenever_wf
      (fun _ hx => Drv.countMeasure_wf _ _ _ hx) h)

theorem execOvercurrent_wf (tile channel : Nat) (s : State) (h : s.memWf = true) :
    StaysWf (execOvercurrent tile channel s) :=
  StaysWf.next (whenever_wf (fun _ hx => Drv.latch_wf _ _ _ _ _ _ hx) h)

theorem Drv.settled_wf (t j : Nat) (s : State) (h : s.memWf = true) : (Drv.settled t j s).memWf = true :=
  Drv.takeWait_wf _ _ _ (Drv.takeCal_wf _ _ _ h)

theorem execOffSettleEnd_wf (tile channel : Nat) (s : State) (h : s.memWf = true) :
    StaysWf (execOffSettleEnd tile channel s) := by
  unfold execOffSettleEnd
  refine StaysWf.next ?_
  refine whenever_wf (fun _ hx => ?_) h
  dsimp only
  exact State.ite_wf (Drv.settled_wf _ _ _ (untilElapsed_wf _ _ hx)) (State.ite_wf (untilElapsed_wf _ _ hx) hx)

theorem Drv.cycle_wf (t j : Nat) (s : State) (h : s.memWf = true) : (Drv.cycle t j s).memWf = true := by
  unfold Drv.cycle
  dsimp only
  exact State.ite_wf (untilTb_wf _ _ h) (State.ite_wf (Drv.off_wf _ _ _ (untilTb_wf _ _ h)) (Drv.on_wf _ _ _
      (untilTb_wf _ _ h)))

theorem execTpropCycleStart_wf (tile channel : Nat) (s : State) (h : s.memWf = true) :
    StaysWf (execTpropCycleStart tile channel s) :=
  StaysWf.next (whenever_wf (fun _ hx => Drv.cycle_wf _ _ _ hx) h)

theorem execTpropOnEnd_wf (tile channel : Nat) (s : State) (h : s.memWf = true) :
    StaysWf (execTpropOnEnd tile channel s) := by
  unfold execTpropOnEnd
  refine StaysWf.next ?_
  dsimp only
  split
  · exact State.ite_wf (Drv.off_wf _ _ _ (untilTb_wf _ _ h)) h
  exact h

theorem execFloatCheck_wf (tile channel : Nat) (s : State) (h : s.memWf = true) :
    StaysWf (execFloatCheck tile channel s) :=
  StaysWf.next (whenever_wf (fun _ hx => Drv.floatCheck_wf _ _ _ (untilTb_wf _ _ hx)) h)

theorem execReversalWaitEnd_wf (tile channel : Nat) (s : State) (h : s.memWf = true) :
    StaysWf (execReversalWaitEnd tile channel s) :=
  StaysWf.next (whenever_wf (fun _ hx => State.ite_wf (Drv.drive_wf _ _ _ _ (State.modDrive_wf (untilElapsed_wf _ _ hx)))
    (State.modDrive_wf (untilElapsed_wf _ _ hx))) h)

theorem execDriveBandSample_wf (tile : Nat) (s : State) (h : s.memWf = true) : StaysWf (execDriveBandSample tile s) := by
  unfold execDriveBandSample
  refine StaysWf.next ?_
  refine whenever_wf (fun _ hx => ?_) h
  dsimp only
  exact BandUnit.load_wf _ _ hx

theorem execOutputWatchdogExpiry_wf (tile kind index : Nat) (s : State) (h : s.memWf = true) :
    StaysWf (execOutputWatchdogExpiry tile kind index s) := by
  unfold execOutputWatchdogExpiry
  refine StaysWf.next ?_
  dsimp only
  split
  · exact State.ite_wf (State.ite_wf (Drv.fallback_wf _ _ _ (untilElapsed_wf _ _ h)) (State.ite_wf
      (untilElapsed_wf _ _ h) (untilElapsed_wf _ _ h))) h
  exact h

theorem execVgateLow_wf (s : State) (h : s.memWf = true) : StaysWf (execVgateLow s) := by
  unfold execVgateLow
  refine StaysWf.next ?_
  refine whenever_wf (fun _ hx => ?_) h
  dsimp only
  exact State.foldl_wf (fun _ _ hx => State.foldl_wf (fun _ _ hx => driveFault_wf _ _ _ _ _ _ hx) hx)
      (State.foldl_wf (fun _ _ hx => hx) (State.foldl_wf (fun _ _ hx => State.foldl_wf (fun _ _ hx => hx) hx) hx))

theorem execVgateRecover_wf (s : State) (h : s.memWf = true) : StaysWf (execVgateRecover s) := by
  unfold execVgateRecover
  refine StaysWf.next ?_
  refine whenever_wf (fun _ hx => ?_) h
  dsimp only
  exact State.foldl_wf (fun _ _ hx => State.foldl_wf (fun _ _ hx => hx) hx) hx

theorem execAoOverload_wf (tile output : Nat) (s : State) (h : s.memWf = true) :
    StaysWf (execAoOverload tile output s) := by
  unfold execAoOverload
  refine StaysWf.next ?_
  refine whenever_wf (fun _ hx => ?_) h
  dsimp only
  exact driveFault_wf _ _ _ _ _ _ hx

theorem execAoOverloadClear_wf (tile output : Nat) (s : State) (h : s.memWf = true) :
    StaysWf (execAoOverloadClear tile output s) :=
  StaysWf.next (whenever_wf (fun _ hx => hx) h)

theorem execAoRampStep_wf (tile output : Nat) (s : State) (h : s.memWf = true) : StaysWf (execAoRampStep tile output s) :=
  StaysWf.next (whenever_wf (fun _ hx => State.modAo_wf (untilElapsed_wf _ _ hx)) h)

theorem execFanKickEnd_wf (tile port : Nat) (s : State) (h : s.memWf = true) : StaysWf (execFanKickEnd tile port s) :=
  StaysWf.next (whenever_wf (fun _ hx => State.modFan_wf (untilElapsed_wf _ _ hx)) h)

theorem execFanTachEdge_wf (tile port : Nat) (s : State) (h : s.memWf = true) : StaysWf (execFanTachEdge tile port s) :=
  StaysWf.next (whenever_wf (fun _ hx => hx) h)

theorem execFanSpeedUpdate_wf (tile : Nat) (s : State) (h : s.memWf = true) : StaysWf (execFanSpeedUpdate tile s) := by
  unfold execFanSpeedUpdate
  refine StaysWf.next ?_
  refine whenever_wf (fun _ hx => ?_) h
  dsimp only
  exact State.foldl_wf (fun _ _ hx => State.ite_wf (driveFault_wf _ _ _ _ _ _ hx) hx) (untilTb_wf _ _ hx)

/-! ### The start of a commit -/

theorem Nv.stage_wf (c : CommitKind) (s : State) (h : s.memWf = true) : (Nv.stage c s).memWf = true := State.ite_wf h h

theorem Meter.commitLost_wf (s : State) (h : s.memWf = true) : (Meter.commitLost s).memWf = true := Ev.raise_wf _ _ _ _ h

theorem Nv.refuseFirst_wf (c : Commit) (rest : List Commit) (st : Byte) (res : Nat) (s : State) (h : s.memWf = true) :
    (Nv.refuseFirst c rest st res s).memWf = true :=
  Nv.serve_wf _ (Cmd.finalOpt_wf _ _ _ _ (Tariff.dropJob_wf _ _ (State.ite_wf (Meter.commitLost_wf _ h) h)))

theorem Nv.start_wf (c : Commit) (rest : List Commit) (s : State) (h : s.memWf = true) :
    (Nv.start c rest s).memWf = true := by
  unfold Nv.start
  refine State.ite_wf (Nv.refuseFirst_wf _ _ _ _ _ h) ?_
  refine State.ite_wf (Nv.refuseFirst_wf _ _ _ _ _ h) ?_
  refine State.ite_wf (Nv.refuseFirst_wf _ _ _ _ _ h) ?_
  dsimp only
  split
  · exact State.foldl_wf (fun _ _ hx => closeSession_wf _ _ hx) (Nv.stage_wf _ _ h)
  exact Nv.stage_wf _ _ h

theorem Nv.kick_wf (s : State) (h : s.memWf = true) : (Nv.kick s).memWf = true := by
  unfold Nv.kick
  split
  · exact State.ite_wf (Nv.start_wf _ _ _ h) h
  exact h

theorem Meter.checkpoint_wf (s : State) (h : s.memWf = true) : (Meter.checkpoint s).memWf = true := Nv.kick_wf _ h

/-! ### Accounting -/

theorem Meter.closeInstant_wf (t : Nat) (s : State) (h : s.memWf = true) : (Meter.closeInstant t s).memWf = true := h

theorem Meter.deliver_wf (t p code : Nat) (v : Rat) (s : State) (h : s.memWf = true) :
    (Meter.deliver t p code v s).memWf = true :=
  Points.deliver_wf _ _ _ _ h

theorem Meter.closeResults_wf (t p : Nat) (s : State) (h : s.memWf = true) : (Meter.closeResults t p s).memWf = true := by
  unfold Meter.closeResults
  dsimp only
  split
  · exact State.ite_wf h (Meter.deliver_wf _ _ _ _ _ (Meter.deliver_wf _ _ _ _ _ (Meter.deliver_wf _ _ _ _ _
      (Meter.deliver_wf _ _ _ _ _ (Meter.deliver_wf _ _ _ _ _ h)))))
  exact h

theorem Meter.deliverClosed_wf (old s : State) (h : s.memWf = true) : (Meter.deliverClosed old s).memWf = true :=
  State.foldl_wf (fun _ _ hx => State.ite_wf hx (Meter.closeResults_wf _ _ _ hx)) h

theorem Meter.setTariff_wf (tariff : Nat) (s : State) (h : s.memWf = true) : (Meter.setTariff tariff s).memWf = true := by
  unfold Meter.setTariff
  refine State.ite_wf h ?_
  dsimp only
  exact State.foldl_wf (fun _ _ hx => State.ite_wf (Points.deliver_wf _ _ _ _ hx) hx) h

theorem Meter.energyResults_wf (t p : Nat) (s : State) (h : s.memWf = true) : (Meter.energyResults t p s).memWf = true :=
  State.ite_wf h (Meter.deliver_wf _ _ _ _ _ (Meter.deliver_wf _ _ _ _ _ (Meter.deliver_wf _ _ _ _ _ h)))

theorem Meter.closeAll_wf (s : State) (h : s.memWf = true) : (Meter.closeAll s).memWf = true := by
  unfold Meter.closeAll
  extract_lets b accounted closed len moved opened
  have hAccounted : accounted.memWf = true := h
  clear_value accounted
  have hClosed : closed.memWf = true := Meter.deliverClosed_wf _ _ hAccounted
  clear_value closed
  have hOpened : opened.memWf = true := hClosed
  clear_value opened
  exact State.ite_wf (Meter.checkpoint_wf _ hOpened) hOpened

theorem Meter.switchTo_wf (tariff sec : Nat) (s : State) (h : s.memWf = true) :
    (Meter.switchTo tariff sec s).memWf = true := by
  unfold Meter.switchTo
  refine State.ite_wf h ?_
  dsimp only
  exact Meter.setTariff_wf _ _ h

theorem Meter.stepForward_wf (old new : Nat) (s : State) (h : s.memWf = true) :
    (Meter.stepForward old new s).memWf = true := by
  unfold Meter.stepForward
  extract_lets sec accounted marked tariff len b closed stepped
  have hAccounted : accounted.memWf = true := h
  clear_value accounted
  have hMarked : marked.memWf = true := hAccounted
  clear_value marked
  have hClosed : closed.memWf = true := Meter.deliverClosed_wf _ _ hMarked
  clear_value closed
  exact Meter.setTariff_wf _ _ (State.ite_wf hClosed hMarked)

theorem Meter.validate_wf (s : State) (h : s.memWf = true) : (Meter.validate s).memWf = true :=
  Meter.deliverClosed_wf _ _ (Meter.setTariff_wf _ _ h)

theorem Meter.restore_wf (s : State) (h : s.memWf = true) : (Meter.restore s).memWf = true := by
  unfold Meter.restore
  dsimp only
  split
  · exact h
  exact h

theorem Meter.bind_wf (t p : Nat) (c : MeterCfg) (s : State) (h : s.memWf = true) : (Meter.bind t p c s).memWf = true := by
  unfold Meter.bind
  extract_lets changed accounted old m1 m2 m3 m4 inputs _ stored closed shaded
  have hAccounted : accounted.memWf = true := State.ite_wf (Meter.closeInstant_wf _ _ h) h
  clear_value m4 accounted
  have hStored : stored.memWf = true := State.memWf_congr hAccounted rfl rfl rfl
  have hClosed : closed.memWf = true := Meter.deliverClosed_wf _ _ hStored
  clear_value closed
  exact State.foldl_wf (fun _ _ hx => hx) (State.memWf_congr hClosed rfl rfl rfl)

/-! ### The end of a commit -/

theorem Nv.count_wf (c : CommitKind) (extra : Nat) (s : State) (h : s.memWf = true) : (Nv.count c extra s).memWf = true :=
  State.ite_wf h h

theorem Nv.setPw_wf (r kind : Nat) (h : Option (BitVec 256)) (s : State) (hs : s.memWf = true) :
    (Nv.setPw r kind h s).memWf = true := by
  unfold Nv.setPw
  dsimp only
  split
  · exact hs
  exact hs

theorem Nv.storeBytes_wf (c : CommitKind) (s : State) (h : s.memWf = true) : (Nv.storeBytes c s).memWf = true := by
  unfold Nv.storeBytes
  split
  · exact State.withCells_wf _ h
  · exact h

theorem Nv.store_wf (c : CommitKind) (s : State) (h : s.memWf = true) : (Nv.store c s).memWf = true := by
  unfold Nv.store
  dsimp only
  split
  · exact Nv.storeBytes_wf _ _ h
  · exact Nv.storeBytes_wf _ _ h
  · exact State.ite_wf (Nv.storeBytes_wf _ _ h) (Nv.setPw_wf _ _ _ _ (Nv.setPw_wf _ _ _ _ h))
  · exact h
  · exact Nv.setPw_wf _ _ _ _ h
  · exact h
  · exact h
  · exact h
  · exact h
  · exact h
  · exact h
  · split
    · exact h
    exact h
  · exact h

theorem Tariff.rebuilt_wf (b : Bank) (s : State) (h : s.memWf = true) : (Tariff.rebuilt b s).memWf = true := by
  unfold Tariff.rebuilt
  dsimp only
  split
  · exact State.ite_wf (Ev.raise_wf _ _ _ _ h) h
  exact h

theorem Nv.effect_wf (c : Commit) (s : State) (h : s.memWf = true) : (Nv.effect c s).memWf = true := by
  unfold Nv.effect
  dsimp only
  split
  · exact h
  · exact h
  · exact Meter.bind_wf _ _ _ _ h
  · exact h
  · exact h
  · exact h
  · exact h
  · exact h
  · exact h
  · exact h
  · exact h
  · exact Tariff.rebuilt_wf _ _ h
  · exact h

theorem execNvCommitStart_wf (holdmon : Nat) (s : State) (h : s.memWf = true) :
    StaysWf (execNvCommitStart holdmon s) := by
  unfold execNvCommitStart
  refine StaysWf.next ?_
  dsimp only
  split
  · exact State.ite_wf (Nv.start_wf _ _ _ h) h
  exact h

theorem Nv.done_wf (c : Commit) (s : State) (h : s.memWf = true) : (Nv.done c s).memWf = true := by
  unfold Nv.done
  dsimp only
  refine Nv.kick_wf _ ?_
  split
  · exact State.ite_wf (Nv.serve_wf _ (Nv.store_wf _ _ (Nv.effect_wf _ _ (Nv.count_wf _ _ _ h)))) (Nv.serve_wf _
      (Cmd.finalOpt_wf _ _ _ _ (Nv.store_wf _ _ (Nv.effect_wf _ _ (Nv.count_wf _ _ _ h)))))
  · exact Nv.serve_wf _ (Nv.store_wf _ _ (Nv.effect_wf _ _ (Nv.count_wf _ _ _ h)))
  · exact Nv.serve_wf _ (Cmd.finalOpt_wf _ _ _ _ (Nv.store_wf _ _ (Nv.effect_wf _ _ (Nv.count_wf _ _ _ h))))

theorem Nv.spoil_wf (c : CommitKind) (page : Nat) (s : State) (h : s.memWf = true) : (Nv.spoil c page s).memWf = true := by
  unfold Nv.spoil
  extract_lets f drawn n lost _ bytes holdUp identity
  have hDrawn : drawn.memWf = true := h
  have hBytes : bytes.memWf = true := State.withCells_wf _ hDrawn
  cases c
  case write => exact hBytes
  case profile => exact hBytes
  case clear => exact State.ite_wf hBytes (Nv.setPw_wf _ _ _ _ (Nv.setPw_wf _ _ _ _ hDrawn))
  case password => exact Nv.setPw_wf _ _ _ _ hDrawn
  all_goals exact hDrawn

theorem Nv.storeFailed_wf (c : CommitKind) (page : Nat) (s : State) (h : s.memWf = true) :
    (Nv.storeFailed c page s).memWf = true := by
  unfold Nv.storeFailed
  split
  · exact Nv.spoil_wf _ _ _ (Nv.store_wf _ _ h)
  · exact Nv.spoil_wf _ _ _ (Nv.store_wf _ _ h)
  · exact Nv.spoil_wf _ _ _ (Nv.store_wf _ _ h)
  · exact Nv.spoil_wf _ _ _ (State.ite_wf (Nv.store_wf _ _ h) h)
  · exact Nv.spoil_wf _ _ _ h

theorem Nv.failed_wf (c : Commit) (page : Nat) (s : State) (h : s.memWf = true) : (Nv.failed c page s).memWf = true := by
  unfold Nv.failed
  dsimp only
  exact Nv.kick_wf _ (Nv.serve_wf _ (Cmd.finalOpt_wf _ _ _ _ (Tariff.dropJob_wf _ _ (State.ite_wf
      (Ev.raise_wf _ _ _ _ (Nv.storeFailed_wf _ _ _ (Nv.count_wf _ _ _ h))) (Ev.raise_wf _ _ _ _
      (Nv.storeFailed_wf _ _ _ (Nv.count_wf _ _ _ h)))))))

theorem execNvCommitDone_wf (failedPage : Option Nat) (s : State) (h : s.memWf = true) :
    StaysWf (execNvCommitDone failedPage s) := by
  unfold execNvCommitDone
  refine StaysWf.next ?_
  split
  · split
    · exact Nv.done_wf _ _ h
    exact State.ite_wf (Nv.failed_wf _ _ _ h) h
  exact h

/-! ### Commands on metering -/

theorem onPair_wf (pk : Packet) (s : State) {u : State} {f : Nat → Nat → Verdict}
    (hf : ∀ t p, ((f t p).stateOr u).memWf = true) (hu : u.memWf = true) : ((onPair pk s f).stateOr u).memWf = true := by
  refine onTile_wf _ _ (fun t => ?_) hu
  split
  · exact hu
  exact hf _ _

theorem bodyMeterConfig_wf (pk : Packet) (k : Key) (s : State) (u : State) (hu : u.memWf = true) (h : s.memWf = true) :
    ((bodyMeterConfig pk k s).stateOr u).memWf = true := by
  unfold bodyMeterConfig
  refine onPair_wf _ _ (fun _ _ => ?_) hu
  dsimp only
  iterate 4 (split; exact hu)
  exact Nv.submit_wf _ _ _ _ _ hu h

theorem readPair_wf (pk : Packet) (s : State) {u : State} {f : Nat → Nat → Verdict}
    (hf : ∀ t p, ((f t p).stateOr u).memWf = true) (hu : u.memWf = true) : ((readPair pk s f).stateOr u).memWf = true := by
  refine onPair_wf _ _ (fun t p => ?_) hu
  split
  · exact hu
  split
  · exact hu
  exact hf _ _

theorem bodyMeterRead_wf (pk : Packet) (k : Key) (s : State) (u : State) (hu : u.memWf = true) (h : s.memWf = true) :
    ((bodyMeterRead pk k s).stateOr u).memWf = true := by
  unfold bodyMeterRead
  refine readPair_wf _ _ (fun _ _ => ?_) hu
  split
  · exact hu
  exact h

theorem bodyMeterHistory_wf (pk : Packet) (k : Key) (s : State) (u : State) (hu : u.memWf = true) (h : s.memWf = true) :
    ((bodyMeterHistory pk k s).stateOr u).memWf = true := by
  unfold bodyMeterHistory
  refine readPair_wf _ _ (fun _ _ => ?_) hu
  dsimp only
  iterate 2 (split; exact hu)
  exact h

theorem execMeterHistoryDone_wf (tile : Nat) (s : State) (h : s.memWf = true) :
    StaysWf (execMeterHistoryDone tile s) := by
  unfold execMeterHistoryDone
  refine StaysWf.next ?_
  dsimp only
  split
  · exact Cmd.final_wf _ _ _ _ (State.writeMem_wf _ _ _ _ h)
  exact h

theorem bodyMeterResetPeak_wf (pk : Packet) (k : Key) (s : State) (u : State) (hu : u.memWf = true) (h : s.memWf = true) :
    ((bodyMeterResetPeak pk k s).stateOr u).memWf = true := by
  unfold bodyMeterResetPeak
  refine onPair_wf _ _ (fun _ _ => ?_) hu
  split
  · exact hu
  exact h

theorem bodyDemandConfig_wf (pk : Packet) (k : Key) (s : State) (u : State) (hu : u.memWf = true) (h : s.memWf = true) :
    ((bodyDemandConfig pk k s).stateOr u).memWf = true := by
  unfold bodyDemandConfig
  dsimp only
  split
  · exact hu
  iterate 2 (split; exact h)
  exact h

theorem bodyTariffLoad_wf (pk : Packet) (k : Key) (s u : State) (hu : u.memWf = true) (h : s.memWf = true) :
    ((bodyTariffLoad pk k s).stateOr u).memWf = true := by
  have loaded : ∀ b : Bank, ({ s with mt := { s.mt with shadow := b } } : State).memWf = true := fun _ => h
  unfold bodyTariffLoad
  dsimp only
  split
  · iterate 2 (split; exact hu)
    exact loaded _
  · iterate 2 (split; exact hu)
    exact loaded _

theorem bodyTariffCommit_wf (pk : Packet) (k : Key) (s : State) (u : State) (hu : u.memWf = true) (h : s.memWf = true) :
    ((bodyTariffCommit pk k s).stateOr u).memWf = true := by
  unfold bodyTariffCommit
  dsimp only
  iterate 2 (split; exact hu)
  exact h

theorem Tariff.fail_wf (j : TariffJob) (st : Byte) (res : Nat) (s : State) (h : s.memWf = true) :
    (Tariff.fail j st res s).memWf = true :=
  Cmd.finalOpt_wf _ _ _ _ h

theorem execTariffRebuildDone_wf (s : State) (h : s.memWf = true) : StaysWf (execTariffRebuildDone s) := by
  unfold execTariffRebuildDone
  refine StaysWf.next ?_
  dsimp only
  split
  · refine State.ite_wf h ?_
    split
    · exact State.ite_wf (Nv.done_wf _ _ h) h
    refine State.ite_wf (Tariff.fail_wf _ _ _ _ h) ?_
    split
    · refine State.ite_wf h ?_
      split
      · exact Nv.done_wf _ _ (Nv.start_wf _ _ _ h)
      exact Nv.start_wf _ _ _ h
    exact h
  exact h

theorem Meter.closeDue_wf (sec : Nat) (s : State) (h : s.memWf = true) : (Meter.closeDue sec s).memWf = true :=
  State.ite_wf (Meter.closeAll_wf _ h) h

theorem Tariff.swap_wf (j : TariffJob) (s : State) (h : s.memWf = true) : (Tariff.swap j s).memWf = true :=
  Cmd.finalOpt_wf _ _ _ _ (State.ite_wf (Meter.switchTo_wf _ _ _ h) h)

theorem Meter.dueFirst_wf (s : State) (h : s.memWf = true) : (Meter.dueFirst s).memWf = true := by
  unfold Meter.dueFirst
  dsimp only
  refine State.ite_wf ?_ ?_
  · refine Meter.switchTo_wf _ _ _ ?_
    split
    · exact Tariff.swap_wf _ _ (State.ite_wf (Meter.closeDue_wf _ _ h) h)
    exact State.ite_wf (Meter.closeDue_wf _ _ h) h
  · split
    · exact Tariff.swap_wf _ _ (State.ite_wf (Meter.closeDue_wf _ _ h) h)
    exact State.ite_wf (Meter.closeDue_wf _ _ h) h

theorem execTariffSwap_wf (s : State) (h : s.memWf = true) : StaysWf (execTariffSwap s) := by
  unfold execTariffSwap
  refine StaysWf.next ?_
  dsimp only
  split
  · exact State.ite_wf h (Tariff.swap_wf _ _ (Meter.closeDue_wf _ _ (untilTb_wf _ _ h)))
  exact h

theorem bodyTariffRead_wf (pk : Packet) (k : Key) (s : State) (u : State) (_hu : u.memWf = true) (h : s.memWf = true) :
    ((bodyTariffRead pk k s).stateOr u).memWf = true :=
  h

theorem execTariffSwitch_wf (s : State) (h : s.memWf = true) : StaysWf (execTariffSwitch s) := by
  unfold execTariffSwitch
  refine StaysWf.next ?_
  refine whenever_wf (fun _ hx => ?_) h
  refine State.ite_wf ?_ ?_
  · dsimp only
    exact Meter.switchTo_wf _ _ _ (Meter.closeDue_wf _ _ hx)
  · dsimp only
    split
    · exact Meter.switchTo_wf _ _ _ (Meter.closeDue_wf _ _ (untilTb_wf _ _ hx))
    exact hx

theorem execMeterDwellEnd_wf (tile : Nat) (d : MeterDwell) (s : State) (h : s.memWf = true) :
    StaysWf (execMeterDwellEnd tile d s) := by
  unfold execMeterDwellEnd
  refine StaysWf.next ?_
  refine whenever_wf (fun _ hx => ?_) h
  dsimp only
  exact Seq.moveOn_wf _ _ _ (State.ite_wf (untilElapsed_wf _ _ hx) (State.foldl_wf
      (fun _ _ hx => Input.setFaults_wf _ _ _ _ hx) (untilElapsed_wf _ _ hx)))

theorem execIntervalClose_wf (s : State) (h : s.memWf = true) : StaysWf (execIntervalClose s) :=
  StaysWf.next (whenever_wf (fun _ hx => Meter.closeAll_wf _ (untilTb_wf _ _ hx)) h)

theorem execMeterCheckpointDone_wf (s : State) (h : s.memWf = true) : StaysWf (execMeterCheckpointDone s) := by
  unfold execMeterCheckpointDone
  refine StaysWf.next ?_
  split
  · exact State.ite_wf (Nv.done_wf _ _ h) h
  exact h

theorem execMeterResultUpdate_wf (s : State) (h : s.memWf = true) : StaysWf (execMeterResultUpdate s) :=
  StaysWf.next (whenever_wf (fun _ hx => State.foldl_wf (fun _ _ ht => Meter.energyResults_wf _ _ _ ht)
    (State.withMt_wf (untilTb_wf _ _ hx))) h)

/-! ### Commands on points -/

theorem onPoint_wf (pk : Packet) {s u : State} {f : Nat → Point → State → Verdict}
    (hf : ∀ id p x, x.memWf = true → ((f id p x).stateOr u).memWf = true) (hu : u.memWf = true) (h : s.memWf = true) :
    ((onPoint pk s f).stateOr u).memWf = true := by
  unfold onPoint
  dsimp only
  split
  · exact hu
  split
  · exact hu
  · next p _ =>
    have loaded := Point.load_wf (pk.point 8) p s h
    split
    · exact hf _ _ _ loaded
    · exact loaded

theorem bodyPointRead_wf (pk : Packet) (k : Key) (s : State) (u : State) (hu : u.memWf = true) (h : s.memWf = true) :
    ((bodyPointRead pk k s).stateOr u).memWf = true := by
  unfold bodyPointRead
  refine onPoint_wf _ (fun _ _ _ hx => ?_) hu h
  iterate 2 (split; exact hu)
  exact hx

theorem bodyPointWrite_wf (pk : Packet) (k : Key) (s : State) (u : State) (hu : u.memWf = true) (h : s.memWf = true) :
    ((bodyPointWrite pk k s).stateOr u).memWf = true := by
  unfold bodyPointWrite
  refine onPoint_wf _ (fun _ _ _ hx => ?_) hu h
  dsimp only
  iterate 4 (split; exact hu)
  split
  · split
    · exact hu
    split
    · exact hu
    split
    · exact hu
    exact Point.update_wf _ _ _ _ hx
  iterate 2 (split; exact hu)
  exact Point.update_wf _ _ _ _ hx

theorem Point.install_wf (id : Nat) (p : Point) (s : State) (h : s.memWf = true) : (Point.install id p s).memWf = true :=
  Point.store_wf _ _ _ _ h

theorem bodyPointCreate_wf (pk : Packet) (k : Key) (s : State) (u : State) (hu : u.memWf = true) (h : s.memWf = true) :
    ((bodyPointCreate pk k s).stateOr u).memWf = true := by
  unfold bodyPointCreate
  dsimp only
  iterate 9 (split; exact hu)
  exact Point.install_wf _ _ _ h

theorem bodyPointConfig_wf (pk : Packet) (k : Key) (s : State) (u : State) (hu : u.memWf = true) (h : s.memWf = true) :
    ((bodyPointConfig pk k s).stateOr u).memWf = true := by
  unfold bodyPointConfig
  refine onPoint_wf _ (fun _ _ _ hx => ?_) hu h
  iterate 7 (split; exact hu)
  exact Fed.withdrawAll_wf _ (Point.update_wf _ _ _ _ hx)

theorem Point.remove_wf (id : Nat) (p : Point) (s : State) (h : s.memWf = true) : (Point.remove id p s).memWf = true := by
  have ended := Panel.forget_wf id _ (Point.endWatches_wf id 3 p s h)
  unfold Point.remove
  generalize Panel.forget id _ = u at ended ⊢
  exact ended

theorem bodyPointDelete_wf (pk : Packet) (k : Key) (s : State) (u : State) (hu : u.memWf = true) (h : s.memWf = true) :
    ((bodyPointDelete pk k s).stateOr u).memWf = true := by
  unfold bodyPointDelete
  dsimp only
  iterate 2 (split; exact hu)
  split
  · split
    · exact Point.load_wf _ _ _ h
    split
    · exact hu
    split
    · exact Point.load_wf _ _ _ h
    exact Point.remove_wf _ _ _ (Point.load_wf _ _ _ h)
  split
  · exact Point.load_wf _ _ _ h
  split
  · exact hu
  split
  · exact Point.load_wf _ _ _ h
  exact Point.remove_wf _ _ _ (Point.load_wf _ _ _ h)

theorem bodyPointWatch_wf (pk : Packet) (k : Key) (s : State) (u : State) (hu : u.memWf = true) (h : s.memWf = true) :
    ((bodyPointWatch pk k s).stateOr u).memWf = true := by
  unfold bodyPointWatch
  refine onPoint_wf _ (fun _ _ _ hx => ?_) hu h
  dsimp only
  iterate 2 (split; exact hu)
  exact hx

theorem execWatchTimeout_wf (q tag : Nat) (s : State) (h : s.memWf = true) : StaysWf (execWatchTimeout q tag s) := by
  unfold execWatchTimeout
  refine StaysWf.next ?_
  dsimp only
  split
  · exact State.ite_wf (Cmd.final_wf _ _ _ _ (Point.loadAt_wf _ _ (untilElapsed_wf _ _ h))) (Cmd.final_wf _ _ _ _
      (Point.loadAt_wf _ _ (untilElapsed_wf _ _ h)))
  exact h

/-! ### Zones -/

theorem Zone.deliver_wf (t n : Nat) (s : State) (h : s.memWf = true) : (Zone.deliver t n s).memWf = true := by
  unfold Zone.deliver
  dsimp only
  split
  · exact h
  exact State.foldl_wf (fun _ _ hx => Points.deliver_wf _ _ _ _ hx) h

/-! ### Loops -/

theorem Loops.realign_wf (t : Nat) (s : State) (h : s.memWf = true) : (Loops.realign t s).memWf = true := h

theorem Loops.restretch_wf (t : Nat) (s : State) (h : s.memWf = true) : (Loops.restretch t s).memWf = true :=
  State.ite_wf h (Ev.raise_wf _ _ _ _ h)

theorem loadPoints_wf (bs : List Nat) (s : State) (h : s.memWf = true) : (loadPoints bs s).memWf = true :=
  State.foldl_wf (fun _ _ hx => Point.check_wf _ _ hx) h

theorem Point.loopWrite_wf (id level : Nat) (v : Option F32) (s : State) (h : s.memWf = true) :
    (Point.loopWrite id level v s).2.memWf = true := by
  unfold Point.loopWrite
  dsimp only
  split
  · exact h
  split
  · dsimp only
    exact Point.load_wf _ _ _ h
  dsimp only
  exact Point.update_wf _ _ _ _ (Point.load_wf _ _ _ h)

theorem Loop.releaseOne_wf (t : Nat) (s : State) (b : Nat) (h : s.memWf = true) : (Loop.releaseOne t s b).memWf = true :=
  State.ite_wf (Point.loopWrite_wf _ _ _ _ h) (Out.fallback_wf _ _ h)

theorem Loop.release_wf (t : Nat) (l : Loop) (s : State) (h : s.memWf = true) : (Loop.release t l s).memWf = true :=
  State.foldl_wf (fun _ _ hx => Loop.releaseOne_wf _ _ _ hx) h

theorem Loop.send_wf (t b : Nat) (v : F32) (s : State) (h : s.memWf = true) : (Loop.send t b v s).memWf = true :=
  State.ite_wf (Out.deliver_wf _ _ _ _ _ h) (State.ite_wf h (State.ite_wf h h))

theorem Loop.emit_wf (t d n : Nat) (s : State) (h : s.memWf = true) : (Loop.emit t d n s).memWf = true := by
  unfold Loop.emit
  dsimp only
  split
  · exact h
  exact State.ite_wf h (State.ite_wf (State.ite_wf h (Point.loopWrite_wf _ _ _ _ h)) (Loop.send_wf _ _ _ _ h))

theorem Loop.publish_wf (t d : Nat) (s : State) (h : s.memWf = true) : (Loop.publish t d s).memWf = true := by
  unfold Loop.publish
  dsimp only
  split
  · exact h
  exact State.foldl_wf (fun _ _ hx => Points.deliver_wf _ _ _ _ (State.foldl_wf (fun _ _ hx => hx) hx)) h

theorem Loop.event_wf (t d code : Nat) (s : State) (h : s.memWf = true) : (Loop.event t d code s).memWf = true :=
  Ev.raise_wf _ _ _ _ h

theorem Loop.onFaultAct_wf (t d : Nat) (l : Loop) (s : State) (h : s.memWf = true) :
    (Loop.onFaultAct t d l s).memWf = true := by
  unfold Loop.onFaultAct
  refine State.ite_wf ?_ (State.ite_wf (State.ite_wf h (Loop.release_wf _ _ _ h)) (Loop.emit_wf _ _ _ _
      (Loop.emit_wf _ _ _ _ h)))
  dsimp only
  exact Loop.emit_wf _ _ _ _ (Loop.emit_wf _ _ _ _ h)

theorem Loop.evaluate_wf (snap : State) (t d b : Nat) (s : State) (h : s.memWf = true) :
    (Loop.evaluate snap t d b s).memWf = true := by
  unfold Loop.evaluate
  dsimp only
  split
  · exact h
  exact State.ite_wf h (State.ite_wf (Ev.raise_wf _ _ _ _ (Loop.publish_wf _ _ _ (Loop.release_wf _ _ _ h)))
      (State.ite_wf (Loop.publish_wf _ _ _ (Loop.onFaultAct_wf _ _ _ _ (State.ite_wf h (Loop.event_wf _ _ _ _ h))))
      (Loop.publish_wf _ _ _ (Loop.emit_wf _ _ _ _ (Loop.emit_wf _ _ _ _ (State.ite_wf
      (Loop.event_wf _ _ _ _ h) h))))))

theorem Loop.loadInputs_wf (t d : Nat) (s : State) (h : s.memWf = true) : (Loop.loadInputs t d s).memWf = true := by
  unfold Loop.loadInputs
  split
  · exact State.ite_wf (loadPoints_wf _ _ h) h
  exact h

theorem Loops.evaluate_wf (t b : Nat) (due : List Nat) (s : State) (h : s.memWf = true) :
    (Loops.evaluate t b due s).memWf = true :=
  State.foldl_wf (fun _ _ hx => hx) (State.foldl_wf (fun _ _ hx => Loop.evaluate_wf _ _ _ _ _ hx) (State.foldl_wf
      (fun _ _ hx => Loop.loadInputs_wf _ _ _ hx) h))

/-! ### Commands on loops -/

theorem onLoop_wf (pk : Packet) (s : State) {u : State} {f : Nat → Nat → Loop → Verdict}
    (hf : ∀ t d l, ((f t d l).stateOr u).memWf = true) (hu : u.memWf = true) :
        ((onLoop pk s f).stateOr u).memWf = true := by
  unfold onLoop
  dsimp only
  iterate 3 (split; exact hu)
  split
  · exact hu
  · exact hf _ _ _

theorem Loop.releaseDropped_wf (t : Nat) (old new : Loop) (s : State) (h : s.memWf = true) :
    (Loop.releaseDropped t old new s).memWf = true :=
  State.foldl_wf (fun _ _ hx => Loop.releaseOne_wf _ _ _ hx) h

theorem Loop.place_wf (pk : Packet) (k : Key) (t d : Nat) (old : Option Loop) (l : Loop) (before s : State)
    (u : State) (hu : u.memWf = true) (hbefore : before.memWf = true) (h : s.memWf = true) :
    ((Loop.place pk k t d old l before s).stateOr u).memWf = true := by
  unfold Loop.place
  dsimp only
  split
  · exact hu
  refine onRecords_wf _ (fun _ hx => ?_) hbefore h
  iterate 3 (split; exact hu)
  split
  · exact Loop.releaseDropped_wf _ _ _ _ hx
  exact hx

theorem bodyLoopCreate_wf (pk : Packet) (k : Key) (s u : State) (hu : u.memWf = true) (h : s.memWf = true) :
    ((bodyLoopCreate pk k s).stateOr u).memWf = true := by
  unfold bodyLoopCreate
  dsimp only
  iterate 3 (split; exact hu)
  split
  · exact hu
  · next put =>
    have staged := Stage.put_wf put h
    split
    · exact staged
    split
    · exact hu
    split
    · split
      · exact hu
      · exact Loop.place_wf _ _ _ _ _ _ _ _ _ hu h staged
    iterate 2 (split; exact hu)
    exact Loop.place_wf _ _ _ _ _ _ _ _ _ hu h staged

theorem bodyLoopDelete_wf (pk : Packet) (k : Key) (s : State) (u : State) (hu : u.memWf = true) (h : s.memWf = true) :
    ((bodyLoopDelete pk k s).stateOr u).memWf = true := by
  unfold bodyLoopDelete
  refine onLoop_wf _ _ (fun _ _ _ => ?_) hu
  dsimp only
  iterate 2 (split; exact hu)
  exact State.ite_wf h (Loop.release_wf _ _ _ h)

theorem bodyLoopRead_wf (pk : Packet) (k : Key) (s : State) (u : State) (hu : u.memWf = true) (h : s.memWf = true) :
    ((bodyLoopRead pk k s).stateOr u).memWf = true := by
  unfold bodyLoopRead
  refine onLoop_wf _ _ (fun _ _ _ => ?_) hu
  iterate 2 (split; exact hu)
  exact h

theorem bodyLoopLoad_wf (pk : Packet) (k : Key) (s : State) (u : State) (hu : u.memWf = true) (h : s.memWf = true) :
    ((bodyLoopLoad pk k s).stateOr u).memWf = true :=
  onTile_wf _ _ (fun _ => h) hu

theorem bodyLoopManual_wf (pk : Packet) (k : Key) (s : State) (u : State) (hu : u.memWf = true) (h : s.memWf = true) :
    ((bodyLoopManual pk k s).stateOr u).memWf = true := by
  unfold bodyLoopManual
  refine onLoop_wf _ _ (fun _ _ _ => ?_) hu
  iterate 3 (split; exact hu)
  exact h

theorem bodyLoopTune_wf (pk : Packet) (k : Key) (s : State) (u : State) (hu : u.memWf = true) (h : s.memWf = true) :
    ((bodyLoopTune pk k s).stateOr u).memWf = true := by
  unfold bodyLoopTune
  refine onLoop_wf _ _ (fun _ _ _ => ?_) hu
  dsimp only
  iterate 3 (split; exact hu)
  exact h

theorem Loops.run_wf (t : Nat) (s : State) (h : s.memWf = true) : (Loops.run t s).memWf = true := by
  unfold Loops.run
  dsimp only
  split
  · exact Loops.evaluate_wf _ _ _ _ (Meter.dueFirst_wf _ (untilTb_wf _ _ h))
  exact h

theorem execLoopEvaluation_wf (tile : Nat) (s : State) (h : s.memWf = true) : StaysWf (execLoopEvaluation tile s) :=
  StaysWf.next (whenever_wf (fun _ hx => Loops.run_wf _ _ hx) h)

/-! ### The predictor -/

theorem Zones.refit_wf (t : Nat) (s : State) (h : s.memWf = true) : (Zones.refit t s).memWf = true := by
  unfold Zones.refit
  extract_lets step
  have hStep : ∀ (a : Nat × State) (e : Nat × Zone × Solve), a.2.memWf = true → (step a e).2.memWf = true := by
    intro a e ha
    have hDropped : (a.2.modZone t e.1 (fun z => { z with solve := none })).memWf = true := ha
    have either : step a e = if cyclesFit s t (a.1 + solveCycles s t e.2.2.mac + 256) e.2.2.deadline
        then (a.1 + solveCycles s t e.2.2.mac, a.2) else (a.1, a.2.modZone t e.1 (fun z => { z with solve := none })) := rfl
    rw [either]
    split
    · exact ha
    · exact hDropped
  clear_value step
  split
  · exact h
  · exact List.foldlRecOn (motive := fun a : Nat × State => a.2.memWf = true) _ step h (fun a ha e _ => hStep a e ha)

theorem Zones.abandon_wf (t : Nat) (s : State) (h : s.memWf = true) : (Zones.abandon t s).memWf = true := h

theorem Zone.swap_wf (t n : Nat) (r : Rebuild) (s : State) (h : s.memWf = true) : (Zone.swap t n r s).memWf = true :=
  State.foldl_wf (fun _ _ hx => Cmd.final_wf _ _ _ _ hx) h

theorem Zone.swapOrLate_wf (t n : Nat) (r : Rebuild) (s : State) (h : s.memWf = true) :
    (Zone.swapOrLate t n r s).memWf = true := by
  unfold Zone.swapOrLate
  refine State.ite_wf (Zone.swap_wf _ _ _ _ h) ?_
  refine State.ite_wf h ?_
  dsimp only
  exact Ev.raise_wf _ _ _ _ h

theorem Zone.takeDims_wf (t n : Nat) (r : Rebuild) (d : BitVec 2048) (s : State) (h : s.memWf = true) :
    (Zone.takeDims t n r d s).memWf = true := by
  unfold Zone.takeDims
  refine State.ite_wf h ?_
  dsimp only
  exact Zone.swapOrLate_wf _ _ _ _ h

theorem Zone.swapDue_wf (t n : Nat) (s : State) (h : s.memWf = true) : (Zone.swapDue t n s).memWf = true := by
  unfold Zone.swapDue
  iterate 2 (split; exact h)
  split
  · exact State.ite_wf (Zone.swapOrLate_wf _ _ _ _ h) (Zone.takeDims_wf _ _ _ _ _ h)
  exact Zone.swapOrLate_wf _ _ _ _ h

theorem Zone.publish_wf (t n b : Nat) (stepped : Bool) (s : State) (h : s.memWf = true) :
    (Zone.publish t n b stepped s).memWf = true := by
  unfold Zone.publish
  dsimp only
  split
  · exact h
  refine State.ite_wf h ?_
  split
  · exact h
  exact State.ite_wf (Ev.raise_wf _ _ _ _ h) h

theorem Zone.loadInputs_wf (z : Zone) (s : State) (h : s.memWf = true) : (Zone.loadInputs z s).memWf = true :=
  loadPoints_wf _ _ h

theorem Zone.acceptTest_wf (t n : Nat) (z : Zone) (s : State) (h : s.memWf = true) :
    (Zone.acceptTest t n z s).memWf = true := by
  unfold Zone.acceptTest
  refine State.ite_wf h ?_
  dsimp only
  exact State.ite_wf (Ev.raise_wf _ _ _ _ h) h

theorem Zone.learnStep_wf (t n : Nat) (stepped : Bool) (r : ZoneReading) (move : Option (List F32)) (s : State)
    (h : s.memWf = true) :
    (Zone.learnStep t n stepped r move s).memWf = true := by
  unfold Zone.learnStep
  dsimp only
  split
  · exact h
  refine State.ite_wf h ?_
  refine State.ite_wf h ?_
  split
  · exact State.ite_wf (Zone.acceptTest_wf _ _ _ _ h) h
  exact h

theorem Zone.snapshot_wf (t n b : Nat) (r : ZoneReading) (s : State) (h : s.memWf = true) :
    (Zone.snapshot t n b r s).memWf = true := by
  unfold Zone.snapshot
  dsimp only
  split
  · exact h
  exact State.ite_wf h (State.ite_wf (Ev.raise_wf _ _ _ _ h) h)

theorem Zone.crcFail_wf (t n : Nat) (s : State) (h : s.memWf = true) : (Zone.crcFail t n s).memWf = true :=
  Ev.raise_wf _ _ _ _ (Zone.deliver_wf _ _ _ h)

theorem Zone.release_wf (t n b deadline : Nat) (r : ZoneReading) (s : State) (h : s.memWf = true) :
    (Zone.release t n b deadline r s).memWf = true := by
  unfold Zone.release
  split
  · exact h
  exact State.ite_wf h (State.ite_wf (Zone.crcFail_wf _ _ _ h) (State.ite_wf h h))

theorem Zone.boundary_wf (t n b : Nat) (stepped : Bool) (s : State) (h : s.memWf = true) :
    (Zone.boundary t n b stepped s).memWf = true := by
  unfold Zone.boundary
  dsimp only
  split
  · exact Zone.deliver_wf _ _ _ (Zone.publish_wf _ _ _ _ _ (Zone.swapDue_wf _ _ _ h))
  exact Zone.release_wf _ _ _ _ _ _ (Zone.snapshot_wf _ _ _ _ _ (Zone.learnStep_wf _ _ _ _ _ _
      (Zone.loadInputs_wf _ _ (Zone.deliver_wf _ _ _ (Zone.publish_wf _ _ _ _ _ (Zone.swapDue_wf _ _ _ h))))))

theorem Zone.runDue_wf (t n : Nat) (s : State) (h : s.memWf = true) : (Zone.runDue t n s).memWf = true := by
  unfold Zone.runDue
  split
  · exact State.ite_wf (Zone.boundary_wf _ _ _ _ _ (Meter.dueFirst_wf _ (untilTb_wf _ _ h))) h
  exact h

/-! ### Commands on zones -/

theorem onZone_wf (pk : Packet) (s : State) {u : State} {f : Nat → Nat → Zone → Verdict}
    (hf : ∀ t n z, ((f t n z).stateOr u).memWf = true) (hu : u.memWf = true) :
        ((onZone pk s f).stateOr u).memWf = true := by
  unfold onZone
  dsimp only
  iterate 3 (split; exact hu)
  split
  · exact hu
  · exact hf _ _ _

theorem onZoneConf_wf (pk : Packet) (s : State) {u : State} {f : Nat → Nat → Zone → Verdict}
    (hf : ∀ t n z, ((f t n z).stateOr u).memWf = true) (hu : u.memWf = true) :
        ((onZoneConf pk s f).stateOr u).memWf = true := by
  refine onZone_wf _ _ (fun t n z => ?_) hu
  split
  · exact hu
  exact hf _ _ _

theorem Zone.endRebuild_wf (z : Zone) (s : State) (h : s.memWf = true) : (Zone.endRebuild z s).memWf = true :=
  State.foldl_wf (fun _ _ hx => Cmd.final_wf _ _ _ _ hx) h

theorem Zone.replace_wf (k : Key) (t n : Nat) (old z : Zone) (s : State) (u : State) (_hu : u.memWf = true)
    (h : s.memWf = true) :
    ((Zone.replace k t n old z s).stateOr u).memWf = true := by
  unfold Zone.replace
  dsimp only
  split
  · exact h
  exact Zone.endRebuild_wf _ _ h

theorem Zone.place_wf (pk : Packet) (k : Key) (t n : Nat) (old : Option Zone) (z : Zone) (before s : State)
    (u : State) (hu : u.memWf = true) (hbefore : before.memWf = true) (h : s.memWf = true) :
    ((Zone.place pk k t n old z before s).stateOr u).memWf = true := by
  unfold Zone.place
  dsimp only
  split
  · exact hu
  refine onRecords_wf _ (fun _ hx => ?_) hbefore h
  iterate 2 (split; exact hu)
  split
  · split
    · exact hu
    exact Zone.replace_wf _ _ _ _ _ _ _ hu hx
  split
  · exact hu
  exact hx

theorem bodyZoneCreate_wf (pk : Packet) (k : Key) (s u : State) (hu : u.memWf = true) (h : s.memWf = true) :
    ((bodyZoneCreate pk k s).stateOr u).memWf = true := by
  unfold bodyZoneCreate
  dsimp only
  iterate 3 (split; exact hu)
  split
  · exact hu
  · next put =>
    have staged := Stage.put_wf put h
    split
    · exact staged
    split
    · exact hu
    split
    · split
      · exact hu
      · exact Zone.place_wf _ _ _ _ _ _ _ _ _ hu h staged
    iterate 2 (split; exact hu)
    exact Zone.place_wf _ _ _ _ _ _ _ _ _ hu h staged

theorem Zone.endWaiters_wf (z : Zone) (st : Byte) (res : Nat) (s : State) (h : s.memWf = true) :
    (Zone.endWaiters z st res s).memWf = true :=
  State.foldl_wf (fun _ _ hx => Cmd.final_wf _ _ _ _ hx) h

theorem bodyZoneDelete_wf (pk : Packet) (k : Key) (s : State) (u : State) (hu : u.memWf = true) (h : s.memWf = true) :
    ((bodyZoneDelete pk k s).stateOr u).memWf = true := by
  unfold bodyZoneDelete
  refine onZoneConf_wf _ _ (fun _ _ _ => ?_) hu
  dsimp only
  split
  · exact hu
  exact Zone.endWaiters_wf _ _ _ _ h

theorem bodyZoneRead_wf (pk : Packet) (k : Key) (s : State) (u : State) (hu : u.memWf = true) (h : s.memWf = true) :
    ((bodyZoneRead pk k s).stateOr u).memWf = true := by
  unfold bodyZoneRead
  refine onZone_wf _ _ (fun _ _ _ => ?_) hu
  dsimp only
  iterate 2 (split; exact hu)
  split
  · exact h
  exact h

theorem bodyZoneModel_wf (pk : Packet) (k : Key) (s u : State) (hu : u.memWf = true) (h : s.memWf = true) :
    ((bodyZoneModel pk k s).stateOr u).memWf = true := by
  unfold bodyZoneModel
  refine onZoneConf_wf _ _ (fun _ _ _ => ?_) hu
  dsimp only
  split
  · exact hu
  split
  · exact hu
  · next put =>
    have staged := Stage.put_wf put h
    split
    · exact staged
    iterate 2 (split; exact hu)
    exact staged

theorem bodyPredSolve_wf (pk : Packet) (k : Key) (s : State) (u : State) (hu : u.memWf = true) (h : s.memWf = true) :
    ((bodyPredSolve pk k s).stateOr u).memWf = true := by
  unfold bodyPredSolve
  refine onZoneConf_wf _ _ (fun _ _ _ => ?_) hu
  iterate 2 (split; exact hu)
  exact h

theorem execPredSolveDone_wf (tile zone : Nat) (s : State) (h : s.memWf = true) :
    StaysWf (execPredSolveDone tile zone s) := by
  unfold execPredSolveDone
  refine StaysWf.next ?_
  dsimp only
  split
  · split
    · exact State.ite_wf (Cmd.final_wf _ _ _ _ h) h
    exact h
  exact h

theorem execPredSolveTimeout_wf (tile zone : Nat) (s : State) (h : s.memWf = true) :
    StaysWf (execPredSolveTimeout tile zone s) := by
  unfold execPredSolveTimeout
  refine StaysWf.next ?_
  dsimp only
  split
  · split
    · exact Cmd.final_wf _ _ _ _ (untilElapsed_wf _ _ h)
    exact h
  exact h

theorem bodyPredPlanRead_wf (pk : Packet) (k : Key) (s : State) (u : State) (hu : u.memWf = true) (h : s.memWf = true) :
    ((bodyPredPlanRead pk k s).stateOr u).memWf = true := by
  unfold bodyPredPlanRead
  refine onZone_wf _ _ (fun _ _ _ => ?_) hu
  dsimp only
  iterate 4 (split; exact hu)
  split
  · exact h
  exact h

theorem bodyPredLearn_wf (pk : Packet) (k : Key) (s : State) (u : State) (hu : u.memWf = true) (h : s.memWf = true) :
    ((bodyPredLearn pk k s).stateOr u).memWf = true := by
  unfold bodyPredLearn
  refine onZoneConf_wf _ _ (fun _ _ _ => ?_) hu
  dsimp only
  iterate 4 (split; exact hu)
  exact h

theorem bodyPredAccept_wf (pk : Packet) (k : Key) (s : State) (u : State) (hu : u.memWf = true) (h : s.memWf = true) :
    ((bodyPredAccept pk k s).stateOr u).memWf = true := by
  unfold bodyPredAccept
  refine onZoneConf_wf _ _ (fun _ _ _ => ?_) hu
  split
  · split
    · exact hu
    split
    · exact hu
    exact h
  split
  · split
    · exact hu
    exact h
  exact hu

theorem bodyPredPause_wf (pk : Packet) (k : Key) (s : State) (u : State) (hu : u.memWf = true) (h : s.memWf = true) :
    ((bodyPredPause pk k s).stateOr u).memWf = true := by
  unfold bodyPredPause
  refine onZoneConf_wf _ _ (fun _ _ _ => ?_) hu
  split
  · exact hu
  exact h

theorem bodyPredSched_wf (pk : Packet) (k : Key) (s : State) (u : State) (hu : u.memWf = true) (h : s.memWf = true) :
    ((bodyPredSched pk k s).stateOr u).memWf = true := by
  unfold bodyPredSched
  refine onTile_wf _ _ (fun _ => ?_) hu
  dsimp only
  split
  · split
    · exact hu
    exact h
  iterate 3 (split; exact hu)
  exact h

theorem bodyPredLoad_wf (pk : Packet) (k : Key) (s : State) (u : State) (hu : u.memWf = true) (h : s.memWf = true) :
    ((bodyPredLoad pk k s).stateOr u).memWf = true :=
  onTile_wf _ _ (fun _ => h) hu

theorem bodyZoneTune_wf (pk : Packet) (k : Key) (s : State) (u : State) (hu : u.memWf = true) (h : s.memWf = true) :
    ((bodyZoneTune pk k s).stateOr u).memWf = true := by
  unfold bodyZoneTune
  refine onZoneConf_wf _ _ (fun _ _ _ => ?_) hu
  dsimp only
  iterate 2 (split; exact hu)
  split
  · exact State.ite_wf h h
  exact h

theorem execZoneBoundary_wf (tile zone : Nat) (s : State) (h : s.memWf = true) : StaysWf (execZoneBoundary tile zone s) :=
  StaysWf.next (Zone.runDue_wf _ _ _ h)

theorem execSolveComplete_wf (tile zone : Nat) (s : State) (h : s.memWf = true) :
    StaysWf (execSolveComplete tile zone s) := by
  unfold execSolveComplete
  refine StaysWf.next ?_
  dsimp only
  split
  · exact State.ite_wf h h
  exact h

theorem execGainRebuildDone_wf (tile zone : Nat) (s : State) (h : s.memWf = true) :
    StaysWf (execGainRebuildDone tile zone s) := by
  unfold execGainRebuildDone
  refine StaysWf.next ?_
  dsimp only
  split
  · exact State.ite_wf (State.ite_wf (Zone.boundary_wf _ _ _ _ _ (Meter.dueFirst_wf _ h)) h) h
  exact h

/-! ### Steps of TB -/

theorem onTiles_wf {f : Nat → State → State} {s : State} (hf : ∀ t x, x.memWf = true → (f t x).memWf = true)
    (h : s.memWf = true) : (onTiles f s).memWf = true :=
  State.foldl_wf (fun x t => hf t x) h

theorem Tb.reseconds_wf (s : State) (h : s.memWf = true) : (Tb.reseconds s).memWf = true :=
  onTiles_wf (fun _ _ hx => hx) h

theorem Seq.rebaseBoth_wf (t : Nat) (s : State) (h : s.memWf = true) : (Seq.rebaseBoth t s).memWf = true := h

theorem Zones.catchUp_wf (t n : Nat) : ∀ s : State, s.memWf = true → (Zones.catchUp t n s).memWf = true := by
  induction n with
  | zero => exact fun _ h => h
  | succ n ih =>
    intro s h
    unfold Zones.catchUp
    split
    · exact ih _ (Zone.boundary_wf _ _ _ _ _ h)
    · exact h

theorem Loops.catchUp_wf (t : Nat) (s : State) (h : s.memWf = true) : (Loops.catchUp t s).memWf = true :=
  State.ite_wf (Loops.evaluate_wf _ _ _ _ h) h

theorem Drv.endCycle_wf (t j : Nat) (s : State) (h : s.memWf = true) : (Drv.endCycle t j s).memWf = true :=
  State.ite_wf h (Drv.off_wf _ _ _ h)

theorem Drv.passCycle_wf (t j : Nat) (s : State) (h : s.memWf = true) : (Drv.passCycle t j s).memWf = true :=
  State.ite_wf (Drv.endCycle_wf _ _ _ h) h

theorem Tb.forwardTile_wf (t : Nat) (s : State) (h : s.memWf = true) : (Tb.forwardTile t s).memWf = true :=
  State.foldl_wf (fun _ _ hx => Drv.passCycle_wf _ _ _ hx)
    (Seq.rebaseBoth_wf _ _ (Loops.catchUp_wf _ _ (Zones.catchUp_wf _ _ _ h)))

theorem Tb.checkNodes_wf (t : Nat) (s : State) (h : s.memWf = true) : (Tb.checkNodes t s).memWf = true :=
  State.foldl_wf (fun _ _ hx => State.ite_wf hx (Bus.checkNodes_wf _ _ hx)) h

theorem Tb.forward_wf (old : Nat) (wasValid : Bool) (s : State) (h : s.memWf = true) :
    (Tb.forward old wasValid s).memWf = true :=
  onTiles_wf (fun _ _ hx => Tb.checkNodes_wf _ _ hx) (Tb.reseconds_wf _ (onTiles_wf
      (fun _ _ hx => Tb.forwardTile_wf _ _ hx) (State.ite_wf (Meter.stepForward_wf _ _ _ h) h)))

theorem Zones.realign_wf (t : Nat) (s : State) (h : s.memWf = true) : (Zones.realign t s).memWf = true := h

theorem Tb.backTile_wf (back t : Nat) (s : State) (h : s.memWf = true) : (Tb.backTile back t s).memWf = true := by
  unfold Tb.backTile
  extract_lets looped rebased
  have hLooped : looped.memWf = true := Loops.realign_wf _ _ h
  have hRebased : rebased.memWf = true := Seq.rebaseBoth_wf _ _ (Zones.realign_wf _ _ hLooped)
  exact State.foldl_wf (fun _ _ hx => Drv.endCycle_wf _ _ _ hx) hRebased

theorem Tb.back_wf (old : Nat) (s : State) (h : s.memWf = true) : (Tb.back old s).memWf = true :=
  Tb.reseconds_wf _ (onTiles_wf (fun _ _ hx => Tb.backTile_wf _ _ _ hx) h)

theorem Tb.validate_wf (was : Bool) (s : State) (h : s.memWf = true) : (Tb.validate was s).memWf = true :=
  State.ite_wf h (Meter.validate_wf _ h)

theorem Tb.stepTo_wf (code new : Nat) (mark : Bool) (s : State) (h : s.memWf = true) :
    (Tb.stepTo code new mark s).memWf = true :=
  Tb.validate_wf _ _ (State.ite_wf (Tb.forward_wf _ _ _ (Ev.raise_wf _ _ _ _ h)) (State.ite_wf (Tb.back_wf _ _
      (Ev.raise_wf _ _ _ _ h)) (Ev.raise_wf _ _ _ _ h)))

/-! ### The time base -/

theorem bodyTbSet_wf (pk : Packet) (k : Key) (s : State) (u : State) (hu : u.memWf = true) (h : s.memWf = true) :
    ((bodyTbSet pk k s).stateOr u).memWf = true := by
  unfold bodyTbSet
  dsimp only
  iterate 2 (split; exact hu)
  exact Tb.stepTo_wf _ _ _ _ h

theorem bodyTbSlew_wf (pk : Packet) (k : Key) (s : State) (u : State) (hu : u.memWf = true) (h : s.memWf = true) :
    ((bodyTbSlew pk k s).stateOr u).memWf = true := by
  unfold bodyTbSlew
  dsimp only
  iterate 2 (split; exact hu)
  exact h

theorem bodyTbRead_wf (pk : Packet) (k : Key) (s : State) (u : State) (_hu : u.memWf = true) (h : s.memWf = true) :
    ((bodyTbRead pk k s).stateOr u).memWf = true :=
  h

theorem execPpsOutRise_wf (s : State) (h : s.memWf = true) : StaysWf (execPpsOutRise s) :=
  StaysWf.next (whenever_wf (fun _ hx => State.withTb_wf (untilTb_wf _ _ hx)) h)

theorem execPpsOutFall_wf (s : State) (h : s.memWf = true) : StaysWf (execPpsOutFall s) :=
  StaysWf.next (whenever_wf (fun _ hx => State.withTb_wf (untilElapsed_wf _ _ hx)) h)

theorem execPpsInEdge_wf (s : State) (h : s.memWf = true) : StaysWf (execPpsInEdge s) :=
  StaysWf.next (whenever_wf (fun _ hx => hx) h)

theorem Cross.arrive_wf (src dst : Nat) (item : CrossItem) (s : State) (h : s.memWf = true) :
    (Cross.arrive src dst item s).memWf = true := by
  unfold Cross.arrive
  split
  · exact Out.deliver_wf _ _ _ _ _ h
  · exact Out.deliver_wf _ _ _ _ _ h
  · exact Out.deliver_wf _ _ _ _ _ h
  · exact h
  · exact h

theorem execCrossTileDelivery_wf (src dst : Nat) (s : State) (h : s.memWf = true) :
    StaysWf (execCrossTileDelivery src dst s) := by
  unfold execCrossTileDelivery
  refine StaysWf.next ?_
  dsimp only
  split
  · exact State.ite_wf (State.ite_wf (Cross.arrive_wf _ _ _ _ h) h) h
  exact h

theorem execTileSkewClear_wf (edge quantity : Nat) (s : State) (h : s.memWf = true) :
    StaysWf (execTileSkewClear edge quantity s) := by
  refine StaysWf.next ?_
  extract_lets i k
  split
  · exact State.ite_wf (Ev.raiseCleared_wf _ _ _ _ (State.withPw_wf (untilElapsed_wf _ _ h))) h
  · exact h

/-! ### Links, peers and records -/

theorem Point.setStale_wf (id : Nat) (s : State) (h : s.memWf = true) : (Point.setStale id s).memWf = true :=
  Point.restatus_wf _ _ _ h

theorem Fed.staleAll_wf (chip : Nat) (s : State) (h : s.memWf = true) : (Fed.staleAll chip s).memWf = true :=
  State.foldl_wf (fun _ _ hx => Point.setStale_wf _ _ hx) h

theorem Fed.sweepPoint_wf (chip id : Nat) (s : State) (h : s.memWf = true) : (Fed.sweepPoint chip id s).memWf = true := by
  unfold Fed.sweepPoint
  dsimp only
  split
  · exact State.ite_wf (Fed.queueUpdate_wf _ _ _ _ (Point.load_wf _ _ _ h)) (Point.load_wf _ _ _ h)
  exact h

theorem Fed.sweep_wf (chip : Nat) (s : State) (h : s.memWf = true) : (Fed.sweep chip s).memWf = true :=
  State.foldl_wf (fun _ _ hx => Fed.sweepPoint_wf _ _ _ hx) h

theorem Fed.repath_wf (old : Path) (chip : Nat) (s : State) (h : s.memWf = true) : (Fed.repath old chip s).memWf = true :=
  State.ite_wf h (State.ite_wf (Fed.staleAll_wf _ _ h) (Fed.sweep_wf _ _ h))

theorem Fed.withPath_wf (chip : Nat) {f : State → State} {s : State} (hf : ∀ x, x.memWf = true → (f x).memWf = true)
    (h : s.memWf = true) : (Fed.withPath chip f s).memWf = true :=
  Fed.repath_wf _ _ _ (hf s h)

theorem Fed.etherChange_wf (s : State) (h : s.memWf = true) : (Fed.etherChange s).memWf = true :=
  State.foldl_wf (fun _ _ hx => Fed.sweep_wf _ _ hx) h

theorem Fed.conflict_wf (chip : Nat) (serial : BitVec 48) (s : State) (h : s.memWf = true) :
    (Fed.conflict chip serial s).memWf = true :=
  Ev.raise_wf _ _ _ _ (State.ite_wf h h)

theorem Fed.reboot_wf (chip : Nat) (s : State) (h : s.memWf = true) : (Fed.reboot chip s).memWf = true :=
  State.foldl_wf (fun _ _ hx => Fed.queue_wf _ _ _ hx) (Fed.staleAll_wf _ _ h)

theorem Fed.noteBoot_wf (chip : Nat) (old : Option Word) (boot : Word) (s : State) (h : s.memWf = true) :
    (Fed.noteBoot chip old boot s).memWf = true := by
  unfold Fed.noteBoot
  split
  · exact State.ite_wf h (Fed.reboot_wf _ _ h)
  exact h

theorem Fed.dropPeer_wf (chip : Nat) (s : State) (h : s.memWf = true) : (Fed.dropPeer chip s).memWf = true :=
  Fed.withPath_wf _ (fun _ hx => hx) h

theorem Fed.limit_wf (s : State) (h : s.memWf = true) : (Fed.limit s).memWf = true :=
  State.ite_wf h (Ev.raise_wf _ _ _ _ h)

theorem Fed.takePeer_wf (h : AmzHeader) (s : State) (hs : s.memWf = true) : (Fed.takePeer h s).memWf = true :=
  Fed.noteBoot_wf _ _ _ _ (Fed.withPath_wf _ (fun _ hx => hx) hs)

theorem Fed.welcome_wf (h : AmzHeader) (s : State) (hs : s.memWf = true) : (Fed.welcome h s).memWf = true := by
  unfold Fed.welcome
  refine State.ite_wf (Fed.takePeer_wf _ _ hs) ?_
  dsimp only
  exact State.ite_wf (Fed.takePeer_wf _ _ hs) (State.ite_wf (Fed.limit_wf _ hs) (Fed.limit_wf _ (Fed.takePeer_wf _ _
      (Fed.dropPeer_wf _ _ hs))))

theorem Fed.announced_wf (h : AmzHeader) (s : State) (hs : s.memWf = true) : (Fed.announced h s).memWf = true :=
  State.ite_wf (State.ite_wf hs (Fed.conflict_wf _ _ _ hs)) (Fed.welcome_wf _ _ hs)

theorem Link.event_wf (l code chip version : Nat) (s : State) (h : s.memWf = true) :
    (Link.event l code chip version s).memWf = true :=
  Ev.raise_wf _ _ _ _ h

theorem Link.retrain_wf (l : Nat) (s : State) (h : s.memWf = true) : (Link.retrain l s).memWf = true := h

theorem Link.leave_wf (l : Nat) {f : State → State} {s : State} (hf : ∀ x, x.memWf = true → (f x).memWf = true)
    (h : s.memWf = true) : (Link.leave l f s).memWf = true :=
  Cal.abort_wf _ _ (State.ite_wf (Fed.withPath_wf _ hf h) (hf s h))

theorem Link.trained_wf (l : Nat) (p : TrainInfo) (s : State) (h : s.memWf = true) : (Link.trained l p s).memWf = true :=
  State.ite_wf (Link.event_wf _ _ _ _ _ (State.ite_wf (Fed.conflict_wf _ _ _ h) h)) (Fed.noteBoot_wf _ _ _ _
      (Link.event_wf _ _ _ _ _ (Fed.withPath_wf _ (fun _ hx => hx) (State.ite_wf (Fed.conflict_wf _ _ _ h) h))))

theorem Link.disable_wf (l : Nat) (s : State) (h : s.memWf = true) : (Link.disable l s).memWf = true :=
  Link.leave_wf _ (fun _ hx => hx) h

theorem Link.fall_wf (l : Nat) (s : State) (h : s.memWf = true) : (Link.fall l s).memWf = true :=
  Link.leave_wf _ (fun _ hx => hx) (Link.event_wf _ _ _ _ _ h)

theorem Link.command_wf (l op maxver : Nat) (s : State) (h : s.memWf = true) :
    (Link.command l op maxver s).memWf = true :=
  State.ite_wf (Link.disable_wf _ _ h) (State.ite_wf (State.ite_wf h h) (State.ite_wf (State.ite_wf h h)
      (State.ite_wf (Link.leave_wf _ (fun _ hx => hx) h) h)))

theorem Fed.stop_wf (s : State) (h : s.memWf = true) : (Fed.stop s).memWf = true :=
  State.foldl_wf (fun _ _ hx => Link.leave_wf _ (fun _ hx => hx) hx) h

theorem Fed.resume_wf (s : State) (h : s.memWf = true) : (Fed.resume s).memWf = true := by
  unfold Fed.resume
  extract_lets retrained _ announced
  have hRetrained : retrained.memWf = true := State.foldl_wf (fun _ _ hx => State.ite_wf (Link.retrain_wf _ _ hx) hx) h
  clear_value retrained
  have hAnnounced : announced.memWf = true := State.ite_wf hRetrained hRetrained
  clear_value announced
  exact State.foldl_wf (fun _ _ hx => Fed.sweep_wf _ _ hx) hAnnounced

theorem Link.frame_wf (l : Nat) (h : FrameHead) (s : State) (hs : s.memWf = true) : (Link.frame l h s).memWf = true :=
  State.ite_wf hs (State.ite_wf (Link.fall_wf _ _ hs) hs)

theorem Fed.arrive_wf (via : Via) (s : State) (h : s.memWf = true) : (Fed.arrive via s).memWf = true := by
  unfold Fed.arrive
  split
  · exact Link.frame_wf _ _ _ h
  exact State.ite_wf h (State.ite_wf h (State.ite_wf h (Fed.welcome_wf _ _ h)))

theorem Fed.heardFrom_wf (via : Via) (chip : Nat) (s : State) (h : s.memWf = true) :
    (Fed.heardFrom via chip s).memWf = true := by
  unfold Fed.heardFrom
  dsimp only
  split
  · exact h
  exact h

theorem Fed.countRec_wf (via : Via) (ok : Bool) (s : State) (h : s.memWf = true) :
    (Fed.countRec via ok s).memWf = true := by
  unfold Fed.countRec
  dsimp only
  split
  · exact h
  exact State.ite_wf h h

theorem Fed.receive_wf (via : Via) (type : Nat) (r : MirrorRec) {f : Nat → State → State} {s : State}
    (hf : ∀ c x, x.memWf = true → (f c x).memWf = true) (h : s.memWf = true) :
        (Fed.receive via type r f s).memWf = true := by
  unfold Fed.receive
  refine State.ite_wf h ?_
  dsimp only
  split
  · exact Fed.arrive_wf _ _ h
  · have heard := Fed.heardFrom_wf via ‹Nat› _ (Fed.arrive_wf via s h)
    exact State.ite_wf (hf _ _ heard) (Fed.countRec_wf _ _ _ heard)

theorem Fed.apply_wf (via : Via) (r : MirrorRec) (s : State) (h : s.memWf = true) : (Fed.apply via r s).memWf = true := by
  unfold Fed.apply
  dsimp only
  iterate 2 (split; exact h)
  exact State.ite_wf h (State.ite_wf (Point.store_wf _ _ _ _ (Fed.countRec_wf _ _ _ (Point.load_wf _ _ _ h)))
      (Point.load_wf _ _ _ h))

theorem Fed.grant_wf (via : Via) (chip : Nat) (r : MirrorRec) (s : State) (h : s.memWf = true) :
    (Fed.grant via chip r s).memWf = true := by
  unfold Fed.grant
  dsimp only
  split
  · exact Cmd.final_wf _ _ _ _ (Fed.countRec_wf _ _ _ h)
  exact State.ite_wf (Fed.apply_wf _ _ _ h) (Fed.queue_wf _ _ _ h)

theorem Fed.refuse_wf (via : Via) (r : MirrorRec) (s : State) (h : s.memWf = true) :
    (Fed.refuse via r s).memWf = true := by
  unfold Fed.refuse
  dsimp only
  split
  · exact Cmd.finalBad_wf _ _ _ (Fed.countRec_wf _ _ _ h)
  iterate 2 (split; exact Fed.countRec_wf _ _ _ h)
  exact State.ite_wf (Fed.countRec_wf _ _ _ h) (Ev.raise_wf _ _ _ _ (State.ite_wf (Point.store_wf _ _ _ _
      (Point.load_wf _ _ _ (Fed.countRec_wf _ _ _ h))) (Point.load_wf _ _ _ (Fed.countRec_wf _ _ _ h))))

theorem Fed.subscribe_wf (via : Via) (chip : Nat) (r : MirrorRec) (s : State) (h : s.memWf = true) :
    (Fed.subscribe via chip r s).memWf = true := by
  unfold Fed.subscribe
  dsimp only
  refine State.ite_wf (Point.check_wf _ _ (Fed.countRec_wf _ _ _ h)) ?_
  split
  · exact Fed.queue_wf _ _ _ (Point.check_wf _ _ (Fed.countRec_wf _ _ _ h))
  exact Fed.queue_wf _ _ _ (Point.check_wf _ _ (Fed.countRec_wf _ _ _ h))

theorem Ptp.measure_wf (m : PtpSync) (s : State) (h : s.memWf = true) : (Ptp.measure m s).2.memWf = true := h

theorem Ptp.request_wf (arrival : Nat) (s : State) (h : s.memWf = true) : (Ptp.request arrival s).memWf = true := h

theorem Ptp.delayed_wf (received : Nat) (s : State) (h : s.memWf = true) : (Ptp.delayed received s).memWf = true := by
  unfold Ptp.delayed
  dsimp only
  split
  · exact h
  exact h

theorem Ptp.correct_wf (offset rate : Int) (s : State) (h : s.memWf = true) : (Ptp.correct offset rate s).memWf = true :=
  State.ite_wf (Tb.stepTo_wf _ _ _ _ (State.withTb_wf h)) (State.ite_wf (Tb.stepTo_wf _ _ _ _ (State.withTb_wf h))
    (State.ite_wf (State.withTb_wf h) (State.withTb_wf h)))

theorem Ptp.judge_wf (offset : Int) (s : State) (h : s.memWf = true) : (Ptp.judge offset s).memWf = true :=
  State.ite_wf (Tb.validate_wf _ _ (Ev.raise_wf _ _ _ _ h)) h

theorem Ptp.sync_wf (offset rate : Int) (s : State) (h : s.memWf = true) : (Ptp.sync offset rate s).memWf = true :=
  Ptp.judge_wf _ _ (Ptp.correct_wf _ _ _ h)

/-! ### Commands of federation -/

theorem bodyFedIdentity_wf (pk : Packet) (k : Key) (s : State) (u : State) (hu : u.memWf = true) (h : s.memWf = true) :
    ((bodyFedIdentity pk k s).stateOr u).memWf = true := by
  unfold bodyFedIdentity
  dsimp only
  iterate 2 (split; exact hu)
  exact Nv.submit_wf _ _ _ _ _ hu h

theorem bodyFedLink_wf (pk : Packet) (k : Key) (s : State) (u : State) (hu : u.memWf = true) (h : s.memWf = true) :
    ((bodyFedLink pk k s).stateOr u).memWf = true := by
  unfold bodyFedLink
  split
  · exact hu
  exact Link.command_wf _ _ _ _ h

theorem bodyFedNet_wf (pk : Packet) (k : Key) (s : State) (u : State) (hu : u.memWf = true) (h : s.memWf = true) :
    ((bodyFedNet pk k s).stateOr u).memWf = true := by
  unfold bodyFedNet
  dsimp only
  iterate 2 (split; exact hu)
  exact h

theorem bodyFedPtp_wf (pk : Packet) (k : Key) (s : State) (u : State) (hu : u.memWf = true) (h : s.memWf = true) :
    ((bodyFedPtp pk k s).stateOr u).memWf = true := by
  unfold bodyFedPtp
  dsimp only
  iterate 2 (split; exact hu)
  exact h

theorem bodyFedExport_wf (pk : Packet) (k : Key) (s : State) (u : State) (hu : u.memWf = true) (h : s.memWf = true) :
    ((bodyFedExport pk k s).stateOr u).memWf = true := by
  unfold bodyFedExport
  dsimp only
  split
  · exact hu
  exact Fed.withdrawAll_wf _ h

theorem bodyFedMirror_wf (pk : Packet) (k : Key) (s : State) (u : State) (hu : u.memWf = true) (h : s.memWf = true) :
    ((bodyFedMirror pk k s).stateOr u).memWf = true := by
  unfold bodyFedMirror
  dsimp only
  iterate 6 (split; exact hu)
  exact Fed.queue_wf _ _ _ h

theorem bodyFedUnmirror_wf (pk : Packet) (k : Key) (s : State) (u : State) (hu : u.memWf = true) (h : s.memWf = true) :
    ((bodyFedUnmirror pk k s).stateOr u).memWf = true := by
  unfold bodyFedUnmirror
  dsimp only
  iterate 3 (split; exact hu)
  split
  · exact Point.load_wf _ _ _ h
  split
  · exact hu
  split
  · exact Point.load_wf _ _ _ h
  exact Point.remove_wf _ _ _ (Fed.queue_wf _ _ _ (Point.load_wf _ _ _ h))

theorem bodyFedStatus_wf (pk : Packet) (k : Key) (s : State) (u : State) (_hu : u.memWf = true) (h : s.memWf = true) :
    ((bodyFedStatus pk k s).stateOr u).memWf = true :=
  h

theorem bodyFedPeerRead_wf (pk : Packet) (k : Key) (s : State) (u : State) (hu : u.memWf = true) (h : s.memWf = true) :
    ((bodyFedPeerRead pk k s).stateOr u).memWf = true := by
  unfold bodyFedPeerRead
  dsimp only
  split
  · exact hu
  split
  · exact h
  exact h

theorem execLinkTrainingDone_wf (link : Nat) (peer : TrainInfo) (s : State) (h : s.memWf = true) :
    StaysWf (execLinkTrainingDone link peer s) :=
  StaysWf.next (whenever_wf (fun _ hx => Link.trained_wf _ _ _ hx) h)

theorem execLinkRetry_wf (link : Nat) (s : State) (h : s.memWf = true) : StaysWf (execLinkRetry link s) :=
  StaysWf.next (whenever_wf (fun _ hx => Link.retrain_wf _ _ (untilElapsed_wf _ _ hx)) h)

theorem execLinkDown_wf (link : Nat) (s : State) (h : s.memWf = true) : StaysWf (execLinkDown link s) :=
  StaysWf.next (whenever_wf (fun _ hx => Link.fall_wf _ _ hx) h)

theorem execLomuzFrame_wf (link : Nat) (head : FrameHead) (s : State) (h : s.memWf = true) :
    StaysWf (execLomuzFrame link head s) :=
  StaysWf.next (whenever_wf (fun _ hx => Link.frame_wf _ _ _ hx) h)

theorem execHoldOrderedSet_wf (link : Nat) (s : State) (h : s.memWf = true) : StaysWf (execHoldOrderedSet link s) :=
  StaysWf.next (whenever_wf (fun _ hx => hx) h)

theorem execLinkHoldEnd_wf (link : Nat) (s : State) (h : s.memWf = true) : StaysWf (execLinkHoldEnd link s) := by
  unfold execLinkHoldEnd
  refine StaysWf.next ?_
  refine whenever_wf (fun _ hx => ?_) h
  dsimp only
  exact Cal.apply_wf _ _ (untilElapsed_wf _ _ hx)

theorem execUpdate_wf (via : Via) (r : MirrorRec) (s : State) (h : s.memWf = true) : StaysWf (execUpdate via r s) :=
  StaysWf.next (Fed.receive_wf _ _ _ (fun _ _ hx => State.ite_wf (Fed.apply_wf _ _ _ hx) hx) h)

theorem execSubscribe_wf (via : Via) (r : MirrorRec) (s : State) (h : s.memWf = true) : StaysWf (execSubscribe via r s) :=
  StaysWf.next (Fed.receive_wf _ _ _ (fun _ _ hx => Fed.subscribe_wf _ _ _ _ hx) h)

theorem execGrant_wf (via : Via) (r : MirrorRec) (s : State) (h : s.memWf = true) : StaysWf (execGrant via r s) :=
  StaysWf.next (Fed.receive_wf _ _ _ (fun _ _ hx => State.ite_wf (Fed.grant_wf _ _ _ _ hx) hx) h)

theorem execRefuse_wf (via : Via) (r : MirrorRec) (s : State) (h : s.memWf = true) : StaysWf (execRefuse via r s) :=
  StaysWf.next (Fed.receive_wf _ _ _ (fun _ _ hx => State.ite_wf (Fed.refuse_wf _ _ _ hx) hx) h)

theorem execCancel_wf (via : Via) (r : MirrorRec) (s : State) (h : s.memWf = true) : StaysWf (execCancel via r s) := by
  unfold execCancel
  refine StaysWf.next ?_
  refine Fed.receive_wf _ _ _ (fun _ _ hx => ?_) h
  dsimp only
  exact Fed.countRec_wf _ _ _ hx

theorem execSweep_wf (chip : Nat) (s : State) (h : s.memWf = true) : StaysWf (execSweep chip s) :=
  StaysWf.next (whenever_wf (fun _ hx => Fed.sweep_wf _ _ (untilElapsed_wf _ _ hx)) h)

theorem execMirrorTimeout_wf (id : Nat) (s : State) (h : s.memWf = true) : StaysWf (execMirrorTimeout id s) := by
  unfold execMirrorTimeout
  refine StaysWf.next ?_
  dsimp only
  split
  · exact Cmd.final_wf _ _ _ _ (untilElapsed_wf _ _ h)
  exact h

theorem execReflectionStale_wf (id : Nat) (s : State) (h : s.memWf = true) : StaysWf (execReflectionStale id s) := by
  unfold execReflectionStale
  refine StaysWf.next ?_
  split
  · exact Point.setStale_wf _ _ (untilElapsed_wf _ _ h)
  exact h

theorem execAnnounce_wf (h : AmzHeader) (s : State) (hs : s.memWf = true) : StaysWf (execAnnounce h s) :=
  StaysWf.next (whenever_wf (fun _ hx => State.ite_wf (Fed.announced_wf _ _ hx) hx) hs)

theorem execAnnounceTimer_wf (s : State) (h : s.memWf = true) : StaysWf (execAnnounceTimer s) :=
  StaysWf.next (whenever_wf (fun _ hx => State.withFed_wf (untilElapsed_wf _ _ hx)) h)

theorem execPeerLost_wf (chip : Nat) (s : State) (h : s.memWf = true) : StaysWf (execPeerLost chip s) := by
  unfold execPeerLost
  refine StaysWf.next ?_
  dsimp only
  split
  · exact State.ite_wf (Fed.withPath_wf _ (fun _ hx => hx) (untilElapsed_wf _ _ h)) h
  exact h

theorem Fed.usePort_wf (en1 : Bool) (s : State) (h : s.memWf = true) : (Fed.usePort en1 s).memWf = true :=
  Fed.etherChange_wf _ (Ev.raise_wf _ _ _ _ h)

theorem execEnLinkLoss_wf (s : State) (h : s.memWf = true) : StaysWf (execEnLinkLoss s) := by
  unfold execEnLinkLoss
  refine StaysWf.next ?_
  refine whenever_wf (fun _ hx => ?_) h
  dsimp only
  exact State.ite_wf hx (Fed.usePort_wf _ _ hx)

theorem execEnLinkReturn_wf (s : State) (h : s.memWf = true) : StaysWf (execEnLinkReturn s) :=
  StaysWf.next (whenever_wf (fun _ hx => hx) h)

theorem execEnReturn_wf (s : State) (h : s.memWf = true) : StaysWf (execEnReturn s) :=
  StaysWf.next (whenever_wf (fun _ hx => Fed.usePort_wf _ _ (untilElapsed_wf _ _ hx)) h)

theorem execRouterAdvertisement_wf (frame : EnFrame) (s : State) (h : s.memWf = true) :
    StaysWf (execRouterAdvertisement frame s) := by
  unfold execRouterAdvertisement
  refine StaysWf.next ?_
  refine whenever_wf (fun _ hx => ?_) h
  dsimp only
  split
  · exact hx
  · exact whenever_wf (fun _ hx => hx) hx
  · exact whenever_wf (fun _ hx => Ptp.delayed_wf _ _ hx) hx
  · exact hx

theorem execSync_wf (m : PtpSync) (ratePpb : Int) (s : State) (h : s.memWf = true) : StaysWf (execSync m ratePpb s) :=
  StaysWf.next (whenever_wf (fun x hx => Ptp.request_wf _ _ (Ptp.sync_wf _ _ _ (Ptp.measure_wf m x hx))) h)

theorem execHoldover_wf (s : State) (h : s.memWf = true) : StaysWf (execHoldover s) := by
  unfold execHoldover
  refine StaysWf.next ?_
  refine whenever_wf (fun _ hx => ?_) h
  dsimp only
  exact Ev.raise_wf _ _ _ _ (untilElapsed_wf _ _ hx)

/-! ### Commands on calibration -/

theorem onItem_wf (pk : Packet) (s : State) {u : State} {f : Nat → Nat → Verdict}
    (hf : ∀ kind i, ((f kind i).stateOr u).memWf = true) (hu : u.memWf = true) :
        ((onItem pk s f).stateOr u).memWf = true := by
  unfold onItem
  dsimp only
  split
  · exact hu
  split
  · exact hu
  exact hf _ _

theorem Cal.startOther_wf (kind index : Nat) (k : Key) (s : State) (u : State) (hu : u.memWf = true) (h : s.memWf = true) :
    ((Cal.startOther kind index k s).stateOr u).memWf = true := by
  unfold Cal.startOther
  dsimp only
  split
  · exact hu
  split
  · split
    · exact hu
    exact h
  split
  · split
    · exact hu
    exact h
  exact h

theorem bodyCalRun_wf (pk : Packet) (k : Key) (s : State) (u : State) (hu : u.memWf = true) (h : s.memWf = true) :
    ((bodyCalRun pk k s).stateOr u).memWf = true := by
  unfold bodyCalRun
  refine onItem_wf _ _ (fun _ _ => ?_) hu
  iterate 2 (split; exact hu)
  split
  · exact Cal.converters_wf _ _ _ _ _ hu h
  exact Cal.startOther_wf _ _ _ _ _ hu h

theorem execCalMeasureTimeout_wf (channel : Nat) (s : State) (h : s.memWf = true) :
    StaysWf (execCalMeasureTimeout channel s) := by
  unfold execCalMeasureTimeout
  refine StaysWf.next ?_
  split
  · exact State.ite_wf (Cal.abort_wf _ _ (untilElapsed_wf _ _ h)) h
  exact h

theorem bodyCalMode_wf (pk : Packet) (k : Key) (s : State) (u : State) (hu : u.memWf = true) (h : s.memWf = true) :
    ((bodyCalMode pk k s).stateOr u).memWf = true := by
  unfold bodyCalMode
  refine onItem_wf _ _ (fun _ _ => ?_) hu
  dsimp only
  iterate 3 (split; exact hu)
  exact h

theorem bodyCalRead_wf (pk : Packet) (k : Key) (s : State) (u : State) (hu : u.memWf = true) (h : s.memWf = true) :
    ((bodyCalRead pk k s).stateOr u).memWf = true :=
  onItem_wf _ _ (fun _ _ => h) hu

theorem bodyCalSetRref_wf (pk : Packet) (k : Key) (s : State) (u : State) (hu : u.memWf = true) (h : s.memWf = true) :
    ((bodyCalSetRref pk k s).stateOr u).memWf = true := by
  unfold bodyCalSetRref
  refine onItem_wf _ _ (fun _ _ => ?_) hu
  dsimp only
  iterate 2 (split; exact hu)
  exact Cal.setPending_wf _ _ _ _ h

theorem bodyCalCommit_wf (m : Monitors) (pk : Packet) (k : Key) (s : State) (u : State) (hu : u.memWf = true)
    (h : s.memWf = true) :
    ((bodyCalCommit m pk k s).stateOr u).memWf = true := by
  unfold bodyCalCommit
  dsimp only
  iterate 6 (split; exact hu)
  exact h

theorem execFuseBurnDone_wf (good : Bool) (s : State) (h : s.memWf = true) : StaysWf (execFuseBurnDone good s) := by
  unfold execFuseBurnDone
  refine StaysWf.next ?_
  dsimp only
  split
  · exact State.ite_wf (Cmd.final_wf _ _ _ _ h) (Cmd.finalBad_wf _ _ _ (Ev.raise_wf _ _ _ _ h))
  exact h

theorem bodyFuseInfo_wf (pk : Packet) (k : Key) (s : State) (u : State) (_hu : u.memWf = true) (h : s.memWf = true) :
    ((bodyFuseInfo pk k s).stateOr u).memWf = true :=
  h

/-! ### Presence -/

theorem Port.setUnreliable_wf (t p : Nat) (b : Bool) (s : State) (h : s.memWf = true) :
    (Port.setUnreliable t p b s).memWf = true :=
  Points.flag_wf _ _ _ h

theorem Port.learn_wf (t p : Nat) (s : State) (h : s.memWf = true) : (Port.learn t p s).memWf = true :=
  Port.setUnreliable_wf _ _ _ _ h

theorem onPort_wf (pk : Packet) (s : State) {u : State} {f : Nat → Nat → Verdict}
    (hf : ∀ t p, ((f t p).stateOr u).memWf = true) (hu : u.memWf = true) : ((onPort pk s f).stateOr u).memWf = true := by
  unfold onPort
  dsimp only
  split
  · exact hu
  split
  · exact hu
  exact hf _ _

theorem bodyPresenceConfig_wf (pk : Packet) (k : Key) (s : State) (u : State) (hu : u.memWf = true) (h : s.memWf = true) :
    ((bodyPresenceConfig pk k s).stateOr u).memWf = true := by
  unfold bodyPresenceConfig
  refine onPort_wf _ _ (fun _ _ => ?_) hu
  dsimp only
  iterate 2 (split; exact hu)
  split
  · exact Port.learn_wf _ _ _ h
  exact h

theorem bodyPresenceRead_wf (pk : Packet) (k : Key) (s : State) (u : State) (hu : u.memWf = true) (h : s.memWf = true) :
    ((bodyPresenceRead pk k s).stateOr u).memWf = true := by
  unfold bodyPresenceRead
  refine onPort_wf _ _ (fun _ _ => ?_) hu
  dsimp only
  iterate 2 (split; exact hu)
  exact h

theorem bodyPresenceTest_wf (pk : Packet) (k : Key) (s : State) (u : State) (hu : u.memWf = true) (h : s.memWf = true) :
    ((bodyPresenceTest pk k s).stateOr u).memWf = true := by
  unfold bodyPresenceTest
  refine onPort_wf _ _ (fun _ _ => ?_) hu
  split
  · exact hu
  exact h

theorem bodyPresenceRebase_wf (pk : Packet) (k : Key) (s : State) (u : State) (hu : u.memWf = true) (h : s.memWf = true) :
    ((bodyPresenceRebase pk k s).stateOr u).memWf = true := by
  unfold bodyPresenceRebase
  refine onPort_wf _ _ (fun _ _ => ?_) hu
  split
  · exact hu
  exact Port.learn_wf _ _ _ h

theorem execPresenceTestDone_wf (tile : Nat) (s : State) (h : s.memWf = true) :
    StaysWf (execPresenceTestDone tile s) := by
  unfold execPresenceTestDone
  refine StaysWf.next ?_
  split
  · split
    · exact Cmd.final_wf _ _ _ _ h
    exact h
  exact h

theorem Port.wrongFrame_wf (t p : Nat) (short : Bool) (s : State) (h : s.memWf = true) :
    (Port.wrongFrame t p short s).memWf = true :=
  State.ite_wf (Ev.raise_wf _ _ _ _ (Port.setUnreliable_wf _ _ _ _ h)) h

theorem Port.rightFrame_wf (t p : Nat) (ts : List Rat) (dt : Nat) (s : State) (h : s.memWf = true) :
    (Port.rightFrame t p ts dt s).memWf = true := by
  unfold Port.rightFrame
  dsimp only
  split
  · exact h
  · exact State.ite_wf (Port.setUnreliable_wf _ _ _ _ h) h
  · exact h
  · exact State.ite_wf (Port.setUnreliable_wf _ _ _ _ h) h

theorem Port.frame_wf (t p start bits : Nat) (pixels : List (BitVec 16)) (s : State) (h : s.memWf = true) :
    (Port.frame t p start bits pixels s).memWf = true :=
  State.ite_wf h (State.ite_wf (Port.wrongFrame_wf _ _ _ _ h) (State.ite_wf (Port.wrongFrame_wf _ _ _ _ h)
      (Port.rightFrame_wf _ _ _ _ _ h)))

theorem execFrameReceived_wf (port startAgoNs bits : Nat) (pixels : List (BitVec 16)) (s : State) (h : s.memWf = true) :
    StaysWf (execFrameReceived port startAgoNs bits pixels s) :=
  StaysWf.next (whenever_wf (fun _ hx => Port.frame_wf _ _ _ _ _ _ hx) h)

theorem Port.deliver_wf (t p : Nat) (s : State) (h : s.memWf = true) : (Port.deliver t p s).memWf = true :=
  State.foldl_wf (fun _ _ hx => Points.deliver_wf _ _ _ _ hx) h

theorem Point.feed_wf (id : Nat) (v : SrcVal) (f : SrcFlags) (s : State) (h : s.memWf = true) :
    (Point.feed id v f s).memWf = true := by
  unfold Point.feed
  split
  · exact State.ite_wf (Panel.latch_wf _ _ _ h) h
  exact h

theorem Port.feed_wf (t p : Nat) (s : State) (h : s.memWf = true) : (Port.feed t p s).memWf = true :=
  State.foldl_wf (fun _ _ hx => State.foldl_wf (fun _ _ hx => Point.feed_wf _ _ _ _ hx) hx) h

theorem Port.endSecond_wf (t p : Nat) (s : State) (h : s.memWf = true) : (Port.endSecond t p s).memWf = true := by
  unfold Port.endSecond
  refine State.ite_wf h ?_
  refine State.ite_wf (Port.setUnreliable_wf _ _ _ _ h) ?_
  dsimp only
  exact State.ite_wf (State.ite_wf (Power.wake_wf _ _ _ (Port.feed_wf _ _ _ (Port.setUnreliable_wf _ _ _ _ h)))
      (Port.feed_wf _ _ _ (Port.setUnreliable_wf _ _ _ _ h))) (Port.deliver_wf _ _ _
      (Port.setUnreliable_wf _ _ _ _ h))

theorem execPresenceSecond_wf (s : State) (h : s.memWf = true) : StaysWf (execPresenceSecond s) :=
  StaysWf.next (whenever_wf (fun _ hx => State.foldl_wf (fun _ _ ht => Port.endSecond_wf _ _ _ ht)
    (State.withMt_wf (untilTb_wf _ _ hx))) h)

theorem Port.afterGlow_wf (t p : Nat) (s : State) (h : s.memWf = true) : (Port.afterGlow t p s).memWf = true :=
  State.ite_wf h (State.ite_wf (Port.deliver_wf _ _ _ h) (Port.learn_wf _ _ _ h))

/-! ### Panel heads -/

theorem Panel.endPower_wf (h : Nat) (st : Byte) (res : Nat) (s : State) (hs : s.memWf = true) :
    (Panel.endPower h st res s).memWf = true :=
  Cmd.finalOpt_wf _ _ _ _ hs

theorem Panel.endPowerBad_wf (h reason : Nat) (s : State) (hs : s.memWf = true) :
    (Panel.endPowerBad h reason s).memWf = true :=
  Panel.endPower_wf _ _ _ _ hs

theorem Panel.leaveLit_wf (h : Nat) (s : State) (hs : s.memWf = true) : (Panel.leaveLit h s).memWf = true :=
  Cal.abort_wf _ _ hs

theorem Panel.leaveLight_wf (h : Nat) (s : State) (hs : s.memWf = true) : (Panel.leaveLight h s).memWf = true :=
  Panel.leaveLit_wf _ _ hs

theorem Panel.discharge_wf (h : Nat) (s : State) (hs : s.memWf = true) : (Panel.discharge h s).memWf = true := hs

theorem Panel.reachOff_wf (h : Nat) (s : State) (hs : s.memWf = true) : (Panel.reachOff h s).memWf = true :=
  Panel.endPower_wf _ _ _ _ hs

theorem Panel.fault_wf (h cause : Nat) (s : State) (hs : s.memWf = true) : (Panel.fault h cause s).memWf = true := by
  unfold Panel.fault
  dsimp only
  exact Panel.endPowerBad_wf _ _ _ (Ev.raise_wf _ _ _ _ (Panel.leaveLight_wf _ _ hs))

theorem Panel.safe_wf (h : Nat) (s : State) (hs : s.memWf = true) : (Panel.safe h s).memWf = true :=
  State.ite_wf (Panel.endPowerBad_wf _ _ _ (Panel.leaveLight_wf _ _ hs)) hs

theorem Panel.crack_wf (h : Nat) (s : State) (hs : s.memWf = true) : (Panel.crack h s).memWf = true :=
  Panel.leaveLight_wf _ _ hs

theorem Panel.offNow_wf (h : Nat) (s : State) (hs : s.memWf = true) : (Panel.offNow h s).memWf = true :=
  State.ite_wf hs hs

theorem Panel.pgNext_wf (h : Nat) (s : State) (hs : s.memWf = true) : (Panel.pgNext h s).memWf = true := by
  unfold Panel.pgNext
  split
  · exact hs
  · exact hs
  · exact hs
  · exact hs
  · exact hs

theorem Panel.lightCheck_wf (h : Nat) (pass : Bool) (s : State) (hs : s.memWf = true) :
    (Panel.lightCheck h pass s).memWf = true :=
  State.ite_wf (Panel.endPowerBad_wf _ _ _ (Panel.crack_wf _ _ hs)) (State.ite_wf hs hs)

theorem Panel.crackEvent_wf (h ohms : Nat) (s : State) (hs : s.memWf = true) : (Panel.crackEvent h ohms s).memWf = true :=
  Ev.raise_wf _ _ _ _ hs

theorem Panel.litCheckFails_wf (h ohms : Nat) (s : State) (hs : s.memWf = true) :
    (Panel.litCheckFails h ohms s).memWf = true := by
  have left := Panel.leaveLit_wf h s hs
  unfold Panel.litCheckFails
  generalize Panel.leaveLit h s = u at left ⊢
  exact Panel.crackEvent_wf _ _ _ (State.ite_wf (State.ite_wf left hs) (Panel.crack_wf _ _ hs))

theorem Panel.flipNow_wf (h : Nat) (s : State) (hs : s.memWf = true) : (Panel.flipNow h s).memWf = true := by
  unfold Panel.flipNow
  dsimp only
  split
  · exact State.foldl_wf (fun _ _ hx => Cmd.final_wf _ _ _ _ hx) hs
  exact hs

theorem Panel.gammaNow_wf (h : Nat) (s : State) (hs : s.memWf = true) : (Panel.gammaNow h s).memWf = true := by
  unfold Panel.gammaNow
  dsimp only
  split
  · exact Cmd.final_wf _ _ _ _ hs
  · exact State.ite_wf hs (Ev.raise_wf _ _ _ _ hs)
  · exact hs

theorem Panel.swaps_wf (h : Nat) (s : State) (hs : s.memWf = true) : (Panel.swaps h s).memWf = true := by
  unfold Panel.swaps
  dsimp only
  exact Panel.redraw_wf _ _ (Cal.apply_wf _ _ (Panel.gammaNow_wf _ _ (Panel.flipNow_wf _ _ hs)))

theorem Panel.frameStep_wf (h : Nat) (s : State) (hs : s.memWf = true) : (Panel.frameStep h s).memWf = true := by
  unfold Panel.frameStep
  dsimp only
  split
  · exact State.ite_wf hs hs
  · exact Panel.endPower_wf _ _ _ _ hs
  · exact Panel.leaveLit_wf _ _ hs
  · exact hs

theorem Panel.frame_wf (h : Nat) (s : State) (hs : s.memWf = true) : (Panel.frame h s).memWf = true :=
  State.ite_wf hs (Panel.frameStep_wf _ _ (Panel.swaps_wf _ _ hs))

theorem Panel.gateOff_wf (h : Nat) (s : State) (hs : s.memWf = true) : (Panel.gateOff h s).memWf = true :=
  State.ite_wf hs (State.ite_wf (Panel.offNow_wf _ _ hs) hs)

theorem Panel.gate_wf (h : Nat) (s : State) (hs : s.memWf = true) : (Panel.gate h s).memWf = true :=
  State.foldl_wf (fun _ _ hx => Cmd.final_wf _ _ _ _ hx) (Panel.gateOff_wf _ _ hs)

/-! ### Commands on panel heads -/

theorem onHead_wf (right : Nat) (pk : Packet) (s : State) {u : State} {f : Nat → Verdict}
    (hf : ∀ k, ((f k).stateOr u).memWf = true) (hu : u.memWf = true) : ((onHead right pk s f).stateOr u).memWf = true := by
  unfold onHead
  dsimp only
  iterate 3 (split; exact hu)
  exact hf _

theorem Panel.configure_wf (h : Nat) (c0 c1 c2 c3 : Word) (s : State) (u : State) (hu : u.memWf = true)
    (hs : s.memWf = true) :
    ((Panel.configure h c0 c1 c2 c3 s).stateOr u).memWf = true := by
  unfold Panel.configure
  dsimp only
  iterate 5 (split; exact hu)
  exact hs

theorem bodyPanelConfig_wf (pk : Packet) (k : Key) (s : State) (u : State) (hu : u.memWf = true) (h : s.memWf = true) :
    ((bodyPanelConfig pk k s).stateOr u).memWf = true :=
  onHead_wf _ _ _ (fun _ => Panel.configure_wf _ _ _ _ _ _ _ hu h) hu

theorem Panel.on_wf (h : Nat) (k : Key) (s : State) (u : State) (hu : u.memWf = true) (hs : s.memWf = true) :
    ((Panel.on h k s).stateOr u).memWf = true := by
  unfold Panel.on
  dsimp only
  iterate 2 (split; exact hu)
  split
  · exact hs
  · exact hs
  · exact hs
  · split
    · exact hs
    exact hu
  · exact hu
  · exact hu
  · exact hu

theorem Panel.off_wf (h : Nat) (k : Key) (s : State) (u : State) (hu : u.memWf = true) (hs : s.memWf = true) :
    ((Panel.off h k s).stateOr u).memWf = true := by
  unfold Panel.off
  dsimp only
  split
  · exact hu
  split
  · exact hs
  · split
    · exact hs
    exact hu
  · exact Panel.offNow_wf _ _ (Panel.endPowerBad_wf _ _ _ hs)
  · exact Panel.offNow_wf _ _ hs
  · exact hu
  · exact hu
  · exact hu

theorem bodyPanelPower_wf (pk : Packet) (k : Key) (s : State) (u : State) (hu : u.memWf = true) (h : s.memWf = true) :
    ((bodyPanelPower pk k s).stateOr u).memWf = true := by
  unfold bodyPanelPower
  refine onHead_wf _ _ _ (fun _ => ?_) hu
  split
  · exact hu
  split
  · exact Panel.on_wf _ _ _ _ hu h
  exact Panel.off_wf _ _ _ _ hu h

theorem bodyPanelUpload_wf (pk : Packet) (k : Key) (s : State) (u : State) (hu : u.memWf = true) (h : s.memWf = true) :
    ((bodyPanelUpload pk k s).stateOr u).memWf = true := by
  unfold bodyPanelUpload
  refine onHead_wf _ _ _ (fun _ => ?_) hu
  dsimp only
  iterate 4 (split; exact hu)
  exact h

theorem bodyPanelFlip_wf (pk : Packet) (k : Key) (s : State) (u : State) (hu : u.memWf = true) (h : s.memWf = true) :
    ((bodyPanelFlip pk k s).stateOr u).memWf = true := by
  unfold bodyPanelFlip
  refine onHead_wf _ _ _ (fun _ => ?_) hu
  iterate 2 (split; exact hu)
  exact h

theorem bodyPanelGamma_wf (pk : Packet) (k : Key) (s : State) (u : State) (hu : u.memWf = true) (h : s.memWf = true) :
    ((bodyPanelGamma pk k s).stateOr u).memWf = true := by
  unfold bodyPanelGamma
  refine onHead_wf _ _ _ (fun _ => ?_) hu
  dsimp only
  iterate 5 (split; exact hu)
  exact h

theorem bodyPanelGammaCommit_wf (pk : Packet) (k : Key) (s : State) (u : State) (hu : u.memWf = true) (h : s.memWf = true) :
    ((bodyPanelGammaCommit pk k s).stateOr u).memWf = true := by
  unfold bodyPanelGammaCommit
  refine onHead_wf _ _ _ (fun _ => ?_) hu
  dsimp only
  split
  · exact hu
  exact h

theorem bodyPanelBand_wf (pk : Packet) (k : Key) (s : State) (u : State) (hu : u.memWf = true) (h : s.memWf = true) :
    ((bodyPanelBand pk k s).stateOr u).memWf = true := by
  unfold bodyPanelBand
  refine onHead_wf _ _ _ (fun _ => ?_) hu
  iterate 2 (split; exact hu)
  refine onRecords_wf _ (fun _ hx => ?_) h h
  split
  · exact hu
  exact hx

theorem bodyPanelRead_wf (pk : Packet) (k : Key) (s : State) (u : State) (hu : u.memWf = true) (h : s.memWf = true) :
    ((bodyPanelRead pk k s).stateOr u).memWf = true :=
  onHead_wf _ _ _ (fun _ => h) hu

theorem bodyGlowConfig_wf (pk : Packet) (k : Key) (s : State) (u : State) (hu : u.memWf = true) (h : s.memWf = true) :
    ((bodyGlowConfig pk k s).stateOr u).memWf = true := by
  unfold bodyGlowConfig
  refine onHead_wf _ _ _ (fun _ => ?_) hu
  dsimp only
  iterate 2 (split; exact hu)
  exact h

theorem bodyGlowLoad_wf (pk : Packet) (k : Key) (s : State) (u : State) (hu : u.memWf = true) (h : s.memWf = true) :
    ((bodyGlowLoad pk k s).stateOr u).memWf = true := by
  unfold bodyGlowLoad
  refine onHead_wf _ _ _ (fun _ => ?_) hu
  dsimp only
  iterate 2 (split; exact hu)
  exact h

theorem bodyGlowWidget_wf (pk : Packet) (k : Key) (s : State) (u : State) (hu : u.memWf = true) (h : s.memWf = true) :
    ((bodyGlowWidget pk k s).stateOr u).memWf = true := by
  unfold bodyGlowWidget
  refine onHead_wf _ _ _ (fun _ => ?_) hu
  dsimp only
  split
  · exact hu
  split
  · split
    · exact Point.loadAt_wf _ _ h
    split
    · exact hu
    exact Point.loadAt_wf _ _ h
  split
  · exact h
  split
  · exact hu
  exact h

theorem bodyTouchConfig_wf (pk : Packet) (k : Key) (s : State) (u : State) (hu : u.memWf = true) (h : s.memWf = true) :
    ((bodyTouchConfig pk k s).stateOr u).memWf = true := by
  unfold bodyTouchConfig
  refine onHead_wf _ _ _ (fun _ => ?_) hu
  dsimp only
  split
  · exact hu
  exact h

theorem bodyTouchRing_wf (pk : Packet) (k : Key) (s : State) (u : State) (hu : u.memWf = true) (h : s.memWf = true) :
    ((bodyTouchRing pk k s).stateOr u).memWf = true := by
  unfold bodyTouchRing
  refine onHead_wf _ _ _ (fun _ => ?_) hu
  dsimp only
  iterate 2 (split; exact hu)
  exact h

theorem bodyTouchRebase_wf (pk : Packet) (k : Key) (s : State) (u : State) (hu : u.memWf = true) (h : s.memWf = true) :
    ((bodyTouchRebase pk k s).stateOr u).memWf = true :=
  onHead_wf _ _ _ (fun _ => h) hu

theorem bodyTouchProfile_wf (pk : Packet) (k : Key) (s : State) (u : State) (hu : u.memWf = true) (h : s.memWf = true) :
    ((bodyTouchProfile pk k s).stateOr u).memWf = true := by
  unfold bodyTouchProfile
  refine onHead_wf _ _ _ (fun _ => ?_) hu
  dsimp only
  split
  · exact hu
  split
  · exact Nv.submit_wf _ _ _ _ _ hu h
  split
  · exact hu
  exact h

theorem bodyTouchRead_wf (pk : Packet) (k : Key) (s : State) (u : State) (hu : u.memWf = true) (h : s.memWf = true) :
    ((bodyTouchRead pk k s).stateOr u).memWf = true :=
  onHead_wf _ _ _ (fun _ => h) hu

/-! ### Scans and urgent work -/

theorem Scan.enqueue_wf (t : Nat) (n : Scan) (s : State) (u : State) (hu : u.memWf = true) (h : s.memWf = true) :
    ((Scan.enqueue t n s).stateOr u).memWf = true := by
  unfold Scan.enqueue
  split
  · exact hu
  exact h

theorem bodyRscan_wf (pk : Packet) (k : Key) (s : State) (u : State) (hu : u.memWf = true) (h : s.memWf = true) :
    ((bodyRscan pk k s).stateOr u).memWf = true := by
  unfold bodyRscan
  refine onTile_wf _ _ (fun _ => ?_) hu
  dsimp only
  iterate 3 (split; exact hu)
  exact Scan.enqueue_wf _ _ _ _ hu h

theorem bodyPanelCrackScan_wf (pk : Packet) (k : Key) (s : State) (u : State) (hu : u.memWf = true) (h : s.memWf = true) :
    ((bodyPanelCrackScan pk k s).stateOr u).memWf = true := by
  unfold bodyPanelCrackScan
  refine onHead_wf _ _ _ (fun _ => ?_) hu
  dsimp only
  iterate 3 (split; exact hu)
  exact Scan.enqueue_wf _ _ _ _ hu h

theorem Scan.start_wf (t : Nat) (n : Scan) (rest : List Scan) (s : State) (h : s.memWf = true) :
    (Scan.start t n rest s).memWf = true := by
  unfold Scan.start
  extract_lets x waited suspended
  have hWaited : waited.memWf = true := by
    dsimp only [waited]
    split
    · exact State.ite_wf h (untilElapsed_wf _ _ h)
    · exact h
  clear_value waited
  have hSuspended : suspended.memWf = true := Seq.suspend_wf _ _ _ (Seq.suspend_wf _ _ _ hWaited)
  clear_value suspended
  exact hSuspended

theorem execRscanStart_wf (tile : Nat) (s : State) (h : s.memWf = true) : StaysWf (execRscanStart tile s) := by
  unfold execRscanStart
  refine StaysWf.next ?_
  split
  · exact whenever_wf (fun _ hx => Scan.start_wf _ _ _ _ hx) h
  exact h

theorem execRscanLaunch_wf (tile : Nat) (capture : List Int) (s : State) (h : s.memWf = true) :
    StaysWf (execRscanLaunch tile capture s) := by
  unfold execRscanLaunch
  refine StaysWf.next ?_
  dsimp only
  split
  · exact State.ite_wf (untilElapsed_wf _ _ h) h
  exact h

theorem Scan.raw_wf (t : Nat) (n : Scan) (caps : List (List Int)) (s : State) (h : s.memWf = true) :
    (Scan.raw t n caps s).memWf = true := by
  unfold Scan.raw
  split
  · exact State.foldl_wf (fun _ _ hx => Dma.append_wf _ _ _ _ hx) h
  exact h

theorem Scan.finish_wf (t : Nat) (places : List Nat) (n : Scan) (caps : List (List Int)) (s : State) (h : s.memWf = true) :
    (Scan.finish t places n caps s).memWf = true :=
  Cmd.finalOpt_wf _ _ _ _ (Seq.releaseBoth_wf _ _ (Cal.tryAll_wf _ _ (Scan.raw_wf _ _ _ _ h)))

theorem execRscanEnd_wf (tile : Nat) (places : List Nat) (s : State) (h : s.memWf = true) :
    StaysWf (execRscanEnd tile places s) := by
  unfold execRscanEnd
  refine StaysWf.next ?_
  split
  · exact State.ite_wf (Scan.finish_wf _ _ _ _ _ (untilElapsed_wf _ _ h)) h
  exact h

/-! ### Power states -/

theorem Tile.endJobs_wf (t : Nat) (s : State) (h : s.memWf = true) : (Tile.endJobs t s).memWf = true :=
  State.foldl_wf (fun _ _ hx => Cmd.final_wf _ _ _ _ hx) h

theorem Tile.endCal_wf (t : Nat) (s : State) (h : s.memWf = true) : (Tile.endCal t s).memWf = true := by
  unfold Tile.endCal
  extract_lets aborted ended
  have hEnded : ended.memWf = true := State.foldl_wf (fun _ _ hx => Cal.endRun_wf _ _ _ _ hx) (Cal.abortTile_wf _ _ _ h)
  exact Cal.loseTile_wf _ _ hEnded

theorem Tile.endZones_wf (t : Nat) (s : State) (h : s.memWf = true) : (Tile.endZones t s).memWf = true :=
  State.foldl_wf (fun _ _ hx => Zone.endWaiters_wf _ _ _ _ hx) h

theorem Tile.gate_wf (t : Nat) (how : TilePow) (s : State) (h : s.memWf = true) : (Tile.gate t how s).memWf = true :=
  Points.flag_wf _ _ _ (Tile.endJobs_wf _ _ (Panel.gate_wf _ _ (State.foldl_wf (fun _ _ hx => Bus.gate_wf _ _ hx)
      (Tile.endWork_wf _ _ _ (Tile.endCal_wf _ _ (Tile.endZones_wf _ _ (State.foldl_wf (fun _ _ hx => State.foldl_wf
      (fun _ _ hx => Loop.releaseOne_wf _ _ _ hx) hx) (Out.fallbackAll_wf _ _ h))))))))

theorem Throttle.around_wf {f : State → State} {s : State} (hf : ∀ x, x.memWf = true → (f x).memWf = true)
    (h : s.memWf = true) : (Throttle.around f s).memWf = true :=
  State.foldl_wf (fun _ _ hx => State.ite_wf hx (Zones.refit_wf _ _ (Loops.restretch_wf _ _ (Ev.raise_wf _ _ _ _
      (Drv.rescale_wf _ _ _ hx))))) (hf s h)

theorem Tile.powered_wf (t : Nat) (storePass : Bool) (s : State) (h : s.memWf = true) :
    (Tile.powered t storePass s).memWf = true :=
  State.ite_wf h (Ev.raise_wf _ _ _ _ h)

theorem Seq.glow_wf (t c : Nat) (s : State) (h : s.memWf = true) : (Seq.glow t c s).memWf = true :=
  State.ite_wf h (State.ite_wf (State.ite_wf (applyConfigs_wf _ _ _ h) (applyConfigs_wf _ _ _ h)) (State.ite_wf
      (Seq.stop_wf _ _ _ (applyConfigs_wf _ _ _ h)) (Seq.swap_wf _ _ _ (applyConfigs_wf _ _ _ h))))

theorem Tile.requeue_wf (t : Nat) (s : State) (h : s.memWf = true) : (Tile.requeue t s).memWf = true := h

theorem Tile.enterGlow_wf (t : Nat) (s : State) (h : s.memWf = true) : (Tile.enterGlow t s).memWf = true := by
  have fallen := Out.fallbackAll_wf t _ (Drv.rescale_wf t (tclkMhz (levelInForce s t)) s h)
  unfold Tile.enterGlow
  extract_lets abandoned stopped paused
  have hAbandoned : abandoned.memWf = true := Zones.abandon_wf _ _ fallen
  clear_value abandoned
  have hStopped : stopped.memWf = true := hAbandoned
  clear_value stopped
  have hPaused : paused.memWf = true := Scan.pause_wf _ _ (Seq.glow_wf _ _ _ (Seq.glow_wf _ _ _
      (Tile.requeue_wf _ _ hStopped)))
  clear_value paused
  exact State.foldl_wf (fun _ _ hx => Bus.stop_wf _ _ hx) hPaused

theorem Power.enterGlow_wf (s : State) (h : s.memWf = true) : (Power.enterGlow s).memWf = true :=
  Fed.stop_wf _ (onTiles_wf (fun _ _ hx => Tile.enterGlow_wf _ _ hx) h)

theorem Seq.afterGlow_wf (t c : Nat) (s : State) (h : s.memWf = true) : (Seq.afterGlow t c s).memWf = true :=
  State.ite_wf h h

theorem Loops.afterGlow_wf (t : Nat) (s : State) (h : s.memWf = true) : (Loops.afterGlow t s).memWf = true := h

theorem Tile.holdBack_wf (t : Nat) (s : State) (h : s.memWf = true) : (Tile.holdBack t s).memWf = true := h

theorem Pulse.resume_wf (t : Nat) (s : State) (h : s.memWf = true) : (Pulse.resume t s).memWf = true := State.ite_wf h h

theorem Tile.leaveGlow_wf (t : Nat) (s : State) (h : s.memWf = true) : (Tile.leaveGlow t s).memWf = true := by
  unfold Tile.leaveGlow
  extract_lets held resumed looped ported
  have hHeld : held.memWf = true := Pulse.resume_wf _ _ (Tile.holdBack_wf _ _ (Drv.rescale_wf _ _ _ h))
  clear_value held
  have hResumed : resumed.memWf = true := Scan.resume_wf _ _ (Seq.afterGlow_wf _ _ _ (Seq.afterGlow_wf _ _ _ hHeld))
  clear_value resumed
  have hLooped : looped.memWf = true := Loops.afterGlow_wf _ _ (Cal.afterGlow_wf _ _ hResumed)
  clear_value looped
  have hPorted : ported.memWf = true := State.foldl_wf (fun _ _ hx => Port.afterGlow_wf _ _ _ hx) hLooped
  exact State.foldl_wf (fun _ _ hx => Bus.resume_wf _ _ hx) hPorted

theorem Power.leaveGlow_wf (s : State) (h : s.memWf = true) : (Power.leaveGlow s).memWf = true :=
  Fed.resume_wf _ (onTiles_wf (fun _ _ hx => Tile.leaveGlow_wf _ _ hx) h)

theorem Power.checkpoint_wf (s : State) (h : s.memWf = true) : (Power.checkpoint s).memWf = true := by
  unfold Power.checkpoint
  refine State.ite_wf (Meter.commitLost_wf _ h) ?_
  dsimp only
  split
  · exact State.ite_wf h h
  exact h

theorem Power.failTariff_wf (s : State) (h : s.memWf = true) : (Power.failTariff s).memWf = true := by
  unfold Power.failTariff
  split
  · exact State.ite_wf h (Tariff.fail_wf _ _ _ _ h)
  exact h

theorem Power.failCommit_wf (begun : Bool) (s : State) (h : s.memWf = true) :
    (Power.failCommit begun s).memWf = true := by
  unfold Power.failCommit
  dsimp only
  split
  · exact State.ite_wf h (Nv.serve_wf _ (Cmd.finalOpt_wf _ _ _ _ (Tariff.dropJob_wf _ _ h)))
  exact h

theorem Power.fail_wf (code : Nat) (begun first : Bool) (s : State) (h : s.memWf = true) :
    (Power.fail code begun first s).memWf = true :=
  State.ite_wf (Nv.kick_wf _ (Power.failCommit_wf _ _ (State.ite_wf (Power.failTariff_wf _ (Power.checkpoint_wf _
      (Meter.dueFirst_wf _ (Ev.raise_wf _ _ _ _ h)))) (Meter.dueFirst_wf _ (Ev.raise_wf _ _ _ _ h)))))
      (Ev.raise_wf _ _ _ _ h)

theorem Power.reset_wf (boot : Boot) (s : State) (h : s.memWf = true) : (Power.reset boot s).memWf = true := by
  obtain ⟨⟨host, -⟩, cells⟩ := State.memWf_iff.mp h
  exact State.memWf_iff.mpr ⟨⟨host, rfl⟩, cells⟩

theorem Power.startUp_wf (s : State) (h : s.memWf = true) : (Power.startUp s).memWf = true := by
  have reset := Power.reset_wf .fuseLoad s h
  exact reset

theorem Power.toOff_wf (pwrEn : Bool) (s : State) (h : s.memWf = true) : (Power.toOff pwrEn s).memWf = true :=
  Power.reset_wf _ _ h

/-! ### Commands on power -/

theorem Tile.setPower_wf (t op : Nat) (k : Key) (s : State) (u : State) (hu : u.memWf = true) (h : s.memWf = true) :
    ((Tile.setPower t op k s).stateOr u).memWf = true := by
  unfold Tile.setPower
  split
  · exact hu
  · exact hu
  · split
    · exact h
    exact Tile.gate_wf _ _ _ h
  · split
    · exact h
    split
    · exact hu
    exact h

theorem bodyTilePower_wf (pk : Packet) (k : Key) (s : State) (u : State) (hu : u.memWf = true) (h : s.memWf = true) :
    ((bodyTilePower pk k s).stateOr u).memWf = true := by
  unfold bodyTilePower
  iterate 3 (split; exact hu)
  exact Tile.setPower_wf _ _ _ _ _ hu h

theorem execTilePowerDone_wf (done : TileDone) (s : State) (h : s.memWf = true) : StaysWf (execTilePowerDone done s) := by
  unfold execTilePowerDone
  refine StaysWf.next ?_
  split
  · exact Cmd.finalOpt_wf _ _ _ _ (Tile.powered_wf _ _ _ h)
  · exact State.ite_wf (Cmd.finalOpt_wf _ _ _ _ h) h
  · exact h
  · exact h

theorem execTileBrownout_wf (tile mv : Nat) (s : State) (h : s.memWf = true) : StaysWf (execTileBrownout tile mv s) := by
  unfold execTileBrownout
  refine StaysWf.next ?_
  refine whenever_wf (fun _ hx => ?_) h
  dsimp only
  split
  · exact Ev.raise_wf _ _ _ _ (Tile.gate_wf _ _ _ hx)
  · exact Cmd.finalOpt_wf _ _ _ _ (Ev.raise_wf _ _ _ _ hx)
  · exact hx
  · exact hx

theorem Power.failInternal_wf (s : State) (h : s.memWf = true) : (Power.failInternal s).memWf = true :=
  Power.fail_wf _ _ _ _ h

theorem Power.begin_wf (target : Nat) (s : State) (h : s.memWf = true) : (Power.begin target s).memWf = true :=
  State.ite_wf (State.ite_wf (Power.failInternal_wf _ h) h) (State.ite_wf (Power.enterGlow_wf _ (onTiles_wf
      (fun _ _ hx => hx) (State.ite_wf (Power.failInternal_wf _ h) h))) (onTiles_wf (fun _ _ hx => hx) (State.ite_wf
      (Power.failInternal_wf _ h) h)))

theorem bodyPowerState_wf (pk : Packet) (k : Key) (s : State) (u : State) (hu : u.memWf = true) (h : s.memWf = true) :
    ((bodyPowerState pk k s).stateOr u).memWf = true := by
  unfold bodyPowerState
  dsimp only
  iterate 2 (split; exact hu)
  split
  · exact h
  exact Power.begin_wf _ _ h

theorem Power.reached_wf (target : Nat) (k : Option Key) (s : State) (h : s.memWf = true) :
    (Power.reached target k s).memWf = true :=
  Ring.fetchAll_wf _ (Cmd.finalOpt_wf _ _ _ _ (State.ite_wf (Power.leaveGlow_wf _ h) h))

theorem Power.reachedGlow_wf (k : Option Key) (s : State) (h : s.memWf = true) :
    (Power.reachedGlow k s).memWf = true := by
  unfold Power.reachedGlow
  dsimp only
  split
  · exact Power.exitBy_wf _ _ _ (Cmd.finalOpt_wf _ _ _ _ h)
  exact Cmd.finalOpt_wf _ _ _ _ h

theorem Power.reachedOff_wf (k : Option Key) (s : State) (h : s.memWf = true) : (Power.reachedOff k s).memWf = true := by
  unfold Power.reachedOff
  dsimp only
  refine Power.toOff_wf _ _ ?_
  split
  · exact Ring.signal_wf _ _ (Cmd.finalOpt_wf _ _ _ _ h)
  exact Cmd.finalOpt_wf _ _ _ _ h

theorem execPowerTransitionDone_wf (s : State) (h : s.memWf = true) : StaysWf (execPowerTransitionDone s) := by
  unfold execPowerTransitionDone
  refine StaysWf.next ?_
  split
  · exact State.ite_wf (Power.reached_wf _ _ _ h) (State.ite_wf h (State.ite_wf (Power.reachedGlow_wf _ _ h)
      (State.ite_wf (Power.reachedOff_wf _ _ h) h)))
  exact h

theorem bodyPowerConfig_wf (pk : Packet) (k : Key) (s : State) (u : State) (hu : u.memWf = true) (h : s.memWf = true) :
    ((bodyPowerConfig pk k s).stateOr u).memWf = true := by
  unfold bodyPowerConfig
  dsimp only
  iterate 2 (split; exact hu)
  exact h

theorem bodyPowerRead_wf (pk : Packet) (k : Key) (s : State) (u : State) (hu : u.memWf = true) (h : s.memWf = true) :
    ((bodyPowerRead pk k s).stateOr u).memWf = true := by
  unfold bodyPowerRead
  split
  · exact hu
  exact h

theorem Power.setSpread_wf (domain v : Nat) (s : State) (h : s.memWf = true) :
    (Power.setSpread domain v s).memWf = true :=
  State.ite_wf (State.ite_wf (Zones.refit_wf _ _ h) h) (State.ite_wf h h)

theorem bodyClockSpread_wf (pk : Packet) (k : Key) (s : State) (u : State) (hu : u.memWf = true) (h : s.memWf = true) :
    ((bodyClockSpread pk k s).stateOr u).memWf = true := by
  unfold bodyClockSpread
  dsimp only
  iterate 3 (split; exact hu)
  exact Power.setSpread_wf _ _ _ h

theorem bodyIoConfig_wf (pk : Packet) (k : Key) (s : State) (u : State) (hu : u.memWf = true) (h : s.memWf = true) :
    ((bodyIoConfig pk k s).stateOr u).memWf = true := by
  unfold bodyIoConfig
  dsimp only
  iterate 3 (split; exact hu)
  split
  · exact h
  exact h

theorem bodyThermConfig_wf (pk : Packet) (k : Key) (s : State) (u : State) (hu : u.memWf = true) (h : s.memWf = true) :
    ((bodyThermConfig pk k s).stateOr u).memWf = true := by
  unfold bodyThermConfig
  dsimp only
  split
  · exact hu
  exact h

theorem bodyThermRead_wf (pk : Packet) (k : Key) (s : State) (u : State) (hu : u.memWf = true) (h : s.memWf = true) :
    ((bodyThermRead pk k s).stateOr u).memWf = true := by
  unfold bodyThermRead
  dsimp only
  split
  · exact h
  split
  · exact hu
  exact h

theorem bodyThermCap_wf (pk : Packet) (k : Key) (s u : State) (hu : u.memWf = true) (h : s.memWf = true) :
    ((bodyThermCap pk k s).stateOr u).memWf = true := by
  have capped := Throttle.around_wf (f := fun s => s.modThrottle (pk.u8 8) (fun t => { t with cap := pk.u8 9 }))
      (fun _ hx => hx) h
  unfold bodyThermCap
  split
  · exact hu
  generalize Throttle.around _ s = v at capped ⊢
  exact capped

/-! ### The register window -/

theorem windowInputWrite_wf (t i w : Nat) (v : Word) (s : State) (h : s.memWf = true) :
    (windowInputWrite t i w v s).memWf = true := by
  unfold windowInputWrite
  refine State.ite_wf h ?_
  dsimp only
  split
  · exact h
  exact Input.configure_wf _ _ _ _ h

theorem windowDriveWrite_wf (t j w : Nat) (v : Word) (s : State) (h : s.memWf = true) :
    (windowDriveWrite t j w v s).memWf = true := by
  unfold windowDriveWrite
  refine State.ite_wf h ?_
  dsimp only
  exact Drv.command_wf _ _ _ _ _ h h

theorem windowAoWrite_wf (t k w : Nat) (v : Word) (s : State) (h : s.memWf = true) :
    (windowAoWrite t k w v s).memWf = true := by
  unfold windowAoWrite
  refine State.ite_wf h ?_
  dsimp only
  exact Ao.command_wf _ _ _ _ _ _ _ h h

theorem windowFanWrite_wf (t k w : Nat) (v : Word) (s : State) (h : s.memWf = true) :
    (windowFanWrite t k w v s).memWf = true := by
  unfold windowFanWrite
  refine State.ite_wf h ?_
  dsimp only
  exact Fan.command_wf _ _ _ _ _ _ _ h h

theorem windowBusWrite_wf (k w : Nat) (v : Word) (s : State) (h : s.memWf = true) :
    (windowBusWrite k w v s).memWf = true := by
  unfold windowBusWrite
  refine State.ite_wf h ?_
  refine State.ite_wf h ?_
  dsimp only
  exact Bus.command_wf _ _ _ _ _ _ _ _ h h

theorem windowHeadWrite_wf (h w : Nat) (v : Word) (s : State) (hs : s.memWf = true) :
    (windowHeadWrite h w v s).memWf = true := by
  unfold windowHeadWrite
  refine State.ite_wf hs ?_
  dsimp only
  exact Panel.configure_wf _ _ _ _ _ _ _ hs hs

theorem windowLinkWrite_wf (l w : Nat) (v : Word) (s : State) (h : s.memWf = true) :
    (windowLinkWrite l w v s).memWf = true :=
  State.ite_wf h (Link.command_wf _ _ _ _ h)

theorem Window.write_wf (w : Nat) (v : Word) (s : State) (h : s.memWf = true) : (Window.write w v s).memWf = true := by
  unfold Window.write
  dsimp only
  refine State.ite_wf h ?_
  split
  · exact windowInputWrite_wf _ _ _ _ _ h
  · exact windowDriveWrite_wf _ _ _ _ _ h
  · exact windowAoWrite_wf _ _ _ _ _ h
  · exact windowFanWrite_wf _ _ _ _ _ h
  · exact windowBusWrite_wf _ _ _ _ h
  · exact h
  · exact windowHeadWrite_wf _ _ _ _ h
  · exact windowLinkWrite_wf _ _ _ _ h

/-! ### BAR0 and QSPI -/

theorem Setup.write_wf (v : Word) (s : State) (h : s.memWf = true) : (Setup.write v s).memWf = true :=
  State.ite_wf (Setup.disarm_wf _ h) (State.ite_wf (Setup.arm_wf _ h) h)

theorem Msix.write_wf (i : Nat) (v : Word) (s : State) (h : s.memWf = true) : (Msix.write i v s).memWf = true :=
  Msix.flush_wf _ h

theorem Bar0.write_wf (off : Nat) (v : Word) (s : State) (h : s.memWf = true) : (Bar0.write off v s).memWf = true :=
  State.ite_wf h (State.ite_wf (Setup.write_wf _ _ h) (State.ite_wf h (State.ite_wf h (State.ite_wf
      (Window.write_wf _ _ _ h) (State.ite_wf (Ring.doorbell_wf _ _ _ h) (State.ite_wf (Msix.write_wf _ _ _ h) h))))))

theorem execRegisterWrite_wf (offset bytes : Nat) (value : Word) (s : State) (h : s.memWf = true) :
    StaysWf (execRegisterWrite offset bytes value s) :=
  StaysWf.next (whenever_wf (fun _ hx => Bar0.write_wf _ _ _ hx) h)

theorem execChselWrite_wf (value : Word) (s : State) (h : s.memWf = true) : StaysWf (execChselWrite value s) :=
  StaysWf.next (Bar0.write_wf _ _ _ h)

theorem execWindowWrite_wf (offset : Nat) (value : Word) (s : State) (h : s.memWf = true) :
    StaysWf (execWindowWrite offset value s) :=
  StaysWf.next (whenever_wf (fun _ hx => Bar0.write_wf _ _ _ hx) h)

theorem execDoorbell_wf (q : Nat) (value : Word) (written : List (Nat × Byte)) (s : State) (h : s.memWf = true) :
    StaysWf (execDoorbell q value written s) := by
  have hWritten : ({ s with hostMem := written.foldl (fun m x => memSet m x.1 x.2) s.hostMem } : State).memWf = true :=
    State.withHost_wf (memSets_wf _ _ _ _ (State.memWf_iff.mp h).1.1) h
  exact StaysWf.next (State.ite_wf (Bar0.write_wf _ _ _ hWritten) hWritten)

theorem execConfigurationRequest_wf (r : CfgRequest) (s : State) (h : s.memWf = true) :
    StaysWf (execConfigurationRequest r s) := by
  unfold execConfigurationRequest
  refine StaysWf.next ?_
  refine State.ite_wf h ?_
  refine State.ite_wf h ?_
  dsimp only
  split
  · exact h
  · exact h
  · exact Msix.flush_wf _ h

theorem Qspi.put_wf (a : Nat) (v : Word) (s : State) (h : s.memWf = true) : (Qspi.put a v s).memWf = true :=
  by
  have ring := (State.memWf_iff.mp h).1.2
  exact State.ite_wf (State.withRing_wf (memSets_wf _ _ _ _ ring) h) (State.ite_wf (Bar0.write_wf _ _ _ h) h)

theorem Qspi.write_wf (a : Nat) (l : List Byte) (s : State) (h : s.memWf = true) : (Qspi.write a l s).memWf = true := by
  induction a, l, s using Qspi.write.induct with
  | case1 a b0 b1 b2 b3 r s ih => exact ih (Qspi.put_wf _ _ _ h)
  | case2 a l s other => rwa [Qspi.write]; exact other

theorem Qspi.writeOp_wf (address : Nat) (data : List Byte) (s : State) (h : s.memWf = true) :
    (Qspi.writeOp address data s).memWf = true :=
  whenever_wf (fun _ hx => Qspi.write_wf _ _ _ hx) h

theorem Qspi.readOp_wf (address words : Nat) (s : State) (h : s.memWf = true) :
    (Qspi.readOp address words s).memWf = true :=
  whenever_wf (fun _ hx => hx) h

theorem execQspiWrite_wf (address : Nat) (data : List Byte) (s : State) (h : s.memWf = true) :
    StaysWf (execQspiWrite address data s) :=
  StaysWf.next (Qspi.writeOp_wf _ _ _ h)

theorem execQspiQwrite_wf (address : Nat) (data : List Byte) (s : State) (h : s.memWf = true) :
    StaysWf (execQspiQwrite address data s) :=
  StaysWf.next (Qspi.writeOp_wf _ _ _ h)

theorem execQspiRead_wf (address words : Nat) (s : State) (h : s.memWf = true) : StaysWf (execQspiRead address words s) :=
  StaysWf.next (Qspi.readOp_wf _ _ _ h)

theorem execQspiQread_wf (address words : Nat) (s : State) (h : s.memWf = true) :
    StaysWf (execQspiQread address words s) :=
  StaysWf.next (Qspi.readOp_wf _ _ _ h)

theorem execQspiStatus_wf (s : State) (h : s.memWf = true) : StaysWf (execQspiStatus s) :=
  StaysWf.next (whenever_wf (fun _ hx => hx) h)

theorem execQspiUnknownInstruction_wf (y : Byte) (s : State) (h : s.memWf = true) :
    StaysWf (execQspiUnknownInstruction y s) :=
  StaysWf.next h

/-! ### Opcodes -/

/-- An opcode that has no row has no part of its own. -/
theorem execBadOpcodePacket_wf (q : Nat) (op : BitVec 12) (pk : Packet) (s : State) (h : s.memWf = true) :
    StaysWf (execBadOpcodePacket q op pk s) := by
  refine StaysWf.next (whenever_wf (fun x hx => ?_) h)
  have taken := (Cmd.take_hubOnly q (.packet op pk) x).2 hx
  unfold Cmd.runWith
  split
  · next e =>
    rw [e] at taken
    exact Cmd.wakeHeld_wf _ _ _ taken
  · next e =>
    rw [e] at taken
    exact Ev.settle_wf _ _ (Ring.reply_wf _ _ _ taken)
  · next t e =>
    rw [e] at taken
    have entered : (Cmd.enter op q pk t).memWf = true := taken
    dsimp only
    split
    · exact Cmd.final_wf _ _ _ _ entered
    · exact Cmd.conclude_wf _ _ _ entered

/-! ### Panel heads at work -/

theorem execPanelUploadDone_wf (head : Nat) (s : State) (h : s.memWf = true) : StaysWf (execPanelUploadDone head s) := by
  unfold execPanelUploadDone
  refine StaysWf.next ?_
  dsimp only
  split
  · exact Cmd.final_wf _ _ _ _ h
  exact h

theorem execGlowLoadDone_wf (head : Nat) (s : State) (h : s.memWf = true) : StaysWf (execGlowLoadDone head s) := by
  unfold execGlowLoadDone
  refine StaysWf.next ?_
  dsimp only
  split
  · exact Cmd.final_wf _ _ _ _ h
  exact h

theorem execGammaCopyDone_wf (head : Nat) (s : State) (h : s.memWf = true) : StaysWf (execGammaCopyDone head s) := by
  unfold execGammaCopyDone
  refine StaysWf.next ?_
  split
  · exact State.ite_wf h (Cmd.finalBad_wf _ _ _ h)
  exact h

theorem execFrameStart_wf (head : Nat) (s : State) (h : s.memWf = true) : StaysWf (execFrameStart head s) :=
  StaysWf.next (whenever_wf (fun _ hx => Panel.frame_wf _ _ (untilElapsed_wf _ _ hx)) h)

theorem execPowerGood_wf (head index : Nat) (s : State) (h : s.memWf = true) : StaysWf (execPowerGood head index s) := by
  unfold execPowerGood
  refine StaysWf.next ?_
  refine whenever_wf (fun _ hx => ?_) h
  dsimp only
  exact State.ite_wf (Panel.pgNext_wf _ _ hx) hx

theorem execPhLock_wf (head : Nat) (s : State) (h : s.memWf = true) : StaysWf (execPhLock head s) := by
  unfold execPhLock
  refine StaysWf.next ?_
  refine whenever_wf (fun _ hx => ?_) h
  dsimp only
  exact State.ite_wf (State.ite_wf hx hx) hx

theorem execRailDeadline_wf (head : Nat) (s : State) (h : s.memWf = true) : StaysWf (execRailDeadline head s) := by
  unfold execRailDeadline
  refine StaysWf.next ?_
  refine whenever_wf (fun _ hx => ?_) h
  dsimp only
  exact Panel.fault_wf _ _ _ (untilElapsed_wf _ _ hx)

theorem execRailSequenceTimer_wf (head : Nat) (s : State) (h : s.memWf = true) : StaysWf
    (execRailSequenceTimer head s) := by
  refine StaysWf.next (whenever_wf (fun x hx => ?_) h)
  have waited := untilElapsed_wf ((x.head head).stepAt + stepNs (x.head head)) x hx
  dsimp only
  generalize untilElapsed _ x = u at waited ⊢
  split
  · exact waited
  · exact Panel.discharge_wf _ _ waited
  · exact Panel.reachOff_wf _ _ waited
  · exact hx

theorem execDischargeEnd_wf (head : Nat) (s : State) (h : s.memWf = true) : StaysWf (execDischargeEnd head s) := by
  unfold execDischargeEnd
  refine StaysWf.next ?_
  refine whenever_wf (fun _ hx => ?_) h
  dsimp only
  exact State.ite_wf (Panel.reachOff_wf _ _ (untilElapsed_wf _ _ hx)) (untilElapsed_wf _ _ hx)

theorem execPanelFault_wf (head : Nat) (cause : PanelFaultCause) (s : State) (h : s.memWf = true) :
    StaysWf (execPanelFault head cause s) := by
  unfold execPanelFault
  refine StaysWf.next ?_
  refine whenever_wf (fun _ hx => ?_) h
  dsimp only
  split
  · exact State.ite_wf (Panel.fault_wf _ _ _ hx) hx
  exact hx

theorem execCrackCheck_wf (head ohms : Nat) (s : State) (h : s.memWf = true) : StaysWf (execCrackCheck head ohms s) := by
  unfold execCrackCheck
  refine StaysWf.next ?_
  refine whenever_wf (fun _ hx => ?_) h
  dsimp only
  exact State.ite_wf (Panel.lightCheck_wf _ _ _ (State.ite_wf (untilElapsed_wf _ _ hx) hx)) (State.ite_wf
      (State.ite_wf (untilElapsed_wf _ _ hx) hx) (Panel.litCheckFails_wf _ _ _ (State.ite_wf
      (untilElapsed_wf _ _ hx) hx)))

theorem execCrackCheckTimer_wf (head : Nat) (s : State) (h : s.memWf = true) : StaysWf (execCrackCheckTimer head s) :=
  StaysWf.next (whenever_wf (fun _ hx => State.modHead_wf (untilTb_wf _ _ hx)) h)

theorem execPanelBandSample_wf (head : Nat) (s : State) (h : s.memWf = true) : StaysWf (execPanelBandSample head s) := by
  unfold execPanelBandSample
  refine StaysWf.next ?_
  refine whenever_wf (fun _ hx => ?_) h
  dsimp only
  exact BandUnit.load_wf _ _ hx

theorem Touch.write_wf (h : Nat) (s : State) (hs : s.memWf = true) : (Touch.write h s).memWf = true := by
  unfold Touch.write
  dsimp only
  split
  · exact State.ite_wf (Ev.raise_wf _ _ _ _ (Ring.append_wf _ _ _ hs)) (Ring.append_wf _ _ _ hs)
  exact hs

theorem Touch.stick_wf (h : Nat) (s : State) (hs : s.memWf = true) : (Touch.stick h s).memWf = true :=
  State.ite_wf hs (State.foldl_wf (fun _ _ hx => Ev.raise_wf _ _ _ _ hx) hs)

theorem Touch.capture_wf (h : Nat) (raw : List Int) (s : State) (hs : s.memWf = true) :
    (Touch.capture h raw s).memWf = true := by
  unfold Touch.capture
  dsimp only
  split
  · exact hs
  exact State.ite_wf (Cmd.finalBad_wf _ _ _ hs) (State.ite_wf hs hs)

theorem Touch.baseline_wf (h : Nat) (raw : List Int) (s : State) (hs : s.memWf = true) :
    (Touch.baseline h raw s).memWf = true :=
  State.ite_wf hs hs

theorem Touch.scan_wf (h : Nat) (raw : List Int) (s : State) (hs : s.memWf = true) : (Touch.scan h raw s).memWf = true := by
  have hBased := Touch.baseline_wf h raw s hs
  unfold Touch.scan
  extract_lets dt based scanned stuck x touched groups now appears many differs drawn written captured
  have hScanned : scanned.memWf = true := hBased
  clear_value scanned
  have hStuck : stuck.memWf = true := Touch.stick_wf _ _ hScanned
  clear_value appears now stuck
  have hDrawn : drawn.memWf = true := hStuck
  clear_value drawn
  have hWritten : written.memWf = true := State.ite_wf (Touch.write_wf _ _ hDrawn) hDrawn
  have hCaptured : captured.memWf = true := Touch.capture_wf _ _ _ hWritten
  clear_value captured
  exact State.ite_wf (Power.wake_wf _ _ _ hCaptured) hCaptured

theorem execTouchScan_wf (head : Nat) (raw : List Int) (s : State) (h : s.memWf = true) :
    StaysWf (execTouchScan head raw s) := by
  unfold execTouchScan
  refine StaysWf.next ?_
  refine whenever_wf (fun _ hx => ?_) h
  dsimp only
  exact Touch.scan_wf _ _ _ (State.ite_wf hx (untilTb_wf _ _ hx))

/-! ### Sources of points -/

theorem execPointSourceUpdate_wf (id : Nat) (s : State) (h : s.memWf = true) : StaysWf (execPointSourceUpdate id s) := by
  unfold execPointSourceUpdate
  refine StaysWf.next ?_
  split
  · exact Point.deliver_wf _ _ _ _ h
  exact h

/-! ### Start-up -/

theorem execPorRelease_wf (m : Monitors) (ordered : Bool) (s : State) (h : s.memWf = true) :
    StaysWf (execPorRelease m ordered s) := by
  have started := Power.startUp_wf s h
  unfold execPorRelease
  split
  · split
    · generalize Power.startUp s = u at started ⊢
      exact .next started
    · rintro _ ⟨⟩
  · exact .next h

theorem Power.rst_wf (s : State) (h : s.memWf = true) : (Power.rst s).memWf = true :=
  State.ite_wf (Power.reset_wf _ _ h) (Power.startUp_wf _ h)

theorem execRstN_wf (lowNs : Nat) (s : State) (h : s.memWf = true) : StaysWf (execRstN lowNs s) := by
  unfold execRstN
  refine StaysWf.next ?_
  refine State.ite_wf h ?_
  dsimp only
  exact State.ite_wf (untilElapsed_wf _ _ h) (State.ite_wf (Power.rst_wf _ (untilElapsed_wf _ _ h)) (State.ite_wf
      (Power.rst_wf _ (untilElapsed_wf _ _ h)) (untilElapsed_wf _ _ h)))

theorem Fuse.load_wf (s : State) (h : s.memWf = true) : (Fuse.load s).memWf = true :=
  State.foldl_wf (fun _ _ hx => Ev.raise_wf _ _ _ _ hx) h

theorem Power.bootTo_wf (b : Boot) (s : State) (h : s.memWf = true) : (Power.bootTo b s).memWf = true := h

theorem execFuseLoad_wf (factoryGood : Bool) (s : State) (h : s.memWf = true) : StaysWf (execFuseLoad factoryGood s) :=
  StaysWf.next (whenever_wf (fun _ hx => State.ite_wf (Power.bootTo_wf _ _ (Fuse.load_wf _ (untilElapsed_wf _ _ hx)))
    (Power.bootTo_wf _ _ (untilElapsed_wf _ _ hx))) h)

theorem Nv.recover_wf (s : State) (h : s.memWf = true) : (Nv.recover s).memWf = true := by
  unfold Nv.recover
  dsimp only
  split
  · exact h
  exact State.ite_wf (Nv.store_wf _ _ (Nv.count_wf _ _ _ h)) (State.ite_wf (State.ite_wf h h) (State.ite_wf h h))

theorem Fed.restore_wf (s : State) (h : s.memWf = true) : (Fed.restore s).memWf = true := by
  unfold Fed.restore
  split
  · exact h
  exact h

theorem execJournalRecovery_wf (s : State) (h : s.memWf = true) : StaysWf (execJournalRecovery s) :=
  StaysWf.next (whenever_wf (fun _ hx => Fed.restore_wf _ (Meter.restore_wf _ (Nv.recover_wf _ hx))) h)

theorem execFirmwareVerify_wf (image : BootImage) (s : State) (h : s.memWf = true) :
    StaysWf (execFirmwareVerify image s) :=
  StaysWf.next (whenever_wf (fun _ hx => State.ite_wf hx (State.ite_wf hx hx)) h)

theorem Power.ready_wf (gib : Nat) (s : State) (h : s.memWf = true) : (Power.ready gib s).memWf = true := by
  unfold Power.ready
  dsimp only
  split
  · exact Ev.raise_wf _ _ _ _ (State.ite_wf (Meter.validate_wf _ (Tb.reseconds_wf _ h)) (Tb.reseconds_wf _ h))
  exact State.ite_wf (Meter.validate_wf _ (Tb.reseconds_wf _ h)) (Tb.reseconds_wf _ h)

theorem execLpddr5Training_wf (good : Bool) (gib : Nat) (s : State) (h : s.memWf = true) :
    StaysWf (execLpddr5Training good gib s) :=
  StaysWf.next (whenever_wf (fun _ hx => State.ite_wf (Power.ready_wf _ _ hx) (State.ite_wf hx hx)) h)

theorem execPfailRise_wf (supmon holdmon : Nat) (recordBegun : Bool) (s : State) (h : s.memWf = true) :
    StaysWf (execPfailRise supmon holdmon recordBegun s) := by
  unfold execPfailRise
  refine StaysWf.next ?_
  refine whenever_wf (fun _ hx => ?_) h
  dsimp only
  exact Power.fail_wf _ _ _ _ hx

theorem execPfailFall_wf (supmon : Nat) (s : State) (h : s.memWf = true) : StaysWf (execPfailFall supmon s) :=
  StaysWf.next (whenever_wf (fun _ hx => hx) h)

theorem execMainRailLoss_wf (s : State) (h : s.memWf = true) : StaysWf (execMainRailLoss s) :=
  StaysWf.next (whenever_wf (fun _ hx => Power.toOff_wf _ _ hx) h)

theorem execVddAonLoss_wf (s : State) (h : s.memWf = true) : StaysWf (execVddAonLoss s) := by
  have reset := Power.reset_wf .unpowered s h
  unfold execVddAonLoss
  generalize Power.reset .unpowered s = u at reset ⊢
  exact .next reset

theorem execWakePin_wf (lowNs : Nat) (s : State) (h : s.memWf = true) : StaysWf (execWakePin lowNs s) :=
  StaysWf.next (whenever_wf (fun _ hx => State.ite_wf (Power.offWake_wf _ _ _ _ hx) (State.ite_wf
      (Power.wake_wf _ _ _ hx) hx)) h)

theorem execWakeAlarm_wf (s : State) (h : s.memWf = true) : StaysWf (execWakeAlarm s) :=
  StaysWf.next (whenever_wf (fun _ hx => State.ite_wf (Power.offWake_wf _ _ _ _ (State.withPw_wf (untilTb_wf _ _ hx)))
    (Power.wake_wf _ _ _ (State.withPw_wf (untilTb_wf _ _ hx)))) h)

/-! ### Temperature -/

theorem Sensor.sample_wf (i : Nat) (r : Int) (s : State) (h : s.memWf = true) : (Sensor.sample i r s).memWf = true :=
  State.ite_wf h (State.ite_wf (Ev.raise_wf _ _ _ _ h) h)

theorem Sensors.sample_wf (r : Vector Int 16) (s : State) (h : s.memWf = true) : (Sensors.sample r s).memWf = true :=
  State.foldl_wf (fun _ _ hx => Sensor.sample_wf _ _ _ hx) h

theorem Therm.judgeWarn_wf (s : State) (h : s.memWf = true) : (Therm.judgeWarn s).memWf = true := by
  unfold Therm.judgeWarn
  dsimp only
  split
  · exact h
  exact State.ite_wf (Ev.raise_wf _ _ _ _ h) (State.ite_wf (Ev.raiseCleared_wf _ _ _ _ h) h)

theorem Therm.levelFour_wf (s : State) (h : s.memWf = true) : (Therm.levelFour s).memWf = true :=
  Throttle.around_wf (fun _ hx => onTiles_wf (fun _ _ hy => hy) hx) h

theorem Therm.critical_wf (m : Int × Nat) (s : State) (h : s.memWf = true) : (Therm.critical m s).memWf = true :=
  Ev.raise_wf _ _ _ _ (onTiles_wf (fun _ _ hx => Panel.safe_wf _ _ (Out.fallbackRest_wf _ _ (Drv.safe_wf _ _ hx)))
      (Therm.levelFour_wf _ h))

theorem Therm.judgeCrit_wf (s : State) (h : s.memWf = true) : (Therm.judgeCrit s).memWf = true := by
  unfold Therm.judgeCrit
  refine State.ite_wf ?_ ?_
  · dsimp only
    split
    · exact h
    exact h
  · split
    · exact State.ite_wf (Therm.critical_wf _ _ h) h
    exact h

theorem execCritEnd_wf (s : State) (h : s.memWf = true) : StaysWf (execCritEnd s) := by
  refine StaysWf.next ?_
  split
  · exact whenever_wf (fun _ hx => Ev.raiseCleared_wf _ _ _ _ (State.withPw_wf (untilElapsed_wf _ _ hx))) h
  · exact h

theorem execThrottleUp_wf (tile : Nat) (s : State) (h : s.memWf = true) : StaysWf (execThrottleUp tile s) := by
  unfold execThrottleUp
  refine StaysWf.next ?_
  dsimp only
  split
  · exact whenever_wf (fun _ hx => Throttle.around_wf (fun _ hx => hx) (untilElapsed_wf _ _ hx)) h
  exact h

theorem Throttle.blind_wf (t : Nat) (s : State) (h : s.memWf = true) : (Throttle.blind t s).memWf = true :=
  State.ite_wf h h

theorem Skew.sample_wf (edge quantity : Nat) (s : State) (h : s.memWf = true) :
    (Skew.sample edge quantity s).memWf = true :=
  State.ite_wf (Ev.raise_wf _ _ _ _ h) h

theorem Skews.sample_wf (s : State) (h : s.memWf = true) : (Skews.sample s).memWf = true :=
  State.foldl_wf (fun _ _ hx => Skew.sample_wf _ _ _ hx) h

theorem Therm.sample_wf (r : Vector Int 16) (m : Monitors) (s : State) (h : s.memWf = true) :
    (Therm.sample r m s).memWf = true :=
  Skews.sample_wf _ (Throttle.around_wf (fun _ hx => onTiles_wf (fun _ _ hx => hx) hx) (Therm.judgeCrit_wf _
      (Therm.judgeWarn_wf _ (Throttle.around_wf (fun _ hx => onTiles_wf (fun _ _ hx => Throttle.blind_wf _ _ hx)
      (Sensors.sample_wf _ _ hx)) h))))

theorem execThermSample_wf (readings : Vector Int 16) (m : Monitors) (s : State) (h : s.memWf = true) :
    StaysWf (execThermSample readings m s) :=
  StaysWf.next (whenever_wf (fun _ hx => Therm.sample_wf _ _ _ hx) h)


/-! ### Every command -/

/-- A packet command stays canonical where its opcode's own part does. -/
theorem StaysWf.run {sp : OpSpec} {body : Packet → Key → State → Verdict} {q : Nat} {pk : Packet} {s : State}
    (hb : ∀ k t u, u.memWf = true → t.memWf = true → ((body pk k t).stateOr u).memWf = true) (h : s.memWf = true) :
    StaysWf (.next (Cmd.run sp body q pk s)) :=
  .next (Cmd.run_wf _ _ _ _ _ (fun k t ht => hb k t t ht ht) h)

/-- Every command keeps the memories canonical. -/
theorem exec_staysWf (c : Instr) (s : State) (h : s.memWf = true) : StaysWf (exec c s) := by
  cases c
  case tbSet q pk => exact .run (bodyTbSet_wf pk) h
  case tbSlew q pk => exact .run (bodyTbSlew_wf pk) h
  case tbRead q pk => exact .run (bodyTbRead_wf pk) h
  case ppsOutRise => exact execPpsOutRise_wf s h
  case ppsOutFall => exact execPpsOutFall_wf s h
  case ppsInEdge => exact execPpsInEdge_wf s h
  case crossTileDelivery src dst => exact execCrossTileDelivery_wf src dst s h
  case tileSkewClear edge kind => exact execTileSkewClear_wf edge kind s h
  case hostFlr => exact execHostFlr_wf s h
  case registerWrite offset bytes value => exact execRegisterWrite_wf offset bytes value s h
  case setupArm => exact execSetupArm_wf s h
  case setupDisarm => exact execSetupDisarm_wf s h
  case disarmComplete => exact execDisarmComplete_wf s h
  case chselWrite value => exact execChselWrite_wf value s h
  case windowWrite offset value => exact execWindowWrite_wf offset value s h
  case doorbell q value written => exact execDoorbell_wf q value written s h
  case fetchResume => exact execFetchResume_wf s h
  case packetCrcFail q index head => exact execPacketCrcFail_wf q index head s h
  case badOpcodePacket q opcode pk => exact execBadOpcodePacket_wf q opcode pk s h
  case coalesceTimeout q => exact execCoalesceTimeout_wf q s h
  case heldReplyWrite q => exact execHeldReplyWrite_wf q s h
  case pairFreed q => exact execPairFreed_wf q s h
  case windowAccess q pk => exact .run (bodyWindowAccess_wf pk) h
  case qspiWrite address data => exact execQspiWrite_wf address data s h
  case qspiQwrite address data => exact execQspiQwrite_wf address data s h
  case qspiRead address words => exact execQspiRead_wf address words s h
  case qspiQread address words => exact execQspiQread_wf address words s h
  case qspiStatus => exact execQspiStatus_wf s h
  case qspiUnknownInstruction instruction => exact execQspiUnknownInstruction_wf instruction s h
  case sessionOpen q pk => exact .run (bodySessionOpen_wf pk) h
  case sessionProve q pk => exact .run (bodySessionProve_wf pk) h
  case nonceLapse tenant => exact execNonceLapse_wf tenant s h
  case authLockoutEnd tenant => exact execAuthLockoutEnd_wf tenant s h
  case sessionClose q pk => exact .run (bodySessionClose_wf pk) h
  case queueCreate q pk => exact .run (bodyQueueCreate_wf pk) h
  case queueDelete q pk => exact .run (bodyQueueDelete_wf pk) h
  case clientInstall q pk => exact .run (bodyClientInstall_wf pk) h
  case clientRights q pk => exact .run (bodyClientRights_wf pk) h
  case clientRemove q pk => exact .run (bodyClientRemove_wf pk) h
  case pointRead q pk => exact .run (bodyPointRead_wf pk) h
  case pointWrite q pk => exact .run (bodyPointWrite_wf pk) h
  case pointCreate q pk => exact .run (bodyPointCreate_wf pk) h
  case pointConfig q pk => exact .run (bodyPointConfig_wf pk) h
  case pointDelete q pk => exact .run (bodyPointDelete_wf pk) h
  case pointWatch q pk => exact .run (bodyPointWatch_wf pk) h
  case watchTimeout q tag => exact execWatchTimeout_wf q tag s h
  case pointSourceUpdate id => exact execPointSourceUpdate_wf id s h
  case inputConfig q pk => exact .run (bodyInputConfig_wf pk) h
  case inputRead q pk => exact .run (bodyInputRead_wf pk) h
  case inputTable q pk => exact .run (bodyInputTable_wf pk) h
  case inputTest q pk => exact .run (bodyInputTest_wf pk) h
  case seqCycleStart tile conv => exact execSeqCycleStart_wf tile conv s h
  case seqEntryStart tile conv => exact execSeqEntryStart_wf tile conv s h
  case dwellEnd tile conv d => exact execDwellEnd_wf tile conv d s h
  case protTrip tile input => exact execProtTrip_wf tile input s h
  case protReclose tile input => exact execProtReclose_wf tile input s h
  case shuntTrip tile input => exact execShuntTrip_wf tile input s h
  case pulseEdge tile input heldNs => exact execPulseEdge_wf tile input heldNs s h
  case pulseRateWrite tile => exact execPulseRateWrite_wf tile s h
  case refbufOn q pk => exact .run (bodyRefbufOn_wf pk) h
  case refSettled tile => exact execRefSettled_wf tile s h
  case refbufOff q pk => exact .run (bodyRefbufOff_wf pk) h
  case adcCalibrate q pk => exact .run (bodyAdcCalibrate_wf pk) h
  case calRunEnd kind index r => exact execCalRunEnd_wf kind index r s h
  case seqLoad q pk => exact .run (bodySeqLoad_wf pk) h
  case seqStart q pk => exact .run (bodySeqStart_wf pk) h
  case seqStop q pk => exact .run (bodySeqStop_wf pk) h
  case seqRead q pk => exact .run (bodySeqRead_wf pk) h
  case lchConfig q pk => exact .run (bodyLchConfig_wf pk) h
  case lchRead q pk => exact .run (bodyLchRead_wf pk) h
  case lchWinack q pk => exact .run (bodyLchWinack_wf pk) h
  case dmaCreate q pk => exact .run (bodyDmaCreate_wf pk) h
  case dmaDelete q pk => exact .run (bodyDmaDelete_wf pk) h
  case urgentConvert q pk => exact .run (bodyUrgentConvert_wf pk) h
  case urgentStart tile => exact execUrgentStart_wf tile s h
  case urgentDwellEnd tile d => exact execUrgentDwellEnd_wf tile d s h
  case rscan q pk => exact .run (bodyRscan_wf pk) h
  case rscanStart tile => exact execRscanStart_wf tile s h
  case rscanLaunch tile capture => exact execRscanLaunch_wf tile capture s h
  case rscanEnd tile places => exact execRscanEnd_wf tile places s h
  case meterConfig q pk => exact .run (bodyMeterConfig_wf pk) h
  case meterRead q pk => exact .run (bodyMeterRead_wf pk) h
  case meterHistory q pk => exact .run (bodyMeterHistory_wf pk) h
  case meterResetPeak q pk => exact .run (bodyMeterResetPeak_wf pk) h
  case demandConfig q pk => exact .run (bodyDemandConfig_wf pk) h
  case tariffLoad q pk => exact .run (bodyTariffLoad_wf pk) h
  case tariffCommit q pk => exact .run (bodyTariffCommit_wf pk) h
  case tariffRead q pk => exact .run (bodyTariffRead_wf pk) h
  case meterDwellEnd tile d => exact execMeterDwellEnd_wf tile d s h
  case intervalClose => exact execIntervalClose_wf s h
  case meterCheckpointDone => exact execMeterCheckpointDone_wf s h
  case tariffSwitch => exact execTariffSwitch_wf s h
  case tariffRebuildDone => exact execTariffRebuildDone_wf s h
  case tariffSwap => exact execTariffSwap_wf s h
  case meterResultUpdate => exact execMeterResultUpdate_wf s h
  case presenceConfig q pk => exact .run (bodyPresenceConfig_wf pk) h
  case presenceRead q pk => exact .run (bodyPresenceRead_wf pk) h
  case presenceTest q pk => exact .run (bodyPresenceTest_wf pk) h
  case presenceRebase q pk => exact .run (bodyPresenceRebase_wf pk) h
  case frameReceived port startAgoNs bits pixels => exact execFrameReceived_wf port startAgoNs bits pixels s h
  case presenceSecond => exact execPresenceSecond_wf s h
  case loopCreate q pk => exact .run (bodyLoopCreate_wf pk) h
  case loopDelete q pk => exact .run (bodyLoopDelete_wf pk) h
  case loopRead q pk => exact .run (bodyLoopRead_wf pk) h
  case loopManual q pk => exact .run (bodyLoopManual_wf pk) h
  case loopTune q pk => exact .run (bodyLoopTune_wf pk) h
  case loopLoad q pk => exact .run (bodyLoopLoad_wf pk) h
  case loopEvaluation tile => exact execLoopEvaluation_wf tile s h
  case zoneCreate q pk => exact .run (bodyZoneCreate_wf pk) h
  case zoneDelete q pk => exact .run (bodyZoneDelete_wf pk) h
  case zoneRead q pk => exact .run (bodyZoneRead_wf pk) h
  case zoneModel q pk => exact .run (bodyZoneModel_wf pk) h
  case predSolve q pk => exact .run (bodyPredSolve_wf pk) h
  case predSolveDone tile zone => exact execPredSolveDone_wf tile zone s h
  case predSolveTimeout tile zone => exact execPredSolveTimeout_wf tile zone s h
  case predPlanRead q pk => exact .run (bodyPredPlanRead_wf pk) h
  case predLearn q pk => exact .run (bodyPredLearn_wf pk) h
  case predAccept q pk => exact .run (bodyPredAccept_wf pk) h
  case predPause q pk => exact .run (bodyPredPause_wf pk) h
  case predSched q pk => exact .run (bodyPredSched_wf pk) h
  case predLoad q pk => exact .run (bodyPredLoad_wf pk) h
  case zoneTune q pk => exact .run (bodyZoneTune_wf pk) h
  case zoneBoundary tile zone => exact execZoneBoundary_wf tile zone s h
  case solveComplete tile zone => exact execSolveComplete_wf tile zone s h
  case gainRebuildDone tile zone => exact execGainRebuildDone_wf tile zone s h
  case drvConfig q pk => exact .run (bodyDrvConfig_wf pk) h
  case drvProfile q pk => exact .run (bodyDrvProfile_wf pk) h
  case drvCommand q pk => exact .run (bodyDrvCommand_wf pk) h
  case drvRead q pk => exact .run (bodyDrvRead_wf pk) h
  case drvClear q pk => exact .run (bodyDrvClear_wf pk) h
  case drvBand q pk => exact .run (bodyDrvBand_wf pk) h
  case aoConfig q pk => exact .run (bodyAoConfig_wf pk) h
  case aoSet q pk => exact .run (bodyAoSet_wf pk) h
  case aoRead q pk => exact .run (bodyAoRead_wf pk) h
  case fanConfig q pk => exact .run (bodyFanConfig_wf pk) h
  case fanSet q pk => exact .run (bodyFanSet_wf pk) h
  case fanRead q pk => exact .run (bodyFanRead_wf pk) h
  case phaseEnd tile ending => exact execPhaseEnd_wf tile ending s h
  case currentTrip tile channel shunts => exact execCurrentTrip_wf tile channel shunts s h
  case chopOffEnd tile channel => exact execChopOffEnd_wf tile channel s h
  case overcurrent tile channel => exact execOvercurrent_wf tile channel s h
  case offSettleEnd tile channel => exact execOffSettleEnd_wf tile channel s h
  case tpropCycleStart tile channel => exact execTpropCycleStart_wf tile channel s h
  case tpropOnEnd tile channel => exact execTpropOnEnd_wf tile channel s h
  case floatCheck tile channel => exact execFloatCheck_wf tile channel s h
  case reversalWaitEnd tile channel => exact execReversalWaitEnd_wf tile channel s h
  case driveBandSample tile => exact execDriveBandSample_wf tile s h
  case outputWatchdogExpiry tile kind index => exact execOutputWatchdogExpiry_wf tile kind index s h
  case vgateLow => exact execVgateLow_wf s h
  case vgateRecover => exact execVgateRecover_wf s h
  case aoOverload tile output => exact execAoOverload_wf tile output s h
  case aoOverloadClear tile output => exact execAoOverloadClear_wf tile output s h
  case aoRampStep tile output => exact execAoRampStep_wf tile output s h
  case fanKickEnd tile port => exact execFanKickEnd_wf tile port s h
  case fanTachEdge tile port => exact execFanTachEdge_wf tile port s h
  case fanSpeedUpdate tile => exact execFanSpeedUpdate_wf tile s h
  case busConfig q pk => exact .run (bodyBusConfig_wf pk) h
  case busStatus q pk => exact .run (bodyBusStatus_wf pk) h
  case busSend q pk => exact .run (bodyBusSend_wf pk) h
  case busCancel q pk => exact .run (bodyBusCancel_wf pk) h
  case busRecover q pk => exact .run (bodyBusRecover_wf pk) h
  case busRecoveryDone bus => exact execBusRecoveryDone_wf bus s h
  case busFilter q pk => exact .run (bodyBusFilter_wf pk) h
  case busRxring q pk => exact .run (bodyBusRxring_wf pk) h
  case busNode q pk => exact .run (bodyBusNode_wf pk) h
  case busNodeRead q pk => exact .run (bodyBusNodeRead_wf pk) h
  case busAdopt q pk => exact .run (bodyBusAdopt_wf pk) h
  case busRetire q pk => exact .run (bodyBusRetire_wf pk) h
  case busLink q pk => exact .run (bodyBusLink_wf pk) h
  case busDusk q pk => exact .run (bodyBusDusk_wf pk) h
  case busDawn q pk => exact .run (bodyBusDawn_wf pk) h
  case transmitComplete bus how => exact execTransmitComplete_wf bus how s h
  case hostFrame bus f => exact execHostFrame_wf bus f s h
  case beacon bus f => exact execBeacon_wf bus f s h
  case duskPropose bus f => exact execDuskPropose_wf bus f s h
  case duskAgree bus f => exact execDuskAgree_wf bus f s h
  case duskRefuse bus f => exact execDuskRefuse_wf bus f s h
  case duskCommit bus f => exact execDuskCommit_wf bus f s h
  case dawn bus f => exact execDawn_wf bus f s h
  case adopt bus f => exact execAdopt_wf bus f s h
  case retire bus f => exact execRetire_wf bus f s h
  case pointReport bus f => exact execPointReport_wf bus f s h
  case pointWriteAck bus f => exact execPointWriteAck_wf bus f s h
  case beaconTimer bus => exact execBeaconTimer_wf bus s h
  case nodeCheck bus => exact execNodeCheck_wf bus s h
  case fragmentTimeout bus => exact execFragmentTimeout_wf bus s h
  case linkAckTimeout bus link => exact execLinkAckTimeout_wf bus link s h
  case duskProposeTimeout bus => exact execDuskProposeTimeout_wf bus s h
  case duskAgreeTimeout bus => exact execDuskAgreeTimeout_wf bus s h
  case duskHoldEnd bus => exact execDuskHoldEnd_wf bus s h
  case busWake bus => exact execBusWake_wf bus s h
  case dawnDelayEnd bus => exact execDawnDelayEnd_wf bus s h
  case fedIdentity q pk => exact .run (bodyFedIdentity_wf pk) h
  case fedLink q pk => exact .run (bodyFedLink_wf pk) h
  case fedNet q pk => exact .run (bodyFedNet_wf pk) h
  case fedPtp q pk => exact .run (bodyFedPtp_wf pk) h
  case fedExport q pk => exact .run (bodyFedExport_wf pk) h
  case fedMirror q pk => exact .run (bodyFedMirror_wf pk) h
  case fedUnmirror q pk => exact .run (bodyFedUnmirror_wf pk) h
  case fedStatus q pk => exact .run (bodyFedStatus_wf pk) h
  case fedPeerRead q pk => exact .run (bodyFedPeerRead_wf pk) h
  case linkTrainingDone link peer => exact execLinkTrainingDone_wf link peer s h
  case linkRetry link => exact execLinkRetry_wf link s h
  case linkDown link => exact execLinkDown_wf link s h
  case lomuzFrame link head => exact execLomuzFrame_wf link head s h
  case holdOrderedSet link => exact execHoldOrderedSet_wf link s h
  case linkHoldEnd link => exact execLinkHoldEnd_wf link s h
  case update via r => exact execUpdate_wf via r s h
  case subscribe via r => exact execSubscribe_wf via r s h
  case grant via r => exact execGrant_wf via r s h
  case refuse via r => exact execRefuse_wf via r s h
  case cancel via r => exact execCancel_wf via r s h
  case announce hd => exact execAnnounce_wf hd s h
  case announceTimer => exact execAnnounceTimer_wf s h
  case peerLost chip => exact execPeerLost_wf chip s h
  case enLinkLoss => exact execEnLinkLoss_wf s h
  case enReturn => exact execEnReturn_wf s h
  case routerAdvertisement frame => exact execRouterAdvertisement_wf frame s h
  case sweep chip => exact execSweep_wf chip s h
  case mirrorTimeout id => exact execMirrorTimeout_wf id s h
  case reflectionStale id => exact execReflectionStale_wf id s h
  case sync m ratePpb => exact execSync_wf m ratePpb s h
  case holdover => exact execHoldover_wf s h
  case panelConfig q pk => exact .run (bodyPanelConfig_wf pk) h
  case panelPower q pk => exact .run (bodyPanelPower_wf pk) h
  case panelUpload q pk => exact .run (bodyPanelUpload_wf pk) h
  case panelUploadDone head => exact execPanelUploadDone_wf head s h
  case panelFlip q pk => exact .run (bodyPanelFlip_wf pk) h
  case panelGamma q pk => exact .run (bodyPanelGamma_wf pk) h
  case panelGammaCommit q pk => exact .run (bodyPanelGammaCommit_wf pk) h
  case gammaCopyDone head => exact execGammaCopyDone_wf head s h
  case panelBand q pk => exact .run (bodyPanelBand_wf pk) h
  case panelRead q pk => exact .run (bodyPanelRead_wf pk) h
  case panelCrackScan q pk => exact .run (bodyPanelCrackScan_wf pk) h
  case glowConfig q pk => exact .run (bodyGlowConfig_wf pk) h
  case glowLoad q pk => exact .run (bodyGlowLoad_wf pk) h
  case glowWidget q pk => exact .run (bodyGlowWidget_wf pk) h
  case touchConfig q pk => exact .run (bodyTouchConfig_wf pk) h
  case touchRing q pk => exact .run (bodyTouchRing_wf pk) h
  case touchRebase q pk => exact .run (bodyTouchRebase_wf pk) h
  case touchProfile q pk => exact .run (bodyTouchProfile_wf pk) h
  case touchRead q pk => exact .run (bodyTouchRead_wf pk) h
  case frameStart head => exact execFrameStart_wf head s h
  case powerGood head index => exact execPowerGood_wf head index s h
  case phLock head => exact execPhLock_wf head s h
  case railDeadline head => exact execRailDeadline_wf head s h
  case railSequenceTimer head => exact execRailSequenceTimer_wf head s h
  case dischargeEnd head => exact execDischargeEnd_wf head s h
  case panelFault head cause => exact execPanelFault_wf head cause s h
  case crackCheck head ohms => exact execCrackCheck_wf head ohms s h
  case crackCheckTimer head => exact execCrackCheckTimer_wf head s h
  case panelBandSample head => exact execPanelBandSample_wf head s h
  case touchScan head raw => exact execTouchScan_wf head raw s h
  case calRun q pk => exact .run (bodyCalRun_wf pk) h
  case calMode q pk => exact .run (bodyCalMode_wf pk) h
  case calRead q pk => exact .run (bodyCalRead_wf pk) h
  case calSetRref q pk => exact .run (bodyCalSetRref_wf pk) h
  case calCommit q pk m => exact .run (bodyCalCommit_wf m pk) h
  case fuseBurnDone good => exact execFuseBurnDone_wf good s h
  case fuseInfo q pk => exact .run (bodyFuseInfo_wf pk) h
  case calMeasureTimeout channel => exact execCalMeasureTimeout_wf channel s h
  case nvRead q pk => exact .run (bodyNvRead_wf pk) h
  case nvWrite q pk => exact .run (bodyNvWrite_wf pk) h
  case nvStatus q pk => exact .run (bodyNvStatus_wf pk) h
  case nvBp q pk => exact .run (bodyNvBp_wf pk) h
  case nvUnlock q pk => exact .run (bodyNvUnlock_wf pk) h
  case nvLock q pk => exact .run (bodyNvLock_wf pk) h
  case nvPassword q pk => exact .run (bodyNvPassword_wf pk) h
  case nvClear q pk => exact .run (bodyNvClear_wf pk) h
  case nvHoldup q pk => exact .run (bodyNvHoldup_wf pk) h
  case nvCommitStart holdmon => exact execNvCommitStart_wf holdmon s h
  case nvCommitDone failedPage => exact execNvCommitDone_wf failedPage s h
  case tilePower q pk => exact .run (bodyTilePower_wf pk) h
  case tilePowerDone done => exact execTilePowerDone_wf done s h
  case powerState q pk => exact .run (bodyPowerState_wf pk) h
  case powerTransitionDone => exact execPowerTransitionDone_wf s h
  case powerConfig q pk => exact .run (bodyPowerConfig_wf pk) h
  case powerRead q pk => exact .run (bodyPowerRead_wf pk) h
  case clockSpread q pk => exact .run (bodyClockSpread_wf pk) h
  case ioConfig q pk => exact .run (bodyIoConfig_wf pk) h
  case thermConfig q pk => exact .run (bodyThermConfig_wf pk) h
  case thermRead q pk => exact .run (bodyThermRead_wf pk) h
  case thermCap q pk => exact .run (bodyThermCap_wf pk) h
  case porRelease m ordered => exact execPorRelease_wf m ordered s h
  case rstN lowNs => exact execRstN_wf lowNs s h
  case fuseLoad factoryGood => exact execFuseLoad_wf factoryGood s h
  case journalRecovery => exact execJournalRecovery_wf s h
  case firmwareVerify image => exact execFirmwareVerify_wf image s h
  case lpddr5Training good gib => exact execLpddr5Training_wf good gib s h
  case tileBrownout tile mv => exact execTileBrownout_wf tile mv s h
  case pfailRise supmon holdmon recordBegun => exact execPfailRise_wf supmon holdmon recordBegun s h
  case pfailFall supmon => exact execPfailFall_wf supmon s h
  case mainRailLoss => exact execMainRailLoss_wf s h
  case vddAonLoss => exact execVddAonLoss_wf s h
  case wakePin lowNs => exact execWakePin_wf lowNs s h
  case wakeAlarm => exact execWakeAlarm_wf s h
  case thermSample readings m => exact execThermSample_wf readings m s h
  case throttleUp tile => exact execThrottleUp_wf tile s h
  case critEnd => exact execCritEnd_wf s h
  case eventConfig q pk => exact .run (bodyEventConfig_wf pk) h
  case eventRead q pk => exact .run (bodyEventRead_wf pk) h
  case eventPending q pk => exact .run (bodyEventPending_wf pk) h
  case eventAck q pk => exact .run (bodyEventAck_wf pk) h
  case eventWait q pk => exact .run (bodyEventWait_wf pk) h
  case eventWaitTimeout q tag => exact execEventWaitTimeout_wf q tag s h
  case eventDetail q pk => exact .run (bodyEventDetail_wf pk) h
  case logRead q pk => exact .run (bodyLogRead_wf pk) h
  case logMark q pk => exact .run (bodyLogMark_wf pk) h
  case logClear q pk => exact .run (bodyLogClear_wf pk) h
  case transmitStart bus => exact execTransmitStart_wf bus s h
  case receiveError bus => exact execReceiveError_wf bus s h
  case configurationRequest r => exact execConfigurationRequest_wf r s h
  case enLinkReturn => exact execEnLinkReturn_wf s h
  case blankingEnd tile channel code => exact execBlankingEnd_wf tile channel code s h
  case glowLoadDone head => exact execGlowLoadDone_wf head s h
  case meterHistoryDone tile => exact execMeterHistoryDone_wf tile s h
  case presenceTestDone tile => exact execPresenceTestDone_wf tile s h

/-- Settles O10: an empty queue idles, which passes time alone, and each command keeps the memories canonical. -/
theorem memoryCanonicalKept : Obligations.MemoryCanonicalKept := by
  unfold Obligations.MemoryCanonicalKept
  intro s t h next
  match hp : s.pending with
  | [] =>
    rw [step, hp] at next
    cases next
    exact idleTick_wf s h
  | c :: rest =>
    rw [step, hp] at next
    exact exec_staysWf c { s with pending := rest } h t next

end Sys2Proof.Machine
end

section
/-!
The spelling of a command packet in 64 bytes (Table 2.6): the six little-endian numbers of the layout, each taken apart into
its fields and put together again. Settles O3 and O4.
-/

namespace Sys2Proof.Machine

/-! ## Numbers in a list of bytes -/

theorem ofLe_lt (l : List Byte) : ofLe l < 256 ^ l.length := by
  induction l with
  | nil => simp [ofLe]
  | cons b r ih =>
    have := b.isLt
    simp only [ofLe, List.length_cons, Nat.pow_succ]
    omega

/-- Bytes are those of the number they spell. -/
theorem leBytes_ofLe (l : List Byte) : leBytes l.length (ofLe l) = l := by
  induction l with
  | nil => rfl
  | cons b r ih =>
    have hb := b.isLt
    have low : BitVec.ofNat 8 (b.toNat + 256 * ofLe r) = b := BitVec.eq_of_toNat_eq (by simp; omega)
    have high : (b.toNat + 256 * ofLe r) / 256 = ofLe r := by omega
    simp only [List.length_cons, leBytes, ofLe, low, high, ih]

theorem ofLe_div (l : List Byte) (k : Nat) : ofLe l / 256 ^ k = ofLe (l.drop k) := by
  induction k generalizing l with
  | zero => simp
  | succ k ih =>
    cases l with
    | nil => simp [ofLe]
    | cons b r =>
      have hb := b.isLt
      have high : (b.toNat + 256 * ofLe r) / 256 = ofLe r := by omega
      rw [ofLe, Nat.pow_succ', ← Nat.div_div_eq_div_mul, high, ih, List.drop_succ_cons]

theorem ofLe_mod (l : List Byte) (n : Nat) : ofLe l % 256 ^ n = ofLe (l.take n) := by
  induction n generalizing l with
  | zero => simp [ofLe, Nat.mod_one]
  | succ n ih =>
    cases l with
    | nil => simp [ofLe]
    | cons b r =>
      have hb := b.isLt
      have low : (b.toNat + 256 * ofLe r) % 256 = b.toNat := by omega
      have high : (b.toNat + 256 * ofLe r) / 256 = ofLe r := by omega
      rw [ofLe, Nat.pow_succ', Nat.mod_mul, low, high, ih, List.take_succ_cons, ofLe]

/-- A span of a number's bytes spells the span's own number. -/
theorem ofLe_span (l : List Byte) (k n : Nat) : ofLe l / 256 ^ k % 256 ^ n = ofLe ((l.drop k).take n) := by
  rw [ofLe_div, ofLe_mod]

/-! ## The six numbers of the layout -/

/-- The opcode and the packet in the words at bytes 0, 2, 4 and 6, PARAMS and the word at byte 56. -/
def packetOfWords (head tag client queue params tail : Nat) : BitVec 12 × Packet :=
  (BitVec.ofNat 12 head,
   { rev := BitVec.ofNat 4 (field head 15 12)
     irq := field tag 13 13 == 1
     suppressOk := field tag 12 12 == 1
     fence := field tag 11 11 == 1
     tag := BitVec.ofNat 11 tag
     client := BitVec.ofNat 10 client
     queue := BitVec.ofNat 12 queue
     reserved := BitVec.ofNat 44 (field tag 15 14 + field client 15 10 * 2 ^ 2 + field queue 15 12 * 2 ^ 8 + tail * 2 ^ 12)
     params := BitVec.ofNat 384 params })

/-- The number that `n` bytes from byte `k` on spell. -/
def wordAt (bytes : List Byte) (k n : Nat) : Nat := ofLe ((bytes.drop k).take n)

theorem packetOf_eq_words (bytes : List Byte) :
    packetOf bytes = packetOfWords (wordAt bytes 0 2) (wordAt bytes 2 2) (wordAt bytes 4 2) (wordAt bytes 6 2)
      (wordAt bytes 8 48) (wordAt bytes 56 4) := by
  simp only [packetOf, packetOfWords, wordAt, ofLe_span]

/-- The word at bytes 4 to 5. -/
def packetClient (pk : Packet) : Nat := pk.client.toNat + field pk.reserved.toNat 7 2 * 2 ^ 10

/-- The word at bytes 6 to 7. -/
def packetQueue (pk : Packet) : Nat := pk.queue.toNat + field pk.reserved.toNat 11 8 * 2 ^ 12

/-- The word at bytes 56 to 59. -/
def packetTail (pk : Packet) : Nat := field pk.reserved.toNat 43 12

theorem packetBody_eq_words (op : BitVec 12) (pk : Packet) :
    packetBody op pk = leBytes 2 (packetHead op pk) ++ leBytes 2 (packetTag pk) ++ leBytes 2 (packetClient pk)
      ++ leBytes 2 (packetQueue pk) ++ leBytes 48 pk.params.toNat ++ leBytes 4 (packetTail pk) := rfl

theorem bit_beq_one {n : Nat} (h : n < 2) : bit (n == 1) = n := by
  obtain rfl | rfl : n = 0 ∨ n = 1 := by omega
  all_goals rfl

theorem bit_lt (b : Bool) : bit b < 2 := by cases b <;> decide

theorem bit_eq_one_iff (b : Bool) : (bit b == 1) = b := by cases b <;> rfl

/-- The words of a packet give it back. -/
theorem packetOfWords_of_packet (op : BitVec 12) (pk : Packet) :
    packetOfWords (packetHead op pk) (packetTag pk) (packetClient pk) (packetQueue pk) pk.params.toNat (packetTail pk) =
      (op, pk) := by
  obtain ⟨rev, irq, suppressOk, fence, tag, client, queue, reserved, params⟩ := pk
  have := op.isLt
  have := rev.isLt
  have := tag.isLt
  have := client.isLt
  have := queue.isLt
  have := reserved.isLt
  have := bit_lt irq
  have := bit_lt suppressOk
  have := bit_lt fence
  simp only [packetOfWords, packetHead, packetTag, packetClient, packetQueue, packetTail, field, Prod.mk.injEq, Packet.mk.injEq]
  refine ⟨?_, ?_, ?irq, ?suppressOk, ?fence, ?_, ?_, ?_, ?_, BitVec.ofNat_toNat _ _⟩
  case irq => exact (congrArg (· == 1) (by omega)).trans (bit_eq_one_iff irq)
  case suppressOk => exact (congrArg (· == 1) (by omega)).trans (bit_eq_one_iff suppressOk)
  case fence => exact (congrArg (· == 1) (by omega)).trans (bit_eq_one_iff fence)
  all_goals
    refine BitVec.eq_of_toNat_eq ?_
    rw [BitVec.toNat_ofNat]
    omega

/-- A packet of words of their sizes has these words. -/
theorem words_of_packetOfWords {head tag client queue params tail : Nat} (hHead : head < 2 ^ 16) (hTag : tag < 2 ^ 16)
    (hClient : client < 2 ^ 16) (hQueue : queue < 2 ^ 16) (hParams : params < 2 ^ 384) (hTail : tail < 2 ^ 32)
    {e : BitVec 12 × Packet} (he : packetOfWords head tag client queue params tail = e) :
    packetHead e.1 e.2 = head ∧ packetTag e.2 = tag ∧ packetClient e.2 = client ∧ packetQueue e.2 = queue ∧
      e.2.params.toNat = params ∧ packetTail e.2 = tail := by
  subst he
  have irq := bit_beq_one (n := field tag 13 13) (Nat.mod_lt _ (by decide))
  have suppressOk := bit_beq_one (n := field tag 12 12) (Nat.mod_lt _ (by decide))
  have fence := bit_beq_one (n := field tag 11 11) (Nat.mod_lt _ (by decide))
  simp only [packetOfWords, packetHead, packetTag, packetClient, packetQueue, packetTail, irq, suppressOk, fence]
  simp only [field, BitVec.toNat_ofNat]
  refine ⟨?_, ?_, ?_, ?_, Nat.mod_eq_of_lt hParams, ?_⟩ <;> clear hParams <;> omega

/-! ## Round trips -/

theorem packetBody_length (op : BitVec 12) (pk : Packet) : (packetBody op pk).length = 60 := by
  simp [packetBody_eq_words]

theorem packetBytes_length (op : BitVec 12) (pk : Packet) : (packetBytes op pk).length = 64 := by
  simp [packetBytes, packetBody_length]

theorem packetBytes_crcOk (op : BitVec 12) (pk : Packet) : packetCrcOk (packetBytes op pk) = true := by
  simp [packetCrcOk, packetBytes, packetBody_length]

/-- The words of the layout are small enough for their bytes. -/
theorem packet_words_fit (op : BitVec 12) (pk : Packet) :
    packetHead op pk < 256 ^ 2 ∧ packetTag pk < 256 ^ 2 ∧ packetClient pk < 256 ^ 2 ∧ packetQueue pk < 256 ^ 2 ∧
      packetTail pk < 256 ^ 4 := by
  have := op.isLt
  have := pk.rev.isLt
  have := pk.tag.isLt
  have := pk.client.isLt
  have := pk.queue.isLt
  have := bit_lt pk.irq
  have := bit_lt pk.suppressOk
  have := bit_lt pk.fence
  simp only [packetHead, packetTag, packetClient, packetQueue, packetTail, field]
  refine ⟨?_, ?_, ?_, ?_, ?_⟩ <;> omega

/-- Reading the six words of a packet's bytes. -/
theorem packetOf_packetBytes (op : BitVec 12) (pk : Packet) : packetOf (packetBytes op pk) = (op, pk) := by
  obtain ⟨head, tag, client, queue, tail⟩ := packet_words_fit op pk
  have words : packetOf (packetBytes op pk) = packetOfWords (packetHead op pk) (packetTag pk) (packetClient pk)
      (packetQueue pk) pk.params.toNat (packetTail pk) := by
    rw [packetOf_eq_words]
    simp only [wordAt, packetBytes, packetBody_eq_words, List.append_assoc]
    simp [List.drop_append, List.drop_of_length_le]
    rw [ofLe_leBytes_of_lt head, ofLe_leBytes_of_lt tag, ofLe_leBytes_of_lt client, ofLe_leBytes_of_lt queue,
      ofLe_leBytes_toNat 48 pk.params rfl, ofLe_leBytes_of_lt tail]
  rw [words, packetOfWords_of_packet]

theorem entryOf_packetBytes (op : BitVec 12) (pk : Packet) : entryOf (packetBytes op pk) = .packet op pk := by
  simp only [entryOf, packetBytes_crcOk, packetOf_packetBytes, if_true]

theorem wordAt_lt (bytes : List Byte) (k n : Nat) : wordAt bytes k n < 256 ^ n :=
  (ofLe_lt _).trans_le (Nat.pow_le_pow_right (by decide) (List.length_take_le _ _))

theorem leBytes_wordAt {bytes : List Byte} {k n : Nat} (h : k + n ≤ bytes.length) :
    leBytes n (wordAt bytes k n) = (bytes.drop k).take n := by
  have len : ((bytes.drop k).take n).length = n := by simp; omega
  have spelled := leBytes_ofLe ((bytes.drop k).take n)
  rwa [len] at spelled

/-- The body of the packet that 64 bytes spell is their first 60. -/
theorem packetBody_packetOf {bytes : List Byte} (h : bytes.length = 64) :
    packetBody (packetOf bytes).1 (packetOf bytes).2 = bytes.take 60 := by
  obtain ⟨head, tag, client, queue, params, tail⟩ := words_of_packetOfWords (wordAt_lt bytes 0 2) (wordAt_lt bytes 2 2)
    (wordAt_lt bytes 4 2) (wordAt_lt bytes 6 2) (wordAt_lt bytes 8 48) (wordAt_lt bytes 56 4) (packetOf_eq_words bytes).symm
  rw [packetBody_eq_words, head, tag, client, queue, params, tail]
  repeat rw [leBytes_wordAt (by omega)]
  have join (k n m : Nat) (hk : k + n = m) : bytes.take k ++ (bytes.drop k).take n = bytes.take m := by
    rw [← hk, List.take_add]
  rw [List.drop_zero, join 2 2 4 rfl, join 4 2 6 rfl, join 6 2 8 rfl, join 8 48 56 rfl, join 56 4 60 rfl]

/-- Settles O3: 64 bytes, the CRC over the first 60, and the six words read back. -/
theorem packetRoundTrip : Obligations.PacketRoundTrip := by
  unfold Obligations.PacketRoundTrip
  exact fun op pk => ⟨packetBytes_length op pk, entryOf_packetBytes op pk⟩

/-- Settles O4: equal bytes read back as one packet, and every byte stands in one of the six words or in the CRC. -/
theorem packetBytesExact : Obligations.PacketBytesExact := by
  unfold Obligations.PacketBytesExact
  refine ⟨fun op op' pk pk' same => ?_, fun bytes length crcOk => ?_⟩
  · have read := congrArg packetOf same
    rw [packetOf_packetBytes, packetOf_packetBytes] at read
    exact Prod.mk.inj read
  · rw [packetBytes, packetBody_packetOf length, eq_of_beq crcOk, List.take_append_drop]

end Sys2Proof.Machine
end

section
/-!
A packet is taken up, judged and refused (R34, R38, R40, R41): what taking an entry up comes to where nothing stands
before it, what it leaves unchanged in every case, and what each failing check of R38 gives. Settles O5, O6 and O9.
-/

namespace Sys2Proof.Machine

/-! ## Fetching one entry -/

/-- The state with another list of fetched entries. -/
def State.withFetched (s : State) (l : List Fetched) : State := { s with hub := { s.hub with fetched := l } }

/-- The state after the first entry of pair `q` has been fetched, `p` the pair before (R32, R34). -/
def State.fetchedFrom (s : State) (q : Nat) (p : Pair) (rest : List (Nat × Entry)) : State :=
  (s.modPair q (fun x => { x with waiting := rest, sqHead := (p.sqHead + 1) % p.desc.size })).writeMem
    p.desc.space p.desc.stateAddr.toNat (leBytes 8 ((p.sqHead + 1) % p.desc.size))

/-- An entry as its fetch records it (R41, R59). -/
def fetchedEntry (s : State) (q i : Nat) (e : Entry) : Fetched :=
  { q := q, index := i, entry := e, dup := tagTaken s q e, cred := credOf s e }

theorem State.withFetched_writeMem (s : State) (l : List Fetched) (sp : Space) (a : Nat) (b : List Byte) :
    (s.withFetched l).writeMem sp a b = (s.writeMem sp a b).withFetched l := by
  unfold State.writeMem
  split
  · rfl
  · split <;> rfl

theorem Ring.fetchOne_of_waiting {q i : Nat} {s : State} {p : Pair} {e : Entry} {rest : List (Nat × Entry)}
    (hp : s.pair q = some p) (waits : p.waiting = (i, e) :: rest) :
    Ring.fetchOne q s = (s.fetchedFrom q p rest).withFetched (s.hub.fetched ++ [fetchedEntry s q i e]) := by
  rw [State.fetchedFrom, ← State.withFetched_writeMem]
  simp only [Ring.fetchOne, hp, waits]
  rfl

@[simp] theorem State.fetchedFrom_hub (s : State) (q : Nat) (p : Pair) (rest : List (Nat × Entry)) :
    (s.fetchedFrom q p rest).hub.fetched = s.hub.fetched := by simp [State.fetchedFrom, State.modPair]

/-- Placing an entry changes no pair's context. -/
theorem pairCtx_place (q q' : Nat) (e : Entry) (s : State) : pairCtx (Ring.place q e s) q' = pairCtx s q' := by
  by_cases same : q' = q
  · subst same
    simp only [pairCtx, Ring.place, State.modPair_pair, Option.map_map]
    rfl
  · simp only [pairCtx, Ring.place, State.pair, State.modPair, aget_amod_other _ _ _ _ same]

theorem ctxCount_place (q c : Nat) (e : Entry) (s : State) : ctxCount (Ring.place q e s) c = ctxCount s c := by
  simp only [ctxCount, pairCtx_place]
  rfl

/-- Pair `p` with entry `e` placed (log 7). -/
def Pair.offered (p : Pair) (e : Entry) : Pair :=
  { p with waiting := [(p.sqTail, e)], sqTail := (p.sqTail + 1) % p.desc.size }

/-- Pair `p`, as the fetch of an entry of its own row leaves it (R31, R32). -/
def Pair.served (p : Pair) : Pair :=
  { p with waiting := [], sqHead := (p.sqHead + 1) % p.desc.size, sqTail := (p.sqTail + 1) % p.desc.size }

/-- The conditions of R34, R40, R333 and R375 under which an entry that is placed on pair `q` is fetched at once. -/
structure MayFetch (s : State) (q : Nat) (p : Pair) (e : Entry) : Prop where
  live : s.live = true
  armed : s.hub.setup = .armed
  pair : s.pair q = some p
  noneWait : p.waiting = []
  standing : p.deleting = false
  noneHeld : p.held = []
  noneFetched : ∀ f ∈ s.hub.fetched, f.q ≠ q
  room : inFlightCount s < 2048
  ctxRoom : ctxCount s p.ctx < 256
  glow : glowOk s e = true

theorem MayFetch.none_next {s : State} {q : Nat} {p : Pair} {e : Entry} (h : MayFetch s q p e) : nextFetched s q = none := by
  simpa [nextFetched] using h.noneFetched

theorem MayFetch.placed {s : State} {q : Nat} {p : Pair} {e : Entry} (h : MayFetch s q p e) :
    (Ring.place q e s).pair q = some (p.offered e) := by
  simp [Ring.place, State.modPair_pair, h.pair, Pair.offered]

theorem MayFetch.ready {s : State} {q : Nat} {p : Pair} {e : Entry} (h : MayFetch s q p e) :
    Ring.ready (Ring.place q e s) (p.offered e) = true := by
  have count : inFlightCount (Ring.place q e s) < 2048 := h.room
  have live : (Ring.place q e s).live = true := h.live
  have armed : (Ring.place q e s).hub.setup = .armed := h.armed
  have glow : glowOk (Ring.place q e s) e = true := h.glow
  simp [Ring.ready, Pair.offered, h.standing, h.noneHeld, count, ctxCount_place, h.ctxRoom, live, armed, glow]

/-- The state after an entry of pair `q` has been placed and fetched, its record dropped again. -/
def State.servedOn (s : State) (q : Nat) (p : Pair) (e : Entry) : State := (Ring.place q e s).fetchedFrom q p []

theorem Ring.offer_of_mayFetch {s : State} {q : Nat} {p : Pair} {e : Entry} (h : MayFetch s q p e) :
    Ring.offer q e s = (s.servedOn q p e).withFetched (s.hub.fetched ++ [fetchedEntry s q p.sqTail e]) := by
  have offered : Ring.offer q e s = Ring.fetchOne q (Ring.place q e s) := by
    simp only [Ring.offer, h.pair, h.noneWait, h.standing, h.none_next, h.placed, h.ready, List.isEmpty_nil, Bool.not_false,
      Option.isNone_none, Bool.and_self, if_true]
  rw [offered, Ring.fetchOne_of_waiting h.placed rfl]
  rfl

theorem dropFetched_append_self {q : Nat} {l : List Fetched} (noneOf : ∀ f ∈ l, f.q ≠ q) {f : Fetched} (hf : f.q = q) :
    dropFetched q (l ++ [f]) = l := by
  induction l with
  | nil => simp [dropFetched, hf]
  | cons g r ih =>
    simp only [List.mem_cons, forall_eq_or_imp] at noneOf
    simp [dropFetched, noneOf.1, ih noneOf.2]

theorem State.fetchedFrom_hubOnly (s : State) (q : Nat) (p : Pair) (rest : List (Nat × Entry)) :
    HubOnly s (s.fetchedFrom q p rest) := HubOnly.after (State.writeMem_hubOnly _ _ _ _) rfl

theorem State.servedOn_hubOnly (s : State) (q : Nat) (p : Pair) (e : Entry) : HubOnly s (s.servedOn q p e) :=
  HubOnly.after (State.fetchedFrom_hubOnly _ _ _ _) rfl

/-- An entry that may be fetched is taken up: as a duplicate, held by its FENCE, or started under the credentials that
stand (R41, R59, Table 2.6). -/
theorem Cmd.take_of_mayFetch {s : State} {q : Nat} {p : Pair} {e : Entry} (h : MayFetch s q p e) :
    Cmd.take q e s =
      if tagTaken s q e = true then .dup (s.servedOn q p e)
      else if fenceHolds s q e = true then .stay (Ring.offer q e s)
      else .go p.sqTail none (s.servedOn q p e) := by
  have offered := Ring.offer_of_mayFetch h
  have only : HubOnly s (Ring.offer q e s) := Ring.offer_hubOnly q e s
  have next : nextFetched (Ring.offer q e s) q = some (fetchedEntry s q p.sqTail e) := by
    have none := h.none_next
    simp only [nextFetched] at none
    simp [nextFetched, offered, State.withFetched, none, fetchedEntry]
  have glow : glowOk (Ring.offer q e s) e = true :=
    (only.keeps (fun u => glowOk u e) (fun _ _ _ _ _ => rfl)).trans h.glow
  have cred : credOf (Ring.offer q e s) e = credOf s e := only.keeps (fun u => credOf u e) (fun _ _ _ _ _ => rfl)
  have fence : fenceHolds (Ring.offer q e s) q e = fenceHolds s q e := by
    rw [offered]
    cases e with
    | packet op pk => simp [fenceHolds, State.withFetched, State.servedOn, State.fetchedFrom, State.modPair, Ring.place]
    | bad _ => rfl
  have dropped : { Ring.offer q e s with
      hub := { (Ring.offer q e s).hub with fetched := dropFetched q (Ring.offer q e s).hub.fetched } } = s.servedOn q p e := by
    have drop := dropFetched_append_self h.noneFetched (f := fetchedEntry s q p.sqTail e) rfl
    have kept : s.hub.fetched = (s.servedOn q p e).hub.fetched := by simp [State.servedOn, Ring.place, State.modPair]
    rw [offered]
    simp only [State.withFetched, drop]
    rw [kept]
  unfold Cmd.take
  simp only [h.live, h.armed, next, glow, cred, fence, dropped]
  simp [fetchedEntry]

/-! ## A packet that starts -/

theorem tagTaken_eq_false {s : State} {q : Nat} {op : BitVec 12} {pk : Packet} (noneFetched : ∀ f ∈ s.hub.fetched, f.q ≠ q)
    (free : ∀ c ∈ s.hub.inflight, c.key.q = q → c.key.tag ≠ pk.tag.toNat) : tagTaken s q (.packet op pk) = false := by
  simp only [tagTaken, Bool.or_eq_false_iff, List.any_eq_false, Bool.and_eq_true, beq_iff_eq, not_and]
  exact ⟨free, fun f hf same => absurd same.1 (noneFetched f hf)⟩

theorem fenceHolds_eq_false {s : State} {q : Nat} {op : BitVec 12} {pk : Packet}
    (open' : pk.fence = true → ∀ c ∈ s.hub.inflight, c.key.q ≠ q) : fenceHolds s q (.packet op pk) = false := by
  simp only [fenceHolds, Bool.and_eq_false_imp, List.any_eq_false, beq_iff_eq]
  exact open'

theorem State.servedOn_pair {s : State} {q : Nat} {p : Pair} {e : Entry} (hp : s.pair q = some p) :
    (s.servedOn q p e).pair q = some p.served := by
  simp [State.servedOn, State.fetchedFrom, Ring.place, State.modPair_pair, hp, Pair.served]

/-- Rights are judged by the clients and by the pair's context alone. -/
theorem hasRight_congr {s u : State} {q : Nat} (cl : u.cl = s.cl) (ctx : pairCtx u q = pairCtx s q) (op : Nat) (owner : Bool)
    (pk : Packet) (ss : Session) : hasRight op owner q pk ss u = hasRight op owner q pk ss s := by
  simp only [hasRight, ctx, zeroSecret, groupMask, cl]

/-- What the judgement of a packet reads is left as it is by its taking up. -/
theorem State.servedOn_enter {s : State} {q : Nat} {p : Pair} (hp : s.pair q = some p) (op : BitVec 12) (pk : Packet)
    {u : State} (hu : Cmd.enter op q pk (s.servedOn q p (.packet op pk)) = u) :
    u.cl = s.cl ∧ pairCtx u q = pairCtx s q ∧ u.pair q = some p.served := by
  subst hu
  have served := State.servedOn_pair (e := .packet op pk) hp
  refine ⟨(State.servedOn_hubOnly s q p _).keeps (·.cl) (fun _ _ _ _ _ => rfl), ?_, served⟩
  change ((State.pair (s.servedOn q p _) q).map (·.ctx)).getD 0 = ((s.pair q).map (·.ctx)).getD 0
  rw [served, hp]
  rfl

/-- R38 step 3 and 5 as R53 replaces them: SESSION_OPEN and SESSION_PROVE pass on queue 0 under CLIENT 0. -/
theorem Cmd.judge_entry_none {sp : OpSpec} {pk : Packet} {s : State} (entry : entryOp sp.op = true)
    (reserved : pk.reserved = 0) (params : sp.reservedSet pk = false) (ctx : pk.ctx = 0) (queue : pk.queue = 0)
    (rev : sp.op = 0x100 → pk.rev ≠ 0) : Cmd.judge sp.op (some sp) 0 pk s = none := by
  simpa [Cmd.judge, reserved, params, entry, ctx, queue] using rev

/-- R38 steps 2 to 5 pass a packet of its session's revision, served in it, with the right to be sent here. -/
theorem Cmd.judge_session_none {sp : OpSpec} {q : Nat} {pk : Packet} {s : State} {ss : Session}
    (entry : entryOp sp.op = false) (reserved : pk.reserved = 0) (params : sp.reservedSet pk = false)
    (session : aget s.cl.sessions pk.ctx = some ss) (rev : pk.rev.toNat = ss.rev) (offers : ss.rev = 1 → sp.rev1 = true)
    (right : hasRight sp.op sp.owner q pk ss s = true) : Cmd.judge sp.op (some sp) q pk s = none := by
  have isServed : served (some sp) (some ss) = true := by
    by_cases one : ss.rev = 1
    · simp [served, offers one]
    · simp [served, one]
  simp [Cmd.judge, reserved, params, entry, session, rev, isServed, right]

/-- No command in flight bears the key of one whose TAG is free. -/
theorem find_nextKey_eq_none {s : State} {q : Nat} {pk : Packet}
    (free : ∀ c ∈ s.hub.inflight, c.key.q = q → c.key.tag ≠ pk.tag.toNat) :
    s.hub.inflight.find? (fun c => c.key == nextKey q pk s) = none := by
  rw [List.find?_eq_none]
  rintro c hc same
  rw [beq_iff_eq] at same
  exact free c hc (by rw [same, nextKey]) (by rw [same, nextKey])

theorem State.servedOn_flight (s : State) (q : Nat) (p : Pair) (e : Entry) :
    (s.servedOn q p e).hub.inflight = s.hub.inflight ∧ (s.servedOn q p e).hub.started = s.hub.started := by
  simp [State.servedOn, State.fetchedFrom, Ring.place, State.modPair]

/-- Settles O5: the entry is fetched and taken up at once, its TAG free and its FENCE open, and each step of R38 passes it. -/
theorem packetStarts : Obligations.PacketStarts := by
  unfold Obligations.PacketStarts
  intro sp q pk s p opLt live armed hp noneWait standing noneHeld noneFetched room ctxRoom tagFree fenceOpen glow reserved params
    judged
  have may : MayFetch s q p (.packet (BitVec.ofNat 12 sp.op) pk) :=
    ⟨live, armed, hp, noneWait, standing, noneHeld, noneFetched, room, ctxRoom, glow⟩
  have take : Cmd.take q (.packet (BitVec.ofNat 12 sp.op) pk) s =
      .go p.sqTail none (s.servedOn q p (.packet (BitVec.ofNat 12 sp.op) pk)) := by
    rw [Cmd.take_of_mayFetch may, tagTaken_eq_false noneFetched tagFree, fenceHolds_eq_false fenceOpen]
    rfl
  have opNat : (BitVec.ofNat 12 sp.op).toNat = sp.op := Nat.mod_eq_of_lt opLt
  obtain ⟨cl, ctx, pair⟩ := State.servedOn_enter hp (BitVec.ofNat 12 sp.op) pk rfl
  have begun : Cmd.begun sp q pk s = Cmd.enter (BitVec.ofNat 12 sp.op) q pk (s.servedOn q p (.packet (BitVec.ofNat 12 sp.op) pk)) := by
    simp only [Cmd.begun, take, State.underCred]
  refine ⟨?passes, ?pair, ?found⟩
  case passes =>
    simp only [Cmd.passes, take, State.underCred, opNat, Option.isNone_iff_eq_none]
    rcases judged with ⟨entry, rfl, ctx0, queue0, rev⟩ | ⟨entry, ss, session, rev, offers, right⟩
    · exact Cmd.judge_entry_none entry reserved params ctx0 queue0 rev
    · exact Cmd.judge_session_none entry reserved params (by rw [cl]; exact session) rev offers
        (by rw [hasRight_congr cl ctx]; exact right)
  case pair =>
    rw [begun, pair, Pair.served, ← noneWait]
  case found =>
    obtain ⟨flight, started⟩ := State.servedOn_flight s q p (.packet (BitVec.ofNat 12 sp.op) pk)
    have key : nextKey q pk (s.servedOn q p (.packet (BitVec.ofNat 12 sp.op) pk)) = nextKey q pk s := by
      simp only [nextKey, started]
    have none := find_nextKey_eq_none tagFree
    have own : pairCtx (s.servedOn q p (.packet (BitVec.ofNat 12 sp.op) pk)) q = p.ctx := by
      simp [pairCtx, State.servedOn_pair hp, Pair.served]
    rw [begun, Cmd.find, Cmd.enter]
    simp [flight, key, none, own, packetHead, opNat]

/-! ## What taking a packet up leaves unchanged -/

/-- `t` is `s` but for pair `q`, the lists of commands, the credentials and the eight bytes of the state word of `p`. -/
structure TakenUp (q : Nat) (p : Pair) (s t : State) : Prop where
  frame : { t with
    cl := { t.cl with creds := s.cl.creds }
    hub := { t.hub with
      pairs := s.hub.pairs, inflight := s.hub.inflight, fetched := s.hub.fetched, started := s.hub.started }
    hostMem := s.hostMem, ringMem := s.ringMem } = s
  pairs : ∀ q' : Nat, q' ≠ q → t.pair q' = s.pair q'
  bytes : ∀ (sp : Space) (a : Nat), ¬ (sp = p.desc.space ∧ p.desc.stateAddr.toNat ≤ a ∧ a < p.desc.stateAddr.toNat + 8) →
    t.readMem sp a 1 = s.readMem sp a 1

theorem TakenUp.refl (q : Nat) (p : Pair) (s : State) : TakenUp q p s s := ⟨rfl, fun _ _ => rfl, fun _ _ _ => rfl⟩

theorem TakenUp.place (q : Nat) (p : Pair) (e : Entry) (s : State) : TakenUp q p s (Ring.place q e s) :=
  ⟨rfl, fun _ h => State.modPair_pair_other s _ _ _ h, fun _ _ _ => rfl⟩

theorem TakenUp.servedOn (q : Nat) (p : Pair) (e : Entry) (s : State) : TakenUp q p s (s.servedOn q p e) := by
  refine ⟨?_, fun q' h => ?_, fun sp a away => ?_⟩
  · simp only [State.servedOn, State.fetchedFrom, State.writeMem]
    split
    · rfl
    · split <;> rfl
  · rw [State.servedOn, State.fetchedFrom, State.writeMem_pair, State.modPair_pair_other _ _ _ _ h, Ring.place,
      State.modPair_pair_other _ _ _ _ h]
  · rw [State.servedOn, State.fetchedFrom, State.readMem_writeMem_other _ _ _ _ _ _ (by simpa using away)]
    rfl

theorem TakenUp.withFetched {q : Nat} {p : Pair} {s t : State} (h : TakenUp q p s t) (l : List Fetched) :
    TakenUp q p s (t.withFetched l) := ⟨h.frame, h.pairs, h.bytes⟩

/-- Offering an entry leaves it unplaced, placed, or placed and fetched. -/
theorem TakenUp.offer {q : Nat} {p : Pair} {s : State} (e : Entry) (hp : s.pair q = some p) :
    TakenUp q p s (Ring.offer q e s) := by
  have placed : (Ring.place q e s).pair q = some (p.offered e) := by
    simp [Ring.place, State.modPair_pair, hp, Pair.offered]
  simp only [Ring.offer, hp, placed]
  split
  · split
    · rw [Ring.fetchOne_of_waiting placed rfl]
      exact (TakenUp.servedOn q p e s).withFetched _
    · exact TakenUp.place q p e s
  · exact TakenUp.refl q p s

/-- An entry that starts leaves its pair's row alone beyond the offer. -/
theorem TakenUp.take_go {q i : Nat} {p : Pair} {s t : State} {e : Entry} {old : Option (Nat × Option Cred)}
    (hp : s.pair q = some p) (take : Cmd.take q e s = .go i old t) : TakenUp q p s t := by
  have offer := TakenUp.offer e hp
  unfold Cmd.take at take
  split at take
  · cases take
  · dsimp only at take
    split at take
    · split at take
      · cases take
      · split at take
        · cases take
        · split at take
          · cases take
          · cases take
            exact offer.withFetched _
    · cases take

theorem TakenUp.enter {q : Nat} {p : Pair} {s t : State} (h : TakenUp q p s t) (op : BitVec 12) (q' : Nat) (pk : Packet) :
    TakenUp q p s (Cmd.enter op q' pk t) := ⟨h.frame, h.pairs, h.bytes⟩

theorem TakenUp.underCred {q : Nat} {p : Pair} {s t : State} (h : TakenUp q p s t) (old : Option (Nat × Option Cred)) :
    TakenUp q p s (t.underCred old) := by
  match old with
  | none => exact h
  | some (_, some _) => exact ⟨h.frame, h.pairs, h.bytes⟩
  | some (_, none) => exact ⟨h.frame, h.pairs, h.bytes⟩

theorem TakenUp.begun {q : Nat} {p : Pair} {s : State} (sp : OpSpec) (pk : Packet) (hp : s.pair q = some p) :
    TakenUp q p s (Cmd.begun sp q pk s) := by
  unfold Cmd.begun
  dsimp only
  split
  · next take => exact ((TakenUp.take_go hp take).enter _ _ _).underCred _
  · exact TakenUp.refl q p s

/-- Settles O6: an offer, the entry into flight and the credential of the fetch, one after the other. -/
theorem packetStartFrame : Obligations.PacketStartFrame := by
  unfold Obligations.PacketStartFrame
  rintro sp q pk s p hp _ rfl
  obtain ⟨frame, pairs, bytes⟩ := TakenUp.begun sp pk hp
  exact ⟨frame, pairs, bytes⟩

/-! ## A packet that R38 or R41 refuses -/

/-- A row's command runs its opcode's own part behind R38, and its opcode fits its field. -/
structure RunsBehind (e : OpSpec × (Nat → Packet → Instr)) : Prop where
  op_lt : e.1.op < 4096
  runs : ∃ body, ∀ (q : Nat) (pk : Packet) (s : State), exec (e.2 q pk) s = .next (Cmd.run e.1 body q pk s)

theorem RunsBehind.of_mem {l : List (OpSpec × (Nat → Packet → Instr))} (all : List.Forall RunsBehind l)
    {e : OpSpec × (Nat → Packet → Instr)} (h : e ∈ l) : RunsBehind e := List.forall_iff_forall_mem.mp all e h

theorem runsBehind_of_row1 {sp : OpSpec} {cmd : Nat → Packet → Instr} (h : PacketRow1 sp cmd) : RunsBehind (sp, cmd) := by
  refine RunsBehind.of_mem ?_ h
  repeat' apply And.intro
  all_goals exact ⟨by decide, _, fun _ _ _ => rfl⟩

theorem runsBehind_of_row2 {sp : OpSpec} {cmd : Nat → Packet → Instr} (h : PacketRow2 sp cmd) : RunsBehind (sp, cmd) := by
  refine RunsBehind.of_mem ?_ h
  repeat' apply And.intro
  all_goals exact ⟨by decide, _, fun _ _ _ => rfl⟩

theorem runsBehind_of_row3 {sp : OpSpec} {cmd : Nat → Packet → Instr} (h : PacketRow3 sp cmd) : RunsBehind (sp, cmd) := by
  refine RunsBehind.of_mem ?_ h
  repeat' apply And.intro
  all_goals exact ⟨by decide, _, fun _ _ _ => rfl⟩

theorem runsBehind_of_row4 {sp : OpSpec} {cmd : Nat → Packet → Instr} (h : PacketRow4 sp cmd) : RunsBehind (sp, cmd) := by
  refine RunsBehind.of_mem ?_ h
  repeat' apply And.intro
  all_goals exact ⟨by decide, _, fun _ _ _ => rfl⟩

theorem runsBehind_of_row5 {sp : OpSpec} {cmd : Nat → Packet → Instr} (h : PacketRow5 sp cmd) : RunsBehind (sp, cmd) := by
  refine RunsBehind.of_mem ?_ h
  repeat' apply And.intro
  all_goals exact ⟨by decide, _, fun _ _ _ => rfl⟩

/-- Every row of packets runs so. -/
theorem PacketRow.runsBehind {sp : OpSpec} {cmd : Nat → Packet → Instr} (h : PacketRow sp cmd) : RunsBehind (sp, cmd) := by
  rcases h with h | h | h | h | h | ⟨m, rfl, rfl⟩
  · exact runsBehind_of_row1 h
  · exact runsBehind_of_row2 h
  · exact runsBehind_of_row3 h
  · exact runsBehind_of_row4 h
  · exact runsBehind_of_row5 h
  · exact ⟨show specCalCommit.op < 4096 by decide, _, fun _ _ _ => rfl⟩

/-- A packet taken up that R38 refuses gets the refusal as its final reply, and its opcode's own part does not run (R44). -/
theorem Cmd.run_of_refused {sp : OpSpec} {body : Packet → Key → State → Verdict} {q i : Nat} {pk : Packet} {s t : State}
    {old : Option (Nat × Option Cred)} {st : Byte} {reason : Nat} (opLt : sp.op < 4096)
    (take : Cmd.take q (.packet (BitVec.ofNat 12 sp.op) pk) s = .go i old t)
    (judged : Cmd.judge sp.op (some sp) q pk ((Cmd.enter (BitVec.ofNat 12 sp.op) q pk t).underCred old) = some (st, reason)) :
    Cmd.run sp body q pk s =
      Cmd.final (nextKey q pk s) st (result [(5, 1, reason)]) (Cmd.enter (BitVec.ofNat 12 sp.op) q pk t) := by
  have opNat : (BitVec.ofNat 12 sp.op).toNat = sp.op := Nat.mod_eq_of_lt opLt
  simp only [Cmd.run, Cmd.runWith, take, opNat, judged, Cmd.take_go_nextKey take]

/-- A refusal without a reason has an empty RESULT. -/
theorem result_noReason : result [(5, 1, 0)] = 0 := by decide

/-- A duplicate gets BAD_PARAM without a reason, and its opcode's own part does not run (R41). -/
theorem Cmd.run_of_dup {sp : OpSpec} {body : Packet → Key → State → Verdict} {q : Nat} {pk : Packet} {s t v : State}
    (opLt : sp.op < 4096) (take : Cmd.take q (.packet (BitVec.ofNat 12 sp.op) pk) s = .dup t)
    (replied : v = Ring.reply q {
      tag := pk.tag, status := St.badParam, echo := BitVec.ofNat 16 (sp.op + pk.rev.toNat * 4096), result := 0, irq := pk.irq
      frees := none } t) : Cmd.run sp body q pk s = Ev.settle v.ev.waits.length v := by
  have opNat : (BitVec.ofNat 12 sp.op).toNat = sp.op := Nat.mod_eq_of_lt opLt
  subst replied
  simp only [Cmd.run, Cmd.runWith, take, untagged, packetHead, opNat]
  rfl

/-- The sessions that judge a packet are those that stood before it was taken up. -/
theorem sessions_of_take_go {q i : Nat} {e : Entry} {s t : State} {old : Option (Nat × Option Cred)}
    (take : Cmd.take q e s = .go i old t) (op : BitVec 12) (pk : Packet) :
    ((Cmd.enter op q pk t).underCred old).cl.sessions = s.cl.sessions := by
  have taken := (Cmd.take_hubOnly q e s).1.keeps (fun u => u.cl.sessions) (fun _ _ _ _ _ => rfl)
  rw [take] at taken
  match old with
  | none => exact taken
  | some (_, some _) => exact taken
  | some (_, none) => exact taken

/-! ### The checks of R38, one by one -/

section
variable {sp : OpSpec} {q : Nat} {pk : Packet} {s : State}

theorem Cmd.judge_of_reserved (reserved : pk.reserved ≠ 0) : Cmd.judge sp.op (some sp) q pk s = some (St.badParam, sp.rsv) := by
  have set : (pk.reserved != 0) = true := by simpa using reserved
  simp only [Cmd.judge, set, if_true, Option.map_some, Option.getD_some]

theorem Cmd.judge_of_reservedSet (params : sp.reservedSet pk = true)
    (isServed : Machine.served (some sp) (aget s.cl.sessions pk.ctx) = true) :
    Cmd.judge sp.op (some sp) q pk s = some (St.badParam, sp.rsv) := by
  simp [Cmd.judge, params, isServed]

theorem Cmd.judge_of_openRev0 (reserved : pk.reserved = 0) (params : sp.reservedSet pk = false) (op : sp.op = 0x100)
    (rev : pk.rev = 0) : Cmd.judge sp.op (some sp) q pk s = some (St.versionMismatch, 0) := by
  simp [Cmd.judge, reserved, params, op, rev, entryOp]

theorem Cmd.judge_of_entryElsewhere (entry : entryOp sp.op = true) (reserved : pk.reserved = 0)
    (params : sp.reservedSet pk = false) (rev : sp.op ≠ 0x100 ∨ pk.rev ≠ 0) (elsewhere : q ≠ 0 ∨ pk.ctx ≠ 0 ∨ pk.queue ≠ 0) :
    Cmd.judge sp.op (some sp) q pk s = some (St.noRight, 0) := by
  have notOpen : (decide (sp.op = 0x100) && pk.rev == 0) = false := by
    rcases rev with op | rev
    · simp [op]
    · simpa using fun _ => rev
  have notHere : (decide (q = 0) && pk.ctx == 0 && pk.queue.toNat == q) = false := by
    rcases elsewhere with away | ctx | queue
    · simp [away]
    · simp [ctx]
    · simp only [Bool.and_eq_false_imp, Bool.and_eq_true, decide_eq_true_eq, beq_eq_false_iff_ne]
      rintro ⟨rfl, -⟩ zero
      exact queue (BitVec.eq_of_toNat_eq zero)
  simp only [Cmd.judge, reserved, params, entry, bne_self_eq_false, Bool.false_eq_true, if_false, Option.map_some,
    Option.getD_some, Bool.and_false, if_true, notOpen, notHere]

theorem Cmd.judge_of_noSession (entry : entryOp sp.op = false) (reserved : pk.reserved = 0)
    (session : aget s.cl.sessions pk.ctx = none) : Cmd.judge sp.op (some sp) q pk s = some (St.noRight, 0) := by
  simp [Cmd.judge, reserved, entry, session, served]

variable {ss : Session}

theorem Cmd.judge_of_unserved (entry : entryOp sp.op = false) (reserved : pk.reserved = 0)
    (session : aget s.cl.sessions pk.ctx = some ss) (one : ss.rev = 1) (later : sp.rev1 = false) (rev : pk.rev.toNat = 1) :
    Cmd.judge sp.op (some sp) q pk s = some (St.badOpcode, 0) := by
  simp [Cmd.judge, reserved, entry, session, served, one, later, rev]

theorem Cmd.judge_of_otherRev (entry : entryOp sp.op = false) (reserved : pk.reserved = 0) (params : sp.reservedSet pk = false)
    (session : aget s.cl.sessions pk.ctx = some ss) (rev : pk.rev.toNat ≠ ss.rev) :
    Cmd.judge sp.op (some sp) q pk s = some (St.versionMismatch, 0) := by
  simp [Cmd.judge, reserved, params, entry, session, rev]

theorem Cmd.judge_of_noRight (entry : entryOp sp.op = false) (reserved : pk.reserved = 0) (params : sp.reservedSet pk = false)
    (session : aget s.cl.sessions pk.ctx = some ss) (rev : pk.rev.toNat = ss.rev) (offers : ss.rev = 1 → sp.rev1 = true)
    (right : hasRight sp.op sp.owner q pk ss s = false) : Cmd.judge sp.op (some sp) q pk s = some (St.noRight, 0) := by
  have isServed : served (some sp) (some ss) = true := by
    by_cases one : ss.rev = 1
    · simp [served, offers one]
    · simp [served, one]
  simp [Cmd.judge, reserved, params, entry, session, rev, isServed, right]

end

/-- Settles O9: each failing check of R38 gives its reply as the row's own command, and a TAG in flight makes a duplicate. -/
theorem refusedPackets : Obligations.RefusedPackets := by
  unfold Obligations.RefusedPackets
  intro sp cmd row q pk s
  obtain ⟨opLt, body, runs⟩ := row.runsBehind
  refine ⟨?refused, ?duplicate, ?taken⟩
  case refused =>
    rintro t u i old take rfl
    have sessions := sessions_of_take_go take (BitVec.ofNat 12 sp.op) pk
    have refuse {st : Byte} {reason : Nat} (judged : Cmd.judge sp.op (some sp) q pk
        ((Cmd.enter (BitVec.ofNat 12 sp.op) q pk t).underCred old) = some (st, reason)) :
        exec (cmd q pk) s =
          .next (Cmd.final (nextKey q pk s) st (result [(5, 1, reason)]) (Cmd.enter (BitVec.ofNat 12 sp.op) q pk t)) :=
      (runs q pk s).trans (congrArg _ (Cmd.run_of_refused opLt take judged))
    have refuseBare {st : Byte} (judged : Cmd.judge sp.op (some sp) q pk
        ((Cmd.enter (BitVec.ofNat 12 sp.op) q pk t).underCred old) = some (st, 0)) :
        exec (cmd q pk) s = .next (Cmd.final (nextKey q pk s) st 0 (Cmd.enter (BitVec.ofNat 12 sp.op) q pk t)) := by
      rw [refuse judged, result_noReason]
    refine ⟨fun reserved => refuse (Cmd.judge_of_reserved reserved),
      fun params isServed => refuse (Cmd.judge_of_reservedSet params (by rw [sessions]; exact isServed)),
      fun entry reserved params => ⟨fun op rev => refuseBare (Cmd.judge_of_openRev0 reserved params op rev),
        fun rev elsewhere => refuseBare (Cmd.judge_of_entryElsewhere entry reserved params rev elsewhere)⟩,
      fun entry reserved => ⟨fun session => refuseBare (Cmd.judge_of_noSession entry reserved (by rw [sessions]; exact session)),
        fun ss session => ?_⟩⟩
    rw [← sessions] at session
    exact ⟨fun one later rev => refuseBare (Cmd.judge_of_unserved entry reserved session one later rev),
      fun params => ⟨fun rev => refuseBare (Cmd.judge_of_otherRev entry reserved params session rev),
        fun rev offers right => refuseBare (Cmd.judge_of_noRight entry reserved params session rev offers right)⟩⟩
  case duplicate =>
    intro t v take replied
    exact (runs q pk s).trans (congrArg _ (Cmd.run_of_dup opLt take replied))
  case taken =>
    rintro p live armed hp noneWait standing noneHeld noneFetched room ctxRoom glow ⟨c, hc, own, tag⟩
    have may : MayFetch s q p (.packet (BitVec.ofNat 12 sp.op) pk) :=
      ⟨live, armed, hp, noneWait, standing, noneHeld, noneFetched, room, ctxRoom, glow⟩
    have taken : tagTaken s q (.packet (BitVec.ofNat 12 sp.op) pk) = true := by
      simp only [tagTaken, Bool.or_eq_true, List.any_eq_true, Bool.and_eq_true, beq_iff_eq]
      exact .inl ⟨c, hc, own, tag⟩
    refine ⟨_, ?_, (State.servedOn_flight s q p (.packet (BitVec.ofNat 12 sp.op) pk)).1⟩
    rw [Cmd.take_of_mayFetch may, if_pos taken]

end Sys2Proof.Machine
end

section
/-!
A reply held for a full completion ring (Table 2.12), with the CQ_STALL that the first one raises. Settles O8.
-/

namespace Sys2Proof.Machine

/-! ## Raises while MSI-X is disabled stay in the event unit (R353) -/

/-- `t` is `s` but for the event unit. -/
structure EvOnly (s t : State) : Prop where
  eq : { t with ev := s.ev } = s

theorem EvOnly.refl (s : State) : EvOnly s s := ⟨rfl⟩

theorem EvOnly.trans {s t u : State} (h : EvOnly s t) (g : EvOnly t u) : EvOnly s u :=
  ⟨(congrArg (fun v : State => ({ v with ev := s.ev } : State)) g.eq).trans h.eq⟩

/-- Whatever reads not the event unit reads the same in both. -/
theorem EvOnly.keeps {s t : State} {α : Type} (h : EvOnly s t) (f : State → α)
    (hf : ∀ (u : State) (e : Events), f { u with ev := e } = f u) : f t = f s := by
  have same : f ({ t with ev := s.ev } : State) = f s := congrArg f h.eq
  rwa [hf] at same

theorem EvOnly.hub {s t : State} (h : EvOnly s t) : t.hub = s.hub := h.keeps (·.hub) (fun _ _ => rfl)

theorem Msix.signal_of_off {v : Nat} {s : State} (off : s.hub.msixEnabled = false) : Msix.signal v s = s := by
  simp [Msix.signal, off]

theorem Ev.note_only (src code arg : Nat) (cleared : Bool) (s : State) : EvOnly s (Ev.note src code arg cleared s) := by
  rw [Ev.note_evOnly]
  exact ⟨rfl⟩

theorem Ev.signal_only {src : Nat} {s : State} (off : s.hub.msixEnabled = false) : EvOnly s (Ev.signal src s) := by
  simp only [Ev.signal, Msix.signal_of_off off, ite_self]
  exact ⟨rfl⟩

theorem Ev.recordOne_only {s : State} (src code arg : Nat) (cleared : Bool) (off : s.hub.msixEnabled = false) :
    EvOnly s (Ev.recordOne src code arg cleared s) := by
  have note := Ev.note_only src code arg cleared s
  rw [Ev.recordOne_eq]
  split
  · exact note.trans (Ev.signal_only (note.hub ▸ off))
  · exact note

theorem Ev.wrapCheck_only {s : State} (lost : Option Nat) (off : s.hub.msixEnabled = false) :
    EvOnly s (Ev.wrapCheck lost s) := by
  cases lost with
  | none => exact .refl s
  | some seq =>
    have raised : EvOnly s { s with ev := { s.ev with wrapRaised := true } } := ⟨rfl⟩
    exact raised.trans (Ev.recordOne_only 13 0 seq false off)

theorem Ev.record_only {s : State} (src code arg : Nat) (cleared : Bool) (off : s.hub.msixEnabled = false) :
    EvOnly s (Ev.record src code arg cleared s) := by
  have once := Ev.recordOne_only src code arg cleared off
  exact once.trans (Ev.wrapCheck_only _ (once.hub ▸ off))

/-! ## PENDING after a raise -/

/-- A record leaves its source pending (R351 step 1). -/
theorem Ev.recordOne_pending {src : Nat} (h : src < 256) (code arg : Nat) (cleared : Bool) (s : State) :
    (vget (Ev.recordOne src code arg cleared s).ev.stat src {}).pending = true := by
  rw [Ev.recordOne_stat _ _ _ _ _ h]

/-- A record leaves pending what was. -/
theorem Ev.recordOne_keeps_pending {other : Nat} (src code arg : Nat) (cleared : Bool) {s : State} (lt : other < 256)
    (h : (vget s.ev.stat other {}).pending = true) :
    (vget (Ev.recordOne src code arg cleared s).ev.stat other {}).pending = true := by
  by_cases same : other = src
  · subst same
    exact Ev.recordOne_pending lt code arg cleared s
  · rw [Ev.recordOne_stat_other _ _ _ _ _ same, h]

theorem Ev.wrapCheck_keeps_pending {other : Nat} (lost : Option Nat) {s : State} (lt : other < 256)
    (h : (vget s.ev.stat other {}).pending = true) : (vget (Ev.wrapCheck lost s).ev.stat other {}).pending = true := by
  cases lost with
  | none => exact h
  | some seq => exact Ev.recordOne_keeps_pending 13 0 seq false lt h

theorem Ev.record_pending {src : Nat} (h : src < 256) (code arg : Nat) (cleared : Bool) (s : State) :
    (vget (Ev.record src code arg cleared s).ev.stat src {}).pending = true :=
  Ev.wrapCheck_keeps_pending _ h (Ev.recordOne_pending h code arg cleared s)

/-! ## Held replies -/

theorem Ring.reply_of_full {q : Nat} {s : State} {p : Pair} (r : Reply) (hp : s.pair q = some p) (live : p.deleting = false)
    (full : p.cqFull = true) :
    Ring.reply q r s =
      if p.held = [] then Ev.record 32 0 (packLe [(2, q)]) false (s.modPair q (fun p => { p with held := p.held ++ [r] }))
      else s.modPair q (fun p => { p with held := p.held ++ [r] }) := by
  simp [Ring.reply, hp, live, full]

/-- Settles O8: the reply joins those held, and CQ_STALL's record stays in the event unit. -/
theorem replyHeld : Obligations.ReplyHeld := by
  unfold Obligations.ReplyHeld
  rintro k st res s c p hc kept shown hp live full off t rfl
  rw [Cmd.finish_of_replies st res hc kept shown, Ring.reply_of_full _ hp live full]
  generalize joined : s.modPair k.q (fun p => { p with held := p.held ++ [replyOf c st res (some k)] }) = u
  have pair : u.pair k.q = some { p with held := p.held ++ [replyOf c st res (some k)] } := by
    simp [← joined, State.modPair_pair, hp]
  have frame : u.hub.inflight = s.hub.inflight ∧ u.hostMem = s.hostMem ∧ u.ringMem = s.ringMem ∧ u.tiles = s.tiles := by
    subst joined
    exact ⟨rfl, rfl, rfl, rfl⟩
  have offU : u.hub.msixEnabled = false := by
    subst joined
    exact off
  obtain ⟨inflight, host, ring, tiles⟩ := frame
  split
  · have only : EvOnly u (Ev.record 32 0 (packLe [(2, k.q)]) false u) := Ev.record_only _ _ _ _ offU
    exact ⟨⟨_, (only.keeps (·.pair k.q) (fun _ _ => rfl)).trans pair, rfl⟩,
      fun _ => Ev.record_pending (by decide) _ _ _ _,
      (only.keeps (·.hub.inflight) (fun _ _ => rfl)).trans inflight, (only.keeps (·.hostMem) (fun _ _ => rfl)).trans host,
      (only.keeps (·.ringMem) (fun _ _ => rfl)).trans ring, (only.keeps (·.tiles) (fun _ _ => rfl)).trans tiles⟩
  · next held => exact ⟨⟨_, pair, rfl⟩, fun none => absurd none held, inflight, host, ring, tiles⟩

end Sys2Proof.Machine
end

section
/-!
The time-base commands, the pulse pins, values between tiles and the end of TILE_SKEW (R11, R12, R17, R19, R21). Settles O13.
-/

namespace Sys2Proof.Machine

/-! ## Commands on the time base -/

theorem hostDisciplined_of_host {s : State} (h : s.tb.source = .host) : hostDisciplined s = true := by
  rw [hostDisciplined, h]
  rfl

theorem hostDisciplined_of_ptp {s : State} (h : s.tb.source = .ptp) : hostDisciplined s = false := by
  rw [hostDisciplined, h]
  rfl

theorem Case.tbSet_runs : Case.tbSet.Runs .tbSet := by
  refine Case.runs_of_body _ _ bodyTbSet (fun _ _ _ => rfl) fun pk k t h => ?_
  obtain ⟨host, notBelow⟩ := (Bool.and_eq_true _ _).mp h
  replace host : t.tb.source = .host := eq_of_beq host
  replace notBelow : (t.tb.valid && decide (pk.le 8 8 < t.ns)) = false := (Bool.not_eq_true' _).mp notBelow
  simp only [bodyTbSet, hostDisciplined_of_host host, notBelow]
  rfl

theorem Case.tbSlew_runs : Case.tbSlew.Runs .tbSlew := by
  refine Case.runs_of_body _ _ bodyTbSlew (fun _ _ _ => rfl) fun pk k t h => ?_
  obtain ⟨⟨host, low⟩, high⟩ : (t.tb.source = .host ∧ -500000 ≤ signedOf 32 (pk.u32 8)) ∧ signedOf 32 (pk.u32 8) ≤ 500000 := by
    simpa [Case.tbSlew] using h
  have within : (decide (signedOf 32 (pk.u32 8) < -500000) || decide (500000 < signedOf 32 (pk.u32 8))) = false := by
    simp only [Bool.or_eq_false_iff, decide_eq_false_iff_not]
    omega
  simp only [bodyTbSlew, hostDisciplined_of_host host, within]
  rfl

theorem Case.tbRead_runs : Case.tbRead.Runs .tbRead :=
  Case.runs_of_body _ _ bodyTbRead (fun _ _ _ => rfl) fun _ _ _ _ => rfl

theorem Case.tbSetPtp_runs : Case.tbSetPtp.Runs .tbSet := by
  refine Case.runs_of_body _ _ bodyTbSet (fun _ _ _ => rfl) fun pk k t h => ?_
  simp only [bodyTbSet, hostDisciplined_of_ptp (eq_of_beq h)]
  rfl

theorem Case.tbSlewPtp_runs : Case.tbSlewPtp.Runs .tbSlew := by
  refine Case.runs_of_body _ _ bodyTbSlew (fun _ _ _ => rfl) fun pk k t h => ?_
  simp only [bodyTbSlew, hostDisciplined_of_ptp (eq_of_beq h)]
  rfl

/-! ## Pins, values between tiles, skew -/

theorem aonUp_of_powered {s : State} (h : s.pw.boot ≠ .unpowered) : aonUp s = true := by simpa [aonUp] using h

theorem exec_ppsOutRise {s : State} (powered : s.pw.boot ≠ .unpowered) (released : s.pw.boot ≠ .held)
    (low : s.tb.ppsOut = false) (next : ppsComesNext s = true) :
    ∃ u, u = untilTb (s.tb.ppsNext * 1000000000) s ∧ exec .ppsOutRise s =
      .next { u with tb := { u.tb with ppsOut := true, ppsRoseAt := u.tb.elapsed, ppsNext := u.sec + 1 } } := by
  have due : (aonUp s && s.pw.boot != .held && !s.tb.ppsOut && ppsComesNext s) = true := by
    simp [aonUp_of_powered powered, released, low, next]
  refine ⟨_, rfl, ?_⟩
  change Host.Outcome.next (whenever _ _ s) = _
  rw [whenever_of_true due]

theorem exec_ppsOutFall {s : State} (high : s.tb.ppsOut = true) :
    exec .ppsOutFall s = .next { untilElapsed (s.tb.ppsRoseAt + 10000000) s with
      tb := { (untilElapsed (s.tb.ppsRoseAt + 10000000) s).tb with ppsOut := false } } := by
  change Host.Outcome.next (whenever _ _ s) = _
  rw [whenever_of_true high]

theorem exec_ppsInEdge {s : State} (powered : s.pw.boot ≠ .unpowered) :
    exec .ppsInEdge s = .next { s with tb := { s.tb with ppsIn := s.tb.now } } := by
  change Host.Outcome.next (whenever _ _ s) = _
  rw [whenever_of_true (aonUp_of_powered powered)]

/-- A value that a powered tile has queued leaves its queue and, where its destination is powered, arrives. -/
theorem exec_crossTileDelivery {src dst : Nat} {e : CrossEntry} {s : State}
    (queued : (s.tile src).xout.find? (fun x => x.dst == dst) = some e) (on : s.tileOn src = true) :
    ∃ u, u = s.modTile src (fun x => { x with xout := dropFirstFor dst x.xout }) ∧
      exec (.crossTileDelivery src dst) s = .next (if u.tileOn dst then Cross.arrive src dst e.item u else u) := by
  refine ⟨_, rfl, ?_⟩
  change execCrossTileDelivery src dst s = _
  simp only [execCrossTileDelivery, queued, on, if_true]

/-- The readings of a difference are not the record of its episode. -/
theorem skewArg_withSkew (u : State) (x : Vector Skew 8) (edge kind len : Nat) :
    skewArg { u with pw := { u.pw with skew := x } } edge kind len = skewArg u edge kind len := rfl

theorem exec_tileSkewClear {edge kind w : Nat} {k : Skew} {u s : State} (edgeLt : edge < 4) (kindLt : kind < 2)
    (episode : vget s.pw.skew (2 * edge + kind) {} = k) (stands : k.stands = true) (within : k.withinAt = some w)
    (waited : u = untilElapsed (w + 100000000) s) :
    exec (.tileSkewClear edge kind) s = .next (Ev.raiseCleared 4 kind
      (skewArg u edge kind ((u.tb.elapsed - k.raisedAt) / 1000000))
      { u with pw := { u.pw with skew := vset u.pw.skew (2 * edge + kind) {} } }) := by
  have held : (k.stands && decide (edge < 4) && decide (kind < 2)) = true := by simp [stands, edgeLt, kindLt]
  change execTileSkewClear edge kind s = _
  unfold execTileSkewClear
  extract_lets i key
  obtain rfl : key = k := episode
  clear_value key
  rw [within]
  change Host.Outcome.next (if _ then _ else s) = _
  rw [if_pos held, ← waited, ← skewArg_withSkew u]

/-- Settles O13: each command by the branch of its own part that its condition picks, each happening by its condition. -/
theorem timeBaseAndTiles : Obligations.TimeBaseAndTiles := by
  unfold Obligations.TimeBaseAndTiles
  refine ⟨Case.tbSet_runs, Case.tbSlew_runs, Case.tbRead_runs, fun s => ?source, Case.tbSetPtp_runs, Case.tbSlewPtp_runs,
    fun s powered released low next => ?rise, fun s high => exec_ppsOutFall high, fun s powered => exec_ppsInEdge powered,
    fun src dst e s queued on onto => ?arrives, fun src dst e s queued on apart off => ?dropped,
    fun edge kind w k u s edgeLt kindLt episode stands within waited => ?clears⟩
  case source => cases s.tb.source <;> simp
  case rise =>
    obtain ⟨u, hu, rises⟩ := exec_ppsOutRise powered released low next
    exact ⟨u, _, hu, rises, rfl, rfl, rfl, rfl, rfl⟩
  case arrives =>
    obtain ⟨u, rfl, delivered⟩ := exec_crossTileDelivery queued on
    rw [delivered, State.modTile_tileOn, if_pos onto]
  case dropped =>
    obtain ⟨u, rfl, delivered⟩ := exec_crossTileDelivery queued on
    rw [delivered, State.modTile_tileOn, if_neg (Bool.eq_false_iff.mp off)]
  case clears =>
    exact exec_tileSkewClear edgeLt kindLt episode stands within waited

end Sys2Proof.Machine
end

section
/-!
Disarming with a TARIFF_COMMIT in the store's queue (R29, R57, R131): its job ends with it. Refutes O14.
-/

namespace Sys2Proof.Machine

/-- The owner's session with its TARIFF_COMMIT in the store's queue, behind another commit, and the job of that command. -/
def tariffQueued : State := { State.reset with
  cl := { sessions := [(0, { tenant := 0, rev := 2, weight := 4, queueLimit := 4 })] }
  mt := { job := some { key := some { q := 0, tag := 0, id := 0 }, entries := 1, atSecond := 0, rebuilt := false, late := false } }
  nv := { queue := [{ key := some { q := 0, tag := 0, id := 0 }, ctx := 0, what := .tariff 1 1 none }] } }

/-- Refutes O14: `tariffQueued` disarms; closing the session drops the queued commit, and with it the metering unit's job,
which is not of the store's queues. -/
theorem not_armAndDisarm : ¬ Obligations.ArmAndDisarm := by
  unfold Obligations.ArmAndDisarm
  intro ⟨_, _, _, disarm, _, _⟩
  have frame (s : State) : (Setup.disarm s).mt = s.mt := by
    obtain ⟨t, disarmed, -, -, -, -, -, -, -, -, -, -, -, frame⟩ := disarm s
    obtain rfl : Setup.disarm s = t := Host.Outcome.next.inj disarmed
    have kept := congrArg (fun u : State => u.mt) frame
    exact kept
  have dropped : (Setup.disarm tariffQueued).mt.job.isNone = true := by decide +kernel
  have stood : tariffQueued.mt.job.isNone = false := by decide +kernel
  rw [frame, stood] at dropped
  cases dropped

end Sys2Proof.Machine
end

section
/-!
What the host does beside the rings (R23, R25, R46 to R50, R339): writes and reads of BAR0 by offset, the window, QSPI and
configuration requests. Settles O15.
-/

namespace Sys2Proof.Machine

/-! ## BAR0, by offset (Table 2.2) -/

section
variable {s : State} {off : Nat} {v : Word}

theorem Bar0.write_of_answers (aligned : off % 4 = 0) (up : answers s = true) :
    Bar0.write off v s =
      if off = 0x0010 then Setup.write v s
      else if 0x0040 ≤ off ∧ off < 0x0060 then
        { s with hub := { s.hub with setupDesc := vset s.hub.setupDesc ((off - 0x0040) / 4) v } }
      else if off = 0x1000 then { s with hub := { s.hub with chsel := v.setWidth 16 } }
      else if 0x1100 ≤ off ∧ off < 0x1400 then Window.write ((off - 0x1100) / 4) v s
      else if 0x4000 ≤ off ∧ off < 0x8000 then Ring.doorbell ((off - 0x4000) / 4) v s
      else if 0x8000 ≤ off ∧ off < 0x9000 then Msix.write ((off - 0x8000) / 4) v s
      else s := by
  simp [Bar0.write, aligned, up]

theorem Bar0.write_of_ignored (h : (off % 4 != 0 || !answers s) = true) : Bar0.write off v s = s := if_pos h

theorem Bar0.write_reserved (reserved : (0x14 ≤ off ∧ off < 0x40) ∨ (0x60 ≤ off ∧ off < 0x1000) ∨
    (0x1004 ≤ off ∧ off < 0x1100) ∨ (0x1400 ≤ off ∧ off < 0x4000) ∨ 0x9000 ≤ off) : Bar0.write off v s = s := by
  cases ignored : (off % 4 != 0 || !answers s) with
  | true => exact Bar0.write_of_ignored ignored
  | false =>
    simp only [Bool.or_eq_false_iff, bne_eq_false_iff_eq, Bool.not_eq_false'] at ignored
    obtain ⟨aligned, up⟩ := ignored
    rw [Bar0.write_of_answers aligned up]
    repeat rw [if_neg (by omega)]

theorem Bar0.write_setupDesc {k : Nat} (up : answers s = true) (hk : k < 8) :
    Bar0.write (0x40 + 4 * k) v s = { s with hub := { s.hub with setupDesc := vset s.hub.setupDesc k v } } := by
  rw [Bar0.write_of_answers (by omega) up, if_neg (by omega), if_pos (by omega),
    show (0x40 + 4 * k - 0x40) / 4 = k by omega]

theorem Bar0.write_chsel (up : answers s = true) :
    Bar0.write 0x1000 v s = { s with hub := { s.hub with chsel := v.setWidth 16 } } := by
  rw [Bar0.write_of_answers (by decide) up]
  rfl

theorem Bar0.write_window {w : Nat} (up : answers s = true) (hw : w < 192) :
    Bar0.write (0x1100 + 4 * w) v s = Window.write w v s := by
  rw [Bar0.write_of_answers (by omega) up, if_neg (by omega), if_neg (by omega), if_neg (by omega), if_pos (by omega),
    show (0x1100 + 4 * w - 0x1100) / 4 = w by omega]

/-! ## The window (R46, R47) -/

theorem exec_windowWrite {w : Nat} (up : answers s = true) (hw : w < 192) :
    exec (.windowWrite (0x1100 + 4 * w) v) s = .next (Window.write w v s) := by
  change Host.Outcome.next (whenever _ _ s) = _
  rw [whenever_of_true (by simp; omega), Bar0.write_window up hw]

theorem Window.write_of_shut {w : Nat} (shut : s.hub.winRw = false ∨ chselValid s = false) : Window.write w v s = s := by
  rcases shut with shut | shut <;> simp [Window.write, shut]

theorem exec_windowWrite_of_shut {w : Nat} (shut : s.hub.winRw = false ∨ chselValid s = false) (hw : w < 192) :
    exec (.windowWrite (0x1100 + 4 * w) v) s = .next s := by
  cases up : answers s with
  | true => rw [exec_windowWrite up hw, Window.write_of_shut shut]
  | false =>
    change Host.Outcome.next (whenever _ _ s) = _
    rw [whenever_of_true (by simp; omega), Bar0.write_of_ignored (by simp [up])]

theorem Window.write_of_open {w : Nat} (open' : s.hub.winRw = true) (valid : chselValid s = true) :
    Window.write w v s = match (chselPort s.hub).kind with
      | 0 => windowInputWrite (chselPort s.hub).tile (chselPort s.hub).local w v s
      | 1 => windowDriveWrite (chselPort s.hub).tile (chselPort s.hub).local w v s
      | 2 => windowAoWrite (chselPort s.hub).tile (chselPort s.hub).local w v s
      | 3 => windowFanWrite (chselPort s.hub).tile (chselPort s.hub).local w v s
      | 4 => windowBusWrite (chselPort s.hub).index w v s
      | 5 => s
      | 6 => windowHeadWrite (chselPort s.hub).index w v s
      | _ => windowLinkWrite (chselPort s.hub).index w v s := by
  simp only [Window.write, open', valid]
  rfl

theorem windowInputWrite_of_judged {t i w : Nat} {c c' : InCfg} (hw : w < 4) (old : c = ((s.tile t).input i).latestCfg)
    (cfg0 : c'.cfg0 = pickWord w 0 v c.cfg0) (paramA : c'.paramA = pickWord w 1 v c.paramA)
    (paramB : c'.paramB = pickWord w 2 v c.paramB) (comp : c'.comp = pickWord w 3 v c.comp)
    (judged : judgeConfig s t i c' = none) : windowInputWrite t i w v s = Input.configure t i c' s := by
  subst old
  obtain ⟨a, b, c, d⟩ := c'
  dsimp only at cfg0 paramA paramB comp
  subst cfg0 paramA paramB comp
  simp only [windowInputWrite, if_neg (Nat.not_le.mpr hw), judged]

end

theorem Bar0.read_narrow (s : State) {off n : Nat} (h : n ≠ 4 ∨ off % 4 ≠ 0) : Bar0.read s off n = 0 := by
  have bad : (n != 4 || off % 4 != 0) = true := by simpa using h
  simp only [Bar0.read, bad, if_true]

theorem exec_registerWrite_narrow (s : State) {off n : Nat} (v : Word) (h : n ≠ 4 ∨ off % 4 ≠ 0) :
    exec (.registerWrite off n v) s = .next s := by
  change Host.Outcome.next (whenever (n == 4) _ s) = _
  by_cases word : n = 4
  · have odd : off % 4 ≠ 0 := by simpa [word] using h
    rw [whenever_of_true (by simp [word]), Bar0.write_of_ignored (by simp [odd])]
  · rw [whenever, if_neg (by simpa using word)]

theorem exec_registerWrite_word (s : State) (off : Nat) (v : Word) :
    exec (.registerWrite off 4 v) s = .next (Bar0.write off v s) := rfl

/-! ## QSPI (R49, R50) -/

theorem qspiAddr_of_fits {a i : Nat} (h : a + i < 65536) : qspiAddr a i = a + i := by
  unfold qspiAddr
  omega

theorem qspiAddr_ring {a i : Nat} (h : a < 65536) : qspiAddr a i = (a + i) % 65536 := by
  unfold qspiAddr
  omega

theorem byteAt_ofLe4 (b0 b1 b2 b3 : Byte) :
    (List.range 4).map (fun i => byteAt (BitVec.ofNat 32 (ofLe [b0, b1, b2, b3])).toNat i) = [b0, b1, b2, b3] := by
  have h0 := b0.isLt
  have h1 := b1.isLt
  have h2 := b2.isLt
  have h3 := b3.isLt
  simp only [List.range, List.range.loop, List.map, byteAt, ofLe, BitVec.toNat_ofNat, List.cons.injEq, and_true]
  refine ⟨?_, ?_, ?_, ?_⟩
  all_goals
    refine BitVec.eq_of_toNat_eq ?_
    rw [BitVec.toNat_ofNat]
    omega

/-- A word written within ring memory is one write of its four bytes. -/
theorem Qspi.put_ring {a : Nat} {b0 b1 b2 b3 : Byte} (s : State) (h : a + 4 ≤ 65536) :
    Qspi.put a (BitVec.ofNat 32 (ofLe [b0, b1, b2, b3])) s = { s with ringMem := memWrite s.ringMem a [b0, b1, b2, b3] } := by
  have bytes := byteAt_ofLe4 b0 b1 b2 b3
  simp only [List.range, List.range.loop, List.map, List.cons.injEq, and_true] at bytes
  obtain ⟨e0, e1, e2, e3⟩ := bytes
  simp only [Qspi.put, if_pos (show a < 65536 by omega), List.range, List.range.loop, List.foldl, e0, e1, e2, e3, memWrite]
  rw [qspiAddr_of_fits (by omega), qspiAddr_of_fits (by omega), qspiAddr_of_fits (by omega), qspiAddr_of_fits (by omega)]
  rfl

theorem exec_qspiWrite_word {s : State} {a : Nat} (b0 b1 b2 b3 : Byte) (up : answers s = true) (h : a + 4 ≤ 65536) :
    exec (.qspiWrite a [b0, b1, b2, b3]) s = .next { s with ringMem := memWrite s.ringMem a [b0, b1, b2, b3] } := by
  change Host.Outcome.next (whenever _ _ s) = _
  rw [whenever_of_true up, Qspi.write, Qspi.put_ring s h]
  rfl

/-- Fewer than four bytes are no word. -/
theorem exec_qspiWrite_short (s : State) (a : Nat) (b0 b1 b2 : Byte) : exec (.qspiWrite a [b0, b1, b2]) s = .next s := by
  change Host.Outcome.next (whenever (answers s) (fun s => s) s) = _
  rw [whenever, ite_self]

theorem ofLe_map_lt (f : Nat → Byte) : ofLe ((List.range 4).map f) < 2 ^ 32 := by
  have fits := ofLe_lt ((List.range 4).map f)
  rwa [List.length_map, List.length_range] at fits

/-- The word that QSPI reads in ring memory, from its four bytes. -/
theorem Qspi.get_ring {s : State} {a : Nat} (h : a < 65536) :
    (Qspi.get s a).toNat = ofLe ((List.range 4).map (fun j => memGet s.ringMem ((a + j) % 65536))) := by
  rw [Qspi.get, if_pos h, BitVec.toNat_ofNat, Nat.mod_eq_of_lt (ofLe_map_lt _)]
  simp only [qspiAddr_ring h]

theorem Qspi.get_ring_at {s : State} {a : Nat} (h : a < 65536) (i : Nat) :
    (Qspi.get s (qspiAddr a (4 * i))).toNat =
      ofLe ((List.range 4).map (fun j => memGet s.ringMem ((a + 4 * i + j) % 65536))) := by
  rw [qspiAddr_ring h, Qspi.get_ring (Nat.mod_lt _ (by decide))]
  simp only [Nat.mod_add_mod]

theorem exec_qspiRead {s : State} (a n : Nat) (up : answers s = true) :
    exec (.qspiRead a n) s = .next { s with hub := { s.hub with
      qspiOut := (List.range n).map (fun i => Qspi.get s (qspiAddr a (4 * i))) } } := by
  change Host.Outcome.next (whenever _ _ s) = _
  rw [whenever_of_true up]

theorem exec_qspiStatus {s : State} (up : answers s = true) :
    exec .qspiStatus s = .next { s with hub := { s.hub with
      qspiOut := [BitVec.ofNat 32 (bit s.live + 2 * bit (completionPending s))] } } := by
  change Host.Outcome.next (whenever _ _ s) = _
  rw [whenever_of_true up]
  rfl

/-! ## Configuration requests (R23, R339) -/

theorem answers_of_live {s : State} (live : s.live = true) : answers s = true := by
  have ready : s.pw.boot = .ready := eq_of_beq live
  rw [answers, ready]
  rfl

section
variable {s : State}

theorem exec_configurationRequest_early (r : CfgRequest) (early : s.tb.elapsed < s.pw.porAt + 20000000) :
    exec (.configurationRequest r) s = .next s := by
  have none : (!answers s || decide (s.tb.elapsed < s.pw.porAt + 20000000)) = true := by simp [early]
  change execConfigurationRequest r s = _
  simp only [execConfigurationRequest, none, if_true]

theorem cfg_answered (up : answers s = true) (late : s.pw.porAt + 20000000 ≤ s.tb.elapsed) :
    (!answers s || decide (s.tb.elapsed < s.pw.porAt + 20000000)) = false := by
  simpa [up] using late

theorem exec_configurationRequest_retry (r : CfgRequest) (up : answers s = true)
    (late : s.pw.porAt + 20000000 ≤ s.tb.elapsed) (boot : s.live = false) :
    exec (.configurationRequest r) s = .next { s with hub := { s.hub with cfgAnswer := .retry } } := by
  change execConfigurationRequest r s = _
  simp only [execConfigurationRequest, cfg_answered up late, boot]
  rfl

theorem exec_configurationRequest_served (r : CfgRequest) (live : s.live = true)
    (late : s.pw.porAt + 20000000 ≤ s.tb.elapsed) :
    exec (.configurationRequest r) s = .next (match r with
      | .read item => { s with hub := { s.hub with cfgAnswer := .served, cfgData := some (cfgWord s.hub item) } }
      | .bar0 v => { s with hub := { s.hub with cfgAnswer := .served, bar0 := v &&& ~~~0xFFFF#64 } }
      | .msix enable mask => Msix.flush { s with hub := { s.hub with
          cfgAnswer := .served, msixEnabled := enable, msixMasked := mask } }) := by
  change execConfigurationRequest r s = _
  simp only [execConfigurationRequest, cfg_answered (answers_of_live live) late, live]
  cases r with
  | read item => cases item <;> rfl
  | bar0 v => rfl
  | msix enable mask => rfl

end

/-- BAR0 keeps the bits above its size. -/
theorem bar0_mask (v : BitVec 64) : v &&& ~~~0xFFFF#64 = BitVec.ofNat 64 (v.toNat / 65536 * 65536) := by
  have shift : BitVec.ofNat 64 (v.toNat / 65536 * 65536) = v >>> 16 <<< 16 := by
    refine BitVec.eq_of_toNat_eq ?_
    simp [Nat.shiftRight_eq_div_pow, Nat.shiftLeft_eq]
  have mask : ∀ (i : Nat) (hi : i < 64), (~~~0xFFFF#64)[i] = !decide (i < 16) := by decide
  rw [shift]
  ext i hi
  rw [BitVec.getElem_and, mask i hi, BitVec.getElem_shiftLeft]
  by_cases low : i < 16
  · simp [low]
  · simp [low, BitVec.getElem_ushiftRight, show 16 + (i - 16) = i by omega, BitVec.getLsbD_eq_getElem hi]

theorem cfgWord_fixed (h : Hub) :
    (cfgWord h .deviceId).toNat / 65536 = 0x8240 ∧ (cfgWord h .classCode).toNat / 256 = 0x118000 ∧
      cfgWord h .interruptPin = 0 ∧ (cfgWord h .msixControl).toNat % 2048 = 255 ∧ cfgWord h .hasMsi = 0 ∧
      cfgWord h .hasSriov = 0 := by
  refine ⟨?device, ?cls, rfl, ?msix, rfl, rfl⟩
  case device =>
    have vendor := Config.vendorId.isLt
    simp only [cfgWord, BitVec.toNat_append, Nat.shiftLeft_eq, BitVec.toNat_ofNat]
    rw [← Nat.shiftLeft_eq, ← Nat.shiftLeft_add_eq_or_of_lt vendor, Nat.shiftLeft_eq]
    omega
  case cls =>
    have revision := Config.pcieRevision.isLt
    simp only [cfgWord, BitVec.toNat_append]
    rw [← Nat.shiftLeft_add_eq_or_of_lt revision, Nat.shiftLeft_eq, BitVec.toNat_ofNat]
    omega
  case msix =>
    have mask := bit_lt h.msixMasked
    have enable := bit_lt h.msixEnabled
    simp only [cfgWord, BitVec.toNat_ofNat]
    omega

/-! ## Everything beside the rings -/

theorem chselPort_of_written (h : Hub) (v : Word) :
    chselPort { h with chsel := v.setWidth 16 } = { kind := field v.toNat 15 12, index := field v.toNat 11 0 } := by
  have kind : field (v.toNat % 2 ^ 16) 15 12 = field v.toNat 15 12 := by
    simp only [field]
    omega
  have index : field (v.toNat % 2 ^ 16) 11 0 = field v.toNat 11 0 := by
    simp only [field]
    omega
  simp only [chselPort, BitVec.toNat_setWidth, kind, index]

/-- Settles O15: each access by its offset, its instruction or its request. -/
theorem hostAccesses : Obligations.HostAccesses := by
  unfold Obligations.HostAccesses
  refine ⟨fun s k v up hk => ?setupDesc, fun s off n v narrow => exec_registerWrite_narrow s v narrow,
    fun s off v reserved => ?reserved, fun s off n narrow => Bar0.read_narrow s narrow, fun s v up => ?chsel,
    fun s p w v up hw rw' valid port kind c old c' cfg0 paramA paramB comp judged => ?windowInput,
    fun s p w v up hw rw' valid port r hr => ?window, fun s w v shut hw => exec_windowWrite_of_shut shut hw,
    fun s w invalid => ?windowRead, fun s a b0 b1 b2 b3 up wf fits => ?qspiWrite,
    fun s a b0 b1 b2 => ⟨exec_qspiWrite_short s a b0 b1 b2, exec_qspiWrite_short s a b0 b1 b2⟩,
    fun s a n up ring => ?qspiRead, fun s up => exec_qspiStatus up, fun s b => rfl,
    fun s r early => exec_configurationRequest_early r early,
    fun s r up late boot => exec_configurationRequest_retry r up late boot,
    fun s x live late => exec_configurationRequest_served (.read x) live late, cfgWord_fixed, fun s v live late => ?bar0,
    fun s enable mask live late => ⟨_, rfl, exec_configurationRequest_served (.msix enable mask) live late⟩⟩
  case setupDesc => rw [exec_registerWrite_word, Bar0.write_setupDesc up hk]
  case reserved => rw [exec_registerWrite_word, Bar0.write_reserved reserved]
  case chsel => exact ⟨_, congrArg Host.Outcome.next (Bar0.write_chsel up), chselPort_of_written s.hub v, rfl⟩
  case windowInput =>
    subst port
    rw [exec_windowWrite up (by omega), Window.write_of_open rw' valid, kind]
    exact congrArg Host.Outcome.next (windowInputWrite_of_judged hw old cfg0 paramA paramB comp judged)
  case window =>
    subst port hr
    rw [exec_windowWrite up hw, Window.write_of_open rw' valid]
    refine ⟨?_, ?_, ?_, ?_, ?_, ?_, ?_, ?_⟩
    all_goals
      intro kind
      rw [kind]
      rfl
  case windowRead => simp [Window.read, invalid]
  case qspiWrite =>
    refine ⟨_, exec_qspiWrite_word b0 b1 b2 b3 up fits, exec_qspiWrite_word b0 b1 b2 b3 up fits, ?_, rfl, fun x away => ?_⟩
    · exact memRead_memWrite [b0, b1, b2, b3] s.ringMem a (State.memWf_iff.mp wf).1.2
    · exact memGet_memWrite_other [b0, b1, b2, b3] s.ringMem a x (by simp only [List.length_cons, List.length_nil]; omega)
  case qspiRead =>
    refine ⟨_, exec_qspiRead a n up, exec_qspiRead a n up, by simp, fun i hi => ?_, rfl⟩
    simp only [List.getElem?_map, List.getElem?_range hi, Option.map_some, Option.getD_some, Qspi.get_ring_at ring]
  case bar0 =>
    rw [← bar0_mask]
    exact exec_configurationRequest_served (.bar0 v) live late

end Sys2Proof.Machine
end

section
/-!
Doorbells, failed entries, opcodes outside the list, interrupts, held replies and deleted pairs (R31, R33, R34, R36, R39,
R333, Table 2.12). Settles O16.
-/

namespace Sys2Proof.Machine

/-! ## Doorbells -/

/-- A doorbell on BAR0 of a live device, in host memory as it has been written meanwhile. -/
theorem exec_doorbell {q : Nat} (v : Word) (w : List (Nat × Byte)) {s : State} (hq : q < 4096) (live : s.live = true) :
    exec (.doorbell q v w) s =
      .next (Ring.doorbell q v { s with hostMem := w.foldl (fun m x => memSet m x.1 x.2) s.hostMem }) := by
  generalize written : ({ s with hostMem := w.foldl (fun m x => memSet m x.1 x.2) s.hostMem } : State) = u
  have up : answers u = true := by
    subst written
    exact answers_of_live live
  change Host.Outcome.next (if q < 4096 then Bar0.write (0x4000 + 4 * q) v _ else _) = _
  rw [if_pos hq, written, Bar0.write_of_answers (by omega) up, if_neg (by omega), if_neg (by omega), if_neg (by omega),
    if_neg (by omega), if_pos (by omega), show (0x4000 + 4 * q - 0x4000) / 4 = q by omega]

/-- A good doorbell takes SQ_TAIL and CQ_HEAD with the entries revealed, and fetches; an entry held back in GLOW is the
host's wake cause (R31, R34, R333). -/
theorem Ring.doorbell_of_good {q : Nat} {v : Word} {u : State} {p : Pair} (live : u.live = true)
    (armed : u.hub.setup = .armed) (hp : u.pair q = some p) (standing : p.deleting = false)
    (tail : field v.toNat 15 0 < p.desc.size) (head : field v.toNat 31 16 < p.desc.size) :
    ∃ f, f = Ring.fetchAll (Msix.satisfied (u.modPair q (fun p => { p with
        sqTail := field v.toNat 15 0
        cqHead := field v.toNat 31 16
        waiting := unfetched u p ((field v.toNat 15 0 + p.desc.size - p.sqHead) % p.desc.size) }))) ∧
      Ring.doorbell q v u = if heldInGlow f q then Power.wake wakeHost 0 f else f := by
  refine ⟨_, rfl, ?_⟩
  simp [Ring.doorbell, live, hp, standing, armed, Nat.not_le.mpr tail, Nat.not_le.mpr head]

theorem Ring.doorbell_of_bad {q : Nat} {v : Word} {s : State} (live : s.live = true)
    (bad : ∀ p, s.pair q = some p → p.deleting = true ∨ s.hub.setup ≠ .armed ∨ p.desc.size ≤ field v.toNat 15 0 ∨
      p.desc.size ≤ field v.toNat 31 16) : Ring.doorbell q v s = badDoorbell q v s := by
  unfold Ring.doorbell
  rw [if_neg (by simp [live])]
  split
  · rfl
  · next p hp =>
    refine if_pos ?_
    simpa [or_assoc] using bad p hp

/-- A wake whose cause is not enabled changes nothing (R335). -/
theorem Power.wake_of_disabled {cause arg : Nat} {s : State} (off : s.pw.wakeMask.getLsbD cause = false) :
    Power.wake cause arg s = s := by
  simp [Power.wake, off]

theorem heldInGlow_of_none {f : State} {q : Nat} (h : (f.pair q).bind (fun p => p.waiting.head?) = none) :
    heldInGlow f q = false := by
  rw [heldInGlow, h]

theorem heldInGlow_of_some {f : State} {q : Nat} {e : Nat × Entry}
    (h : (f.pair q).bind (fun p => p.waiting.head?) = some e) : heldInGlow f q = !glowOk f e.2 := by
  rw [heldInGlow, h]

/-! ## Failed entries and opcodes outside the list -/

theorem exec_packetCrcFail {q i : Nat} {head : Word} {s t : State} (live : s.live = true) (armed : s.hub.setup = .armed)
    (offered : t = Ring.offerBad q i head s) (fetched : ∃ f ∈ t.hub.fetched, f.q = q ∧ f.index = i ∧ f.entry = .bad head) :
    ∃ u, u = Ring.reply q (crcFailReply i head)
        { t with hub := { t.hub with fetched := t.hub.fetched.eraseP (isBad q i head) } } ∧
      exec (.packetCrcFail q i head) s = .next (Ev.settle u.ev.waits.length u) := by
  have found : t.hub.fetched.any (isBad q i head) = true := by
    obtain ⟨f, mem, own, slot, entry⟩ := fetched
    exact List.any_eq_true.mpr ⟨f, mem, by simp [isBad, own, slot, entry]⟩
  have up : (!s.live || s.hub.setup != .armed) = false := by simp [live, armed]
  refine ⟨_, rfl, ?_⟩
  change execPacketCrcFail q i head s = _
  simp only [execPacketCrcFail, up, ← offered, found, if_true]
  rfl

theorem crcFailReply_echo (i : Nat) (head : Word) : (crcFailReply i head).echo = head.setWidth 16 :=
  BitVec.eq_of_toNat_eq rfl

/-- SESSION_OPEN and SESSION_PROVE are in the list. -/
theorem entryOp_of_unlisted {op : BitVec 12} (unlisted : specOf op = none) : entryOp op.toNat = false := by
  have openListed : (specOf 0x100#12).isSome = true := by decide
  have proveListed : (specOf 0x101#12).isSome = true := by decide
  simp only [entryOp, Bool.or_eq_false_iff, beq_eq_false_iff_ne]
  refine ⟨fun is => ?_, fun is => ?_⟩
  · rw [← BitVec.eq_of_toNat_eq (y := 0x100#12) is, unlisted] at openListed
    cases openListed
  · rw [← BitVec.eq_of_toNat_eq (y := 0x101#12) is, unlisted] at proveListed
    cases proveListed

/-- An opcode that is not in the list is not served in any session (R38 step 4). -/
theorem Cmd.judge_of_unlisted {op q : Nat} {pk : Packet} {s : State} {ss : Session} (entry : entryOp op = false)
    (reserved : pk.reserved = 0) (session : aget s.cl.sessions pk.ctx = some ss) (rev : pk.rev.toNat = ss.rev) :
    Cmd.judge op none q pk s = some (St.badOpcode, 0) := by
  simp [Cmd.judge, reserved, entry, session, rev, served]

theorem exec_badOpcodePacket {q i : Nat} {op : BitVec 12} {pk : Packet} {s t : State} {ss : Session}
    {old : Option (Nat × Option Cred)} (take : Cmd.take q (.packet op pk) s = .go i old t) (unlisted : specOf op = none)
    (reserved : pk.reserved = 0) (session : aget s.cl.sessions pk.ctx = some ss) (rev : pk.rev.toNat = ss.rev) :
    exec (.badOpcodePacket q op pk) s = .next (Cmd.final (nextKey q pk s) St.badOpcode 0 (Cmd.enter op q pk t)) := by
  have refused : opRefused op pk s = true := by simp [opRefused, unlisted, served]
  have judged := Cmd.judge_of_unlisted (q := q) (entryOp_of_unlisted unlisted) reserved
    ((congrArg (aget · pk.ctx) (sessions_of_take_go take op pk)).trans session) rev
  change Host.Outcome.next (whenever _ _ s) = _
  rw [whenever_of_true refused]
  simp only [Cmd.runWith, take, unlisted, judged, Cmd.take_go_nextKey take, result_noReason]

/-! ## Interrupts, held replies and deleted pairs -/

theorem exec_coalesceTimeout {q : Nat} {s : State} {p : Pair} (hp : s.pair q = some p) (due : 0 < p.unsignalled) :
    exec (.coalesceTimeout q) s = .next (Ring.signal q (untilElapsed (p.oldest + p.desc.coalTime * 8000) s)) := by
  change execCoalesceTimeout q s = _
  simp only [execCoalesceTimeout, hp, due, if_true]

theorem exec_heldReplyWrite {q : Nat} {s : State} {p : Pair} (hp : s.pair q = some p) :
    exec (.heldReplyWrite q) s = .next (Ring.fetchAll (Ring.writeHeld q p.held.length s)) := by
  change execHeldReplyWrite q s = _
  simp only [execHeldReplyWrite, hp]

theorem Ring.writeHeld_cons {q n : Nat} {s : State} {p : Pair} {r : Reply} {rest : List Reply} (hp : s.pair q = some p)
    (held : p.held = r :: rest) (room : p.cqFull = false) :
    Ring.writeHeld q (n + 1) s = Ring.writeHeld q n (Ring.post q r (s.modPair q (fun p => { p with held := rest }))) := by
  simp only [Ring.writeHeld, hp, held, room]
  rfl

theorem Ring.writeHeld_of_stopped {q : Nat} {s : State} {p : Pair} (hp : s.pair q = some p)
    (stopped : p.held = [] ∨ p.cqFull = true) (n : Nat) : Ring.writeHeld q n s = s := by
  cases n with
  | zero => rfl
  | succ n =>
    cases held : p.held with
    | nil => simp only [Ring.writeHeld, hp, held]
    | cons r rest =>
      have full : p.cqFull = true := by simpa [held] using stopped
      simp only [Ring.writeHeld, hp, held, full, if_true]

theorem exec_pairFreed {q : Nat} {s : State} {p : Pair} (hp : s.pair q = some p) (deleting : p.deleting = true)
    (idle : ∀ c ∈ s.hub.inflight, c.key.q ≠ q) :
    exec (.pairFreed q) s = .next { s with hub := { s.hub with pairs := aerase s.hub.pairs q } } := by
  have ended : s.hub.inflight.any (fun c => c.key.q == q) = false := by simpa using idle
  change execPairFreed q s = _
  simp only [execPairFreed, hp, deleting, ended]
  rfl

theorem Case.windowAccess_runs : Case.windowAccess.Runs .windowAccess := by
  refine Case.runs_of_body _ _ bodyWindowAccess (fun _ _ _ => rfl) fun pk k t h => ?_
  have op : pk.u8 8 < 2 := of_decide_eq_true h
  rw [bodyWindowAccess, if_neg (Nat.not_le.mpr op)]
  rfl

/-- Settles O16: each happening by the branch that its conditions pick. -/
theorem doorbellsAndRings : Obligations.DoorbellsAndRings := by
  unfold Obligations.DoorbellsAndRings
  refine ⟨fun q v w s u p hq live armed hp standing tail head written f fetched held hHeld => ?good,
    fun q v s hq live bad => ?bad, fun s => rfl, fun q i head s t live armed offered fetched => ?failed,
    fun q i op pk s t ss old take unlisted reserved session rev => exec_badOpcodePacket take unlisted reserved session rev,
    fun q s p hp due => exec_coalesceTimeout hp due, fun q s p r rest hp held room => ?written,
    fun q s p hp stopped => ?stopped, fun q s p hp deleting idle => exec_pairFreed hp deleting idle,
    Case.windowAccess_runs⟩
  case good =>
    have rung : exec (.doorbell q v w) s = .next (if heldInGlow f q then Power.wake wakeHost 0 f else f) := by
      rw [exec_doorbell v w hq live, ← written]
      obtain ⟨g, hg, rung⟩ := Ring.doorbell_of_good (u := u) (by rw [written]; exact live) (by rw [written]; exact armed)
        (by rw [written]; exact hp) standing tail head
      obtain rfl : g = f := hg.trans fetched.symm
      rw [rung]
    refine ⟨fun passes => ?_, fun e mem blocked enabled => ?_⟩
    · cases held with
      | none => rw [rung, heldInGlow_of_none hHeld.symm, if_neg Bool.false_ne_true]
      | some e =>
        rcases passes e rfl with glow | off
        · rw [rung, heldInGlow_of_some hHeld.symm, glow, Bool.not_true, if_neg Bool.false_ne_true]
        · rw [rung, Power.wake_of_disabled (cause := wakeHost) off, ite_self]
    · obtain rfl : held = some e := mem
      rw [rung, heldInGlow_of_some hHeld.symm, blocked, Bool.not_false, if_pos rfl]
  case bad =>
    rw [exec_doorbell v [] hq live]
    exact congrArg Host.Outcome.next (Ring.doorbell_of_bad live bad)
  case failed =>
    obtain ⟨u, replied, ends⟩ := exec_packetCrcFail live armed offered fetched
    exact ⟨crcFailReply i head, u, rfl, rfl, crcFailReply_echo i head, rfl, rfl, rfl, replied, ends⟩
  case written => rw [exec_heldReplyWrite hp, held, List.length_cons, Ring.writeHeld_cons hp held room]
  case stopped => rw [exec_heldReplyWrite hp, Ring.writeHeld_of_stopped hp stopped]

end Sys2Proof.Machine
end

section
/-!
Sessions, queue pairs and tenants (R27, R51 to R60, R376, R377): the commands that open, prove and close sessions, that make
and delete pairs and that install, change and remove tenants. Settles O17, O18 and O19.
-/

namespace Sys2Proof.Machine

/-! ## Sessions -/

theorem Case.sessionOpen_runs : Case.sessionOpen.Runs .sessionOpen := by
  refine Case.runs_of_body _ _ bodySessionOpen (fun _ _ _ => rfl) fun pk k t h => ?_
  simp only [Case.sessionOpen, Bool.and_eq_true, decide_eq_true_eq, Bool.not_eq_true', Option.isSome_iff_ne_none] at h
  obtain ⟨⟨⟨⟨tenant, unlocked⟩, has⟩, single⟩, room⟩ := h
  have admitted : (inLockout t (pk.u16 8) || !installed t (pk.u16 8) || (pk.u16 8 == 0 && ahas t.cl.sessions 0)) = false := by
    simp only [unlocked, has, single]
    rfl
  have found : (contextFor t (pk.u16 8)).isNone = false := by simpa [Option.isSome_iff_ne_none] using room
  simp only [bodySessionOpen, if_neg (Nat.not_le.mpr tenant), admitted, found]
  rfl

theorem Case.sessionClose_runs (c : Nat) : (Case.sessionClose c).Runs .sessionClose := by
  refine Case.runs_of_body _ _ bodySessionClose (fun _ _ _ => rfl) fun pk k t h => ?_
  simp only [Case.sessionClose, Bool.and_eq_true, beq_iff_eq] at h
  obtain ⟨⟨rfl, sender⟩, opened⟩ := h
  have allowed : (!pk.owner && (if pk.u16 8 = 0xFFFF then pk.ctx else pk.u16 8) != pk.ctx) = false := by
    rcases (Bool.or_eq_true _ _).mp sender with owner | own
    · rw [owner]
      rfl
    · rw [eq_of_beq own, bne_self_eq_false, Bool.and_false]
  simp only [bodySessionClose, allowed, opened]
  rfl

theorem Case.sessionProve_runs (n : Nonce) (secret : List Byte) (c : Nat) :
    (Case.sessionProve n secret c).Runs .sessionProve := by
  refine Case.runs_of_body _ _ bodySessionProve (fun _ _ _ => rfl) fun pk k t h => ?_
  simp only [Case.sessionProve, Bool.and_eq_true, beq_iff_eq, Bool.not_eq_true'] at h
  obtain ⟨⟨⟨⟨⟨⟨unlocked, live⟩, rev⟩, single⟩, known⟩, proof⟩, room⟩ := h
  have single' : (decide (pk.u16 8 = 0) && ahas t.cl.sessions 0) = false := single
  have proven : (hostMac secret n (pk.bytes 10 8) (pk.u16 8) n.rev != pk.bytes 18 32) = false := by
    rw [proof]
    exact bne_self_eq_false _
  have opened : aget (openSession (pk.u16 8) c n.rev (consumeNonce (pk.u16 8) t)).cl.sessions c = some {
      tenant := pk.u16 8, rev := n.rev, weight := ((aget t.cl.creds (pk.u16 8)).map (·.weight)).getD 4
      queueLimit := ((aget t.cl.creds (pk.u16 8)).map (·.queueLimit)).getD 4 } := aget_aset _ _ _
  simp only [bodySessionProve, unlocked, live, rev, bne_self_eq_false, single', known, proven, room, opened]
  rfl

/-- A lapsed nonce is gone (R54). -/
theorem exec_nonceLapse {tenant : Nat} {n : Nonce} {s : State} (live : aget s.cl.nonces tenant = some n) :
    exec (.nonceLapse tenant) s = .next (consumeNonce tenant (untilElapsed n.lapsesAt s)) := by
  change execNonceLapse tenant s = _
  simp only [execNonceLapse, live]

theorem exec_authLockoutEnd {tenant e : Nat} {s u : State} (locked : aget s.cl.lockouts tenant = some e)
    (waited : u = untilElapsed e s) :
    exec (.authLockoutEnd tenant) s = .next { u with cl := { u.cl with lockouts := aerase u.cl.lockouts tenant } } := by
  change execAuthLockoutEnd tenant s = _
  simp only [execAuthLockoutEnd, locked, waited]

/-- Settles O17: the three commands run, a nonce and a lockout end at their instants. -/
theorem sessionCommands : Obligations.SessionCommands := by
  unfold Obligations.SessionCommands
  refine ⟨Case.sessionOpen_runs, Case.sessionProve_runs, Case.sessionClose_runs, fun tenant n s u live waited => ?_,
    fun tenant e s u locked waited => exec_authLockoutEnd locked waited⟩
  rw [exec_nonceLapse live, ← waited]
  rfl

/-! ## What replies and settled waits leave pending -/

@[simp] theorem State.writeMem_ev (s : State) (sp : Space) (a : Nat) (l : List Byte) : (s.writeMem sp a l).ev = s.ev := by
  unfold State.writeMem
  split
  · rfl
  · split <;> rfl

@[simp] theorem Cmd.free_ev (k : Option Key) (s : State) : (Cmd.free k s).ev = s.ev := by cases k <;> rfl

@[simp] theorem Ring.signal_ev (q : Nat) (s : State) : (Ring.signal q s).ev = s.ev := by
  unfold Ring.signal
  split
  · dsimp only
    split
    · rw [Msix.signal_ev, State.modPair_ev]
    · rfl
  · rfl

@[simp] theorem Ring.post_ev (q : Nat) (r : Reply) (s : State) : (Ring.post q r s).ev = s.ev := by
  unfold Ring.post
  split
  · dsimp only
    split <;> simp
  · simp

/-- A source that is pending stays so. -/
def KeepsPending (s t : State) : Prop :=
  ∀ src, src < 256 → (vget s.ev.stat src {}).pending = true → (vget t.ev.stat src {}).pending = true

theorem KeepsPending.refl (s : State) : KeepsPending s s := fun _ _ p => p

theorem KeepsPending.of_ev_eq {s t : State} (h : t.ev = s.ev) : KeepsPending s t := fun _ _ p => by rwa [h]

theorem KeepsPending.trans {s t u : State} (h : KeepsPending s t) (g : KeepsPending t u) : KeepsPending s u :=
  fun src lt p => g src lt (h src lt p)

theorem KeepsPending.after {s t u : State} (g : KeepsPending t u) (h : t.ev.stat = s.ev.stat) : KeepsPending s u :=
  fun src lt p => g src lt (by rwa [h])

theorem Ev.record_keepsPending (src code arg : Nat) (cleared : Bool) (s : State) :
    KeepsPending s (Ev.record src code arg cleared s) :=
  fun _ lt p => Ev.wrapCheck_keeps_pending _ lt (Ev.recordOne_keeps_pending src code arg cleared lt p)

theorem Ring.reply_keepsPending (q : Nat) (r : Reply) (s : State) : KeepsPending s (Ring.reply q r s) := by
  unfold Ring.reply
  split
  · split
    · exact .of_ev_eq (Cmd.free_ev _ _)
    · split
      · exact .of_ev_eq (Ring.post_ev _ _ _)
      · dsimp only
        split
        · exact (Ev.record_keepsPending _ _ _ _ _).after rfl
        · exact (KeepsPending.refl _).after rfl
  · exact .of_ev_eq (Cmd.free_ev _ _)

theorem Cmd.finish_keepsPending (k : Key) (st : Byte) (res : Nat) (s : State) : KeepsPending s (Cmd.finish k st res s) := by
  unfold Cmd.finish
  split
  · split
    · exact .of_ev_eq (Cmd.free_ev _ _)
    · exact Ring.reply_keepsPending _ _ _
  · exact .refl s

theorem Ev.settle_keepsPending (n : Nat) : ∀ s : State, KeepsPending s (Ev.settle n s) := by
  induction n with
  | zero => exact .refl
  | succ n ih =>
    intro s
    unfold Ev.settle
    split
    · exact ((Cmd.finish_keepsPending _ _ _ _).trans (ih _)).after rfl
    · exact .refl s

/-- A raise leaves its source pending. -/
theorem Ev.raise_pending {src : Nat} (h : src < 256) (code arg : Nat) (s : State) :
    (vget (Ev.raise src code arg s).ev.stat src {}).pending = true :=
  Ev.settle_keepsPending _ _ src h (Ev.record_pending h code arg false s)

/-! ## Wrong proofs (R55) -/

theorem bodySessionProve_wrong {pk : Packet} {k : Key} {u : State} {n : Nonce} {secret : List Byte}
    (unlocked : inLockout u (pk.u16 8) = false) (live : liveNonce u (pk.u16 8) = some n) (rev : pk.rev.toNat = n.rev)
    (single : (pk.u16 8 == 0 && ahas u.cl.sessions 0) = false) (known : secretOf u (pk.u16 8) = some secret)
    (wrong : pk.bytes 18 32 ≠ hmac secret (leBytes 16 n.value.toNat ++ pk.bytes 10 8 ++ leBytes 2 (pk.u16 8) ++ leBytes 1 n.rev)) :
    bodySessionProve pk k u = .cond St.noRight 0 (failedProof (pk.u16 8) u) := by
  have single' : (decide (pk.u16 8 = 0) && ahas u.cl.sessions 0) = false := single
  have differs : (hostMac secret n (pk.bytes 10 8) (pk.u16 8) n.rev != pk.bytes 18 32) = true := by
    simpa [hostMac] using wrong.symm
  simp only [bodySessionProve, unlocked, live, rev, bne_self_eq_false, single', known, differs]
  rfl

/-- A failure below the third is counted. -/
theorem failedProof_of_few {t : Nat} {u : State} (few : (aget u.cl.fails t).getD 0 < 2) :
    failedProof t u = { consumeNonce t u with cl := { (consumeNonce t u).cl with
      fails := aset u.cl.fails t ((aget u.cl.fails t).getD 0 + 1) } } := by
  unfold failedProof
  exact if_neg (by change ¬ 3 ≤ (aget u.cl.fails t).getD 0 + 1; omega)

/-- The third failure in a row locks the tenant out. -/
theorem failedProof_of_third {t : Nat} {u : State} (third : 2 ≤ (aget u.cl.fails t).getD 0) :
    failedProof t u = Ev.raise 34 0 (packLe [(2, t)]) { consumeNonce t u with cl := { (consumeNonce t u).cl with
      fails := aerase u.cl.fails t, lockouts := aset u.cl.lockouts t (u.tb.elapsed + 60000000000) } } := by
  unfold failedProof
  exact if_pos (by change 3 ≤ (aget u.cl.fails t).getD 0 + 1; omega)

/-- Settles O18: the command ends in `failedProof`, below and from the third failure. -/
theorem wrongProofs : Obligations.WrongProofs := by
  unfold Obligations.WrongProofs
  rintro q pk s u n secret f passes begun unlocked live rev single known wrong rfl
  have ran : exec (.sessionProve q pk) s =
      .next (Cmd.final (nextKey q pk s) St.noRight 0 (State.withCreds s (failedProof (pk.u16 8) u))) := by
    change Host.Outcome.next (Cmd.run specSessionProve bodySessionProve q pk s) = _
    rw [Cmd.run_passes _ _ _ _ _ passes, ← begun, bodySessionProve_wrong unlocked live rev single known wrong]
    rfl
  by_cases few : (aget u.cl.fails (pk.u16 8)).getD 0 < 2
  · have counted := failedProof_of_few few
    refine ⟨_, ran, rfl, ?_, ?_, fun _ => ⟨?_, ?_, ?_⟩, fun third => absurd few (Nat.not_lt.mpr third)⟩
    all_goals
      rw [counted]
      rfl
  · have third := failedProof_of_third (Nat.not_lt.mp few)
    have clients := (Ev.raise_hubOnly 34 0 (packLe [(2, pk.u16 8)]) { consumeNonce (pk.u16 8) u with
      cl := { (consumeNonce (pk.u16 8) u).cl with
        fails := aerase u.cl.fails (pk.u16 8)
        lockouts := aset u.cl.lockouts (pk.u16 8) (u.tb.elapsed + 60000000000) } }).keeps (·.cl) (fun _ _ _ _ _ => rfl)
    rw [← third] at clients
    dsimp only at clients
    refine ⟨_, ran, rfl, ?_, ?_, fun less => absurd less few, fun _ => ⟨?_, ?_, ?_⟩⟩
    · exact (congrArg Clients.nonces clients :)
    · exact (congrArg Clients.sessions clients :)
    · exact (congrArg Clients.fails clients :)
    · exact (congrArg Clients.lockouts clients :)
    · change (vget (failedProof (pk.u16 8) u).ev.stat 34 {}).pending = true
      rw [third]
      exact Ev.raise_pending (by decide) _ _ _

/-! ## Queue pairs and tenants -/

theorem Case.queueCreate_runs (d : RingDesc) (n : Nat) : (Case.queueCreate d n).Runs .queueCreate := by
  refine Case.runs_of_body _ _ bodyQueueCreate (fun _ _ _ => rfl) fun pk k t h => ?_
  simp only [Case.queueCreate, Bool.and_eq_true, decide_eq_true_eq, beq_iff_eq] at h
  obtain ⟨⟨taken, within⟩, free⟩ := h
  have desc : parseDesc t (pk.bytes 8 32) = .ok d := by
    cases parsed : parseDesc t (pk.bytes 8 32) with
    | ok e =>
      rw [parsed] at taken
      exact congrArg Except.ok (Option.some.inj taken)
    | error st =>
      rw [parsed] at taken
      cases taken
  simp only [bodyQueueCreate, desc, if_neg (Nat.not_le.mpr within), free]
  rfl

theorem Case.queueDelete_runs (p : Pair) : (Case.queueDelete p).Runs .queueDelete := by
  refine Case.runs_of_body _ _ bodyQueueDelete (fun _ _ _ => rfl) fun pk k t h => ?_
  simp only [Case.queueDelete, Bool.and_eq_true, beq_iff_eq, bne_iff_ne, Bool.not_eq_true'] at h
  obtain ⟨⟨⟨hp, other⟩, standing⟩, sender⟩ := h
  have live : (decide (pk.u16 8 = 0) || p.deleting) = false := by simp [other, standing]
  have allowed : (p.ctx != pk.ctx && !pk.owner) = false := by
    rcases (Bool.or_eq_true _ _).mp sender with own | owner
    · rw [eq_of_beq own, bne_self_eq_false, Bool.false_and]
    · rw [owner, Bool.not_true, Bool.and_false]
  simp only [bodyQueueDelete, hp, live, allowed]
  rfl

theorem bpProtects_zero (r : Nat) : bpProtects 0 r = false := rfl

/-- With BP 0 a commit that is not an operation of the store is queued at once (R324). -/
theorem Nv.submit_of_unprotected {k : Key} {ctx : Nat} {c : CommitKind} {s : State} (bp : s.nv.bp = 0)
    (other : nvOpCommit c = false) : Nv.submit k ctx c s = .pend (Nv.enqueue (some k) ctx c s) := by
  have opened : bpRefuses s c = false := by
    unfold bpRefuses
    split
    · rw [bp]
      exact bpProtects_zero _
    · rfl
  simp only [Nv.submit, opened, other]
  rfl

theorem Case.clientInstall_runs : Case.clientInstall.Runs .clientInstall := by
  refine Case.runs_of_body _ _ bodyClientInstall (fun _ _ _ => rfl) fun pk k t h => ?_
  simp only [Case.clientInstall, Bool.and_eq_true, Bool.or_eq_true, decide_eq_true_eq, beq_iff_eq, bne_iff_ne] at h
  obtain ⟨⟨⟨⟨⟨tenant, weight⟩, limit⟩, prio⟩, secret⟩, bp⟩ := h
  have floor : (pk.u16 8 != 0 && !(decide (1 ≤ pk.u8 14) && decide (pk.u8 14 ≤ 16))) = false := by
    rcases prio with owner | prio
    · simp [owner]
    · simp [prio]
  have valid : (decide (1024 ≤ pk.u16 8) || !(decide (1 ≤ pk.u8 10) && decide (pk.u8 10 ≤ 16))
      || !(decide (1 ≤ pk.u8 11) && decide (pk.u8 11 ≤ 16))
      || (pk.u16 8 != 0 && !(decide (1 ≤ pk.u8 14) && decide (pk.u8 14 ≤ 16))) || decide (pk.le 16 32 = 0)) = false := by
    rw [floor]
    simp [tenant, weight, limit, secret]
  simp only [bodyClientInstall, valid, Bool.false_eq_true, if_false]
  exact Nv.submit_of_unprotected bp rfl

theorem Case.clientRights_runs : Case.clientRights.Runs .clientRights := by
  refine Case.runs_of_body _ _ bodyClientRights (fun _ _ _ => rfl) fun pk k t h => ?_
  simp only [Case.clientRights, Bool.and_eq_true, decide_eq_true_eq, beq_iff_eq, bne_iff_ne] at h
  obtain ⟨⟨⟨⟨other, tenant⟩, half⟩, has⟩, bp⟩ := h
  have valid : (decide (pk.u16 8 = 0) || decide (1024 ≤ pk.u16 8) || decide (2 ≤ pk.u8 10)) = false := by
    simp [other, Nat.not_le.mpr tenant, Nat.not_le.mpr half]
  simp only [bodyClientRights, valid, has, Bool.not_true, Bool.false_eq_true, if_false]
  exact Nv.submit_of_unprotected bp rfl

theorem Case.clientRemove_runs : Case.clientRemove.Runs .clientRemove := by
  refine Case.runs_of_body _ _ bodyClientRemove (fun _ _ _ => rfl) fun pk k t h => ?_
  simp only [Case.clientRemove, Bool.and_eq_true, decide_eq_true_eq, beq_iff_eq, bne_iff_ne] at h
  obtain ⟨⟨⟨other, tenant⟩, has⟩, bp⟩ := h
  have valid : (decide (pk.u16 8 = 0) || decide (1024 ≤ pk.u16 8)) = false := by simp [other, Nat.not_le.mpr tenant]
  simp only [bodyClientRemove, valid, has, Bool.not_true, Bool.false_eq_true, if_false]
  exact Nv.submit_of_unprotected bp rfl

/-- Settles O19: each command by the branches that its condition opens. -/
theorem queueAndClientCommands : Obligations.QueueAndClientCommands := by
  unfold Obligations.QueueAndClientCommands
  exact ⟨Case.queueCreate_runs, Case.queueDelete_runs, Case.clientInstall_runs, Case.clientRights_runs, Case.clientRemove_runs⟩

end Sys2Proof.Machine
end

section
/-!
Point records (R61 to R71, R378 to R380): the point commands, watches and sources, the present value, and the storing of a
record. Settles O20, O21 and O22.
-/

namespace Sys2Proof.Machine

/-! ## Loading a record -/

theorem Point.load_of_sound {id : Nat} {p : Point} {s : State} (sound : pointSound s id p = true) :
    Point.load id p s = (true, Point.touch id s) := if_pos sound

theorem Point.load_of_unsound {id : Nat} {p : Point} {s : State} (unsound : pointSound s id p = false) :
    (Point.load id p s).1 = false := by
  rw [Point.load, if_neg (Bool.eq_false_iff.mp unsound)]
  split <;> rfl

theorem Point.load_of_fails {id : Nat} {p : Point} {s : State} (unsound : pointSound s id p = false)
    (unmarked : s.pts.failed.contains id = false) :
    Point.load id p s = (false, Panel.faultLatch id (Ev.raise 35 0 (packLe [(5, id)])
      { s with pts := { s.pts with failed := id :: s.pts.failed } })) := by
  rw [Point.load, if_neg (Bool.eq_false_iff.mp unsound), if_neg (Bool.eq_false_iff.mp unmarked)]

theorem onRecord_iff {p : Point} {pk : Packet} {t : State} :
    Case.onRecord p pk t = true ↔
      (pointIdOk (pk.point 8) = true ∧ t.point (pk.point 8) = some p) ∧ pointSound t (pk.point 8) p = true := by
  simp only [Case.onRecord, Bool.and_eq_true, beq_iff_eq]

/-- A command on a sound record works on it in the state that has loaded it (R61, R71, R379). -/
theorem onPoint_of_onRecord {p : Point} {pk : Packet} {t : State} (h : Case.onRecord p pk t = true)
    (f : Nat → Point → State → Verdict) : onPoint pk t f = f (pk.point 8) p (Point.touch (pk.point 8) t) := by
  obtain ⟨⟨idOk, found⟩, sound⟩ := onRecord_iff.mp h
  simp only [onPoint, idOk, found, Point.load_of_sound sound]
  rfl

/-! ## Point commands -/

theorem Case.pointRead_runs (p : Point) : (Case.pointRead p).Runs .pointRead := by
  refine Case.runs_of_body _ _ bodyPointRead (fun _ _ _ => rfl) fun pk k t h => ?_
  simp only [Case.pointRead, Bool.and_eq_true, decide_eq_true_eq, bne_iff_ne] at h
  obtain ⟨⟨record, right⟩, part⟩ := h
  rw [bodyPointRead, onPoint_of_onRecord record]
  exact (if_neg right).trans (if_neg (Nat.not_lt.mpr part))

theorem Case.pointReadFails_runs (p : Point) : (Case.pointReadFails p).Runs .pointRead := by
  refine Case.runs_of_body _ _ bodyPointRead (fun _ _ _ => rfl) fun pk k t h => ?_
  simp only [Case.pointReadFails, Bool.and_eq_true, beq_iff_eq, Bool.not_eq_true'] at h
  obtain ⟨⟨⟨⟨idOk, found⟩, uncached⟩, broken⟩, unmarked⟩ := h
  have unsound : pointSound t (pk.point 8) p = false := by
    rw [pointSound, uncached, broken]
    exact Bool.and_false _
  simp only [bodyPointRead, onPoint, idOk, found, Point.load_of_fails unsound unmarked, Bool.not_true, Bool.false_eq_true,
    if_false]
  rfl

/-- POINT_WRITE past its checks (R67, R68). -/
theorem bodyPointWrite_of_allowed {p : Point} {pk : Packet} {k : Key} {t : State} (record : Case.onRecord p pk t = true)
    (may : mayWrite (Point.touch (pk.point 8) t) pk.ctx (pk.u8 13) p = true) (own : p.reflection = false)
    (level : pk.u8 13 ≤ 16) (op : pk.u8 14 ≤ 1) (open' : sourceShaded (Point.touch (pk.point 8) t) p.source = false)
    (out : pk.u8 13 = 0 → p.oos = true ∧ pk.u8 14 = 0) (kind : pk.u8 13 ≠ 0 → p.kind = 0)
    (typed : pk.u8 14 = 0 → p.type ≠ 3#2 ∧ typeAccepts p.type (BitVec.ofNat 32 (pk.u32 16)) = true)
    {v : Option Word} (value : v = if pk.u8 14 = 0 then some (BitVec.ofNat 32 (pk.u32 16)) else none)
    {u : State} (written : u = Point.update (pk.point 8) p.status
      (if pk.u8 13 = 0 then { p with value := v.getD p.value } else p.setLevel (pk.u8 13) v) (Point.touch (pk.point 8) t)) :
    bodyPointWrite pk k t = .ok (writeResult (pk.point 8) u) u := by
  have inRange : (decide (16 < pk.u8 13) || decide (1 < pk.u8 14)) = false := by
    simp [Nat.not_lt.mpr level, Nat.not_lt.mpr op]
  have held : (decide (pk.u8 13 = 0) && (!p.oos || v.isNone)) = false := by
    by_cases zero : pk.u8 13 = 0
    · simp [value, out zero]
    · simp [zero]
  have fixed : (pk.u8 13 != 0 && p.kind != 0) = false := by
    by_cases zero : pk.u8 13 = 0
    · simp [zero]
    · simp [kind zero]
  have accepted : (v.map (fun w => p.type != 3 && typeAccepts p.type w)).getD true = true := by
    by_cases given : pk.u8 14 = 0
    · simp [value, given, typed given]
    · simp [value, given]
  rw [bodyPointWrite, onPoint_of_onRecord record]
  simp only [may, own, inRange, open', ← value, held, fixed, accepted, written]
  rfl

theorem Case.pointWrite_runs (p : Point) : (Case.pointWrite p).Runs .pointWrite := by
  refine Case.runs_of_body _ _ bodyPointWrite (fun _ _ _ => rfl) fun pk k t h => ?_
  simp only [Case.pointWrite, Bool.and_eq_true, decide_eq_true_eq, beq_iff_eq, bne_iff_ne, Bool.not_eq_true'] at h
  obtain ⟨⟨⟨⟨⟨⟨⟨⟨⟨record, level⟩, value⟩, right⟩, floor⟩, own⟩, kind⟩, open'⟩, typed⟩, accepted⟩ := h
  have above : pk.u8 13 ≠ 0 := by omega
  refine bodyPointWrite_of_allowed record ?_ own level.2 (by omega) open' (fun zero => absurd zero above) (fun _ => kind)
    (fun _ => ⟨typed, accepted⟩) (if_pos value).symm ?_
  · simp [mayWrite, above, right, floor]
  · rw [if_neg above]
    rfl

theorem Case.pointRelinquish_runs (p : Point) : (Case.pointRelinquish p).Runs .pointWrite := by
  refine Case.runs_of_body _ _ bodyPointWrite (fun _ _ _ => rfl) fun pk k t h => ?_
  simp only [Case.pointRelinquish, Bool.and_eq_true, decide_eq_true_eq, beq_iff_eq, Bool.not_eq_true'] at h
  obtain ⟨⟨⟨⟨⟨⟨⟨record, level⟩, gives⟩, right⟩, floor⟩, own⟩, kind⟩, open'⟩ := h
  have above : pk.u8 13 ≠ 0 := by omega
  have none' : pk.u8 14 ≠ 0 := by omega
  refine bodyPointWrite_of_allowed record ?_ own level.2 (by omega) open' (fun zero => absurd zero above) (fun _ => kind)
    (fun zero => absurd zero none') (if_neg none').symm ?_
  · simp [mayWrite, above, right, floor]
  · rw [if_neg above]
    rfl

theorem Case.pointWriteOut_runs (p : Point) : (Case.pointWriteOut p).Runs .pointWrite := by
  refine Case.runs_of_body _ _ bodyPointWrite (fun _ _ _ => rfl) fun pk k t h => ?_
  simp only [Case.pointWriteOut, Bool.and_eq_true, beq_iff_eq, bne_iff_ne, Bool.not_eq_true'] at h
  obtain ⟨⟨⟨⟨⟨⟨⟨⟨record, level⟩, value⟩, may⟩, own⟩, out⟩, open'⟩, typed⟩, accepted⟩ := h
  refine bodyPointWrite_of_allowed record ?_ own (by omega) (by omega) open' (fun _ => ⟨out, value⟩)
    (fun above => absurd level above) (fun _ => ⟨typed, accepted⟩) (if_pos value).symm ?_
  · rw [mayWrite, if_pos level, may]
  · rw [if_pos level]
    rfl

theorem Case.pointCreate_runs : Case.pointCreate.Runs .pointCreate := by
  refine Case.runs_of_body _ _ bodyPointCreate (fun _ _ _ => rfl) fun pk k t h => ?_
  simp only [Case.pointCreate, Bool.and_eq_true, decide_eq_true_eq, beq_iff_eq, Bool.not_eq_true', Option.isNone_iff_eq_none] at h
  obtain ⟨⟨⟨⟨⟨⟨⟨⟨⟨⟨idOk, fresh⟩, right⟩, owner⟩, chip⟩, room⟩, ownerOk⟩, relinquish⟩, increment⟩, source⟩, pins⟩ := h
  have allowed : (rightOn t pk.ctx (pk.u8 14) != 3 || ownerRefused t pk) = false := by simp [right, owner]
  have ours : (pk.point 8 / 2 ^ 24 != t.fed.chip) = false := by
    rw [chip]
    exact bne_self_eq_false _
  have values : (!relinquishOk (BitVec.ofNat 2 (pk.u8 13)) (BitVec.ofNat 32 (pk.u32 16)) || !fNonNeg (pk.f32 20)) = false := by
    simp [relinquish, increment]
  simp only [bodyPointCreate, idOk, fresh, Option.isSome_none, allowed, ours, if_neg (Nat.not_le.mpr room),
    if_neg (Nat.not_le.mpr ownerOk), values, source, pins]
  rfl

theorem Case.pointConfig_runs (p : Point) : (Case.pointConfig p).Runs .pointConfig := by
  refine Case.runs_of_body _ _ bodyPointConfig (fun _ _ _ => rfl) fun pk k t h => ?_
  obtain ⟨record, h⟩ := (Bool.and_eq_true _ _).mp h
  rw [bodyPointConfig, onPoint_of_onRecord record]
  simp only [Bool.and_eq_true, Bool.not_eq_true'] at h
  obtain ⟨⟨⟨⟨⟨⟨⟨may, group⟩, owner⟩, own⟩, relinquish⟩, increment⟩, source⟩, pins⟩ := h
  generalize touched : Point.touch (pk.point 8) t = u at *
  have allowed : (!mayConfigure u pk.ctx p || (maskBit pk 0 && rightOn u pk.ctx (pk.u8 14) != 3)
      || (maskBit pk 4 && ownerRefused u pk)) = false := by
    cases named : maskBit pk 4 with
    | true =>
      rw [named, Bool.true_and, Bool.or_eq_false_iff] at owner
      rw [may, group, owner.1]
      rfl
    | false =>
      rw [may, group]
      rfl
  have ownerOk : (maskBit pk 4 && decide (1024 ≤ pk.u16 24)) = false := by
    cases named : maskBit pk 4 with
    | true =>
      rw [named, Bool.true_and, Bool.or_eq_false_iff] at owner
      exact owner.2
    | false => rfl
  have taken : (if maskBit pk 5 = true then judgeSource u p.type (packetSource pk) else none) = none := by
    cases bound : maskBit pk 5 with
    | true =>
      rw [bound, Bool.true_and, Option.isSome_eq_false_iff, Option.isNone_iff_eq_none] at source
      rw [source, ite_self]
    | false => rfl
  simp only [allowed, own, ownerOk, relinquish, increment, taken, pins]
  subst touched
  rfl

theorem Case.pointDelete_runs (p : Point) : (Case.pointDelete p).Runs .pointDelete := by
  refine Case.runs_of_body _ _ bodyPointDelete (fun _ _ _ => rfl) fun pk k t h => ?_
  simp only [Case.pointDelete, Bool.and_eq_true, Bool.not_eq_true'] at h
  obtain ⟨⟨⟨record, may⟩, own⟩, free⟩ := h
  obtain ⟨⟨idOk, found⟩, sound⟩ := onRecord_iff.mp record
  simp only [bodyPointDelete, idOk, found, Point.load_of_sound sound, may, own, free]
  rfl

theorem Case.pointWatch_runs (p : Point) : (Case.pointWatch p).Runs .pointWatch := by
  refine Case.runs_of_body _ _ bodyPointWatch (fun _ _ _ => rfl) fun pk k t h => ?_
  simp only [Case.pointWatch, Bool.and_eq_true, decide_eq_true_eq, bne_iff_ne] at h
  obtain ⟨⟨record, right⟩, time⟩ := h
  have inRange : (decide (pk.u32 16 = 0) || decide (86400000 < pk.u32 16)) = false := by
    simp only [Bool.or_eq_false_iff, decide_eq_false_iff_not]
    omega
  have right' : ¬ rightOn (Point.touch (pk.point 8) t) pk.ctx p.group.toNat = 0 := right
  rw [bodyPointWatch, onPoint_of_onRecord record]
  simp only [inRange, if_neg right']
  rfl

/-! ## Watches and sources -/

/-- What the end of its time does to a watch, in the state `u` at that time. -/
def Watch.timeOut (w : Watch) (u : State) : State :=
  let v : State := { u with pts := { u.pts with watches := u.pts.watches.filter (fun x => x.key != w.key) } }
  let l := Point.loadAt w.id v
  let p := l.2.point w.id
  if !l.1 then Cmd.final w.key St.crcFail 0 l.2
  else Cmd.final w.key St.ok (result [(5, 4, (p.map (·.value.toNat)).getD 0), (9, 4, (p.map (·.status.toNat)).getD 0),
    (13, 1, 2)]) l.2

theorem exec_watchTimeout {q tag : Nat} {w : Watch} {s : State}
    (found : s.pts.watches.find? (fun x => x.key.q == q && x.key.tag == tag) = some w) :
    exec (.watchTimeout q tag) s = .next (w.timeOut (untilElapsed w.deadline s)) := by
  change execWatchTimeout q tag s = _
  rw [execWatchTimeout, found]
  rfl

/-- The end of a watch's time loads its record: WHY 2, or CRC_FAIL where the record fails (R69, R71). -/
theorem Watch.timeOut_eq {w : Watch} {p : Point} {u v : State}
    (ended : v = { u with pts := { u.pts with watches := u.pts.watches.filter (fun x => x.key != w.key) } })
    (hp : v.point w.id = some p) :
    w.timeOut u =
      if (Point.load w.id p v).1 then Cmd.final w.key St.ok
        (result [(5, 4, (((Point.load w.id p v).2.point w.id).map (·.value.toNat)).getD 0),
          (9, 4, (((Point.load w.id p v).2.point w.id).map (·.status.toNat)).getD 0), (13, 1, 2)]) (Point.load w.id p v).2
      else Cmd.final w.key St.crcFail 0 (Point.load w.id p v).2 := by
  have loaded : Point.loadAt w.id v = Point.load w.id p v := by simp only [Point.loadAt, hp]
  cases sound : (Point.load w.id p v).1 with
  | true => simp only [Watch.timeOut, ← ended, loaded, sound, Bool.not_true, Bool.false_eq_true, if_false, if_true]
  | false => simp only [Watch.timeOut, ← ended, loaded, sound, Bool.not_false, Bool.false_eq_true, if_false, if_true]

theorem exec_pointSourceUpdate {id : Nat} {p : Point} {s : State} {r : SourceNow} (hp : s.point id = some p)
    (now : sourceNow s p = some r) :
    exec (.pointSourceUpdate id) s = .next (
      if (Point.load id p s).1 then Point.update id p.status (p.withSource r.1 r.2) (Point.load id p s).2
      else (Point.load id p s).2) := by
  change execPointSourceUpdate id s = _
  simp only [execPointSourceUpdate, hp, Option.bind_some, now, Point.deliver]

theorem exec_pointSourceUpdate_of_none {id : Nat} {s : State} (none' : (s.point id).bind (sourceNow s) = none) :
    exec (.pointSourceUpdate id) s = .next s := by
  change execPointSourceUpdate id s = _
  simp only [execPointSourceUpdate, none']

/-- Settles O20: the point commands run, and a watch and a source load their record first. -/
theorem pointCommands : Obligations.PointCommands := by
  unfold Obligations.PointCommands
  refine ⟨Case.pointRead_runs, Case.pointReadFails_runs, Case.pointWrite_runs, Case.pointRelinquish_runs,
    Case.pointWriteOut_runs, Case.pointCreate_runs, Case.pointConfig_runs, Case.pointDelete_runs, Case.pointWatch_runs,
    fun q tag w p s u found waited hp => ?watch, fun id p v f s hp sound now => ?delivered,
    fun id p r s hp unsound now => ?refused, fun id s none' => exec_pointSourceUpdate_of_none ?nothing⟩
  case watch =>
    generalize ended : ({ u with pts := { u.pts with watches := u.pts.watches.filter (fun x => x.key != w.key) } } : State) = v
    have hv : v.point w.id = some p := by
      subst ended
      exact hp
    have same : pointSound v w.id p = pointSound u w.id p := by
      subst ended
      rfl
    have timeout : exec (.watchTimeout q tag) s = .next (w.timeOut u) := by rw [exec_watchTimeout found, ← waited]
    rw [Watch.timeOut_eq ended.symm hv] at timeout
    refine ⟨fun sound => ?_, fun unsound => ⟨_, ?_, rfl⟩⟩
    · have kept : (Point.touch w.id v).point w.id = some p := hv
      rw [timeout, Point.load_of_sound (same.trans sound), if_pos rfl, kept]
      rfl
    · rw [timeout, Point.load_of_unsound (same.trans unsound), if_neg Bool.false_ne_true]
  case delivered => rw [exec_pointSourceUpdate hp now, Point.load_of_sound sound, if_pos rfl]
  case refused => rw [exec_pointSourceUpdate hp now, Point.load_of_unsound unsound, if_neg Bool.false_ne_true]
  case nothing =>
    cases found : s.point id with
    | none => rfl
    | some p => exact none' p found

/-! ## The present value (R67, R378) -/

theorem levelFrom_zero (n i : Nat) : levelFrom 0#16 n i = 0 := by
  induction n generalizing i with
  | zero => rfl
  | succ n ih =>
    rw [levelFrom, BitVec.getLsbD_zero, if_neg Bool.false_ne_true]
    exact ih (i + 1)

/-- The search from level `i` on finds the lowest active one. -/
theorem levelFrom_of_first {active : BitVec 16} {k : Nat} (set : active.getLsbD k = true)
    (below : ∀ j, j < k → active.getLsbD j = false) : ∀ n i, i ≤ k → k < i + n → levelFrom active n i = k + 1 := by
  intro n
  induction n with
  | zero => intro i _ _; omega
  | succ n ih =>
    intro i le lt
    rw [levelFrom]
    by_cases here : i = k
    · rw [here, if_pos set]
    · rw [if_neg (by simp [below i (by omega)])]
      exact ih (i + 1) (by omega) (by omega)

theorem shiftOne_getLsbD {n : Nat} (m : Nat) (hn : n < 32) : (1#32 <<< n).getLsbD m = decide (m = n) := by
  rw [BitVec.getLsbD_shiftLeft, BitVec.getLsbD_one]
  by_cases same : m = n
  · simp [same, hn]
  · have apart : m < n ∨ m - n ≠ 0 := by omega
    rcases apart with below | above
    · simp [below, same]
    · simp [above, same]

theorem putBit_getLsbD (w : Word) {n m : Nat} (b : Bool) (hm : m < 32) (hn : n < 32) :
    (putBit w n b).getLsbD m = if m = n then b else w.getLsbD m := by
  cases b with
  | true =>
    rw [putBit, if_pos rfl, BitVec.getLsbD_or, shiftOne_getLsbD m hn]
    by_cases same : m = n <;> simp [same]
  | false =>
    rw [putBit, if_neg Bool.false_ne_true, BitVec.getLsbD_and, BitVec.getLsbD_not, shiftOne_getLsbD m hn]
    by_cases same : m = n <;> simp [same, hm]

/-- FAULT after a source's result: the source's own, or that the TYPE takes no such value (R378). -/
theorem Point.withSource_fault (p : Point) (v : SrcVal) (f : SrcFlags) :
    (p.withSource (some v) f).status.getLsbD stFault = (f.fault || (sourceValue p.type v).isNone) := by
  simp only [Point.withSource]
  rw [putBit_getLsbD _ _ (by decide) (by decide), if_neg (by decide), putBit_getLsbD _ _ (by decide) (by decide),
    if_neg (by decide), putBit_getLsbD _ _ (by decide) (by decide), if_pos rfl]

theorem sourceValue_of_fp {ty : BitVec 2} {v : F32} (h : ty = 1 ∨ ty = 2) :
    sourceValue ty (.fp v) =
      if ffinite v then
        some (if ty = 1 then BitVec.ofInt 32 (max 0 (min 1 (roundAway (fnum v))))
          else BitVec.ofInt 32 (max 1 (min 65535 (roundAway (fnum v)))))
      else none := by
  rcases h with rfl | rfl <;> rfl

theorem Point.configured_latest {p : Point} {pk : Packet} (bound : maskBit pk 5 = true) : (p.configured pk).latest = none := by
  simp only [Point.configured, bound, if_true]

/-- A SOURCE that has given a result is resolved by it. -/
theorem Point.resolved_of_result {p : Point} {v : SrcVal} (inService : p.oos = false) (bound : p.kind ≠ 0)
    (latest : p.latest = some v) : p.resolved = (sourceValue p.type v).getD p.value := by
  have kind : (p.kind != 0) = true := by simpa using bound
  simp only [Point.resolved, inService, kind, latest, if_true, Bool.false_eq_true, if_false]

theorem Point.resolved_of_noResult {p : Point} (inService : p.oos = false) (bound : p.kind ≠ 0) (fresh : p.latest = none) :
    p.resolved = p.relinquish := by
  have kind : (p.kind != 0) = true := by simpa using bound
  simp only [Point.resolved, inService, kind, fresh, if_true, Bool.false_eq_true, if_false]

theorem Point.resolved_of_levels {p : Point} (inService : p.oos = false) (unbound : p.kind = 0) :
    p.resolved = if p.inForce = 0 then p.relinquish else vget p.priority (p.inForce - 1) 0 := by
  have kind : (p.kind != 0) = false := by simpa using unbound
  simp only [Point.resolved, inService, kind, Bool.false_eq_true, if_false]

/-- Settles O21: the value by the branch of R67, the stamp by its bits, a source's result by the TYPE. -/
theorem presentValue : Obligations.PresentValue := by
  unfold Obligations.PresentValue
  rintro p _ s rfl
  change _ ∧ _ ∧ (_ → p.resolved = _) ∧ (_ → _ → ∀ v w, _ → _ → p.resolved = w) ∧ (_ → _ → _ → p.resolved = _) ∧ _ ∧
    (_ → _ → ∀ v, _ → _ → p.resolved = _) ∧ _ ∧ _ ∧ (_ → _ → _ → p.resolved = _) ∧
    (_ → _ → ∀ i, _ → _ → _ → p.resolved = _ ∧ _)
  refine ⟨?stamp, rfl, fun out => ?out, fun inService bound v w latest value => ?value,
    fun inService bound none' => ?unbound, fun pk bound => Point.configured_latest bound,
    fun inService bound v latest bad => ?bad, fun v f ty => ⟨fun infinite => ?infinite, fun finite => ?finite⟩,
    fun w ty => ?unsigned, fun inService unbound idle => ?idle, fun inService unbound i hi set below => ?level⟩
  case stamp => exact BitVec.toNat_ofNat _ _
  case out => simp only [Point.resolved, out, if_true]
  case value => rw [Point.resolved_of_result inService bound latest, value, Option.getD_some]
  case unbound => exact Point.resolved_of_noResult inService bound none'
  case bad => rw [Point.resolved_of_result inService bound latest, bad, Option.getD_none]
  case infinite =>
    have none' : sourceValue p.type (.fp v) = none := by rw [sourceValue_of_fp ty, infinite]; rfl
    refine ⟨none', ?_⟩
    rw [Point.withSource_fault, none', Option.isNone_none, Bool.or_true]
  case finite =>
    have value := sourceValue_of_fp (v := v) ty
    rw [if_pos finite] at value
    refine ⟨?_, fun one => ?_, fun two => ?_⟩
    · rw [Point.withSource_fault, value, Option.isNone_some, Bool.or_false]
    · rw [value, if_pos one]
    · rw [value, if_neg (by rw [two]; decide)]
  case unsigned => rw [ty]; rfl
  case idle =>
    have none' : p.inForce = 0 := by
      rw [Point.inForce, idle]
      exact levelFrom_zero 16 0
    rw [Point.resolved_of_levels inService unbound, if_pos none']
  case level =>
    have first : p.inForce = i + 1 := levelFrom_of_first set below 16 0 (Nat.zero_le i) (by omega)
    refine ⟨?_, first⟩
    rw [Point.resolved_of_levels inService unbound, first, if_neg (Nat.succ_ne_zero i)]
    rfl

/-! ## Storing a record (R69) -/

/-- Settles O22: the seal alone, or COV_LAST, the seal and the notices. -/
theorem recordsStored : Obligations.RecordsStored := by
  unfold Obligations.RecordsStored
  intro id old p s
  refine ⟨fun same => ⟨?_, aget_aset _ _ _⟩, fun due => ?_⟩
  · rw [Point.store, if_neg (Bool.eq_false_iff.mp same)]
    rfl
  · rw [Point.store, if_pos due]
    rfl

end Sys2Proof.Machine
end

section
/-!
Universal inputs (R84, R86, R87, R91, R92, R95, Table 5.7): their commands, what a METER input shows, protection and pulses.
Settles O23, O24 and O25.
-/

namespace Sys2Proof.Machine

theorem whenever_of_false {c : Bool} {f : State → State} {s : State} (h : c = false) : whenever c f s = s :=
  if_neg (Bool.eq_false_iff.mp h)

/-! ## Packets that name a tile or an input -/

theorem tileOk_iff {pk : Packet} {t : State} : Case.tileOk pk t = true ↔ pk.u8 8 < 4 ∧ t.tileOn (pk.u8 8) = true := by
  simp only [Case.tileOk, Bool.and_eq_true, decide_eq_true_eq]

/-- A command on a powered tile works on it (R1). -/
theorem onTile_of_tileOk {pk : Packet} {t : State} (h : Case.tileOk pk t = true) (f : Nat → Verdict) :
    onTile pk t f = f (pk.u8 8) := by
  obtain ⟨named, on⟩ := tileOk_iff.mp h
  simp only [onTile, if_neg (Nat.not_le.mpr named), on, Bool.not_true, Bool.false_eq_true, if_false]

theorem onInput_of_inputOk {pk : Packet} {t : State} (h : Case.inputOk pk t = true) (f : Nat → Nat → Verdict) :
    onInput pk t f = f (pk.u8 8) (pk.u8 9) := by
  obtain ⟨tile, named⟩ := (Bool.and_eq_true _ _).mp h
  rw [onInput, onTile_of_tileOk tile]
  exact if_neg (Nat.not_le.mpr (of_decide_eq_true named))

/-! ## Commands on inputs -/

theorem Input.configure_of_visited {t i : Nat} {c : InCfg} {s : State} (h : visited s t i = true) :
    Input.configure t i c s = s.modInput t i (fun x => { x with wait := some c }) := if_pos h

theorem Input.configure_of_free {t i : Nat} {c : InCfg} {s : State} (h : visited s t i = false) :
    Input.configure t i c s = s.modInput t i (fun x => x.take c) := if_neg (Bool.eq_false_iff.mp h)

/-- INPUT_CONFIG of a record that its checks take (R91). -/
theorem bodyInputConfig_of_judged {pk : Packet} {k : Key} {t : State} (ok : Case.inputOk pk t = true)
    (judged : (judgeConfig t (pk.u8 8) (pk.u8 9) (Case.inputRecord pk)).isNone = true) :
    bodyInputConfig pk k t = .ok 0 (Input.configure (pk.u8 8) (pk.u8 9) (Case.inputRecord pk) t) := by
  have judged' : judgeConfig t (pk.u8 8) (pk.u8 9) (packetCfg pk) = none := Option.isNone_iff_eq_none.mp judged
  rw [bodyInputConfig, onInput_of_inputOk ok]
  simp only [judged']
  rfl

theorem Case.inputConfig_runs : Case.inputConfig.Runs .inputConfig := by
  refine Case.runs_of_body _ _ bodyInputConfig (fun _ _ _ => rfl) fun pk k t h => ?_
  simp only [Case.inputConfig, Bool.and_eq_true, Bool.not_eq_true'] at h
  obtain ⟨⟨ok, judged⟩, free⟩ := h
  rw [bodyInputConfig_of_judged ok judged, Input.configure_of_free free]
  rfl

theorem Case.inputConfigWaits_runs : Case.inputConfigWaits.Runs .inputConfig := by
  refine Case.runs_of_body _ _ bodyInputConfig (fun _ _ _ => rfl) fun pk k t h => ?_
  simp only [Case.inputConfigWaits, Bool.and_eq_true] at h
  obtain ⟨⟨ok, judged⟩, busy⟩ := h
  rw [bodyInputConfig_of_judged ok judged, Input.configure_of_visited busy]
  rfl

theorem Case.inputRead_runs : Case.inputRead.Runs .inputRead := by
  refine Case.runs_of_body _ _ bodyInputRead (fun _ _ _ => rfl) fun pk k t h => ?_
  rw [bodyInputRead, onInput_of_inputOk h]
  rfl

theorem urgentReady_eq_none {s : State} {t : Nat} (ready : (s.tile t).refReady = true) (idle : calibrating s t 1 = false)
    (calibrated : (s.conv t 1).calibrated = true) : urgentReady s t = none := by
  simp only [urgentReady, ready, idle, calibrated, Bool.not_true, Bool.false_eq_true, if_false]

theorem Urgent.enqueue_of_room {t : Nat} {u : Urgent} {s : State} (room : (s.tile t).urgent.length < 8) :
    Urgent.enqueue t u s = .pend (s.modTile t (fun x => { x with urgent := x.urgent ++ [u] })) :=
  if_neg (Nat.not_le.mpr room)

theorem Case.inputTest_runs : Case.inputTest.Runs .inputTest := by
  refine Case.runs_of_body _ _ bodyInputTest (fun _ _ _ => rfl) fun pk k t h => ?_
  simp only [Case.inputTest, Bool.and_eq_true, decide_eq_true_eq, Bool.not_eq_true'] at h
  obtain ⟨⟨⟨⟨⟨ok, code⟩, ready⟩, idle⟩, calibrated⟩, room⟩ := h
  rw [bodyInputTest, onInput_of_inputOk ok]
  simp only [if_neg (Nat.not_le.mpr code), urgentReady_eq_none ready idle calibrated]
  exact Urgent.enqueue_of_room room

/-! ### Tables in four parts -/

theorem Stage.put_first {q tile index : Nat} {kind : StageKind} {bytes : List Byte} {s : State} :
    Stage.put q kind tile index 0 bytes s = some (s.modPair q (fun p => { p with
      stage := some { kind := kind, tile := tile, index := index, next := 1, bytes := bytes } })) := rfl

/-- The part expected next joins those staged (R168). -/
theorem Stage.put_next {q part : Nat} {g : Stage} {bytes : List Byte} {s : State} (hg : (s.pair q).bind (·.stage) = some g)
    (next : g.next = part) (later : part ≠ 0) :
    Stage.put q g.kind g.tile g.index part bytes s = some (s.modPair q (fun p => { p with
      stage := some { g with next := part + 1, bytes := g.bytes ++ bytes } })) := by
  simp only [Stage.put, if_neg later, hg, next, beq_self_eq_true, Bool.and_self, if_true]

/-- Where a pair has something staged, changing its stage puts the new one there. -/
theorem State.stage_modPair {q : Nat} {g : Stage} {s : State} (hg : (s.pair q).bind (·.stage) = some g) (f : Option Stage) :
    ((s.modPair q (fun p => { p with stage := f })).pair q).bind (·.stage) = f := by
  cases hp : s.pair q with
  | none => simp [hp] at hg
  | some p => simp [State.modPair_pair, hp]

theorem bodyInputTable_last {pk : Packet} {k : Key} {u : State} {g : Stage} {l : List (F32 × F32)}
    (tile : Case.tileOk pk u = true) (table : pk.u8 9 < 32) (part : pk.u8 10 = 3) (hg : (u.pair k.q).bind (·.stage) = some g)
    (kind : g.kind = .table) (onTile' : g.tile = pk.u8 8) (index : g.index = pk.u8 9) (next : g.next = 3)
    (pairs : l = xyPairs (g.bytes ++ pk.bytes 16 32)) (rises : risesStrictly l = true) :
    bodyInputTable pk k u = .ok 0 ((Stage.drop k.q (u.modPair k.q (fun p => { p with
      stage := some { g with next := 4, bytes := g.bytes ++ pk.bytes 16 32 } }))).modTile (pk.u8 8)
        (fun x => { x with tables := vset x.tables (pk.u8 9) (some l) })) := by
  have names : (decide (32 ≤ pk.u8 9) || decide (4 ≤ 3)) = false := by simp [Nat.not_le.mpr table]
  have put : Stage.put k.q .table (pk.u8 8) (pk.u8 9) 3 (pk.bytes 16 32) u = some (u.modPair k.q (fun p => { p with
      stage := some { g with next := 3 + 1, bytes := g.bytes ++ pk.bytes 16 32 } })) := by
    rw [← kind, ← onTile', ← index]
    exact Stage.put_next hg next (by decide)
  have staged : stagedBytes (u.modPair k.q (fun p => { p with
      stage := some { g with next := 3 + 1, bytes := g.bytes ++ pk.bytes 16 32 } })) k.q = g.bytes ++ pk.bytes 16 32 := by
    rw [stagedBytes, State.stage_modPair hg]
    rfl
  rw [bodyInputTable, onTile_of_tileOk tile]
  simp only [names, part, put, staged, ← pairs, rises, Bool.false_eq_true, if_false, Nat.lt_irrefl, if_true]

theorem bodyInputTable_first {pk : Packet} {k : Key} {u : State} (tile : Case.tileOk pk u = true) (table : pk.u8 9 < 32)
    (part : pk.u8 10 = 0) :
    bodyInputTable pk k u = .ok 0 (u.modPair k.q (fun p => { p with
      stage := some { kind := .table, tile := pk.u8 8, index := pk.u8 9, next := 1, bytes := pk.bytes 16 32 } })) := by
  have names : (decide (32 ≤ pk.u8 9) || decide (4 ≤ 0)) = false := by simp [Nat.not_le.mpr table]
  rw [bodyInputTable, onTile_of_tileOk tile]
  simp only [part, names, Stage.put_first, Bool.false_eq_true, if_false, if_pos (show 0 < 3 by decide)]

theorem exec_inputTable {q : Nat} {pk : Packet} {s u v : State} (passes : Cmd.passes specInputTable q pk s = true)
    (begun : u = Cmd.begun specInputTable q pk s) (done : bodyInputTable pk (nextKey q pk s) u = .ok 0 v) :
    exec (.inputTable q pk) s = .next (Cmd.final (nextKey q pk s) St.ok 0 (State.withCreds s v)) := by
  change Host.Outcome.next (Cmd.run specInputTable bodyInputTable q pk s) = _
  rw [Cmd.run_passes _ _ _ _ _ passes, ← begun, done]
  rfl

/-- Settles O23: the commands run, and a table's parts are staged and, with the fourth, put in force. -/
theorem inputCommands : Obligations.InputCommands := by
  unfold Obligations.InputCommands
  refine ⟨Case.inputConfig_runs, Case.inputConfigWaits_runs, Case.inputRead_runs, Case.inputTest_runs,
    fun q pk s u g l passes begun tile table part hg kind onTile' index next pairs rises => ?last,
    fun q pk s u p passes begun tile table part hp => exec_inputTable passes begun (bodyInputTable_first tile table part)⟩
  case last =>
    have done := bodyInputTable_last (k := nextKey q pk s) tile table part hg kind onTile' index next pairs rises
    have named := (tileOk_iff.mp tile).1
    refine ⟨_, exec_inputTable passes begun done, ?_, ?_, fun i other => ?_⟩
    · change vget ((State.modTile _ (pk.u8 8) _).tile (pk.u8 8)).tables (pk.u8 9) none = some l
      rw [State.modTile_tile_self _ _ _ named]
      exact vget_vset _ _ _ _ table
    · exact State.stage_modPair (State.stage_modPair hg _) none
    · change vget ((State.modTile _ (pk.u8 8) _).tile (pk.u8 8)).tables i none = _
      rw [State.modTile_tile_self _ _ _ named]
      exact vget_vset_other _ _ _ _ _ other

/-! ## A METER input (R92, R48) -/

/-- Settles O24: a shaded input's value and count read 0, and the judgement of a configuration ends at it. -/
theorem shadedInputs : Obligations.ShadedInputs := by
  unfold Obligations.ShadedInputs
  intro s t i shaded
  have value : uiValue s t i = 0 := if_pos shaded
  have count : uiCount s t i = 0 := if_pos shaded
  have judged (c : InCfg) : judgeConfig s t i c = some (St.shaded, 0) := if_pos shaded
  refine ⟨value, count, value, count, judged, fun w v => ?_⟩
  unfold windowInputWrite
  split
  · rfl
  · simp only [judged]

/-! ## Protection and pulses (R86, R87) -/

theorem exec_protTrip {t i : Nat} {s : State} (on : s.tileOn t = true) (hi : i < 64)
    (closed : ((s.tile t).input i).switchOpen = false) :
    exec (.protTrip t i) s = .next (Input.tripped t i (s.modInput t i (fun x => { x with switchOpen := true }))) := by
  change Host.Outcome.next (whenever _ _ s) = _
  rw [whenever_of_true (by simp [on, hi, closed])]

theorem exec_protReclose {t : Nat} (i : Nat) {s : State} (on : s.tileOn t = true) :
    exec (.protReclose t i) s = .next (s.modInput t i (fun x => { x with switchOpen := false, heldOpen := false })) := by
  change Host.Outcome.next (whenever _ _ s) = _
  rw [whenever_of_true on]

theorem exec_shuntTrip {t i : Nat} {s : State} (on : s.tileOn t = true) (hi : i < 64)
    (current : ((s.tile t).input i).cfg.mode = 2) (closed : ((s.tile t).input i).shuntOpen = false) :
    exec (.shuntTrip t i) s = .next (Input.tripped t i (s.modInput t i (fun x => { x with shuntOpen := true }))) := by
  change Host.Outcome.next (whenever _ _ s) = _
  rw [whenever_of_true (by simp [on, hi, current, closed])]

theorem exec_pulseEdge {t i ns : Nat} {s : State} (on : s.tileOn t = true) (awake : inGlow s = false)
    (pulse : ((s.tile t).input i).cfg.mode = 8) (long : pulseNs ((s.tile t).input i).cfg.filter ≤ ns) :
    exec (.pulseEdge t i ns) s = .next (s.modInput t i (fun x => { x with count := x.count + 1 })) := by
  change Host.Outcome.next (whenever _ _ s) = _
  rw [whenever_of_true (by simp [on, awake, pulse, long])]

theorem exec_pulseEdge_short {t i ns : Nat} {s : State} (short : ns < pulseNs ((s.tile t).input i).cfg.filter) :
    exec (.pulseEdge t i ns) s = .next s := by
  change Host.Outcome.next (whenever _ _ s) = _
  rw [whenever_of_false (by simp [Nat.not_le.mpr short])]

theorem exec_pulseRateWrite {t : Nat} {s u : State} (on : s.tileOn t = true) (awake : inGlow s = false)
    (waited : u = untilTb ((s.tile t).rateSec * 1000000000) s) :
    exec (.pulseRateWrite t) s = .next ((List.range 64).foldl (fun v i => Pulse.write t i v)
      (u.modTile t (fun x => { x with rateSec := u.sec + 1 }))) := by
  change Host.Outcome.next (whenever _ _ s) = _
  rw [whenever_of_true (by simp [on, awake]), waited]

/-- Settles O25: each happening where its condition holds. -/
theorem inputHappenings : Obligations.InputHappenings := by
  unfold Obligations.InputHappenings
  refine ⟨fun t i s u on hi closed tripped => ?trip, fun t i s on => exec_protReclose i on,
    fun t i s u on hi current closed tripped => ?shunt, fun t i ns s on awake pulse long => exec_pulseEdge on awake pulse long,
    fun t i ns s short => exec_pulseEdge_short short, fun t s u on awake waited => exec_pulseRateWrite on awake waited⟩
  case trip =>
    rw [exec_protTrip on hi closed, ← tripped]
    rfl
  case shunt =>
    rw [exec_shuntTrip on hi current closed, ← tripped]
    rfl

end Sys2Proof.Machine
end

section
/-!
Converters: the commands on the reference, calibration, sequences, channels, buffers, urgent work and scans (R100 to R118),
and what converters do at work.  Settles O26, O27 and O28.
-/

namespace Sys2Proof.Machine

/-! ## Commands on the reference, calibration and sequences (R100 to R109) -/

theorem Case.refbufOn_runs : Case.refbufOn.Runs .refbufOn := by
  refine Case.runs_of_body _ _ bodyRefbufOn (fun _ _ _ => rfl) fun pk k t h => ?_
  simp only [Case.refbufOn, Bool.and_eq_true, Bool.not_eq_true'] at h
  obtain ⟨tile, off⟩ := h
  rw [bodyRefbufOn, onTile_of_tileOk tile]
  exact if_neg (Bool.eq_false_iff.mp off)

theorem Case.refbufOff_runs : Case.refbufOff.Runs .refbufOff :=
  Case.runs_of_body _ _ bodyRefbufOff (fun _ _ _ => rfl) fun _ _ _ h => onTile_of_tileOk h _

theorem vmod_id {β : Type} {n : Nat} (v : Vector β n) (i : Nat) : vmod v i (fun x => x) = v := by
  unfold vmod
  split
  · next x hx =>
    ext j hj
    by_cases same : i = j
    · subst same
      simpa [hj] using hx.symm
    · simp [same]
  · rfl

/-- A change that leaves every tile as it is leaves the state as it is. -/
theorem State.modTile_id (s : State) (t : Nat) : s.modTile t (fun x => x) = s := by rw [State.modTile, vmod_id]

theorem Case.adcCalibrate_runs : Case.adcCalibrate.Runs .adcCalibrate := by
  refine Case.runs_of_body _ _ bodyAdcCalibrate (fun _ _ _ => rfl) fun pk k t h => ?_
  simp only [Case.adcCalibrate, Bool.and_eq_true, beq_iff_eq, Bool.not_eq_true'] at h
  obtain ⟨⟨⟨⟨⟨⟨tile, item⟩, ready⟩, idleA⟩, idleB⟩, calA⟩, calB⟩ := h
  rw [bodyAdcCalibrate, onTile_of_tileOk tile, item]
  simp [Cal.converters, itemKinds, itemConvs, ready, idleA, idleB, calA, calB, State.modTile_id, Cal.hold]
  rfl

theorem Case.adcCalibrateOne_runs (c : Nat) : (Case.adcCalibrateOne c).Runs .adcCalibrate := by
  refine Case.runs_of_body _ _ bodyAdcCalibrate (fun _ _ _ => rfl) fun pk k t h => ?_
  simp only [Case.adcCalibrateOne, Bool.and_eq_true, beq_iff_eq, Bool.not_eq_true', decide_eq_true_eq] at h
  obtain ⟨⟨⟨⟨tile, conv⟩, item⟩, ready⟩, idle⟩ := h
  rw [bodyAdcCalibrate, onTile_of_tileOk tile, item]
  have cases : c = 0 ∨ c = 1 := by omega
  rcases cases with rfl | rfl
  · simp [Cal.converters, itemKinds, itemConvs, ready, idle, State.modTile_id, Cal.hold]
    rfl
  · simp [Cal.converters, itemKinds, itemConvs, ready, idle, State.modTile_id, Cal.hold]
    rfl

theorem Case.adcCalibrateBoth_runs : Case.adcCalibrateBoth.Runs .adcCalibrate := by
  refine Case.runs_of_body _ _ bodyAdcCalibrate (fun _ _ _ => rfl) fun pk k t h => ?_
  simp only [Case.adcCalibrateBoth, Bool.and_eq_true, beq_iff_eq, Bool.not_eq_true'] at h
  obtain ⟨⟨⟨⟨tile, item⟩, ready⟩, idleA⟩, idleB⟩ := h
  rw [bodyAdcCalibrate, onTile_of_tileOk tile, item]
  simp [Cal.converters, itemKinds, itemConvs, ready, idleA, idleB, Cal.hold]
  rfl

/-- A list of judgements of which none refuses has no first refusal. -/
theorem firstRefusal_eq_none {l : List (Option (Byte × Nat))} (h : l.all (·.isNone) = true) : firstRefusal l = none := by
  have none' : l.find? Option.isSome = none := by
    rw [List.find?_eq_none]
    intro x hx
    simp [Option.isNone_iff_eq_none.mp (List.all_eq_true.mp h x hx)]
  rw [firstRefusal, none']
  rfl

theorem firstRefusal_map_eq_none {l : List α} {f : α → Option (Byte × Nat)} (h : l.all (fun x => (f x).isNone) = true) :
    firstRefusal (l.map f) = none :=
  firstRefusal_eq_none (by rw [List.all_map]; exact h)

theorem Case.seqLoad_runs : Case.seqLoad.Runs .seqLoad := by
  refine Case.runs_of_body _ _ bodySeqLoad (fun _ _ _ => rfl) fun pk k t h => ?_
  simp only [Case.seqLoad, Bool.and_eq_true, decide_eq_true_eq, beq_iff_eq] at h
  obtain ⟨⟨⟨⟨⟨tile, conv⟩, count⟩, room⟩, rest⟩, judged⟩ := h
  have fits : (decide (128 ≤ pk.u8 10) || decide (pk.u8 11 = 0) || decide (5 < pk.u8 11)
      || decide (128 < pk.u8 10 + pk.u8 11)) = false := by
    simp only [Bool.or_eq_false_iff, decide_eq_false_iff_not]
    omega
  have judged' := firstRefusal_map_eq_none (f := judgeEntry t (pk.u8 8) (pk.u8 9))
    (l := (List.range (pk.u8 11)).map (fun i => BitVec.ofNat 64 (pk.le (16 + 8 * i) 8))) (by rw [List.all_map]; exact judged)
  rw [bodySeqLoad, onTile_of_tileOk tile]
  simp only [fits, rest, judged', bne_self_eq_false, Bool.false_eq_true, if_false]
  rfl

/-- SEQ_START past its checks: the image waits for the end of a running converter's cycle, or runs at once. -/
theorem bodySeqStart_of_ok {pk : Packet} {k : Key} {t : State} (h : Case.seqStartOk pk t = true) :
    bodySeqStart pk k t = if (t.conv (pk.u8 8) (pk.u8 9)).running then
      .ok 0 (t.modConv (pk.u8 8) (pk.u8 9) (fun v => { v with waiting := some (Case.startImage pk t), stopAtEnd := false }))
    else .ok 0 ((Seq.activate (pk.u8 8) (pk.u8 9) (Case.startImage pk t) t).modConv (pk.u8 8) (pk.u8 9) (fun v => { v with
      running := true, stopAtEnd := false, inCycle := false, inDwell := false, rerun := false
      suspended := convHeld t (pk.u8 8) (pk.u8 9), since := t.tb.elapsed })) := by
  simp only [Case.seqStartOk, Bool.and_eq_true, decide_eq_true_eq, Bool.not_eq_true', Bool.or_eq_true, beq_iff_eq] at h
  obtain ⟨⟨⟨⟨⟨⟨⟨⟨tile, conv⟩, ready⟩, idle⟩, calibrated⟩, whole⟩, period⟩, judged⟩, clash⟩ := h
  have inRange : (pk.u32 12 != 0 && (decide (pk.u32 12 < 10) || decide (600000 < pk.u32 12))) = false := by
    simp only [Bool.and_eq_false_iff, bne_eq_false_iff_eq, Bool.or_eq_false_iff, decide_eq_false_iff_not]
    omega
  have long : (pk.u32 12 != 0 && decide (pk.u32 12 * 1000000 < nominalNs (Case.startImage pk t).cycleEntries)) = false := by
    simp only [Bool.and_eq_false_iff, bne_eq_false_iff_eq, decide_eq_false_iff_not]
    omega
  have image : Case.startImage pk t = { entries := (t.conv (pk.u8 8) (pk.u8 9)).loaded, periodMs := pk.u32 12, cycles := pk.u32 16 } := rfl
  rw [bodySeqStart, onTile_of_tileOk tile]
  simp only [ready, idle, calibrated, whole, inRange, ← image, firstRefusal_map_eq_none judged, clash, long, Bool.not_true,
    Bool.false_eq_true, if_false]

theorem Case.seqStart_runs : Case.seqStart.Runs .seqStart := by
  refine Case.runs_of_body _ _ bodySeqStart (fun _ _ _ => rfl) fun pk k t h => ?_
  simp only [Case.seqStart, Bool.and_eq_true, Bool.not_eq_true'] at h
  obtain ⟨ok, stopped⟩ := h
  rw [bodySeqStart_of_ok ok, stopped]
  rfl

theorem Case.seqStartWaits_runs : Case.seqStartWaits.Runs .seqStart := by
  refine Case.runs_of_body _ _ bodySeqStart (fun _ _ _ => rfl) fun pk k t h => ?_
  simp only [Case.seqStartWaits, Bool.and_eq_true] at h
  obtain ⟨ok, running⟩ := h
  rw [bodySeqStart_of_ok ok, running]
  rfl

theorem Case.seqStop_runs : Case.seqStop.Runs .seqStop := by
  refine Case.runs_of_body _ _ bodySeqStop (fun _ _ _ => rfl) fun pk k t h => ?_
  simp only [Case.seqStop, Bool.and_eq_true, decide_eq_true_eq, beq_iff_eq] at h
  obtain ⟨⟨⟨tile, conv⟩, running⟩, atOnce⟩ := h
  rw [bodySeqStop, onTile_of_tileOk tile]
  simp only [running, atOnce, Bool.not_true, Bool.false_eq_true, if_false]
  rfl

theorem Case.seqStopAtEnd_runs : Case.seqStopAtEnd.Runs .seqStop := by
  refine Case.runs_of_body _ _ bodySeqStop (fun _ _ _ => rfl) fun pk k t h => ?_
  simp only [Case.seqStopAtEnd, Bool.and_eq_true, decide_eq_true_eq, beq_iff_eq] at h
  obtain ⟨⟨⟨⟨tile, conv⟩, running⟩, atEnd⟩, inCycle⟩ := h
  rw [bodySeqStop, onTile_of_tileOk tile]
  simp [running, atEnd, inCycle]
  rfl

theorem Case.seqRead_runs : Case.seqRead.Runs .seqRead := by
  refine Case.runs_of_body _ _ bodySeqRead (fun _ _ _ => rfl) fun pk k t h => ?_
  simp only [Case.seqRead, Bool.and_eq_true] at h
  exact onTile_of_tileOk h.1 _

/-- Settles O26: each command past its checks ends as its case says. -/
theorem sequenceCommands : Obligations.SequenceCommands :=
  ⟨Case.refbufOn_runs, Case.refbufOff_runs, Case.adcCalibrate_runs, Case.adcCalibrateOne_runs, Case.adcCalibrateBoth_runs,
    Case.seqLoad_runs, Case.seqStart_runs, Case.seqStartWaits_runs, Case.seqStop_runs, Case.seqStopAtEnd_runs,
    Case.seqRead_runs⟩

/-! ## Commands on channels, buffers, urgent work and scans (R111 to R118, Table 5.10) -/

theorem onChannel_of_chanOk {pk : Packet} {t : State} (h : Case.chanOk pk t = true) (f : Nat → Nat → Verdict) :
    onChannel pk t f = f (pk.u8 8) (pk.u16 10) := by
  obtain ⟨tile, named⟩ := (Bool.and_eq_true _ _).mp h
  rw [onChannel, onTile_of_tileOk tile]
  exact if_neg (Nat.not_le.mpr (of_decide_eq_true named))

theorem Case.lchConfig_runs : Case.lchConfig.Runs .lchConfig := by
  refine Case.runs_of_body _ _ bodyLchConfig (fun _ _ _ => rfl) fun pk k t h => ?_
  simp only [Case.lchConfig, Bool.and_eq_true] at h
  obtain ⟨⟨chan, window⟩, buffer⟩ := h
  rw [bodyLchConfig, onChannel_of_chanOk chan]
  have thresholds : ((pk.u8 12).testBit 0 && !windowOk (pk.f32 16) (pk.f32 20) (pk.f32 24)) = false := by
    revert window
    cases (pk.u8 12).testBit 0 <;> simp
  have inRange : ((pk.u8 12).testBit 1 && (decide (64 ≤ pk.u8 13) || pk.u16 14 == 0)) = false := by
    revert buffer
    cases (pk.u8 12).testBit 1 <;> simp +contextual [bne]
  have format : ((pk.u8 12).testBit 1 && ((vget (t.tile (pk.u8 8)).bufs (pk.u8 13) none).map (·.format)) != some 0) = false := by
    revert buffer
    cases (pk.u8 12).testBit 1 <;> simp +contextual [bne]
  simp only [thresholds, inRange, format, Bool.false_eq_true, if_false]
  rfl

theorem Case.lchRead_runs : Case.lchRead.Runs .lchRead :=
  Case.runs_of_body _ _ bodyLchRead (fun _ _ _ => rfl) fun _ _ _ h => onChannel_of_chanOk h _

theorem Case.lchWinack_runs : Case.lchWinack.Runs .lchWinack :=
  Case.runs_of_body _ _ bodyLchWinack (fun _ _ _ => rfl) fun _ _ _ h => onTile_of_tileOk h _

theorem Case.dmaCreate_runs : Case.dmaCreate.Runs .dmaCreate := by
  refine Case.runs_of_body _ _ bodyDmaCreate (fun _ _ _ => rfl) fun pk k t h => ?_
  simp only [Case.dmaCreate, Bool.and_eq_true, decide_eq_true_eq, Option.isNone_iff_eq_none] at h
  obtain ⟨⟨⟨⟨⟨tile, number⟩, format⟩, size⟩, fits⟩, free⟩ := h
  have sized : (decide (pk.u8 11 < 6) || decide (20 < pk.u8 11) || !ringFits (Case.newRing pk) 16) = false := by
    simp only [fits, Bool.or_eq_false_iff, decide_eq_false_iff_not, Bool.not_true, and_true]
    omega
  rw [bodyDmaCreate, onTile_of_tileOk tile]
  change (if 64 ≤ pk.u8 9 then _ else if 2 ≤ pk.u8 10 then _ else if (decide (pk.u8 11 < 6) || decide (20 < pk.u8 11)
    || !ringFits (Case.newRing pk) 16) = true then _ else _) = _
  rw [if_neg (Nat.not_le.mpr number), if_neg (Nat.not_le.mpr format), if_neg (Bool.eq_false_iff.mp sized), free]
  rfl

theorem Case.dmaDelete_runs : Case.dmaDelete.Runs .dmaDelete := by
  refine Case.runs_of_body _ _ bodyDmaDelete (fun _ _ _ => rfl) fun pk k t h => ?_
  simp only [Case.dmaDelete, Bool.and_eq_true, decide_eq_true_eq, Bool.not_eq_true'] at h
  obtain ⟨⟨⟨tile, number⟩, made⟩, unbound⟩ := h
  rw [bodyDmaDelete, onTile_of_tileOk tile]
  simp only [if_neg (Nat.not_le.mpr number), ← Option.not_isSome, made, unbound, Bool.not_true, Bool.or_self,
    Bool.false_eq_true, if_false]
  rfl

theorem Case.urgentConvert_runs : Case.urgentConvert.Runs .urgentConvert := by
  refine Case.runs_of_body _ _ bodyUrgentConvert (fun _ _ _ => rfl) fun pk k t h => ?_
  simp only [Case.urgentConvert, Bool.and_eq_true, decide_eq_true_eq, Bool.not_eq_true', Bool.or_eq_true, beq_iff_eq,
    Option.isNone_iff_eq_none] at h
  obtain ⟨⟨⟨⟨⟨⟨⟨ok, chan⟩, ready⟩, idle⟩, calibrated⟩, dwell⟩, judged⟩, room⟩ := h
  have named : (decide (256 ≤ pk.u16 12) && pk.u16 12 != 0xFFFF) = false := by
    simp only [Bool.and_eq_false_iff, bne_eq_false_iff_eq, decide_eq_false_iff_not]
    omega
  have inRange : (decide (pk.u16 10 < 50) || decide (1600 < pk.u16 10)) = false := by
    simp only [Bool.or_eq_false_iff, decide_eq_false_iff_not]
    omega
  rw [bodyUrgentConvert, onInput_of_inputOk ok]
  simp only [named, urgentReady_eq_none ready idle calibrated, inRange, judged, Bool.false_eq_true, if_false]
  exact Urgent.enqueue_of_room room

theorem scanReady_eq_none {s : State} {t : Nat} (ready : (s.tile t).refReady = true) (idleA : calibrating s t 0 = false)
    (idleB : calibrating s t 1 = false) (calibrated : (s.tile t).ilvCal = true) : scanReady s t = none := by
  simp only [scanReady, ready, idleA, idleB, calibrated, Bool.not_true, Bool.or_self, Bool.false_eq_true, if_false]

theorem Case.rscan_runs : Case.rscan.Runs .rscan := by
  refine Case.runs_of_body _ _ bodyRscan (fun _ _ _ => rfl) fun pk k t h => ?_
  simp only [Case.rscan, Bool.and_eq_true, decide_eq_true_eq, Bool.not_eq_true'] at h
  obtain ⟨⟨⟨⟨⟨⟨⟨tile, ranges⟩, ready⟩, idleA⟩, idleB⟩, calibrated⟩, buffer⟩, room⟩ := h
  have ranges' : scanOk (packetScan pk k) = true := ranges
  have buffer' : rawBufBad (t.tile (pk.u8 8)) (packetScan pk k) = false := buffer
  rw [bodyRscan, onTile_of_tileOk tile]
  simp only [ranges', scanReady_eq_none ready idleA idleB calibrated, buffer', Bool.not_true, Bool.false_eq_true, if_false]
  exact if_neg (Nat.not_le.mpr room)

/-- Settles O27: each command past its checks ends as its case says. -/
theorem channelCommands : Obligations.ChannelCommands :=
  ⟨Case.lchConfig_runs, Case.lchRead_runs, Case.lchWinack_runs, Case.dmaCreate_runs, Case.dmaDelete_runs,
    Case.urgentConvert_runs, Case.rscan_runs⟩

/-! ## Converters at work (R100 to R119, R295) -/

theorem exec_refSettled {t : Nat} {s : State} (on : s.tileOn t = true) (buffer : (s.tile t).refOn = true)
    (waits : (s.tile t).refReady = false) : exec (.refSettled t) s =
      .next ((untilElapsed ((s.tile t).refAt + 3000000) s).modTile t (fun x => { x with refReady := true })) := by
  change Host.Outcome.next (whenever _ _ s) = _
  rw [whenever_of_true (by simp [on, buffer, waits])]

/-- A cycle whose image is whole and whose first entry is a MEASURE starts with that entry's dwell (R107, R108). -/
theorem Seq.start_of_whole {t c i : Nat} {s u v : State}
    (waited : u = untilElapsed (s.conv t c).gapTo (untilTb (s.conv t c).nextStart s))
    (whole : imageCrc (s.conv t c).active = (s.conv t c).crc)
    (begun : v = u.modConv t c (fun v => { v with inCycle := true, pos := 0, since := u.tb.elapsed, rerun := false }))
    (first : nextEntry v (v.conv t c) = (0, some i))
    (free : c = 0 → heldByB v t (entInput (vget (s.conv t c).active.entries i 0)) = false) :
    Seq.start t c s = Seq.dwell t c i v := by
  have free' : (decide (c = 0) && heldByB v t (entInput (vget (s.conv t c).active.entries i 0))) = false := by
    simpa [Bool.and_eq_false_iff, ← imp_iff_not_or] using free
  unfold Seq.start
  extract_lets w u' v'
  have same : u' = u := waited.symm
  have same' : v' = v := by rw [begun, ← same]
  simp only [same', w, whole, bne_self_eq_false, Bool.false_eq_true, if_false, first, free']

theorem exec_seqCycleStart {t c : Nat} {s : State} (free : convFree s t c = true) (between : (s.conv t c).inCycle = false) :
    exec (.seqCycleStart t c) s = .next (Seq.start t c s) := by
  change Host.Outcome.next (whenever _ _ s) = _
  rw [whenever_of_true (by simp [free, between])]

theorem exec_seqEntryStart {t c : Nat} {s : State} (free : convFree s t c = true) (cycle : (s.conv t c).inCycle = true) :
    exec (.seqEntryStart t c) s = .next (Seq.next t c s) := by
  change Host.Outcome.next (whenever _ _ s) = _
  rw [whenever_of_true (by simp [free, cycle])]

theorem Seq.next_of_entry {t c i pause : Nat} {s u : State} (entry : nextEntry s (s.conv t c) = (pause, some i))
    (waited : u = untilElapsed ((s.conv t c).since + (if (s.conv t c).pos = 0 then 0 else 2000) + pause) s)
    (free : c = 0 → heldByB u t (entInput (vget (s.conv t c).active.entries i 0)) = false) :
    Seq.next t c s = Seq.dwell t c i u := by
  have free' : (decide (c = 0) && heldByB u t (entInput (vget (s.conv t c).active.entries i 0))) = false := by
    simpa [Bool.and_eq_false_iff, ← imp_iff_not_or] using free
  simp only [Seq.next, entry, gapNs, ← waited, free', Bool.false_eq_true, if_false]

theorem Seq.next_of_pauses {t c pause : Nat} {s : State} (entry : nextEntry s (s.conv t c) = (pause, none)) :
    Seq.next t c s = Seq.cycleEnd t c
      (untilElapsed ((s.conv t c).since + (if (s.conv t c).pos = 0 then 0 else 2000) + pause - 2000) s) := by
  simp only [Seq.next, entry, gapNs]

theorem exec_dwellEnd {t c : Nat} {d : Dwell} {s : State} (on : s.tileOn t = true) (dwell : (s.conv t c).inDwell = true)
    (measures : entKind (dwellEntry s t c) = 0) : exec (.dwellEnd t c d) s = .next (Seq.dwellEnd t c d s) := by
  change Host.Outcome.next (whenever _ _ s) = _
  rw [whenever_of_true (by simp [on, dwell, measures])]

theorem Seq.dwellEnd_of_snap {t c : Nat} {d : Dwell} {snap : Snap} {s u : State} {r : Measured × State}
    (taken : (s.conv t c).snap = some snap) (waited : u = untilElapsed ((s.conv t c).since + entDwell (dwellEntry s t c) * 10000) s)
    (formed : r = formResult t c (entInput (dwellEntry s t c)) snap d u) :
    Seq.dwellEnd t c d s = Seq.moveOn t c (Lch.write t (entLch (dwellEntry s t c)) r.1.value
      (r.1.flags + 32 * bit (s.conv t c).rerun) (some (s.conv t c).cycle) r.2) := by
  simp only [Seq.dwellEnd, entNs, taken, ← waited, ← formed]

theorem exec_urgentStart {t : Nat} {x : Urgent} {rest : List Urgent} {s : State} (first : (s.tile t).urgent = x :: rest)
    (on : s.tileOn t = true) (idle : (s.tile t).urgentOn = false) (noScan : (s.tile t).scanning = none)
    (awake : glowing s = false) (calIdle : calBegun s t 1 = false) (unheld : dwellsOn s t x.input = false) :
    exec (.urgentStart t) s = .next (Urgent.start t x s) := by
  change execUrgentStart t s = _
  simp only [execUrgentStart, first]
  rw [whenever_of_true (by simp [on, idle, noScan, inGlow, awake, calIdle, unheld])]

theorem exec_urgentDwellEnd_convert {t n ch : Nat} {k : Option Key} {i : Nat} {snap : Snap} {d : Dwell} {rest : List Urgent}
    {s : State} (first : (s.tile t).urgent = { key := k, input := i, kind := .convert n ch } :: rest)
    (taken : (s.tile t).urgentSnap = some snap) (on : s.tileOn t = true) (runs : (s.tile t).urgentOn = true) :
    exec (.urgentDwellEnd t d) s = .next (Urgent.endConvert t { key := k, input := i, kind := .convert n ch } ch snap d
      (untilElapsed ((s.tile t).urgentAt + n * 10000) s)) := by
  change execUrgentDwellEnd t d s = _
  simp only [execUrgentDwellEnd, first, taken, on, runs, Bool.and_self, if_true, urgentNs]

theorem exec_urgentDwellEnd_test {t kind level : Nat} {tol : F32} {k : Option Key} {i : Nat} {snap : Snap} {d : Dwell}
    {rest : List Urgent} {s : State} (first : (s.tile t).urgent = { key := k, input := i, kind := .test kind level tol } :: rest)
    (taken : (s.tile t).urgentSnap = some snap) (on : s.tileOn t = true) (runs : (s.tile t).urgentOn = true) :
    exec (.urgentDwellEnd t d) s = .next (Urgent.endTest t { key := k, input := i, kind := .test kind level tol } kind level
      tol d (untilElapsed ((s.tile t).urgentAt + 500000) s)) := by
  change execUrgentDwellEnd t d s = _
  simp only [execUrgentDwellEnd, first, taken, on, runs, Bool.and_self, if_true, urgentNs]

theorem exec_rscanStart {t : Nat} {n : Scan} {rest : List Scan} {s : State} (first : (s.tile t).scans = n :: rest)
    (may : scanMayStart s t = true) : exec (.rscanStart t) s = .next (Scan.start t n rest s) := by
  change execRscanStart t s = _
  simp only [execRscanStart, first, whenever_of_true may]

theorem exec_rscanLaunch {t : Nat} {n : Scan} {caps : List (List Int)} {cap : List Int} {s u : State}
    (runs : (s.tile t).scanning = some (n, caps)) (on : s.tileOn t = true) (more : caps.length < n.avg)
    (waited : u = untilElapsed ((s.tile t).launchAt + (if caps = [] then 25000 else 10000)) s) :
    exec (.rscanLaunch t cap) s = .next (u.modTile t (fun x => { x with
      scanning := some (n, caps ++ [cap.take n.length]), launchAt := u.tb.elapsed })) := by
  change execRscanLaunch t cap s = _
  simp only [execRscanLaunch, runs, on, more, Bool.true_and, decide_true, if_true, List.isEmpty_iff, ← waited]

theorem exec_rscanEnd {t : Nat} {places : List Nat} {n : Scan} {caps : List (List Int)} {s : State}
    (runs : (s.tile t).scanning = some (n, caps)) (on : s.tileOn t = true) (all : n.avg ≤ caps.length) :
    exec (.rscanEnd t places) s = .next (Scan.finish t places n caps (untilElapsed ((s.tile t).launchAt + 2000) s)) := by
  change execRscanEnd t places s = _
  simp only [execRscanEnd, runs, on, all, Bool.true_and, decide_true, if_true]

theorem exec_calRunEnd_conv {t b : Nat} {r : CalResult} {s : State} (ht : t < 4)
    (begun : (s.calItem (calKey 0 t)).since = some b) :
    exec (.calRunEnd 0 t r) s = .next (Cal.finish 0 t r (untilElapsed (b + 24000000) s)) := by
  change execCalRunEnd 0 t r s = _
  have counted : t < calCount 0 := ht
  simp only [execCalRunEnd, begun, counted, runNs]
  simp

/-- Settles O28: each happening where its condition holds. -/
theorem converterHappenings : Obligations.ConverterHappenings := by
  unfold Obligations.ConverterHappenings
  refine ⟨fun t s => exec_refSettled, fun t c i s u v free between waited whole begun first unheld => ?start,
    fun t c i pause s u free cycle entry waited unheld => ?next, fun t c pause s free cycle entry => ?pauses,
    fun t c d snap s u on dwell measures taken waited => ⟨_, rfl, ?dwell⟩,
    fun t x rest s => exec_urgentStart, fun t n ch k i snap d rest s => exec_urgentDwellEnd_convert,
    fun t kind level tol k i snap d rest s => exec_urgentDwellEnd_test, fun t n rest s => exec_rscanStart,
    fun t n caps cap s u => exec_rscanLaunch, fun t places n caps s => exec_rscanEnd, fun t b r s => exec_calRunEnd_conv⟩
  case start => rw [exec_seqCycleStart free between, Seq.start_of_whole waited whole begun first unheld]
  case next => rw [exec_seqEntryStart free cycle, Seq.next_of_entry entry waited unheld]
  case pauses => rw [exec_seqEntryStart free cycle, Seq.next_of_pauses entry]
  case dwell => rw [exec_dwellEnd on dwell measures, Seq.dwellEnd_of_snap taken waited rfl]

end Sys2Proof.Machine
end

section
/-!
The window comparator, the pixel update and metering: their functions, the metering commands and what the metering store does
at work (R114, R125 to R138, R143).  Settles O29, O30, O31, O32 and O35.
-/

namespace Sys2Proof.Machine

/-- Settles O29: the branches of `windowNext`, one clause each. -/
theorem windowStates : Obligations.WindowStates := by
  unfold Obligations.WindowStates
  intro l v apart positive
  have below (h : fnum l.lo ≤ v) : ¬ v < fnum l.lo := not_lt.mpr h
  have above (h : v ≤ fnum l.hi) : ¬ fnum l.hi < v := not_lt.mpr h
  refine ⟨fun low => if_pos low, fun high => ?high, fun hlo hhi inside => ?stays, fun was hlo hhyst => ?below,
    fun was hlo hhi => ?fromBelow, fun was hhyst hhi => ?above, fun was hlo hhyst => ?fromAbove⟩
  case high =>
    have notLow : ¬ v < fnum l.lo := by linarith
    rw [windowNext, if_neg notLow, if_pos high]
  case stays =>
    rw [windowNext, if_neg (below hlo), if_neg (above hhi), if_neg (by omega), if_neg (by omega)]
  case below =>
    have notHigh : ¬ fnum l.hi < v := by linarith
    rw [windowNext, if_neg (below hlo), if_neg notHigh, if_pos was, if_neg (not_le.mpr hhyst)]
  case fromBelow =>
    have notLow : ¬ v < fnum l.lo := by linarith
    rw [windowNext, if_neg notLow, if_neg (above hhi), if_pos was, if_pos hlo]
  case above =>
    have notLow : ¬ v < fnum l.lo := by linarith
    rw [windowNext, if_neg notLow, if_neg (above hhi), if_neg (by omega), if_pos was, if_neg (not_le.mpr hhyst)]
  case fromAbove =>
    have notHigh : ¬ fnum l.hi < v := by linarith
    rw [windowNext, if_neg (below hlo), if_neg notHigh, if_neg (by omega), if_pos was, if_pos hhyst]

/-- Settles O35: the two branches of `pixStep`. -/
theorem pixelUpdate : Obligations.PixelUpdate := by
  unfold Obligations.PixelUpdate
  intro delta t bg hold dt shift age p hp
  have share : ((2 ^ shift : Nat) : Rat) = (2 : Rat) ^ shift := by push_cast; rfl
  have step : p = if (decide (delta < t - bg) && (hold == 0 || decide (age < hold))) = true
      then { bg := bg, age := age + dt, fg := decide (delta < t - bg) }
      else { bg := fnum (fof (bg + (t - bg) / (2 : Rat) ^ shift)), age := 0, fg := decide (delta < t - bg) } := by
    rw [hp, ← share]
    rfl
  have moves (h : (decide (delta < t - bg) && (hold == 0 || decide (age < hold))) = false) :
      p.bg = fnum (fof (bg + (t - bg) / (2 : Rat) ^ shift)) ∧ p.age = 0 := by
    rw [step, if_neg (Bool.eq_false_iff.mp h)]
    exact ⟨rfl, rfl⟩
  refine ⟨?foreground, fun fg within => ?held, fun notFg => moves (by simp [notFg]), fun timed over' => moves (by simp [timed, over'])⟩
  case foreground =>
    rw [step]
    split <;> exact decide_eq_true_iff
  case held =>
    rw [step, if_pos (by simpa [fg] using within)]
    exact ⟨rfl, rfl⟩

/-! ## Commands on metering pairs and the tariff (R125 to R135, Table 6.14) -/

theorem onPair_of_pairOk {pk : Packet} {t : State} (h : Case.pairOk pk t = true) (f : Nat → Nat → Verdict) :
    onPair pk t f = f (pk.u8 8) (pk.u8 9) := by
  obtain ⟨tile, named⟩ := (Bool.and_eq_true _ _).mp h
  rw [onPair, onTile_of_tileOk tile]
  exact if_neg (Nat.not_le.mpr (of_decide_eq_true named))

theorem readPair_of_readable {c : MeterCfg} {pk : Packet} {t : State} (h : Case.pairReadable c pk t = true)
    (f : Nat → Nat → Verdict) : readPair pk t f = f (pk.u8 8) (pk.u8 9) := by
  simp only [Case.pairReadable, Bool.and_eq_true, beq_iff_eq, bne_iff_ne] at h
  obtain ⟨⟨pair, configured⟩, readable⟩ := h
  rw [readPair, onPair_of_pairOk pair]
  simp only [configured, if_neg readable]

/-- A commit outside the regions and the store's own queue of 16 is always queued (R314). -/
theorem Nv.submit_of_free {k : Key} {ctx : Nat} {c : CommitKind} {s : State} (free : commitRegion c = none)
    (own : nvOpCommit c = false) : Nv.submit k ctx c s = .pend (Nv.enqueue (some k) ctx c s) := by
  have unprotected : bpRefuses s c = false := by rw [bpRefuses, free]
  simp only [Nv.submit, unprotected, own, Bool.false_and, Bool.false_eq_true, if_false]

theorem Case.meterConfig_runs : Case.meterConfig.Runs .meterConfig := by
  refine Case.runs_of_body _ _ bodyMeterConfig (fun _ _ _ => rfl) fun pk k t h => ?_
  simp only [Case.meterConfig, Bool.and_eq_true, decide_eq_true_eq, bne_iff_ne, Bool.not_eq_true'] at h
  obtain ⟨⟨⟨⟨⟨⟨⟨pair, hv⟩, hi⟩, differ⟩, shadedV⟩, shadedI⟩, joinsV⟩, joinsI⟩ := h
  rw [bodyMeterConfig, onPair_of_pairOk pair]
  have named : (decide (64 ≤ pk.u8 10) || decide (64 ≤ pk.u8 11)) = false := by
    simp only [Bool.or_eq_false_iff, decide_eq_false_iff_not]
    omega
  simp only [packetMeter, List.any_cons, List.any_nil, shadedV, shadedI, joinsV, joinsI, if_neg differ, Bool.not_true, Bool.or_self,
    Bool.false_eq_true, if_false]
  exact (if_neg (Bool.eq_false_iff.mp named)).trans (Nv.submit_of_free rfl rfl)

theorem Case.meterRead_runs (c : MeterCfg) : (Case.meterRead c).Runs .meterRead := by
  refine Case.runs_of_body _ _ bodyMeterRead (fun _ _ _ => rfl) fun pk k t h => ?_
  simp only [Case.meterRead, Bool.and_eq_true, decide_eq_true_eq] at h
  obtain ⟨pair, register⟩ := h
  rw [bodyMeterRead, readPair_of_readable pair]
  exact if_neg (Nat.not_lt.mpr register)

theorem Case.meterHistory_runs (c : MeterCfg) : (Case.meterHistory c).Runs .meterHistory := by
  refine Case.runs_of_body _ _ bodyMeterHistory (fun _ _ _ => rfl) fun pk k t h => ?_
  simp only [Case.meterHistory, Bool.and_eq_true, decide_eq_true_eq, beq_iff_eq] at h
  obtain ⟨⟨⟨pair, count⟩, aligned⟩, fits⟩ := h
  have counted : (decide (pk.u8 10 = 0) || decide (64 < pk.u8 10)) = false := by
    simp only [Bool.or_eq_false_iff, decide_eq_false_iff_not]
    omega
  rw [bodyMeterHistory, readPair_of_readable pair]
  simp only [counted, aligned, fits, bne_self_eq_false, Bool.not_true, Bool.or_self, Bool.false_eq_true, if_false]
  rfl

theorem Case.meterResetPeak_runs : Case.meterResetPeak.Runs .meterResetPeak := by
  refine Case.runs_of_body _ _ bodyMeterResetPeak (fun _ _ _ => rfl) fun pk k t h => ?_
  simp only [Case.meterResetPeak, Bool.and_eq_true] at h
  obtain ⟨pair, configured⟩ := h
  rw [bodyMeterResetPeak, onPair_of_pairOk pair]
  exact if_neg (by rw [← Option.not_isSome, configured]; decide)

theorem Case.demandConfig_runs : Case.demandConfig.Runs .demandConfig := by
  refine Case.runs_of_body _ _ bodyDemandConfig (fun _ _ _ => rfl) fun pk k t h => ?_
  simp only [Case.demandConfig, Bool.and_eq_true, decide_eq_true_eq, bne_iff_ne] at h
  obtain ⟨⟨named, other⟩, running⟩ := h
  have changed : (decide (pk.u8 9 = t.mt.len) && t.mt.newLen.isNone) = false := by simp [other]
  simp only [bodyDemandConfig, if_neg (Nat.not_le.mpr named), changed, Bool.false_eq_true, if_false]
  exact if_neg (by simp [running])

theorem Case.tariffRates_runs : Case.tariffRates.Runs .tariffLoad := by
  refine Case.runs_of_body _ _ bodyTariffLoad (fun _ _ _ => rfl) fun pk k t h => ?_
  simp only [Case.tariffRates, Bool.and_eq_true, beq_iff_eq, Bool.or_eq_true] at h
  obtain ⟨⟨part, half⟩, rest⟩ := h
  have named : (pk.u16 10 != 0 && pk.u16 10 != 4) = false := by
    simp only [Bool.and_eq_false_iff, bne_eq_false_iff_eq]
    exact half
  simp only [bodyTariffLoad, if_pos part, named, rest, bne_self_eq_false, Bool.false_eq_true, if_false]
  rfl

theorem Case.tariffEntries_runs : Case.tariffEntries.Runs .tariffLoad := by
  refine Case.runs_of_body _ _ bodyTariffLoad (fun _ _ _ => rfl) fun pk k t h => ?_
  simp only [Case.tariffEntries, Bool.and_eq_true, beq_iff_eq, decide_eq_true_eq] at h
  obtain ⟨⟨⟨⟨part, count⟩, room⟩, rest⟩, fields⟩ := h
  have counted : (decide (pk.u8 12 = 0) || decide (5 < pk.u8 12) || decide (1024 < pk.u16 10 + pk.u8 12)) = false := by
    simp only [Bool.or_eq_false_iff, decide_eq_false_iff_not]
    omega
  have clean : ((List.range (pk.u8 12)).any fun i => field (pk.le (16 + 8 * i) 8) 23 3 != 0) = false := by
    simpa [List.any_eq_false, List.all_eq_true] using fields
  simp only [bodyTariffLoad, part, if_neg Nat.one_ne_zero, counted, rest, clean, bne_self_eq_false, Bool.or_self,
    Bool.false_eq_true, if_false]
  rfl

theorem Case.tariffCommit_runs : Case.tariffCommit.Runs .tariffCommit := by
  refine Case.runs_of_body _ _ bodyTariffCommit (fun _ _ _ => rfl) fun pk k t h => ?_
  simp only [Case.tariffCommit, Bool.and_eq_true, decide_eq_true_eq, Bool.or_eq_true, beq_iff_eq, Option.isNone_iff_eq_none] at h
  obtain ⟨⟨entries, coming⟩, free⟩ := h
  have may : ((pk.le 16 8 != 0 && decide (pk.le 16 8 < t.sec)) || t.mt.job.isSome) = false := by
    simp only [free, Option.isSome_none, Bool.or_false, Bool.and_eq_false_iff, bne_eq_false_iff_eq, decide_eq_false_iff_not]
    omega
  simp only [bodyTariffCommit, if_neg (Nat.not_lt.mpr entries), may, Bool.false_eq_true, if_false]
  rfl

/-- Settles O30: each command past its checks ends as its case says. -/
theorem meteringCommands : Obligations.MeteringCommands :=
  ⟨Case.meterConfig_runs, Case.meterRead_runs, Case.meterHistory_runs, Case.meterResetPeak_runs, Case.demandConfig_runs,
    Case.tariffRates_runs, Case.tariffEntries_runs, Case.tariffCommit_runs,
    Case.runs_of_body _ _ bodyTariffRead (fun _ _ _ => rfl) fun _ _ _ _ => rfl⟩

/-! ## The energy of a pair (R128) -/

/-- What counts of a dwell's time goes with its energy into the running interval, and the rest of the time is gap. -/
theorem MeterPair.account_of_import {m : MeterPair} {tariff t : Nat} (configured : m.cfg.isSome = true)
    (measured : m.restored = false) (bound : m.bound = true) (open' : m.pend = none) (imports : 0 ≤ m.power) :
    m.account tariff t false = { m with
      lastEnd := t
      remImp := (m.remImp + m.power.toNat * min (t - m.lastEnd) 10000000000) % energyUnit
      eImp := vset m.eImp tariff ((vget m.eImp tariff 0
        + (m.remImp + m.power.toNat * min (t - m.lastEnd) 10000000000) / energyUnit) % 2 ^ 48)
      interval := { m.interval with
        eImp := m.interval.eImp + (m.remImp + m.power.toNat * min (t - m.lastEnd) 10000000000) / energyUnit
        gap := m.interval.gap + (t - m.lastEnd - min (t - m.lastEnd) 10000000000)
        accounted := m.interval.accounted + min (t - m.lastEnd) 10000000000 } } := by
  have has : (m.cfg.isNone || (m.restored && m.pend.isNone)) = false := by
    rw [← Option.not_isSome, configured, measured]
    rfl
  rw [MeterPair.account, if_neg (Bool.eq_false_iff.mp has)]
  simp only [bound, MeterPair.addEnergy, if_pos imports, MeterPair.modOpen, open', Bool.not_true,
    Bool.false_eq_true, if_false]

/-- Settles O32: the fields of the pair accounted. -/
theorem energyAccounted : Obligations.EnergyAccounted := by
  unfold Obligations.EnergyAccounted
  intro m tariff t dt counted configured measured bound open' imports named passed counts a account
  rw [MeterPair.account_of_import configured measured bound open' imports, ← passed, ← counts] at account
  subst account
  exact ⟨rfl, rfl, rfl, rfl, vget_vset _ _ _ _ named, rfl, fun i other => vget_vset_other _ _ _ _ _ other, rfl, rfl, rfl, rfl⟩

/-! ## What the end of a commit leaves of the meters

Replies, the copies of reads and the start of the next commit touch of the metering store only whether a tail is due, and the
count of no page's programs. -/

structure TailOnly (s t : State) : Prop where
  tb : t.tb = s.tb
  programs : t.nv.programs = s.nv.programs
  mt : { t.mt with tailDue := s.mt.tailDue } = s.mt

theorem TailOnly.refl (s : State) : TailOnly s s := ⟨rfl, rfl, rfl⟩

theorem TailOnly.trans {s t u : State} (h : TailOnly s t) (g : TailOnly t u) : TailOnly s u where
  tb := g.tb.trans h.tb
  programs := g.programs.trans h.programs
  mt := by rw [← h.mt, ← g.mt]

/-- The same, the later part first. -/
theorem TailOnly.after {s t u : State} (g : TailOnly t u) (h : TailOnly s t) : TailOnly s u := h.trans g

theorem HubOnly.tail {s t : State} (h : HubOnly s t) : TailOnly s t where
  tb := h.keeps (·.tb) (fun _ _ _ _ _ => rfl)
  programs := h.keeps (·.nv.programs) (fun _ _ _ _ _ => rfl)
  mt := by rw [h.keeps (·.mt) (fun _ _ _ _ _ => rfl)]

theorem Nv.serve_fold_hubOnly (l : List NvRead) (s : State) : HubOnly s (l.foldl
    (fun s rd => Cmd.final rd.key St.ok 0 (nvCopy rd.region rd.offset rd.len rd.space rd.dest.toNat s)) s) := by
  induction l generalizing s with
  | nil => rfl
  | cons rd l ih => exact (State.writeMem_hubOnly _ _ _ _).trans ((Cmd.final_hubOnly _ _ _ _).trans (ih _))

/-- Serving the reads that nothing is ahead of gives replies and copies, and takes those reads away. -/
theorem Nv.serve_frame (s : State) : HubOnly { s with nv := { s.nv with reads := s.nv.reads.filter (fun rd => rd.ahead != 0) } }
    (Nv.serve s) := Nv.serve_fold_hubOnly _ _

theorem Nv.serve_tail (s : State) : TailOnly s (Nv.serve s) :=
  (Nv.serve_frame s).tail.after ⟨rfl, rfl, rfl⟩

theorem Nv.serve_running (s : State) : (Nv.serve s).nv.running = s.nv.running :=
  (Nv.serve_frame s).keeps (·.nv.running) (fun _ _ _ _ _ => rfl)

theorem Meter.commitLost_tail (s : State) : TailOnly s (Meter.commitLost s) :=
  (Ev.raise_hubOnly _ _ _ _).tail.after ⟨rfl, rfl, rfl⟩

theorem Meter.commitLost_running (s : State) : (Meter.commitLost s).nv.running = s.nv.running :=
  (Ev.raise_hubOnly _ _ _ _).keeps (·.nv.running) (fun _ _ _ _ _ => rfl)

theorem Nv.refuseFirst_running (c : Commit) (rest : List Commit) (st : Byte) (res : Nat) (s : State) :
    (Nv.refuseFirst c rest st res s).nv.running = s.nv.running := by
  have dropped (t : State) : (Tariff.dropJob c t).nv.running = t.nv.running := by
    unfold Tariff.dropJob
    split <;> rfl
  unfold Nv.refuseFirst
  dsimp only
  rw [Nv.serve_running, (Cmd.finalOpt_hubOnly _ _ _ _).keeps (·.nv.running) (fun _ _ _ _ _ => rfl), dropped]
  split
  · exact Meter.commitLost_running _
  · rfl

theorem Nv.refuseFirst_tail {c : Commit} (rest : List Commit) (st : Byte) (res : Nat) (s : State) (other : isTariff c = false) :
    TailOnly s (Nv.refuseFirst c rest st res s) := by
  refine TailOnly.trans ?_ (Nv.serve_tail _)
  refine TailOnly.trans ?_ (Cmd.finalOpt_hubOnly _ _ _ _).tail
  rw [Tariff.dropJob, if_neg (Bool.eq_false_iff.mp other)]
  split
  · exact (Meter.commitLost_tail _).after ⟨rfl, rfl, rfl⟩
  · exact ⟨rfl, rfl, rfl⟩

theorem Nv.stage_tail (c : CommitKind) (s : State) : TailOnly s (Nv.stage c s) := by
  unfold Nv.stage
  dsimp only
  split <;> exact ⟨rfl, rfl, rfl⟩

theorem Nv.start_checkpoint_tail {c : Commit} {j : CheckpointJob} (rest : List Commit) (s : State) (what : c.what = .checkpoint j) :
    TailOnly s (Nv.start c rest s) := by
  have other : isTariff c = false := by rw [isTariff, what]
  have assembled : ∃ j', (c.assembled s).what = .checkpoint j' := ⟨_, by rw [Commit.assembled, what]⟩
  obtain ⟨j', assembled⟩ := assembled
  unfold Nv.start
  split
  · exact Nv.refuseFirst_tail _ _ _ _ other
  split
  · exact Nv.refuseFirst_tail _ _ _ _ other
  split
  · exact Nv.refuseFirst_tail _ _ _ _ other
  · simp only [assembled]
    exact (Nv.stage_tail _ _).after ⟨rfl, rfl, rfl⟩

/-- What starts by itself at the end of a commit is a checkpoint (R131). -/
theorem Nv.kick_tail (s : State) : TailOnly s (Nv.kick s) := by
  unfold Nv.kick
  split
  · next c rest _ =>
    split
    · next starts =>
      obtain ⟨_, checkpoint⟩ := (Bool.and_eq_true _ _).mp starts
      unfold isCheckpoint at checkpoint
      split at checkpoint
      · next j what => exact Nv.start_checkpoint_tail _ _ what
      · exact absurd checkpoint (by decide)
    · exact TailOnly.refl _
  · exact TailOnly.refl _

/-! ## The metering store at work (R87, R128 to R138) -/

theorem TailOnly.keeps {s t : State} {α : Type} (h : TailOnly s t) (f : Metering → α)
    (hf : ∀ (m : Metering) (d : Bool), f { m with tailDue := d } = f m) : f t.mt = f s.mt := by
  have g := congrArg f h.mt
  rwa [hf] at g

theorem Nv.done_checkpoint_tail {c : Commit} {j : CheckpointJob} {s : State} (what : c.what = .checkpoint j) :
    TailOnly (Meter.fill j.image (Nv.retire (Nv.count (.checkpoint j) 0 s))) (Nv.done c s) := by
  unfold Nv.done Nv.effect
  simp only [what]
  exact (Nv.kick_tail _).after ((Nv.serve_tail _).after ((Cmd.finalOpt_hubOnly _ _ _ _).tail.after ⟨rfl, rfl, rfl⟩))

/-- The end of a checkpoint's commit (R131): it joins the newest 27 and its 16 pages count one program each. -/
theorem Nv.done_checkpoint {c : Commit} {j : CheckpointJob} {s : State} (what : c.what = .checkpoint j) :
    (Nv.done c s).mt.slots = (j.image :: s.mt.slots).take 27 ∧ (Nv.done c s).mt.slotNext = (s.mt.slotNext + 1) % 27 ∧
    (Nv.done c s).mt.pairs = s.mt.pairs ∧ (Nv.done c s).tb = s.tb ∧
    vget (Nv.done c s).nv.programs 14 0 = vget s.nv.programs 14 0 + 16 := by
  have tail := Nv.done_checkpoint_tail (s := s) what
  have counted : (Nv.count (.checkpoint j) 0 s) =
      { s with nv := { s.nv with programs := vmod s.nv.programs 14 (fun x => x + 16 + 0) } } := rfl
  rw [counted] at tail
  refine ⟨tail.keeps (·.slots) (fun _ _ => rfl), tail.keeps (·.slotNext) (fun _ _ => rfl),
    tail.keeps (·.pairs) (fun _ _ => rfl), tail.tb, ?_⟩
  rw [tail.programs]
  exact (vget_vmod _ 14 14 _ 0 (by decide)).trans (if_pos rfl)

theorem exec_meterCheckpointDone {c : Commit} {s : State} (runs : s.nv.running = some c) (checkpoint : isCheckpoint c = true) :
    exec .meterCheckpointDone s = .next (Nv.done c s) := by
  change execMeterCheckpointDone s = _
  simp only [execMeterCheckpointDone, runs, checkpoint, if_true]

theorem exec_meterDwellEnd {t p : Nat} {d : MeterDwell} {c : MeterCfg} {s u : State} (on : s.tileOn t = true)
    (dwell : (s.conv t 1).inDwell = true) (meters : entKind (dwellEntry s t 1) = 1) (pair : p = entPair (dwellEntry s t 1))
    (taken : (s.conv t 1).meter = some c)
    (waited : u = untilElapsed ((s.conv t 1).since + entDwell (dwellEntry s t 1) * 10000) s) {faulted : Bool}
    (fault : faulted = (((s.conv t 1).snap.map (·.spoiled)).getD false || fullScale c d)) :
    exec (.meterDwellEnd t d) s = .next (Seq.moveOn t 1
      (if faulted then u.modMeter t p (fun m => if (faulted || !(m.account u.mt.tariff u.ns faulted).bound) = true
          then m.account u.mt.tariff u.ns faulted else (m.account u.mt.tariff u.ns faulted).take (dwellPower u c d))
        else Input.setFaults t c.iInput 0 (Input.setFaults t c.vInput 0
          (u.modMeter t p (fun m => if (faulted || !(m.account u.mt.tariff u.ns faulted).bound) = true
            then m.account u.mt.tariff u.ns faulted else (m.account u.mt.tariff u.ns faulted).take (dwellPower u c d)))))) := by
  change Host.Outcome.next (whenever _ _ s) = _
  rw [whenever_of_true (by simp [on, dwell, meters])]
  simp only [taken, Option.map_some, Option.getD_some, ← fault, entNs, ← waited, ← pair, dwellInputs, meters]
  rfl

theorem exec_intervalClose {s : State} (running : s.mt.running = true) (valid : s.tb.valid = true) :
    exec .intervalClose s = .next (Meter.closeAll (untilTb (s.mt.boundary * 1000000000) s)) := by
  change Host.Outcome.next (whenever _ _ s) = _
  rw [whenever_of_true (by simp [running, valid])]

theorem exec_meterHistoryDone {t : Nat} {j : HistoryJob} {rest : List HistoryJob} {l : List MeterRec} {s u : State}
    (first : vget s.mt.copies t [] = j :: rest) (records : l = (s.meter t j.pair).history.take j.count)
    (copied : u = s.writeMem j.space j.dest.toNat (l.flatMap MeterRec.bytes)) :
    exec (.meterHistoryDone t) s = .next (Cmd.final j.key St.ok (result [(5, 1, l.length)])
      { u with mt := { u.mt with copies := vset u.mt.copies t rest } }) := by
  change execMeterHistoryDone t s = _
  simp only [execMeterHistoryDone, first, ← records, ← copied]

/-! ### A new bank (R135) -/

theorem exec_tariffRebuildDone_disordered {j : TariffJob} {s : State} (job : s.mt.job = some j) (open' : j.rebuilt = false)
    (idle : s.nv.running = none) (disordered : s.mt.shadow.rises j.entries = false) :
    exec .tariffRebuildDone s = .next (Cmd.finalOpt j.key St.badParam (result [(5, 1, 5)])
      { Nv.without isTariff s with mt := { s.mt with job := none } }) := by
  change execTariffRebuildDone s = _
  simp only [execTariffRebuildDone, job, open', idle, disordered, Bool.not_false, Bool.false_eq_true, if_false, if_true]
  rfl

/-- The commit of a bank in order starts where the energy for it is there, and is refused where it is not. -/
theorem Nv.start_tariff {c : Commit} {place n : Nat} {b : Option Bank} (rest : List Commit) {s : State} (what : c.what = .tariff place n b)
    (rises : s.mt.shadow.rises n = true) : Nv.start c rest s = if energyOk s = false then Nv.refuseFirst c rest St.nvLowEnergy 0 s
      else Nv.stage (c.assembled s).what { s with nv := { s.nv with
        queue := rest, running := some (c.assembled s), recorded := false } } := by
  have free : bpRefuses s c.what = false := by rw [bpRefuses, what, commitRegion]
  have inOrder : bankRises s c = true := by rw [bankRises, what]; exact rises
  have powered : commitPowered s c.what = energyOk s := by
    rw [what]
    rfl
  have assembled : (c.assembled s).what = .tariff (1 - s.mt.activeIdx) n (some (s.mt.shadow.rebuilt n)) := by
    rw [Commit.assembled, what]
  simp only [Nv.start, free, inOrder, powered, Bool.not_true, Bool.false_eq_true, if_false, Bool.not_eq_true']
  split
  · rfl
  · simp only [assembled]

theorem exec_tariffRebuildDone_first {j : TariffJob} {c : Commit} {rest : List Commit} {s u : State} (job : s.mt.job = some j)
    (open' : j.rebuilt = false) (idle : s.nv.running = none) (rises : s.mt.shadow.rises j.entries = true)
    (first : s.nv.queue = c :: rest) (tariff : isTariff c = true) (started : Nv.start c rest s = u) :
    (u.nv.running = none → exec .tariffRebuildDone s = .next u) ∧
    ∀ d, u.nv.running = some d → exec .tariffRebuildDone s = .next (Nv.done d u) := by
  change (_ → execTariffRebuildDone s = _) ∧ ∀ d, _ → execTariffRebuildDone s = _
  simp only [execTariffRebuildDone, job, open', idle, rises, first, tariff, started, Bool.not_true, Bool.false_eq_true, if_false]
  exact ⟨fun h => by simp only [h], fun d h => by simp only [h]⟩

theorem Nv.stage_running (c : CommitKind) (s : State) : (Nv.stage c s).nv.running = s.nv.running := by
  unfold Nv.stage
  dsimp only
  split <;> rfl

theorem exec_tariffRebuildDone_queued {j : TariffJob} {c : Commit} {rest : List Commit} {s : State} (job : s.mt.job = some j)
    (open' : j.rebuilt = false) (idle : s.nv.running = none) (rises : s.mt.shadow.rises j.entries = true)
    (first : s.nv.queue = c :: rest) (what : c.what = .tariff (1 - s.mt.activeIdx) j.entries none) :
    (energyOk s = false → exec .tariffRebuildDone s = .next (Nv.refuseFirst c rest St.nvLowEnergy 0 s)) ∧
    ∀ d : Commit, d = { c with what := .tariff (1 - s.mt.activeIdx) j.entries (some (s.mt.shadow.rebuilt j.entries)) } →
      energyOk s = true → exec .tariffRebuildDone s = .next (Nv.done d (Nv.stage d.what
        { s with nv := { s.nv with queue := rest, running := some d, recorded := false } })) := by
  have tariff : isTariff c = true := by rw [isTariff, what]
  have start := Nv.start_tariff rest what rises
  refine ⟨fun short => ?_, fun d hd powered => ?_⟩
  · rw [if_pos short] at start
    exact (exec_tariffRebuildDone_first job open' idle rises first tariff start).1
      ((Nv.refuseFirst_running _ _ _ _ _).trans idle)
  · have assembled : c.assembled s = d := by rw [hd, Commit.assembled, what]
    rw [if_neg (by simp [powered]), assembled] at start
    exact (exec_tariffRebuildDone_first job open' idle rises first tariff start).2 d (Nv.stage_running _ _)

theorem exec_tariffRebuildDone_running {j : TariffJob} {c : Commit} {s : State} (job : s.mt.job = some j)
    (open' : j.rebuilt = false) (runs : s.nv.running = some c) (tariff : isTariff c = true) :
    exec .tariffRebuildDone s = .next (Nv.done c s) := by
  change execTariffRebuildDone s = _
  simp only [execTariffRebuildDone, job, open', runs, tariff, Bool.false_eq_true, if_false, if_true]

/-- The state in which the bank of a commit just done stands in the store. -/
def Tariff.stored (c : Commit) (place : Nat) (b : Bank) (s : State) : State :=
  let u := Nv.effect c (Nv.retire (Nv.count c.what 0 { s with nv := { s.nv with running := none } }))
  { u with mt := { u.mt with banks := vset u.mt.banks place b } }

theorem Nv.done_tariff_tail {c : Commit} {place n : Nat} {b : Bank} {s : State} (what : c.what = .tariff place n (some b)) :
    TailOnly (Tariff.stored c place b s) (Nv.done c s) := by
  unfold Nv.done Tariff.stored
  simp only [what]
  exact (Nv.kick_tail _).after ((Nv.serve_tail _).after ⟨rfl, rfl, rfl⟩)

theorem Tariff.rebuilt_of_job {j : TariffJob} {b : Bank} {s : State} (job : s.mt.job = some j) :
    (s.sec < j.atSecond → Tariff.rebuilt b s =
      { s with mt := { s.mt with shadow := b, job := some { j with rebuilt := true, late := false } } }) ∧
    (j.atSecond ≤ s.sec → Tariff.rebuilt b s = Ev.raise 12 0 (packLe [(8, j.atSecond), (4, s.sec + 1)]) { s with mt := { s.mt with
        shadow := b, job := some { j with rebuilt := true, late := true, atSecond := s.sec + 1 } } }) := by
  refine ⟨fun early => ?_, fun late => ?_⟩
  · simp only [Tariff.rebuilt, job, decide_eq_false (Nat.not_le.mpr early), Bool.false_eq_true, if_false]
  · simp only [Tariff.rebuilt, job, decide_eq_true late, if_true]
    rfl

/-- What a bank just rebuilt changes of the metering store. -/
theorem Tariff.rebuilt_mt {j : TariffJob} {b : Bank} {s : State} (job : s.mt.job = some j) :
    (Tariff.rebuilt b s).mt = { s.mt with shadow := b, job := some (if s.sec < j.atSecond
      then { j with rebuilt := true, late := false } else { j with rebuilt := true, late := true, atSecond := s.sec + 1 }) } := by
  obtain ⟨early, late⟩ := Tariff.rebuilt_of_job (b := b) job
  split
  · next h => rw [early h]
  · next h =>
    rw [late (Nat.not_lt.mp h)]
    exact (Ev.raise_hubOnly _ _ _ _).keeps (·.mt) (fun _ _ _ _ _ => rfl)

theorem Nv.count_frame (c : CommitKind) (n : Nat) (s : State) : (Nv.count c n s).mt = s.mt ∧ (Nv.count c n s).tb = s.tb := by
  unfold Nv.count
  dsimp only
  split <;> exact ⟨rfl, rfl⟩

theorem Tariff.stored_mt {c : Commit} {place n : Nat} {b : Bank} {j : TariffJob} {s : State}
    (what : c.what = .tariff place n (some b)) (job : s.mt.job = some j) :
    (Tariff.stored c place b s).mt = { s.mt with
      shadow := b, banks := vset s.mt.banks place b, job := some (if s.sec < j.atSecond
      then { j with rebuilt := true, late := false } else { j with rebuilt := true, late := true, atSecond := s.sec + 1 }) } := by
  unfold Tariff.stored
  obtain ⟨mt, tb⟩ := Nv.count_frame c.what 0 { s with nv := { s.nv with running := none } }
  generalize hv : Nv.retire (Nv.count c.what 0 { s with nv := { s.nv with running := none } }) = v
  have mt' : v.mt = s.mt := by rw [← hv]; exact mt
  have sec' : v.sec = s.sec := by rw [← hv]; exact congrArg (fun b : TimeBase => b.now.toNat / 1000000000) tb
  have effect : Nv.effect c v = Tariff.rebuilt b v := by
    rw [Nv.effect, what]
    rfl
  dsimp only
  rw [effect, Tariff.rebuilt_mt (mt' ▸ job), mt', sec']

theorem exec_tariffSwap {j : TariffJob} {s u v w : State} (job : s.mt.job = some j) (ready : j.rebuilt = true)
    (waited : u = untilTb (j.atSecond * 1000000000) s) (closed : v = Meter.closeDue u.sec u)
    (swapped : w = { v with mt := { v.mt with
      active := v.mt.shadow, shadow := v.mt.active, activeIdx := 1 - v.mt.activeIdx, job := none } }) :
    exec .tariffSwap s = .next (Cmd.finalOpt j.key (if j.late then St.shadowLate else St.ok) 0
      (if v.tb.valid then Meter.switchTo (v.mt.shadow.tariffAt v.sec) v.sec w else w)) := by
  change execTariffSwap s = _
  simp only [execTariffSwap, job, ready, Bool.not_true, Bool.false_eq_true, if_false, ← waited, ← closed]
  rw [swapped]
  rfl

theorem exec_tariffSwitch_due {s v : State} (valid : s.tb.valid = true) (due : s.mt.active.tariffAt s.sec ≠ s.mt.tariff)
    (closed : v = Meter.closeDue s.sec s) :
    exec .tariffSwitch s = .next (Meter.switchTo (v.mt.active.tariffAt v.sec) v.sec v) := by
  change Host.Outcome.next (whenever _ _ s) = _
  rw [whenever_of_true valid]
  dsimp only
  rw [if_pos (bne_iff_ne.mpr due), ← closed]

theorem exec_tariffSwitch_next {sec : Nat} {s u v : State} (valid : s.tb.valid = true)
    (inForce : s.mt.active.tariffAt s.sec = s.mt.tariff) (next : s.mt.active.nextWhen s.sec = some sec)
    (waited : u = untilTb (sec * 1000000000) s) (closed : v = Meter.closeDue u.sec u) :
    exec .tariffSwitch s = .next (Meter.switchTo (v.mt.active.tariffAt v.sec) v.sec v) := by
  change Host.Outcome.next (whenever _ _ s) = _
  rw [whenever_of_true valid]
  dsimp only
  rw [if_neg (by rw [inForce]; simp)]
  simp only [next, ← waited, ← closed]

theorem exec_meterResultUpdate {s u : State} (live : s.live = true) (waited : u = untilTb (s.mt.resultSec * 1000000000) s) :
    exec .meterResultUpdate s = .next (allPairs.foldl (fun s x => Meter.energyResults x.1 x.2 s)
      { u with mt := { u.mt with resultSec := u.sec + 1 } }) := by
  change Host.Outcome.next (whenever _ _ s) = _
  rw [whenever_of_true live, waited]

/-- Settles O31: each happening where its condition holds, and the bank's own lemmas for a commit done. -/
theorem meteringHappenings : Obligations.MeteringHappenings := by
  unfold Obligations.MeteringHappenings
  refine ⟨fun t p d c s u v on dwell meters pair taken clean unfull waited accounted => ?good,
    fun t p d c s u on dwell meters pair taken faulted waited => ?faulted, fun s => exec_intervalClose,
    fun t j rest l s u => exec_meterHistoryDone, fun c j s runs what => ?checkpoint, fun j s => exec_tariffRebuildDone_disordered,
    fun j c rest s => exec_tariffRebuildDone_queued, fun j c s => exec_tariffRebuildDone_running, fun b n => ⟨rfl, rfl⟩,
    fun j c place n b s u job named what done => ?committed, fun j s u v w => exec_tariffSwap,
    fun s v valid due closed => ?due, fun sec s u v valid inForce next waited closed => ?next, fun s u => exec_meterResultUpdate⟩
  case good =>
    have spoiled : ((s.conv t 1).snap.map (·.spoiled)).getD false = false := by
      cases hs : (s.conv t 1).snap with
      | none => rfl
      | some n => exact clean n hs
    rw [exec_meterDwellEnd on dwell meters pair taken waited (faulted := false) (by rw [spoiled, unfull]; rfl), accounted]
    have takes : (fun m : MeterPair => if (false || !(m.account u.mt.tariff u.ns false).bound) = true
          then m.account u.mt.tariff u.ns false else (m.account u.mt.tariff u.ns false).take (dwellPower u c d)) =
        fun m => if (m.account u.mt.tariff u.ns false).bound
          then (m.account u.mt.tariff u.ns false).take (dwellPower u c d) else m.account u.mt.tariff u.ns false := by
      funext m
      cases (m.account u.mt.tariff u.ns false).bound <;> rfl
    rw [takes]
    simp only [Bool.false_eq_true, if_false]
  case faulted =>
    have fault : true = (((s.conv t 1).snap.map (·.spoiled)).getD false || fullScale c d) := by
      rcases faulted with ⟨n, snap, spoiled⟩ | full
      · simp [snap, spoiled]
      · simp [full]
    rw [exec_meterDwellEnd on dwell meters pair taken waited fault]
    simp only [Bool.true_or, if_true]
  case checkpoint =>
    have checkpoint : isCheckpoint c = true := by rw [isCheckpoint, what]
    exact ⟨_, exec_meterCheckpointDone runs checkpoint, Nv.done_checkpoint what⟩
  case committed =>
    have tail := Nv.done_tariff_tail (s := s) what
    have mt := Tariff.stored_mt what job
    subst done
    refine ⟨(tail.keeps (·.shadow) (fun _ _ => rfl)).trans (by rw [mt]), (tail.keeps (·.active) (fun _ _ => rfl)).trans (by rw [mt]),
      (tail.keeps (·.banks) (fun _ _ => rfl)).trans (by rw [mt]), fun early => ?_, fun late => ⟨?_, ?_⟩⟩
    · exact (tail.keeps (·.job) (fun _ _ => rfl)).trans (by rw [mt, if_pos early])
    · exact (tail.keeps (·.job) (fun _ _ => rfl)).trans (by rw [mt, if_neg (Nat.not_lt.mpr late)])
    · rw [Nv.effect, what]
      exact (Tariff.rebuilt_of_job job).2 late
  case due => exact exec_tariffSwitch_due valid due closed
  case next => exact exec_tariffSwitch_next valid inForce next waited closed

end Sys2Proof.Machine
end

section
/-!
LOOP_MANUAL and PRED_PAUSE on a list that holds two loops, or two zones, of one number (R157, R191): the commands change each
entry by its own state, the cases all of them by that of the first.  Refutes O36 and O40.
-/

namespace Sys2Proof.Machine

/-- A loop whose descriptor is 0, in AUTO. -/
def idleLoop : Loop := newLoop []

/-- The owner's session open, pair 1 armed and every tile powered. -/
def ownerReady : State := { State.reset with
  hub := { setup := .armed, pairs := [(1, { ctx := 0, desc := {
    sqBase := 0x20000, cqBase := 0x21000, stateAddr := 0x22000, log2Size := 5, space := .host, vector := 1, coalTime := 0
    coalCount := 0 } })] }
  cl := { sessions := [(0, { tenant := 0, rev := 2, weight := 4, queueLimit := 4 })]
          creds := [(0, { secret := 1, weight := 4, queueLimit := 4, groupMask := 0xFFFF, prioFloor := 1, rights := 0 })] }
  pw := { boot := .ready }
  tpow := Vector.replicate 4 .on }

/-- A packet of the owner on pair 1. -/
def ownerPacket (params : BitVec 384) : Packet where
  rev := 2
  irq := false
  suppressOk := false
  fence := false
  tag := 5
  client := 0
  queue := 1
  reserved := 0
  params := params

/-- On every tile two entries of loop 0, of which the second, which no lookup finds, is in FAULT. -/
def loopTwice : State :=
  { ownerReady with tiles := Vector.replicate 4 { loops := [(0, idleLoop), (0, { idleLoop with state := .fault })] } }

/-- LOOP_MANUAL of loop 0 of tile 0 with MODE 1 and the value 0. -/
def manualPacket : Packet := ownerPacket 0x100000000

/-- The states of the loops that stand on tile 0. -/
def loopStates (o : Host.Outcome State Fault Refusal) : List LoopState :=
  match o with
  | .next s => (s.tile 0).loops.map (fun e => e.2.state)
  | _ => []

theorem manual_met : (Case.loopManual idleLoop).met 1 manualPacket loopTwice = true := by decide +kernel

/-- Refutes O36: the command sets a FAULT entry's mode to return to, and leaves it in FAULT (R163); the case puts every entry of
the number in MANUAL. -/
theorem not_loopCommands : ¬ Obligations.LoopCommands := by
  unfold Obligations.LoopCommands
  intro ⟨_, _, _, _, manual, _, _, _⟩
  have ends := congrArg loopStates (manual idleLoop 1 manualPacket loopTwice manual_met)
  revert ends
  decide +kernel

/-- A zone whose descriptor is 0, RUNNING. -/
def idleZone : Zone := newZone []

/-- On every tile two entries of zone 0, of which the second, which no lookup finds, is in state CRC. -/
def zoneTwice : State :=
  { ownerReady with tiles := Vector.replicate 4 { zones := [(0, idleZone), (0, { idleZone with state := .crc })] } }

/-- PRED_PAUSE of zone 0 of tile 0. -/
def pausePacket : Packet := ownerPacket 0x100000000

/-- The states of the zones that stand on tile 0. -/
def zoneStates (o : Host.Outcome State Fault Refusal) : List ZoneState :=
  match o with
  | .next s => (s.tile 0).zones.map (fun e => e.2.state)
  | _ => []

theorem pause_met : (Case.predPause idleZone).met 1 pausePacket zoneTwice = true := by decide +kernel

/-- Refutes O40: the command leaves an entry in state CRC as it is; the case pauses every entry of the number. -/
theorem not_zoneCommands : ¬ Obligations.ZoneCommands := by
  unfold Obligations.ZoneCommands
  intro ⟨_, _, _, _, _, _, _, _, _, _, _, pause, _, _, _, _⟩
  have ends := congrArg zoneStates (pause idleZone 1 pausePacket zoneTwice pause_met)
  revert ends
  decide +kernel

end Sys2Proof.Machine
end

section
/-!
Presence (R141 to R146): its commands, tests, frames and seconds.  Settles O34.
-/

namespace Sys2Proof.Machine

theorem onPort_of_portOk {pk : Packet} {t : State} (h : Case.portOk pk t = true) (f : Nat → Nat → Verdict) :
    onPort pk t f = f (pk.u8 8) (pk.u8 9) := by
  obtain ⟨tile, named⟩ := (Bool.and_eq_true _ _).mp h
  obtain ⟨inRange, on⟩ := tileOk_iff.mp tile
  have named' : (decide (4 ≤ pk.u8 8) || decide (8 ≤ pk.u8 9)) = false := by
    simp only [Bool.or_eq_false_iff, decide_eq_false_iff_not, Nat.not_le]
    exact ⟨inRange, of_decide_eq_true named⟩
  simp only [onPort, named', on, Bool.not_true, Bool.false_eq_true, if_false]

theorem Case.presenceConfig_runs : Case.presenceConfig.Runs .presenceConfig := by
  refine Case.runs_of_body _ _ bodyPresenceConfig (fun _ _ _ => rfl) fun pk k t h => ?_
  simp only [Case.presenceConfig, Bool.and_eq_true, Bool.not_eq_true', beq_iff_eq] at h
  obtain ⟨⟨⟨port, inRange⟩, whole⟩, enabled⟩ := h
  rw [bodyPresenceConfig, onPort_of_portOk port]
  simp only [inRange, whole, enabled, bne_self_eq_false, Bool.false_eq_true, if_false, if_true]
  rfl

theorem Case.presenceOff_runs : Case.presenceOff.Runs .presenceConfig := by
  refine Case.runs_of_body _ _ bodyPresenceConfig (fun _ _ _ => rfl) fun pk k t h => ?_
  simp only [Case.presenceOff, Bool.and_eq_true, Bool.not_eq_true', beq_iff_eq] at h
  obtain ⟨⟨⟨port, inRange⟩, whole⟩, disabled⟩ := h
  rw [bodyPresenceConfig, onPort_of_portOk port]
  simp only [inRange, whole, disabled, bne_self_eq_false, Bool.false_eq_true, if_false]
  rfl

theorem Case.presenceRead_runs : Case.presenceRead.Runs .presenceRead := by
  refine Case.runs_of_body _ _ bodyPresenceRead (fun _ _ _ => rfl) fun pk k t h => ?_
  simp only [Case.presenceRead, Bool.and_eq_true, bne_iff_ne] at h
  obtain ⟨⟨port, readable⟩, on⟩ := h
  rw [bodyPresenceRead, onPort_of_portOk port]
  simp only [if_neg readable, beq_eq_false_iff_ne.mpr on, Bool.false_eq_true, if_false]
  rfl

theorem Case.presenceTest_runs : Case.presenceTest.Runs .presenceTest := by
  refine Case.runs_of_body _ _ bodyPresenceTest (fun _ _ _ => rfl) fun pk k t h => ?_
  simp only [Case.presenceTest, Bool.and_eq_true, bne_iff_ne] at h
  obtain ⟨port, on⟩ := h
  rw [bodyPresenceTest, onPort_of_portOk port]
  simp only [beq_eq_false_iff_ne.mpr on, Bool.false_eq_true, if_false]
  rfl

theorem Case.presenceRebase_runs : Case.presenceRebase.Runs .presenceRebase := by
  refine Case.runs_of_body _ _ bodyPresenceRebase (fun _ _ _ => rfl) fun pk k t h => ?_
  simp only [Case.presenceRebase, Bool.and_eq_true, bne_iff_ne] at h
  obtain ⟨port, on⟩ := h
  rw [bodyPresenceRebase, onPort_of_portOk port]
  simp only [beq_eq_false_iff_ne.mpr on, Bool.false_eq_true, if_false]
  rfl

/-! ## Tests, frames and seconds -/

theorem exec_presenceTestDone {t p : Nat} {k : Key} {rest : List Key} {s : State}
    (first : (List.range 8).find? (fun p => !(s.port t p).test.isEmpty) = some p) (held : (s.port t p).test = k :: rest) :
    exec (.presenceTestDone t) s = .next (Cmd.final k St.ok (result [(5, 1, bit ((s.port t p).passes s))])
      (s.modPort t p (fun x => { x with test := rest }))) := by
  change execPresenceTestDone t s = _
  simp only [execPresenceTestDone, first, held]

theorem exec_frameReceived {n ago bits : Nat} {px : List (BitVec 16)} {s : State} (runs : portRuns s (n / 8) (n % 8) = true)
    (free : (s.port (n / 8) (n % 8)).test = []) :
    exec (.frameReceived n ago bits px) s = .next (Port.frame (n / 8) (n % 8) (s.tb.elapsed - ago) bits px s) := by
  change Host.Outcome.next (whenever _ _ s) = _
  rw [whenever_of_true (by simp [runs, free])]

/-- A frame that starts too early after the one before (R142). -/
theorem Port.frame_of_early {t p start bits b : Nat} {px : List (BitVec 16)} {s : State}
    (before : (s.port t p).lastStart = some b) (early : start < b + 33300000) :
    Port.frame t p start bits px s = (s.modPort t p (fun x => { x with lastStart := some start })).modPort t p
      (fun x => { x with overruns := x.overruns + 1 }) := by
  simp only [Port.frame, before, decide_eq_true early, if_true]

/-- A frame in time is judged by its length, and taken up where that is right (R142). -/
theorem Port.frame_of_timely {t p start bits : Nat} {px : List (BitVec 16)} {s : State}
    (timely : ∀ b, (s.port t p).lastStart = some b → b + 33300000 ≤ start) :
    Port.frame t p start bits px s =
      let x := s.port t p
      let s := s.modPort t p (fun x => { x with lastStart := some start })
      if bits < 16 * x.pix then Port.wrongFrame t p true s
      else if 16 * x.pix < bits then Port.wrongFrame t p false s
      else
        Port.rightFrame t p (x.temps (px.take x.pix) ++ List.replicate (x.pix - (x.temps (px.take x.pix)).length) (fnum x.offset))
          ((x.lastStart.map (fun b => start - b)).getD 0) s := by
  unfold Port.frame
  cases before : (s.port t p).lastStart with
  | none => simp only [before, Bool.false_eq_true, if_false, Option.map_none, Option.getD_none]
  | some b =>
    simp only [before, decide_eq_false (Nat.not_lt.mpr (timely b before)), Bool.false_eq_true, if_false, Option.map_some,
      Option.getD_some]

theorem Port.temps_of_whole {x : Port} {px : List (BitVec 16)} (whole : px.length = x.pix) :
    x.temps (px.take x.pix) ++ List.replicate (x.pix - (x.temps (px.take x.pix)).length) (fnum x.offset) =
      px.map (fun v => fnum x.gain * (v.toNat : Rat) + fnum x.offset) := by
  rw [← whole, List.take_length]
  simp [Port.temps]

theorem exec_presenceSecond {s u : State} (live : s.live = true) (waited : u = untilTb (s.mt.presenceSec * 1000000000) s) :
    exec .presenceSecond s = .next (allPorts.foldl (fun s tp => Port.endSecond tp.1 tp.2 s)
      { u with mt := { u.mt with presenceSec := u.sec + 1 } }) := by
  change Host.Outcome.next (whenever _ _ s) = _
  rw [whenever_of_true live, waited]

/-- Settles O34: the commands by their checks, a frame by its start and its length. -/
theorem presenceCommandsAndHappenings : Obligations.PresenceCommandsAndHappenings := by
  unfold Obligations.PresenceCommandsAndHappenings
  refine ⟨Case.presenceConfig_runs, Case.presenceOff_runs, Case.presenceRead_runs, Case.presenceTest_runs,
    Case.presenceRebase_runs, fun t p k rest s => exec_presenceTestDone, fun n ago bits px s u x dt runs port free named begun passed => ?frame,
    fun s u => exec_presenceSecond⟩
  case frame =>
    subst port
    rw [exec_frameReceived runs free]
    refine ⟨fun ⟨b, before, early⟩ => ?_, fun timely => ?_⟩
    · rw [Port.frame_of_early before early, ← begun]
    · rw [Port.frame_of_timely timely]
      dsimp only
      rw [← begun, ← passed]
      refine ⟨fun short => by rw [if_pos short], fun long => ?_, fun right whole => ?_⟩
      · rw [if_neg (by omega), if_pos long]
      · rw [if_neg (by omega), if_neg (by omega), Port.temps_of_whole whole]

end Sys2Proof.Machine
end

section
/-!
The loop engine: the PID family's law and which loops evaluate (R153, R155, R163, R165).  Settles O37 and O39.
-/

namespace Sys2Proof.Machine

/-! ## The law of the PID family (R155) -/

theorem rclamp_of_mem {lo hi x : Rat} (above : lo ≤ x) (below : x ≤ hi) : rclamp lo hi x = x := by
  rw [rclamp, if_neg (not_lt.mpr above), if_neg (not_lt.mpr below)]

theorem rclamp_of_lt {lo hi x : Rat} (below : x < lo) : rclamp lo hi x = lo := if_pos below

theorem rclamp_of_gt {lo hi x : Rat} (order : lo ≤ hi) (above : hi < x) : rclamp lo hi x = hi := by
  rw [rclamp, if_neg (by linarith), if_pos above]

theorem rclamp_mem {lo hi : Rat} (x : Rat) (order : lo ≤ hi) : lo ≤ rclamp lo hi x ∧ rclamp lo hi x ≤ hi := by
  rw [rclamp]
  split
  · exact ⟨le_refl _, order⟩
  · split
    · exact ⟨order, le_refl _⟩
    · constructor <;> linarith

/-- The sum of the terms shifted clamps as the integral does within the limits less the other terms. -/
theorem rclamp_sum (lo hi p d f i : Rat) : p + rclamp (lo - p - d - f) (hi - p - d - f) i + d + f = rclamp lo hi (p + i + d + f) := by
  rcases lt_or_ge (p + i + d + f) lo with low | notLow
  · rw [rclamp_of_lt low, rclamp_of_lt (by linarith)]
    ring
  rcases lt_or_ge hi (p + i + d + f) with high | notHigh
  · have above : rclamp (lo - p - d - f) (hi - p - d - f) i = hi - p - d - f := by
      rw [rclamp, if_neg (not_lt.mpr (by linarith)), if_pos (by linarith)]
    have above' : rclamp lo hi (p + i + d + f) = hi := by rw [rclamp, if_neg (not_lt.mpr notLow), if_pos high]
    rw [above, above']
    ring
  · rw [rclamp_of_mem notLow notHigh, rclamp_of_mem (by linarith) (by linarith)]

section
variable {c : Pid} {x : PidIn} {p d i : Rat}

theorem Pid.eval_of_manual {u : Rat} (hp : p = x.kp * x.sg * (x.beta * x.sp - x.pv))
    (hd : d = if 0 < x.td then (x.tf * fnum c.deriv - x.kp * x.td * x.sg * (x.pv - (if x.first then x.pv else fnum c.pvPrev)))
      / (x.tf + x.dt) else 0) (manual : x.manual = some u) :
    c.eval x = ({ integ := fof (u - p - d - x.ff), deriv := fof d, pvPrev := fof x.pv }, u, false) := by
  simp only [Pid.eval, manual, ← hp, ← hd]

/-- Without a command the integral goes on, and gives way to a limit unless it is frozen. -/
theorem Pid.eval_of_auto (hp : p = x.kp * x.sg * (x.beta * x.sp - x.pv))
    (hd : d = if 0 < x.td then (x.tf * fnum c.deriv - x.kp * x.td * x.sg * (x.pv - (if x.first then x.pv else fnum c.pvPrev)))
      / (x.tf + x.dt) else 0)
    (hi : i = (match x.bump with
      | some u => u - p - d - x.ff
      | none => fnum c.integ) + (if 0 < x.ti ∧ x.freeze = false then x.kp * x.dt / x.ti * (x.sg * (x.sp - x.pv)) else 0))
    (auto : x.manual = none) :
    c.eval x = ({ integ := fof (if x.freeze then i else rclamp (x.lo - p - d - x.ff) (x.hi - p - d - x.ff) i)
                  deriv := fof d, pvPrev := fof x.pv },
      rclamp x.lo x.hi (p + (if x.freeze then i else rclamp (x.lo - p - d - x.ff) (x.hi - p - d - x.ff) i) + d + x.ff),
      decide (p + i + d + x.ff < x.lo) || decide (x.hi < p + i + d + x.ff)) := by
  have grown (a : Rat) : (if (decide (0 < x.ti) && !x.freeze) = true then a + x.kp * x.dt / x.ti * (x.sg * (x.sp - x.pv)) else a)
      = a + if 0 < x.ti ∧ x.freeze = false then x.kp * x.dt / x.ti * (x.sg * (x.sp - x.pv)) else 0 := by
    by_cases grows : 0 < x.ti ∧ x.freeze = false
    · rw [if_pos grows, if_pos (by simp [grows])]
    · rw [if_neg grows, if_neg (by simpa using grows), add_zero]
  cases bump : x.bump with
  | none =>
    rw [bump] at hi
    simp only [Pid.eval, auto, bump, ← hp, ← hd, grown]
    rw [← hi]
  | some u =>
    rw [bump] at hi
    simp only [Pid.eval, auto, bump, ← hp, ← hd, grown]
    rw [← hi]

end

/-- Settles O39: MANUAL by its own equation, AUTO by the place of the sum between the limits. -/
theorem controllerLaw : Obligations.ControllerLaw := by
  unfold Obligations.ControllerLaw
  intro c x p d i r order hr hp hd hi
  cases manual : x.manual with
  | some u =>
    rw [Pid.eval_of_manual hp hd manual] at hr
    subst hr
    exact ⟨rfl, rfl, fun v same => (by cases same; exact ⟨rfl, rfl, rfl⟩), fun no => (by cases no)⟩
  | none =>
    rw [Pid.eval_of_auto hp hd hi manual] at hr
    subst hr
    have mem := rclamp_mem (p + (if x.freeze then i else rclamp (x.lo - p - d - x.ff) (x.hi - p - d - x.ff) i) + d + x.ff) order
    refine ⟨rfl, rfl, fun v no => (by cases no), fun _ => ⟨mem.1, mem.2, fun above below => ?_, fun above => ?_, fun below => ?_⟩⟩
    · have still : (if x.freeze then i else rclamp (x.lo - p - d - x.ff) (x.hi - p - d - x.ff) i) = i := by
        rw [rclamp_of_mem (by linarith) (by linarith), ite_self]
      simp only [still, rclamp_of_mem above below, decide_eq_false (not_lt.mpr above), decide_eq_false (not_lt.mpr below),
        Bool.or_self, and_self]
    · have low : ¬ p + i + d + x.ff < x.lo := by linarith
      have clamped : rclamp (x.lo - p - d - x.ff) (x.hi - p - d - x.ff) i = x.hi - p - d - x.ff :=
        rclamp_of_gt (by linarith) (by linarith)
      refine ⟨?_, by simp [above], by rw [clamped]⟩
      dsimp only
      split
      · exact rclamp_of_gt order above
      · rw [rclamp_sum, rclamp_of_gt order above, rclamp_of_mem order (le_refl _)]
    · have clamped : rclamp (x.lo - p - d - x.ff) (x.hi - p - d - x.ff) i = x.lo - p - d - x.ff := rclamp_of_lt (by linarith)
      refine ⟨?_, by simp [below], by rw [clamped]⟩
      dsimp only
      split
      · exact rclamp_of_lt below
      · rw [rclamp_sum, rclamp_of_lt below, rclamp_of_mem (le_refl _) order]

/-! ## Evaluation (R153, R163, R165) -/

theorem exec_loopEvaluation {t b : Nat} {s : State} (may : loopsMayRun s t = true) (next : nextLoopBoundary (s.tile t) = some b) :
    exec (.loopEvaluation t) s = .next (Loops.evaluate t b (dueLoops ((Meter.dueFirst (untilTb b s)).tile t) b)
      (Meter.dueFirst (untilTb b s))) := by
  change Host.Outcome.next (whenever _ _ s) = _
  rw [whenever_of_true may, Loops.run, next]

/-- Reading its inputs changes a loop's watches and flags alone. -/
theorem Loop.inputs_frame (s : State) (t : Nat) (l : Loop) :
    ∃ w f, (l.inputs s t).1 = { l with watch := w, flags := f } := by
  unfold Loop.inputs
  extract_lets step l0
  have kept (a : Loop × List (Option F32)) (i : Nat) (h : ∃ w f, a.1 = { l with watch := w, flags := f }) :
      ∃ w f, (step a i).1 = { l with watch := w, flags := f } := by
    obtain ⟨w, f, ha⟩ := h
    unfold step
    dsimp only
    split
    · exact ⟨w, f, ha⟩
    · rw [ha]
      exact ⟨_, _, rfl⟩
  exact kept _ 2 (kept _ 1 (kept _ 0 ⟨_, _, rfl⟩))

theorem Loop.faulted_congr {l m : Loop} (desc : m.desc = l.desc) (vs : List (Option F32)) : m.faulted vs = l.faulted vs := by
  cases l
  cases m
  cases desc
  rfl

theorem Loop.stays_congr {l m : Loop} (desc : m.desc = l.desc) (state : m.state = l.state) (vs : List (Option F32)) :
    m.stays vs = l.stays vs := by
  cases l
  cases m
  cases desc
  cases state
  rfl

theorem State.loop_lt {s : State} {t d : Nat} {l : Loop} (h : s.loop t d = some l) : t < 4 := by
  by_contra beyond
  have off : s.tile t = {} := by simp [State.tile, vget, Nat.not_lt.mp beyond]
  rw [State.loop, off] at h
  cases h

theorem State.modLoop_loop {s : State} {t d : Nat} {l : Loop} (h : s.loop t d = some l) (f : Loop → Loop) :
    (s.modLoop t d f).loop t d = some (f l) := by
  rw [State.loop, State.modLoop, State.modTile_tile_self _ _ _ (State.loop_lt h), aget_amod]
  rw [State.loop] at h
  rw [h]
  rfl

theorem State.modLoop_loop_other {s : State} {t d i : Nat} (other : i ≠ d) (f : Loop → Loop) :
    (s.modLoop t d f).loop t i = s.loop t i := by
  by_cases named : t < 4
  · rw [State.loop, State.modLoop, State.modTile_tile_self _ _ _ named, aget_amod_other _ _ _ _ other]
    rfl
  · have off (u : State) : u.tile t = {} := by simp [State.tile, vget, Nat.not_lt.mp named]
    rw [State.loop, State.loop, off, off]

/-- A loop in AUTO whose inputs are healthy evaluates its law and gives its two outputs. -/
theorem Loop.evaluate_of_healthy {snap s : State} {t d b : Nat} {l : Loop} (found : s.loop t d = some l) (whole : l.whole = true)
    (auto : l.state = .auto) (healthy : l.faulted (l.inputs snap t).2 = false) (free : l.stays (l.inputs snap t).2 = false) :
    ∃ m n v, Loop.evaluate snap t d b s = Loop.publish t d (Loop.emit t d 1 (Loop.emit t d 0 v)) ∧
      m = Loop.law n (Loop.lawIn s t b n (l.inputs snap t).2) ∧ n.desc = l.desc ∧ n.pid = l.pid ∧ n.u = l.u ∧
      n.pv = (((l.inputs snap t).2[0]?).getD none).getD l.pv ∧ n.sp = l.setpoint (l.inputs snap t).2 ∧
      v = s.drawn.modLoop t d (fun _ => { m with bumpless := false, writes := n.writes + 1, released := false }) := by
  obtain ⟨w, f, frame⟩ := Loop.inputs_frame snap t l
  unfold Loop.evaluate
  rw [found]
  dsimp -zeta only
  rw [if_neg (by rw [auto]; decide), if_neg (by simp [whole])]
  extract_lets r vs l1 l2 marks l3 n u was failed v1 v2 n' law m v w
  have desc : n.desc = l.desc := by
    change (l.inputs snap t).1.desc = _
    rw [frame]
  have state : n.state = l.state := by
    change (l.inputs snap t).1.state = _
    rw [frame]
  have pid : n.pid = l.pid := by
    change (l.inputs snap t).1.pid = _
    rw [frame]
  have before : n.u = l.u := by
    change (l.inputs snap t).1.u = _
    rw [frame]
  have pv : n.pv = (((l.inputs snap t).2[0]?).getD none).getD l.pv := by
    change (((l.inputs snap t).2[0]?).getD none).getD (l.inputs snap t).1.pv = _
    rw [frame]
  have sp : n.sp = l.setpoint (l.inputs snap t).2 := by
    change (((l.inputs snap t).2[1]?).getD none).getD ((l.inputs snap t).1.param 7) = _
    rw [frame]
    rfl
  have goesOn : ¬ (n.faulted vs || n.stays vs) = true := by
    rw [Loop.faulted_congr desc, Loop.stays_congr desc state, healthy, free]
    decide
  have ran : ¬ (was == .fault) = true := by
    change ¬ (n.state == .fault) = true
    rw [state, auto]
    decide
  have same : n' = n := if_neg ran
  have w_eq : w = v := if_neg ran
  refine ⟨n.law (Loop.lawIn s t b n vs), n, v, ?_, rfl, desc, pid, before, pv, sp, ?_⟩
  · rw [if_neg goesOn, w_eq]
  · simp only [v, m, law, same]
    rfl

/-- A loop whose descriptor fails its CRC releases its outputs and raises LOOP_CRC (R165). -/
theorem Loop.evaluate_of_torn {snap s : State} {t d b : Nat} {l : Loop} (found : s.loop t d = some l) (sound : l.state ≠ .crc)
    (torn : l.whole = false) :
    Loop.evaluate snap t d b s = Ev.raise (tileSource t 8) 0 (packLe [(2, d)]) (Loop.publish t d (Loop.release t l
      (s.modLoop t d (fun l => { l with state := .crc, released := true, wrote0 := none, wrote1 := none })))) := by
  unfold Loop.evaluate
  rw [found]
  dsimp -zeta only
  rw [if_neg (by simpa using sound), if_pos (by simp [torn])]

theorem Loop.evaluate_of_crc {snap s : State} {t d b : Nat} {l : Loop} (found : s.loop t d = some l) (failed : l.state = .crc) :
    Loop.evaluate snap t d b s = s := by
  unfold Loop.evaluate
  rw [found]
  dsimp -zeta only
  rw [if_pos (by simp [failed])]

/-- Settles O37: the boundary by the step's own equation, each evaluation by the state of its loop. -/
theorem loopsEvaluate : Obligations.LoopsEvaluate := by
  unfold Obligations.LoopsEvaluate
  refine ⟨fun t b due s w u may next waited isDue loaded => ?run, fun snap s t d b l found whole auto healthy free => ?healthy,
    fun snap s t d b l => Loop.evaluate_of_torn, fun snap s t d b l => Loop.evaluate_of_crc⟩
  case run =>
    rw [exec_loopEvaluation may next, ← waited, ← isDue, loaded]
    rfl
  case healthy =>
    obtain ⟨m, n, v, evaluated, law, desc, pid, before, pv, sp, hv⟩ := Loop.evaluate_of_healthy (b := b) found whole auto healthy free
    refine ⟨m, n, v, evaluated, law, desc, pid, before, pv, sp, ?_, fun i other => ?_⟩
    · rw [hv]
      exact State.modLoop_loop (s := s.drawn) found _
    · rw [hv]
      exact State.modLoop_loop_other (s := s.drawn) other _

end Sys2Proof.Machine
end

section
/-!
The zone predictor at work (R177 to R191).  Settles O41.
-/

namespace Sys2Proof.Machine

/-! ## The moves of a plan (R177, R178) -/

/-- Every input's value is finite and within the input's limits, where these are an interval. -/
def Zone.WithinLimits (z : Zone) (u : List F32) : Prop :=
  ∀ i, i < z.nm → z.umin i < z.umax i → ffinite (z.f32 (120 + 4 * i)) = true → ffinite (z.f32 (136 + 4 * i)) = true →
    ffinite (u.getD i 0) = true ∧ z.umin i ≤ fnum (u.getD i 0) ∧ fnum (u.getD i 0) ≤ z.umax i

theorem Zone.inBox_mem {z : Zone} {i : Nat} (v : F32) (order : z.umin i < z.umax i) (lo : ffinite (z.f32 (120 + 4 * i)) = true)
    (hi : ffinite (z.f32 (136 + 4 * i)) = true) :
    ffinite (z.inBox i v) = true ∧ z.umin i ≤ fnum (z.inBox i v) ∧ fnum (z.inBox i v) ≤ z.umax i := by
  unfold Zone.inBox
  split
  · exact ⟨lo, le_refl _, le_of_lt order⟩
  · next inside =>
    simp only [Bool.or_eq_true, Bool.not_eq_true', decide_eq_true_eq, not_or, Bool.not_eq_false, not_lt] at inside
    split
    · exact ⟨hi, le_of_lt order, le_refl _⟩
    · next below => exact ⟨inside.1, inside.2, not_lt.mp below⟩

theorem Zone.withinLimits_map {z : Zone} (f : Nat → F32) :
    z.WithinLimits ((List.range z.nm).map (fun i => z.inBox i (f i))) := by
  intro i hi order lo hi'
  have entry : ((List.range z.nm).map (fun i => z.inBox i (f i))).getD i 0 = z.inBox i (f i) := by simp [hi]
  rw [entry]
  exact Zone.inBox_mem _ order lo hi'

theorem Zone.leastMove_withinLimits (z : Zone) : z.WithinLimits z.leastMove := by
  intro i hi order lo hi'
  have entry : z.leastMove.getD i 0 = z.f32 (120 + 4 * i) := by simp [Zone.leastMove, hi]
  rw [entry]
  exact ⟨lo, le_refl _, le_of_lt order⟩

/-- A demand limit stands only where the least move meets it. -/
theorem Zone.powerOf_leastMove_le {z : Zone} {limit : F32} {l : Rat} (h : z.demandLimit limit = some l) :
    z.powerOf z.leastMove ≤ l := by
  unfold Zone.demandLimit at h
  split at h
  · cases h
  · split at h
    · cases h
    · next meets =>
      cases h
      exact not_lt.mp meets

theorem Zone.lawful_withinLimits (z : Zone) (limit : F32) (v : List F32) : z.WithinLimits (z.lawful limit v) := by
  unfold Zone.lawful
  dsimp only
  split
  · exact Zone.withinLimits_map _
  · split
    · exact Zone.withinLimits_map _
    · split
      · exact Zone.withinLimits_map _
      · exact Zone.leastMove_withinLimits z

theorem Zone.powerOf_lawful_le {z : Zone} {limit : F32} {l : Rat} (v : List F32) (h : z.demandLimit limit = some l) :
    z.powerOf (z.lawful limit v) ≤ l := by
  unfold Zone.lawful
  simp only [h]
  split
  · assumption
  · split
    · assumption
    · exact Zone.powerOf_leastMove_le h

/-- A move of a plan that at least one iteration made is the projection of some point. -/
theorem Zone.planFrom_move {s : State} {z : Zone} {v : Solve} {k : Nat} {u : List F32} (iterated : 0 < v.iterations)
    (move : (z.planFrom s v).moves[k]? = some u) : ∃ w, u = z.lawful (v.limit.getD k 0) w := by
  obtain ⟨n, hn⟩ := Nat.exists_eq_succ_of_ne_zero (Nat.ne_of_gt iterated)
  have last : (z.planFrom s v).moves = (z.iterate v (Nat.repeat (z.iterate v) n (z.admmStart s.free))).zu := by
    rw [Zone.planFrom, hn]
    rfl
  rw [last, Zone.iterate, List.getElem?_map, Option.map_eq_some_iff] at move
  obtain ⟨i, hi, rfl⟩ := move
  obtain ⟨_, rfl⟩ := List.getElem?_eq_some_iff.mp hi
  rw [List.getElem_range]
  exact ⟨_, rfl⟩

/-! ## Plans and rebuilds (R184, R186) -/

theorem Zone.has_put {z : Zone} {n : Nat} (b : Bool) (h : n < 32) : (z.put n b).has n = b :=
  (putBit_getLsbD _ b h h).trans (if_pos rfl)

theorem Zone.published_plan (z : Zone) (p : Plan) : (z.published p).plan = some p ∧ (z.published p).shifts = 0 ∧
    (z.published p).solve = none ∧ (z.published p).has psPlanStale = false :=
  ⟨rfl, rfl, rfl, Zone.has_put false (by decide)⟩

theorem Zone.shifted_plan {z : Zone} {p : Plan} (plan : z.plan = some p) (more : z.shifts < z.horizon) :
    z.shifted.plan = some p ∧ z.shifted.shifts = z.shifts + 1 ∧ z.shifted.has psPlanStale = true ∧
    (z.shifts + 1 = z.horizon → z.state = .running → z.shifted.state = .starved) := by
  have next : min (z.shifts + 1) z.horizon = z.shifts + 1 := Nat.min_eq_left more
  simp only [Zone.shifted, plan, next]
  refine ⟨rfl, rfl, Zone.has_put true (by decide), fun last running => ?_⟩
  exact if_pos (by simp [last, running])

/-! ## Steps of the predictor -/

theorem exec_zoneBoundary {t n : Nat} {z : Zone} {s : State} (found : s.zone t n = some z) (on : s.tileOn t = true)
    (due : firstDue (s.tile t) n z = true) :
    exec (.zoneBoundary t n) s = .next (Zone.boundary t n z.next false (Meter.dueFirst (untilTb z.next s))) := by
  change Host.Outcome.next (Zone.runDue t n s) = _
  simp only [Zone.runDue, found, on, due, Bool.and_self, if_true]

theorem exec_solveComplete {t n : Nat} {z : Zone} {v : Solve} {p : Plan} {s : State}
    (running : runningSolve (s.tile t) = some (n, z, v)) (on : s.tileOn t = true) (runs : predictorRuns s = true)
    (inTime : s.ns ≤ v.deadline) (plan : p = z.planFrom s v) :
    exec (.solveComplete t n) s = .next (Solves.pick t ((s.modZone t n (fun z =>
      { z with solve := some { v with done := some p } }.put psInfeasible p.infeasible)).drawnN z.planDraws)) := by
  change execSolveComplete t n s = _
  simp only [execSolveComplete, running, on, runs, inTime, decide_true, Bool.and_self, if_true, ← plan]

section
variable {t n : Nat} {z : Zone} {o : OffSolve} {r : List OffSolve} {s : State}

theorem exec_predSolveDone {p : Plan} (found : s.zone t n = some z) (first : z.off = o :: r) (runs : predictorRuns s = true)
    (on : s.tileOn t = true) (idle : lanesIdle s t = true) (inTime : s.tb.elapsed ≤ o.deadline) (model : z.model.isSome = true)
    (plan : p = z.offPlanNow s t o) :
    exec (.predSolveDone t n) s = .next (Cmd.final o.key St.ok
      (result [(5, 4, p.cost.toNat), (9, 4, p.primal.toNat), (13, 4, p.dual.toNat)])
      ((s.modZone t n (fun z => { z with off := r, offPlan := some p })).drawnN (z.nm + z.planDraws))) := by
  change execPredSolveDone t n s = _
  simp only [execPredSolveDone, found, first, runs, on, idle, inTime, model, decide_true, Bool.and_self, if_true, ← plan]

theorem exec_predSolveTimeout (found : s.zone t n = some z) (first : z.off = o :: r) :
    exec (.predSolveTimeout t n) s = .next (Cmd.final o.key St.loadExceeded 0
      ((untilElapsed o.deadline s).modZone t n (fun z => { z with off := r }))) := by
  change execPredSolveTimeout t n s = _
  simp only [execPredSolveTimeout, found, first]

theorem exec_gainRebuildDone {u : State} (found : s.zone t n = some z) (runs : predictorRuns s = true) (on : s.tileOn t = true)
    (idle : lanesIdle s t = true)
    (boundary : u = if z.next ≤ s.ns then Zone.boundary t n z.next false (Meter.dueFirst s) else s) :
    exec (.gainRebuildDone t n) s = .next (u.modZone t n Zone.finishRebuild) := by
  change execGainRebuildDone t n s = _
  simp only [execGainRebuildDone, found, runs, on, idle, Bool.and_self, if_true, ← boundary]

end

/-- A rebuild that completes fills the shadow bank and changes nothing else of its zone. -/
theorem Zone.finishRebuild_of_open {z : Zone} {r : Rebuild} (open' : z.rebuild = some r) :
    z.finishRebuild = { z with shadow := z.rebuilt r, rebuild := some { r with done := true } } := by
  simp only [Zone.finishRebuild, open']

/-- Settles O41: each happening where its condition holds; the moves of a plan by the projection that made them. -/
theorem zoneHappenings : Obligations.ZoneHappenings := by
  unfold Obligations.ZoneHappenings
  refine ⟨fun t n z s => exec_zoneBoundary, fun t n z v p s => exec_solveComplete, fun t n z o r p s => exec_predSolveDone,
    fun t n z o r s => exec_predSolveTimeout, fun t n z s u => exec_gainRebuildDone, fun z r open' => ?rebuild,
    fun z p => Zone.published_plan z p, fun z p => Zone.shifted_plan, fun s z v k u iterated move => ?moves⟩
  case rebuild =>
    rw [Zone.finishRebuild_of_open open']
    exact ⟨rfl, rfl, rfl⟩
  case moves =>
    obtain ⟨w, rfl⟩ := Zone.planFrom_move iterated move
    exact ⟨fun l limit => Zone.powerOf_lawful_le w limit, Zone.lawful_withinLimits _ _ _⟩

end Sys2Proof.Machine
end

section
/-!
Commands on drives, analogue outputs and fan ports (R197, R200 to R215).  Settles O42.
-/

namespace Sys2Proof.Machine

theorem onOutput_of_outOk {n : Nat} {pk : Packet} {t : State} (h : Case.outOk n pk t = true) (f : Nat → Nat → Verdict) :
    onOutput n pk t f = f (pk.u8 8) (pk.u8 9) := by
  obtain ⟨tile, named⟩ := (Bool.and_eq_true _ _).mp h
  obtain ⟨inRange, on⟩ := tileOk_iff.mp tile
  have named' : (decide (4 ≤ pk.u8 8) || decide (n ≤ pk.u8 9)) = false := by
    simp only [Bool.or_eq_false_iff, decide_eq_false_iff_not, Nat.not_le]
    exact ⟨inRange, of_decide_eq_true named⟩
  simp only [onOutput, named', on, Bool.not_true, Bool.false_eq_true, if_false]

theorem State.modDrive_drive (s : State) {t j : Nat} (f : Drive → Drive) (ht : t < 4) (hj : j < 24) :
    ((s.modDrive t j f).tile t).drive j = f ((s.tile t).drive j) := by
  rw [State.modDrive, State.modTile_tile_self _ _ _ ht]
  exact (vget_vmod _ _ _ _ _ hj).trans (if_pos rfl)

/-! ## Drive channels -/

theorem Case.drvConfig_runs : Case.drvConfig.Runs .drvConfig := by
  refine Case.runs_of_body _ _ bodyDrvConfig (fun _ _ _ => rfl) fun pk k t h => ?_
  simp only [Case.drvConfig, Bool.and_eq_true, Option.isNone_iff_eq_none, Bool.not_eq_true'] at h
  obtain ⟨⟨out, judged⟩, idle⟩ := h
  rw [bodyDrvConfig, onOutput_of_outOk out]
  simp only [Drv.command, judged, idle, Bool.false_eq_true, if_false]
  rfl

theorem Case.drvProfile_runs : Case.drvProfile.Runs .drvProfile := by
  refine Case.runs_of_body _ _ bodyDrvProfile (fun _ _ _ => rfl) fun pk k t h => ?_
  simp only [Case.drvProfile, Bool.and_eq_true, decide_eq_true_eq, beq_iff_eq] at h
  obtain ⟨⟨⟨⟨⟨tile, bank⟩, number⟩, count⟩, rest⟩, entries⟩ := h
  obtain ⟨inRange, on⟩ := tileOk_iff.mp tile
  have named : (decide (4 ≤ pk.u8 8) || decide (4 ≤ pk.u8 9) || decide (16 ≤ pk.u8 10)) = false := by
    simp only [Bool.or_eq_false_iff, decide_eq_false_iff_not]
    omega
  have counted : (decide (pk.u8 11 = 0) || decide (6 < pk.u8 11)) = false := by
    simp only [Bool.or_eq_false_iff, decide_eq_false_iff_not]
    omega
  simp only [Case.phases] at entries
  simp only [bodyDrvProfile, named, on, counted, rest, entries, bne_self_eq_false, Bool.not_true, Bool.false_eq_true, if_false]
  rfl

/-- A command to a channel that the sender may set, by its MODE byte (R200, R201). -/
theorem bodyDrvCommand_of_settable {pk : Packet} {k : Key} {t : State} (h : Case.drvSettable pk t = true) :
    (pk.u8 10 = 0 → percentOk (pk.f32 16) = true →
      bodyDrvCommand pk k t = .ok 0 (Drv.demand (pk.u8 8) (pk.u8 9) (pk.f32 16) (Drv.heard (pk.u8 8) (pk.u8 9) t))) ∧
    (pk.u8 10 = 1 ∨ pk.u8 10 = 2 → ((t.tile (pk.u8 8)).drive (pk.u8 9)).cfg.mode < 2 →
      bodyDrvCommand pk k t = .ok 0 (Drv.bare (pk.u8 8) (pk.u8 9) (pk.u8 10 == 1) (Drv.heard (pk.u8 8) (pk.u8 9) t))) := by
  simp only [Case.drvSettable, Bool.and_eq_true, Bool.not_eq_true'] at h
  obtain ⟨⟨out, may⟩, own⟩ := h
  rw [bodyDrvCommand, onOutput_of_outOk out]
  simp only [may, own, Bool.not_true, Bool.false_eq_true, if_false]
  refine ⟨fun demand inRange => ?_, fun bare mode => ?_⟩
  · rw [if_neg (by omega), if_pos demand, if_pos inRange]
  · rw [if_neg (by omega), if_neg (by omega), if_neg (Nat.not_le.mpr mode)]

theorem Case.drvDemand_runs : Case.drvDemand.Runs .drvCommand := by
  refine Case.runs_of_body _ _ bodyDrvCommand (fun _ _ _ => rfl) fun pk k t h => ?_
  simp only [Case.drvDemand, Bool.and_eq_true, beq_iff_eq] at h
  obtain ⟨⟨settable, demand⟩, inRange⟩ := h
  exact (bodyDrvCommand_of_settable settable).1 demand inRange

/-- A bare ON or OFF leaves what is configured, and what waits, as it is. -/
theorem bareTo_drive {b : Bool} {pk : Packet} {t : State} (h : Case.drvSettable pk t = true) :
    (((Case.bareTo b pk t).tile (pk.u8 8)).drive (pk.u8 9)).cfg = ((t.tile (pk.u8 8)).drive (pk.u8 9)).cfg ∧
    (((Case.bareTo b pk t).tile (pk.u8 8)).drive (pk.u8 9)).wait = ((t.tile (pk.u8 8)).drive (pk.u8 9)).wait := by
  simp only [Case.drvSettable, Case.outOk, Bool.and_eq_true, decide_eq_true_eq] at h
  obtain ⟨⟨⟨tile, channel⟩, -⟩, -⟩ := h
  have ht := (tileOk_iff.mp tile).1
  rw [Case.bareTo, Drv.note, State.modDrive_drive _ _ ht channel, Drv.heard, State.modDrive_drive _ _ ht channel]
  exact ⟨rfl, rfl⟩

/-- Bare ON or OFF by what waits and by the channel's MODE (R200, R210). -/
theorem bare_eq {b : Bool} {pk : Packet} {t : State} (h : Case.drvSettable pk t = true) :
    Drv.bare (pk.u8 8) (pk.u8 9) b (Drv.heard (pk.u8 8) (pk.u8 9) t) =
      if ((t.tile (pk.u8 8)).drive (pk.u8 9)).wait.isSome then
        (Case.bareTo b pk t).modDrive (pk.u8 8) (pk.u8 9) (fun d => { d with isOn := true })
      else if ((t.tile (pk.u8 8)).drive (pk.u8 9)).cfg.mode = 1 then
        if b then Drv.on (pk.u8 8) (pk.u8 9) ((Case.bareTo b pk t).modDrive (pk.u8 8) (pk.u8 9) (fun d => { d with isOn := b }))
        else Drv.off (pk.u8 8) (pk.u8 9) ((Case.bareTo b pk t).modDrive (pk.u8 8) (pk.u8 9) (fun d => { d with isOn := b }))
      else Case.bareTo b pk t := by
  obtain ⟨cfg, wait⟩ := bareTo_drive (b := b) h
  rw [← cfg, ← wait]
  unfold Drv.bare
  change (if (((Case.bareTo b pk t).tile (pk.u8 8)).drive (pk.u8 9)).wait.isSome = true
    then Drv.act (pk.u8 8) (pk.u8 9) (Case.bareTo b pk t) else _) = _
  by_cases waits : (((Case.bareTo b pk t).tile (pk.u8 8)).drive (pk.u8 9)).wait.isSome = true
  · rw [if_pos waits, if_pos waits]
    exact if_pos waits
  · rw [if_neg waits, if_neg waits]
    rfl

theorem Case.drvOn_runs : Case.drvOn.Runs .drvCommand := by
  refine Case.runs_of_body _ _ bodyDrvCommand (fun _ _ _ => rfl) fun pk k t h => ?_
  simp only [Case.drvOn, Bool.and_eq_true, beq_iff_eq, Option.isNone_iff_eq_none] at h
  obtain ⟨⟨⟨settable, op⟩, mode⟩, free⟩ := h
  rw [(bodyDrvCommand_of_settable settable).2 (Or.inl op) (by omega), op, bare_eq settable, free, mode]
  rfl

theorem Case.drvOff_runs : Case.drvOff.Runs .drvCommand := by
  refine Case.runs_of_body _ _ bodyDrvCommand (fun _ _ _ => rfl) fun pk k t h => ?_
  simp only [Case.drvOff, Bool.and_eq_true, beq_iff_eq, Option.isNone_iff_eq_none] at h
  obtain ⟨⟨⟨settable, op⟩, mode⟩, free⟩ := h
  rw [(bodyDrvCommand_of_settable settable).2 (Or.inr op) (by omega), op, bare_eq settable, free, mode]
  rfl

theorem bare_op {on : Bool} {n : Nat} (h : n = if on = true then 1 else 2) : (n = 1 ∨ n = 2) ∧ (n == 1) = on := by
  cases on <;> simp_all

theorem Case.drvBareWaits_runs (on : Bool) : (Case.drvBareWaits on).Runs .drvCommand := by
  refine Case.runs_of_body _ _ bodyDrvCommand (fun _ _ _ => rfl) fun pk k t h => ?_
  simp only [Case.drvBareWaits, Bool.and_eq_true, beq_iff_eq, decide_eq_true_eq] at h
  obtain ⟨⟨⟨settable, op⟩, mode⟩, waits⟩ := h
  rw [(bodyDrvCommand_of_settable settable).2 (bare_op op).1 mode, (bare_op op).2, bare_eq settable, if_pos waits]
  rfl

theorem Case.drvBareOff_runs (on : Bool) : (Case.drvBareOff on).Runs .drvCommand := by
  refine Case.runs_of_body _ _ bodyDrvCommand (fun _ _ _ => rfl) fun pk k t h => ?_
  simp only [Case.drvBareOff, Bool.and_eq_true, beq_iff_eq, Option.isNone_iff_eq_none] at h
  obtain ⟨⟨⟨settable, op⟩, mode⟩, free⟩ := h
  rw [(bodyDrvCommand_of_settable settable).2 (bare_op op).1 (by omega), (bare_op op).2, bare_eq settable, free, mode]
  rfl

theorem Case.drvRead_runs : Case.drvRead.Runs .drvRead := by
  refine Case.runs_of_body _ _ bodyDrvRead (fun _ _ _ => rfl) fun pk k t h => ?_
  simp only [Case.drvRead, Bool.and_eq_true, bne_iff_ne] at h
  obtain ⟨out, readable⟩ := h
  rw [bodyDrvRead, onOutput_of_outOk out]
  exact if_neg readable

theorem Case.drvClear_runs : Case.drvClear.Runs .drvClear := by
  refine Case.runs_of_body _ _ bodyDrvClear (fun _ _ _ => rfl) fun pk k t h => ?_
  simp only [Case.drvClear, Case.outOk, Bool.and_eq_true, Bool.not_eq_true', decide_eq_true_eq] at h
  obtain ⟨⟨tile, channel⟩, cool⟩ := h
  obtain ⟨inRange, on⟩ := tileOk_iff.mp tile
  have named : (decide (4 ≤ pk.u8 8) || (decide (24 ≤ pk.u8 9) && pk.u8 9 != 0xFF)) = false := by
    simp [Nat.not_le.mpr inRange, Nat.not_le.mpr channel]
  simp only [bodyDrvClear, named, on, cool, if_neg (show pk.u8 9 ≠ 0xFF by omega), Bool.not_true, Bool.false_eq_true, if_false]
  rfl

theorem Case.drvClearAll_runs : Case.drvClearAll.Runs .drvClear := by
  refine Case.runs_of_body _ _ bodyDrvClear (fun _ _ _ => rfl) fun pk k t h => ?_
  simp only [Case.drvClearAll, Bool.and_eq_true, Bool.not_eq_true', beq_iff_eq] at h
  obtain ⟨⟨tile, every⟩, cool⟩ := h
  obtain ⟨inRange, on⟩ := tileOk_iff.mp tile
  have named : (decide (4 ≤ pk.u8 8) || (decide (24 ≤ pk.u8 9) && pk.u8 9 != 0xFF)) = false := by
    simp [Nat.not_le.mpr inRange, every]
  simp only [bodyDrvClear, named, on, cool, if_pos every, Bool.not_true, Bool.false_eq_true, if_false]
  rfl

/-- A command on records that all pass their load works on the state after it (R71). -/
theorem onRecords_of_loaded {ids : List Nat} {before s : State} (h : (Points.load ids before).1 = true) (f : State → Verdict) :
    onRecords ids before s f = f (Points.load ids s).2 := if_pos h

theorem Points.load_nil (s : State) : Points.load [] s = (true, s) := rfl

theorem Case.drvBand_runs : Case.drvBand.Runs .drvBand := by
  refine Case.runs_of_body _ _ bodyDrvBand (fun _ _ _ => rfl) fun pk k t h => ?_
  simp only [Case.drvBand, Bool.and_eq_true, Bool.or_eq_true, beq_iff_eq, Bool.not_eq_true', decide_eq_true_eq] at h
  obtain ⟨⟨tile, bands⟩, source⟩ := h
  obtain ⟨inRange, on⟩ := tileOk_iff.mp tile
  rcases source with die | ⟨⟨⟨⟨point, group⟩, number⟩, loaded⟩, type⟩
  · have points : bandPoints pk = [] := by simp [bandPoints, die]
    have loaded : (Points.load (bandPoints pk) t).1 = true := by rw [points, Points.load_nil]
    simp only [bodyDrvBand, onRecords_of_loaded loaded]
    simp [Nat.not_le.mpr inRange, on, die, bands, Case.drvBand, points, Points.load_nil]
  · have points : bandPoints pk = [pk.point 16] := by simp [bandPoints, point]
    have loaded' : (Points.load (bandPoints pk) t).1 = true := by rw [points]; exact loaded
    simp only [bodyDrvBand, onRecords_of_loaded loaded']
    simp [Nat.not_le.mpr inRange, on, point, bands, Case.drvBand, points, type]
    omega

/-! ## Analogue outputs and fan ports -/

theorem Case.aoConfig_runs : Case.aoConfig.Runs .aoConfig := by
  refine Case.runs_of_body _ _ bodyAoConfig (fun _ _ _ => rfl) fun pk k t h => ?_
  simp only [Case.aoConfig, Bool.and_eq_true, bne_iff_ne, beq_iff_eq, decide_eq_true_eq] at h
  obtain ⟨⟨⟨⟨out, fallback⟩, rest⟩, range⟩, ramp⟩ := h
  rw [bodyAoConfig, onOutput_of_outOk out, Ao.command]
  dsimp only
  rw [if_neg, if_neg]
  · rfl
  · simp only [ramp, Bool.not_true, Bool.or_false, decide_eq_true_eq]
    exact not_le.mpr range
  · simp only [Bool.or_eq_true, decide_eq_true_eq, bne_iff_ne, not_or, ne_eq, not_not]
    exact ⟨fallback, rest⟩

theorem Case.aoSet_runs : Case.aoSet.Runs .aoSet := by
  refine Case.runs_of_body _ _ bodyAoSet (fun _ _ _ => rfl) fun pk k t h => ?_
  simp only [Case.aoSet, Bool.and_eq_true] at h
  obtain ⟨⟨out, may⟩, inRange⟩ := h
  rw [bodyAoSet, onOutput_of_outOk out]
  simp only [may, inRange, Bool.not_true, Bool.false_eq_true, if_false]
  rfl

theorem Case.aoRead_runs : Case.aoRead.Runs .aoRead := by
  refine Case.runs_of_body _ _ bodyAoRead (fun _ _ _ => rfl) fun pk k t h => ?_
  simp only [Case.aoRead, Bool.and_eq_true, bne_iff_ne] at h
  obtain ⟨out, readable⟩ := h
  rw [bodyAoRead, onOutput_of_outOk out]
  exact if_neg readable

theorem Case.fanConfig_runs : Case.fanConfig.Runs .fanConfig := by
  refine Case.runs_of_body _ _ bodyFanConfig (fun _ _ _ => rfl) fun pk k t h => ?_
  simp only [Case.fanConfig, Bool.and_eq_true, bne_iff_ne, beq_iff_eq, decide_eq_true_eq] at h
  obtain ⟨⟨⟨⟨out, fallback⟩, rest⟩, range⟩, kick⟩ := h
  rw [bodyFanConfig, onOutput_of_outOk out, Fan.command]
  dsimp only
  rw [if_neg, if_neg]
  · rfl
  · simp only [kick, Bool.not_true, Bool.or_false, decide_eq_true_eq]
    exact not_lt.mpr range
  · simp only [Bool.or_eq_true, decide_eq_true_eq, bne_iff_ne, not_or, ne_eq, not_not]
    exact ⟨fallback, rest⟩

theorem Case.fanSet_runs : Case.fanSet.Runs .fanSet := by
  refine Case.runs_of_body _ _ bodyFanSet (fun _ _ _ => rfl) fun pk k t h => ?_
  simp only [Case.fanSet, Bool.and_eq_true] at h
  obtain ⟨⟨out, may⟩, inRange⟩ := h
  rw [bodyFanSet, onOutput_of_outOk out]
  simp only [may, inRange, Bool.not_true, Bool.false_eq_true, if_false]
  rfl

theorem Case.fanRead_runs : Case.fanRead.Runs .fanRead := by
  refine Case.runs_of_body _ _ bodyFanRead (fun _ _ _ => rfl) fun pk k t h => ?_
  simp only [Case.fanRead, Bool.and_eq_true, bne_iff_ne] at h
  obtain ⟨out, readable⟩ := h
  rw [bodyFanRead, onOutput_of_outOk out]
  exact if_neg readable

/-- Settles O42: each command past its checks ends as its case says. -/
theorem driveCommands : Obligations.DriveCommands :=
  ⟨Case.drvConfig_runs, Case.drvProfile_runs, Case.drvDemand_runs, Case.drvOn_runs, Case.drvOff_runs, Case.drvBareWaits_runs,
    Case.drvBareOff_runs, Case.drvRead_runs, Case.drvClear_runs, Case.drvClearAll_runs, Case.drvBand_runs, Case.aoConfig_runs,
    Case.aoSet_runs, Case.aoRead_runs, Case.fanConfig_runs, Case.fanSet_runs, Case.fanRead_runs⟩

end Sys2Proof.Machine
end

section
/-!
What happens at drive channels (R197 to R204, R208, Table 9.4).  Settles O43.
-/

namespace Sys2Proof.Machine

/-! ## Changing drives one after another -/

/-- Of the state everything but tile `t` and the event unit's side stays, as far as time and the other tiles go. -/
structure OnTile (t : Nat) (s u : State) : Prop where
  tb : u.tb = s.tb
  others : ∀ i, i ≠ t → u.tile i = s.tile i

theorem OnTile.refl (t : Nat) (s : State) : OnTile t s s := ⟨rfl, fun _ _ => rfl⟩

theorem OnTile.trans {t : Nat} {s u v : State} (h : OnTile t s u) (g : OnTile t u v) : OnTile t s v :=
  ⟨g.tb.trans h.tb, fun i other => (g.others i other).trans (h.others i other)⟩

theorem State.modDrive_onTile (s : State) (t j : Nat) (f : Drive → Drive) : OnTile t s (s.modDrive t j f) :=
  ⟨rfl, fun _ other => State.modTile_tile_other _ _ _ _ other⟩

theorem HubOnly.tile {s u : State} (h : HubOnly s u) (i : Nat) : u.tile i = s.tile i :=
  h.keeps (·.tile i) (fun _ _ _ _ _ => rfl)

theorem HubOnly.onTile {s u : State} (t : Nat) (h : HubOnly s u) : OnTile t s u :=
  ⟨h.keeps (·.tb) (fun _ _ _ _ _ => rfl), fun i _ => h.tile i⟩

theorem OnTile.foldl {α : Type} {t : Nat} {f : State → α → State} (hf : ∀ s m, OnTile t s (f s m)) (l : List α) (s : State) :
    OnTile t s (l.foldl f s) := by
  induction l generalizing s with
  | nil => exact OnTile.refl t s
  | cons m l ih => exact (hf s m).trans (ih _)

/-- What a change of one drive keeps of every drive. -/
theorem State.modDrive_keeps {α : Type} {s : State} {t m j : Nat} {f : Drive → Drive} (p : Drive → α) (hf : ∀ d, p (f d) = p d) :
    p (((s.modDrive t m f).tile t).drive j) = p ((s.tile t).drive j) := by
  by_cases ht : t < 4
  · rw [State.modDrive, State.modTile_tile_self _ _ _ ht]
    change p (vget (vmod (s.tile t).drives m f) j {}) = p (vget (s.tile t).drives j {})
    by_cases hj : j < 24
    · rw [vget_vmod _ _ _ _ _ hj]
      split
      · exact hf _
      · rfl
    · simp [vget, Nat.not_lt.mp hj]
  · have off (u : State) : u.tile t = {} := by simp [State.tile, vget, Nat.not_lt.mp ht]
    rw [off, off]

theorem State.modDrive_drive_other {s : State} {t m j : Nat} {f : Drive → Drive} (other : j ≠ m) :
    ((s.modDrive t m f).tile t).drive j = (s.tile t).drive j := by
  by_cases ht : t < 4
  · rw [State.modDrive, State.modTile_tile_self _ _ _ ht]
    exact vget_vmod_other _ _ _ _ _ other
  · have off (u : State) : u.tile t = {} := by simp [State.tile, vget, Nat.not_lt.mp ht]
    rw [off, off]

section
variable {t : Nat} {f : State → Nat → Drive → Drive}

theorem foldl_modDrive_keeps {α : Type} {j : Nat} (p : Drive → α) (hf : ∀ s m d, p (f s m d) = p d) (l : List Nat) (s : State) :
    p (((l.foldl (fun s m => s.modDrive t m (f s m)) s).tile t).drive j) = p ((s.tile t).drive j) := by
  induction l generalizing s with
  | nil => rfl
  | cons m l ih => exact (ih _).trans (State.modDrive_keeps p (hf s m))

theorem foldl_modDrive_other {j : Nat} {l : List Nat} (s : State) (other : j ∉ l) :
    ((l.foldl (fun s m => s.modDrive t m (f s m)) s).tile t).drive j = (s.tile t).drive j := by
  induction l generalizing s with
  | nil => rfl
  | cons m l ih =>
    rw [List.mem_cons, not_or] at other
    exact (ih _ other.2).trans (State.modDrive_drive_other other.1)

/-- What every change gives its drive, each drive of the list has in the end. -/
theorem foldl_modDrive_mem {j : Nat} {l : List Nat} {p : Drive → Prop} (hf : ∀ s m d, p (f s m d)) (ht : t < 4) (hj : j < 24)
    (s : State) (given : j ∈ l ∨ p ((s.tile t).drive j)) :
    p (((l.foldl (fun s m => s.modDrive t m (f s m)) s).tile t).drive j) := by
  induction l generalizing s with
  | nil => exact given.resolve_left (List.not_mem_nil)
  | cons m l ih =>
    refine ih _ ?_
    by_cases here : j = m
    · subst here
      exact Or.inr (by rw [State.modDrive_drive _ _ ht hj]; exact hf _ _ _)
    · rw [State.modDrive_drive_other here]
      exact given.imp_left (fun h => (List.mem_cons.mp h).resolve_left here)

end

theorem vmod_vmod {β : Type} {n : Nat} (v : Vector β n) (i : Nat) (f g : β → β) :
    vmod (vmod v i f) i g = vmod v i (fun x => g (f x)) := by
  by_cases h : i < n
  · simp [vmod, h]
  · rw [vmod_of_le _ _ (Nat.not_lt.mp h), vmod_of_le _ _ (Nat.not_lt.mp h), vmod_of_le _ _ (Nat.not_lt.mp h)]

theorem State.modTile_modTile (s : State) (t : Nat) (f g : Tile → Tile) :
    (s.modTile t f).modTile t g = s.modTile t (fun x => g (f x)) := by
  simp only [State.modTile, vmod_vmod]

theorem State.modDrive_modDrive (s : State) (t j : Nat) (f g : Drive → Drive) :
    (s.modDrive t j f).modDrive t j g = s.modDrive t j (fun d => g (f d)) := by
  simp only [State.modDrive, State.modTile_modTile, vmod_vmod]

/-! ## Phases and trips (R198, R203) -/

theorem exec_phaseEnd {t j : Nat} {c : Shunts} {d : Drive} {s u w : State} (on : s.tileOn t = true) (drive : (s.tile t).drive j = d)
    (runs : d.state = .on) (timed : phEnd d.entry < 2) (waited : u = Drv.sawPeaks t j c (untilElapsed (d.phaseAt + phNs d.entry) s))
    (late : w = if phEnd d.entry = 1 then (lockstep (u.tile t) j).foldl (fun v m => v.modDrive t m (fun d => { d with peakLate := true })) u
      else u) : exec (.phaseEnd t { channel := j, peaks := c }) s = .next (Drv.endPhase t j w) := by
  change Host.Outcome.next (whenever _ _ s) = _
  rw [whenever_of_true (by simp [on, drive, runs]; omega), late, waited, drive]

theorem Drv.endPhase_eq (t j : Nat) (d : Drive) (s : State) (drive : (s.tile t).drive j = d) :
    (openLoads (s.tile t) j ≠ [] → Drv.endPhase t j s =
      Drv.latch t 13 (lockstep (s.tile t) j) (openLoads (s.tile t) j) (decayGate (phEndDecay d.entry) s.pw.gateLow) s) ∧
    (openLoads (s.tile t) j = [] → d.phase + 1 < d.run.length → Drv.endPhase t j s =
      (lockstep (s.tile t) j).foldl (fun v m => v.modDrive t m (fun d => d.nextPhase v.tb.elapsed)) s) ∧
    (openLoads (s.tile t) j = [] → d.run.length ≤ d.phase + 1 → Drv.endPhase t j s =
      Drv.off t j ((lockstep (s.tile t) j).foldl (fun v m => v.modDrive t m (fun d => { d with stepDown := none }))
        (Drv.advance t (masterOf (s.tile t) j) s))) := by
  subst drive
  unfold Drv.endPhase
  dsimp only
  refine ⟨fun bad => if_pos (by simpa using bad), fun good more => ?_, fun good last => ?_⟩
  · rw [good, if_neg (by decide), if_pos more]
  · rw [good, if_neg (by decide), if_neg (Nat.not_lt.mpr last)]

theorem Drv.sawPeaks_keeps {α : Type} (p : Drive → α) (hp : ∀ d n, p { d with boostPeak := n } = p d) (t j : Nat) (c : Shunts)
    (s : State) (i : Nat) : p (((Drv.sawPeaks t j c s).tile t).drive i) = p ((s.tile t).drive i) := by
  refine foldl_modDrive_keeps p (fun _ m d => ?_) _ s
  split
  · exact hp _ _
  · rfl

theorem exec_currentTrip_of_chopOn {t j : Nat} {c : Shunts} {s : State} (on : chopOn s t j = true)
    (seen : ((s.tile t).drive j).blanked = false) (reached : phTarget ((s.tile t).drive j).entry ≤ c.code) :
    exec (.currentTrip t j c) s = .next (Drv.trip t j c s) := by
  change Host.Outcome.next (whenever _ _ s) = _
  rw [whenever_of_true (by simp [on, seen, reached])]

/-- A trip reads where it stands in its profile before the peaks it saw, which change nothing of that. -/
theorem Drv.trip_place {t j : Nat} (c : Shunts) (s : State) (n i : Nat) :
    let u := Drv.sawPeaks t j c (s.modDrive t j (fun d => { d with peak := n }))
    ((u.tile t).drive i).phase = ((s.tile t).drive i).phase ∧ ((u.tile t).drive i).entry = ((s.tile t).drive i).entry :=
  ⟨(Drv.sawPeaks_keeps Drive.phase (fun _ _ => rfl) t j c _ i).trans (State.modDrive_keeps Drive.phase (fun _ => rfl)),
    (Drv.sawPeaks_keeps Drive.entry (fun _ _ => rfl) t j c _ i).trans (State.modDrive_keeps Drive.entry (fun _ => rfl))⟩

theorem Drv.trip_eq {t j : Nat} {c : Shunts} {d : Drive} {s u v w : State} (drive : (s.tile t).drive j = d)
    (saw : u = Drv.sawPeaks t j c (s.modDrive t j (fun d => { d with peak := c.code })))
    (boost : v = if d.phase = 0 then (lockstep (u.tile t) j).foldl (fun v m => v.modDrive t m (fun d => { d with peakLate := false })) u
      else u)
    (ended : w = if phEnd d.entry = 1 then Drv.endPhase t j v else v) :
    Drv.trip t j c s = w.modDrive t j (fun d =>
      if d.state = .on ∧ phTarget d.entry ≤ c.code then
        { d with
          gate := decayGate (d.stepDown.getD (phChop d.entry)) w.pw.gateLow
          tickAt := w.tb.elapsed, ticks := 10 * phChopOff d.entry * tclkNow w t / 10 }
      else d) := by
  obtain ⟨phase, entry⟩ := Drv.trip_place (t := t) (j := j) c s c.code j
  rw [← saw, drive] at phase entry
  unfold Drv.trip
  dsimp only
  rw [← saw, phase, entry, ← boost, ← ended]
  congr 1
  funext d'
  by_cases still : d'.state = .on ∧ phTarget d'.entry ≤ c.code
  · rw [if_pos still, if_pos (by simp [still])]
    rfl
  · rw [if_neg still, if_neg (by simpa using still)]

theorem exec_chopOffEnd {t j : Nat} {s u : State} (on : s.tileOn t = true) (runs : ((s.tile t).drive j).state = .on)
    (off : ((s.tile t).drive j).gate ≠ .drive) (high : s.pw.gateLow = false)
    (waited : u = untilElapsed (((s.tile t).drive j).ticksEnd (tclkNow s t)) s) :
    exec (.chopOffEnd t j) s = .next (u.modDrive t j (fun d => { d with
      gate := .drive, blanked := true, tickAt := u.tb.elapsed, ticks := 5 * tclkNow u t / 10 })) := by
  change Host.Outcome.next (whenever _ _ s) = _
  rw [whenever_of_true (by simp [on, runs, off, high]), waited]
  rfl

theorem exec_blankingEnd {t j code : Nat} {s u : State} (on : s.tileOn t = true) (runs : ((s.tile t).drive j).state = .on)
    (gate : ((s.tile t).drive j).gate = .drive) (blanked : ((s.tile t).drive j).blanked = true)
    (waited : u = untilElapsed (((s.tile t).drive j).ticksEnd (tclkNow s t)) s) :
    exec (.blankingEnd t j code) s = .next (Drv.countMeasure t j (u.modDrive t j (fun d => { d with
      blanked := false, valley := code, boostPeak := if d.phase = 0 then max d.boostPeak code else d.boostPeak
      stepDown := if code < phTarget d.entry then none else d.stepDown }))) := by
  change Host.Outcome.next (if _ then _ else _) = _
  rw [if_pos (by simp [chopOn, on, runs, gate, blanked]), waited]

theorem exec_blankingEnd_spare {t j code : Nat} {s : State} (on : s.tileOn t = true) (hj : j < 24)
    (spare : ((s.tile t).drive j).spare = true) : exec (.blankingEnd t j code) s = .next (Drv.countMeasure t j s) := by
  have idle : ((s.tile t).drive j).state ≠ .on := fun runs => by simp [Drive.spare, runs] at spare
  change Host.Outcome.next (if _ then _ else _) = _
  rw [if_neg (by simp [chopOn, idle]), whenever_of_true (by simp [on, hj, spare])]

/-! ## Overcurrent (R208) -/

theorem isSlave_masterOf (x : Tile) (j : Nat) : isSlave x (masterOf x j) = false := by
  unfold masterOf
  split
  · next slave =>
    have odd : j % 2 = 1 := by
      rw [isSlave, Bool.and_eq_true, beq_iff_eq] at slave
      exact slave.1
    have even : ¬ (j - 1) % 2 = 1 := by omega
    simp [isSlave, even]
  · next own => exact Bool.eq_false_iff.mpr own

theorem masterOf_masterOf (x : Tile) (j : Nat) : masterOf x (masterOf x j) = masterOf x j :=
  if_neg (Bool.eq_false_iff.mp (isSlave_masterOf x j))

theorem pairMembers_headD (x : Tile) (j : Nat) : (pairMembers x j).headD 0 = masterOf x j := by
  unfold pairMembers
  dsimp only
  split <;> rfl

theorem mem_pairMembers_lt {x : Tile} {j m : Nat} (hj : j < 24) (h : m ∈ pairMembers x j) : m < 24 := by
  have master : masterOf x j < 24 := by
    unfold masterOf
    split <;> omega
  unfold pairMembers at h
  dsimp only at h
  split at h
  · next pair =>
    simp only [Bool.and_eq_true, beq_iff_eq] at pair
    simp only [List.mem_cons, List.not_mem_nil, or_false] at h
    omega
  · simp only [List.mem_cons, List.not_mem_nil, or_false] at h
    omega

theorem Drv.advance_onTile (t j : Nat) (s : State) : OnTile t s (Drv.advance t j s) := State.modDrive_onTile _ _ _ _

theorem driveFault_hubOnly (t code kind index stat : Nat) (s : State) : HubOnly s (driveFault t code kind index stat s) :=
  Ev.raise_hubOnly _ _ _ _

theorem Drv.latch_onTile (t code : Nat) (members faulted : List Nat) (gate : Gate) (s : State) :
    OnTile t s (Drv.latch t code members faulted gate s) := by
  unfold Drv.latch
  dsimp only
  refine OnTile.trans ?_ (OnTile.foldl (fun v m => (State.modDrive_onTile v t m _).trans ((driveFault_hubOnly _ _ _ _ _ _).onTile t)) _ _)
  refine OnTile.trans ?_ (State.modDrive_onTile _ _ _ _)
  exact (Drv.advance_onTile _ _ _).trans (OnTile.foldl (fun v m => State.modDrive_onTile v t m _) _ _)

/-- A latch of a master's channels and of one fault among the 24: who is latched, and how, and who is not touched. -/
theorem Drv.latch_drives {t m j : Nat} {members : List Nat} {s : State} (ht : t < 4) (hj : j < 24)
    (first : masterOf (s.tile t) (members.headD 0) = m) (known : ∀ i, i ∈ members → i < 24) :
    ((((Drv.latch t 14 members [j] .off s).tile t).drive j).overcurrent = true) ∧
    (∀ i, i ∈ members → (((Drv.latch t 14 members [j] .off s).tile t).drive i).state = .latched ∧
      (((Drv.latch t 14 members [j] .off s).tile t).drive i).gate = .off) ∧
    (∀ i, i ∉ members → i ≠ m → i ≠ j → ((Drv.latch t 14 members [j] .off s).tile t).drive i = (s.tile t).drive i) := by
  unfold Drv.latch
  dsimp only
  rw [first]
  generalize ends : (members.contains _ || decide (1 < members.length)) = e
  simp only [List.foldl_cons, List.foldl_nil, (driveFault_hubOnly _ _ _ _ _ _).tile]
  refine ⟨?_, fun i hi => ?_, fun i out master own => ?_⟩
  · rw [State.modDrive_drive _ _ ht hj]
    exact Bool.or_true _
  · have latched := foldl_modDrive_mem (t := t) (p := fun d => d.state = .latched ∧ d.gate = .off) (f := fun v _ d => { d with
        state := .latched, gate := .off, phaseAt := v.tb.elapsed, stepDown := none, onUntil := none, blanked := false })
      (fun _ _ _ => ⟨rfl, rfl⟩) ht (known i hi) (Drv.advance t m s) (Or.inl hi)
    have kept (d : Drive) : (if e = true then { d with move := .still, goal := none } else d).state = d.state ∧
        (if e = true then { d with move := .still, goal := none } else d).gate = d.gate := by
      cases e <;> exact ⟨rfl, rfl⟩
    refine ⟨?_, ?_⟩
    · rw [State.modDrive_keeps Drive.state, State.modDrive_keeps Drive.state]
      · exact latched.1
      · exact fun d => (kept d).1
      · exact fun _ => rfl
    · rw [State.modDrive_keeps Drive.gate, State.modDrive_keeps Drive.gate]
      · exact latched.2
      · exact fun d => (kept d).2
      · exact fun _ => rfl
  · rw [State.modDrive_drive_other own, State.modDrive_drive_other master,
      foldl_modDrive_other (f := fun v _ d => { d with
        state := .latched, gate := .off, phaseAt := v.tb.elapsed, stepDown := none, onUntil := none, blanked := false }) _ out]
    exact State.modDrive_drive_other master

theorem mem_pairMembers_self (x : Tile) (j : Nat) : j ∈ pairMembers x j ∨ j = masterOf x j := by
  unfold pairMembers masterOf
  dsimp only
  split
  · next slave =>
    have odd : j % 2 = 1 := by
      rw [isSlave, Bool.and_eq_true, beq_iff_eq] at slave
      exact slave.1
    have next : j - 1 + 1 = j := by omega
    rw [next, slave, if_pos (by simp; omega)]
    exact Or.inl (by simp)
  · exact Or.inr rfl

theorem exec_overcurrent {t j : Nat} {s : State} (on : s.tileOn t = true) (ht : t < 4) (hj : j < 24)
    (runs : ((s.tile t).drive j).state = .on) (gate : ((s.tile t).drive j).gate = .drive)
    (seen : ((s.tile t).drive j).blanked = false) :
    ∃ u, exec (.overcurrent t j) s = .next u ∧ ((u.tile t).drive j).overcurrent = true ∧
      (∀ m, m ∈ pairMembers (s.tile t) j → ((u.tile t).drive m).state = .latched ∧ ((u.tile t).drive m).gate = .off) ∧
      (∀ i, i ≠ t → u.tile i = s.tile i) ∧
      (∀ i, i ∉ pairMembers (s.tile t) j → i ≠ masterOf (s.tile t) j → (u.tile t).drive i = (s.tile t).drive i) ∧ u.tb = s.tb := by
  have first : masterOf (s.tile t) ((pairMembers (s.tile t) j).headD 0) = masterOf (s.tile t) j := by
    rw [pairMembers_headD, masterOf_masterOf]
  obtain ⟨over', latched, untouched⟩ := Drv.latch_drives ht hj first (fun i => mem_pairMembers_lt hj)
  have onTile := Drv.latch_onTile t 14 (pairMembers (s.tile t) j) [j] .off s
  refine ⟨_, ?_, over', latched, onTile.others, fun i out master => untouched i out master ?_, onTile.tb⟩
  · change Host.Outcome.next (whenever _ _ s) = _
    rw [whenever_of_true (by simp [chopOn, on, runs, gate, seen])]
  · rintro rfl
    exact (mem_pairMembers_self _ _).elim out master

/-! ## Settling, TPROP and FLOAT (R199 to R204) -/

theorem exec_offSettleEnd {t j : Nat} {s u : State} (on : s.tileOn t = true)
    (waited : u = untilElapsed (((s.tile t).drive j).phaseAt + (cfgOf (s.tile t) j).offSettle * 1000) s) :
    (((s.tile t).drive j).state = .offPhase → exec (.offSettleEnd t j) s = .next (Drv.settled t j u)) ∧
    (((s.tile t).drive j).state = .latched → ((s.tile t).drive j).gate ≠ .off →
      exec (.offSettleEnd t j) s = .next (u.modDrive t j (fun d => { d with gate := .off }))) := by
  change (_ → Host.Outcome.next (whenever _ _ s) = _) ∧ (_ → _ → Host.Outcome.next (whenever _ _ s) = _)
  rw [whenever_of_true on]
  dsimp only
  refine ⟨fun off => ?_, fun latched gate => ?_⟩
  · rw [if_pos (by simp [off]), ← waited]
  · rw [if_neg (by simp [latched]), if_pos (by simp [latched, gate]), ← waited]

section
variable {t j base cycle : Nat} {d : Drive} {s u : State} (on : s.tileOn t = true) (drive : (s.tile t).drive j = d)
  (mode : d.cfg.mode = 2) (own : isSlave (s.tile t) j = false) (waited : u = untilTb d.cycleAt s)
  (long : cycle = d.cfg.cycleS * 1000000000) (begun : base = u.ns / cycle * cycle)
include on drive mode own waited long begun

theorem exec_tpropCycleStart : exec (.tpropCycleStart t j) s = .next
    (if (!d.free || d.wait.isSome) = true then u.modDrive t j (fun d => { d with cycleAt := base + cycle })
    else
      let v := (u.modDrive t j (fun d => { d with cycleAt := base + cycle })).modDrive t j (fun x => { x with
        isOn := tpropOn d != 0
        onUntil := if (decide (tpropOn d = 0) || decide (cycle ≤ tpropOn d)) = true then none else some (base + tpropOn d) })
      if tpropOn d = 0 then Drv.off t j v else Drv.on t j v) := by
  change Host.Outcome.next (whenever _ _ s) = _
  rw [whenever_of_true (by simp [on, drive, mode, own]), Drv.cycle, drive, begun, long, waited]

theorem exec_tpropCycleStart_free {o : Nat} {v : State} (free : d.free = true) (idle : d.wait = none) (share : o = tpropOn d)
    (hv : v = u.modDrive t j (fun d => { d with
      cycleAt := base + cycle, isOn := o != 0, onUntil := if o = 0 ∨ cycle ≤ o then none else some (base + o) })) :
    exec (.tpropCycleStart t j) s = .next (if o = 0 then Drv.off t j v else Drv.on t j v) := by
  rw [exec_tpropCycleStart on drive mode own waited long begun, if_neg (by simp [free, idle]), ← share]
  dsimp only
  simp only [State.modDrive_modDrive, Bool.or_eq_true, decide_eq_true_eq]
  rw [hv]

end

theorem floorNat_share_le {r : Rat} (n : Nat) (high : r ≤ 100) : floorNat (r * (n : Rat) / 100) ≤ n := by
  have most : r * (n : Rat) / 100 ≤ n := by
    have := mul_le_mul_of_nonneg_right high (Nat.cast_nonneg (α := Rat) n)
    linarith
  rw [floorNat, Int.toNat_le]
  exact (Int.floor_le_floor most).trans (le_of_eq (Int.floor_natCast _))

/-- The share of a TPROP cycle that is on (R199). -/
theorem tpropOn_bounds {d : Drive} (high : fnum d.demand ≤ 100) :
    tpropOn d ≤ d.cfg.cycleS * 1000000000 ∧ (tpropOn d = 0 ∨ (d.cfg.minPulseNs ≤ tpropOn d ∧
      (tpropOn d = d.cfg.cycleS * 1000000000 ∨ d.cfg.minPulseNs ≤ d.cfg.cycleS * 1000000000 - tpropOn d))) := by
  unfold tpropOn
  generalize d.cfg.cycleS * 1000000000 = cycle
  have share := floorNat_share_le cycle high
  dsimp only
  split
  · exact ⟨Nat.zero_le _, Or.inl rfl⟩
  · split
    · exact ⟨le_refl _, Or.inr ⟨by omega, Or.inl rfl⟩⟩
    · exact ⟨share, Or.inr ⟨by omega, Or.inr (by omega)⟩⟩

theorem exec_tpropOnEnd {t j e : Nat} {s : State} (on : s.tileOn t = true) (ends : ((s.tile t).drive j).onUntil = some e) :
    exec (.tpropOnEnd t j) s = .next (Drv.off t j ((untilTb e s).modDrive t j (fun d => { d with onUntil := none, isOn := false }))) := by
  change execTpropOnEnd t j s = _
  simp only [execTpropOnEnd, ends, on, if_true]

theorem exec_floatCheck {t j : Nat} {s : State} (on : s.tileOn t = true) (mode : ((s.tile t).drive j).cfg.mode = 3) :
    exec (.floatCheck t j) s = .next (Drv.floatCheck t j (untilTb ((s.ns / 10000000 + 1) * 10000000) s)) := by
  change Host.Outcome.next (whenever _ _ s) = _
  rw [whenever_of_true (by simp [on, mode])]

theorem exec_reversalWaitEnd {t j : Nat} {d : Drive} {s u : State} (on : s.tileOn t = true) (drive : (s.tile t).drive j = d)
    (reversing : d.move = .reversing) (waited : u = untilElapsed (d.movedTo + 200000000) s) :
    exec (.reversalWaitEnd t j) s = .next (
      if d.wantsMove = true ∧ s.pw.gateLow = false ∧ (d.posValid && decide (d.pos < d.aim.1)) = d.nextOpen then
        Drv.drive t j d.nextOpen (u.modDrive t j (fun d => { d with goal := some d.aim.1, overTravel := d.aim.2 }))
      else u.modDrive t j (fun d => { d with move := .still, nextOpen := !d.nextOpen })) := by
  have gate : u.pw.gateLow = s.pw.gateLow := by
    rw [waited]
    exact (untilElapsed_timeOnly _ _).keeps (·.pw.gateLow) (fun _ _ _ => rfl)
  change Host.Outcome.next (whenever _ _ s) = _
  rw [whenever_of_true (by simp [on, drive, reversing]), drive]
  dsimp only
  rw [← waited, gate]
  by_cases moves : d.wantsMove = true ∧ s.pw.gateLow = false ∧ (d.posValid && decide (d.pos < d.aim.1)) = d.nextOpen
  · rw [if_pos moves, if_pos (by simp [moves])]
  · rw [if_neg moves, if_neg (by simpa [and_assoc] using moves)]

theorem exec_driveBandSample {t : Nat} {s : State} (on : s.tileOn t = true) :
    exec (.driveBandSample t) s = .next (((s.tile t).band.load s).modTile t (fun x =>
      { x with band := x.band.sample ((s.tile t).band.load s) })) := by
  change Host.Outcome.next (whenever _ _ s) = _
  rw [whenever_of_true on]

/-- A step up below the highest of four bands, or down above the lowest. -/
theorem band_step {n : Nat} (up down : Bool) (inRange : n ≤ 3) :
    let m := if (decide (n < 3) && up) = true then n + 1 else if (decide (0 < n) && down) = true then n - 1 else n
    m ≤ 3 ∧ (m = n ∨ m = n + 1 ∨ m + 1 = n) := by
  dsimp only
  split
  · next rises =>
    simp only [Bool.and_eq_true, decide_eq_true_eq] at rises
    omega
  · split
    · next falls =>
      simp only [Bool.and_eq_true, decide_eq_true_eq] at falls
      omega
    · omega

/-- A judgement moves the band by one at most (R204). -/
theorem BandUnit.judge_band (b : BandUnit) (v : Rat) (inRange : b.band ≤ 3) : (b.judge v).band ≤ 3 ∧ (b.judge v).held = false ∧
    ((b.judge v).band = b.band ∨ (b.judge v).band = b.band + 1 ∨ (b.judge v).band + 1 = b.band) := by
  obtain ⟨most, near⟩ := band_step (n := b.band) _ _ inRange
  exact ⟨most, rfl, near⟩

/-- Settles O43: each happening where its condition holds; an overcurrent by the drives that its latch changes. -/
theorem driveHappenings : Obligations.DriveHappenings := by
  unfold Obligations.DriveHappenings
  refine ⟨fun t j c d s u w => exec_phaseEnd, fun t j d s => Drv.endPhase_eq t j d s,
    fun t j code c d s u v w on drive runs gate seen sense reached saw boost ended => ?trip, fun t j s u => exec_chopOffEnd,
    fun t j code s u => exec_blankingEnd, fun t j code s => exec_blankingEnd_spare, fun t j s => rfl,
    fun t j s => exec_overcurrent, fun t j s u => exec_offSettleEnd,
    fun t j base cycle o d s u v on drive mode own free idle waited long begun share hv =>
      exec_tpropCycleStart_free on drive mode own waited long begun free idle share hv,
    fun t j base cycle d s u on drive mode own busy waited long begun => ?busy,
    fun d _ _ high => tpropOn_bounds high, fun t j e s => exec_tpropOnEnd, fun t j s => exec_floatCheck,
    fun t j d s u => exec_reversalWaitEnd, fun t s => exec_driveBandSample, BandUnit.judge_band⟩
  case trip =>
    subst sense
    have sawHere : phTarget ((s.tile t).drive j).entry ≤ c.code := by rw [drive]; exact reached
    rw [exec_currentTrip_of_chopOn (by simp [chopOn, on, drive, runs, gate]) (by rw [drive]; exact seen) sawHere,
      Drv.trip_eq drive saw boost ended]
  case busy =>
    have busy' : (!d.free || d.wait.isSome) = true := by
      rcases busy with taken | waits
      · simp [taken]
      · simp [Option.isSome_iff_ne_none, waits]
    rw [exec_tpropCycleStart on drive mode own waited long begun, if_pos busy']

end Sys2Proof.Machine
end

section
/-!
Commands on the building bus (R219 to R224, R229 to R235, R238).  Settles O45.
-/

namespace Sys2Proof.Machine

theorem onCtrl_of_busOk {pk : Packet} {t : State} (h : Case.busOk pk t = true) (f : Nat → Verdict) : onCtrl pk t f = f (pk.u8 8) := by
  simp only [Case.busOk, Bool.and_eq_true, decide_eq_true_eq] at h
  obtain ⟨named, on⟩ := h
  simp only [onCtrl, if_neg (Nat.not_le.mpr named), on, Bool.not_true, Bool.false_eq_true, if_false]

theorem onCtrlRight_of_busRight {right : Nat} {pk : Packet} {t : State} (h : Case.busRight right pk t = true)
    (f : Nat → Verdict) : onCtrlRight right pk t f = f (pk.u8 8) := by
  simp only [Case.busRight, Bool.and_eq_true, decide_eq_true_eq] at h
  rw [onCtrlRight, onCtrl_of_busOk h.1]
  exact if_neg (Nat.not_lt.mpr h.2)

theorem State.modBus_onTile (s : State) (k : Nat) (f : Bus → Bus) : OnTile (k / 16) s (s.modBus k f) :=
  ⟨rfl, fun _ other => State.modTile_tile_other _ _ _ _ other⟩

theorem Bus.send_onTile (k cls dest : Nat) (link : Option Nat) (data : List Byte) (s : State) :
    OnTile (k / 16) s (Bus.send k cls dest link data s) := by
  unfold Bus.send
  dsimp only
  split
  · exact OnTile.foldl (fun s _ => State.modBus_onTile _ _ _) _ _
  · exact OnTile.refl _ _

theorem f32_toNat (pk : Packet) (off : Nat) : (pk.f32 off).toNat = pk.u32 off := by
  rw [Packet.f32, Packet.u32, BitVec.toNat_ofNat]
  exact Nat.mod_eq_of_lt (Nat.mod_lt _ (by decide))

theorem Case.busConfig_runs : Case.busConfig.Runs .busConfig := by
  refine Case.runs_of_body _ _ bodyBusConfig (fun _ _ _ => rfl) fun pk k t h => ?_
  simp only [Case.busConfig, Bool.and_eq_true, Bool.not_eq_true'] at h
  obtain ⟨⟨ok, fields⟩, timing⟩ := h
  rw [bodyBusConfig, onCtrl_of_busOk ok]
  simp only [Bus.command, f32_toNat, fields, timing, Bool.false_eq_true, if_false]
  rfl

theorem Case.busStatus_runs : Case.busStatus.Runs .busStatus :=
  Case.runs_of_body _ _ bodyBusStatus (fun _ _ _ => rfl) fun _ _ _ h => onCtrlRight_of_busRight h _

theorem Case.busSend_runs : Case.busSend.Runs .busSend := by
  refine Case.runs_of_body _ _ bodyBusSend (fun _ _ _ => rfl) fun pk k t h => ?_
  simp only [Case.busSend, Bool.and_eq_true, Option.isNone_iff_eq_none, bne_iff_ne, beq_iff_eq, Bool.not_eq_true',
    decide_eq_true_eq] at h
  obtain ⟨⟨⟨⟨⟨⟨⟨ok, sound⟩, connected⟩, recovered⟩, normal⟩, current⟩, runs⟩, room⟩ := h
  rw [bodyBusSend, onCtrlRight_of_busRight ok]
  simp only [sound, beq_eq_false_iff_ne.mpr connected, beq_eq_false_iff_ne.mpr recovered, normal, current, runs,
    bne_self_eq_false, Bool.or_self, Bool.false_eq_true, if_false, if_neg (Nat.not_le.mpr room)]
  rfl

theorem Case.busCancel_runs (f : TxBuf) : (Case.busCancel f).Runs .busCancel := by
  refine Case.runs_of_body _ _ bodyBusCancel (fun _ _ _ => rfl) fun pk k t h => ?_
  simp only [Case.busCancel, Bool.and_eq_true, Bool.or_eq_true, Bool.not_eq_true'] at h
  obtain ⟨⟨⟨ok, own⟩, waits⟩, named⟩ := h
  have may : (!pk.owner && f.ctx != pk.ctx) = false := by
    rcases own with owner | same
    · simp [owner]
    · simp [eq_of_beq same]
  rw [bodyBusCancel, onCtrlRight_of_busRight ok]
  have named' := eq_of_beq named
  dsimp only
  split
  · next missing => exact absurd (missing.symm.trans named') (by simp)
  · next g found =>
    obtain rfl : g = f := Option.some.inj (found.symm.trans named')
    simp only [may, waits, Bool.false_eq_true, if_false]
    rfl

theorem Case.busRecover_runs : Case.busRecover.Runs .busRecover := by
  refine Case.runs_of_body _ _ bodyBusRecover (fun _ _ _ => rfl) fun pk k t h => ?_
  simp only [Case.busRecover, Bool.and_eq_true, beq_iff_eq] at h
  obtain ⟨ok, off⟩ := h
  rw [bodyBusRecover, onCtrl_of_busOk ok]
  simp only [off, bne_self_eq_false, Bool.false_eq_true, if_false]
  rfl

theorem Case.busFilter_runs : Case.busFilter.Runs .busFilter := by
  refine Case.runs_of_body _ _ bodyBusFilter (fun _ _ _ => rfl) fun pk k t h => ?_
  simp only [Case.busFilter, Bool.and_eq_true, decide_eq_true_eq] at h
  rw [bodyBusFilter, onCtrl_of_busOk h.1]
  exact if_neg (Nat.not_le.mpr h.2)

theorem Case.busRxring_runs : Case.busRxring.Runs .busRxring := by
  refine Case.runs_of_body _ _ bodyBusRxring (fun _ _ _ => rfl) fun pk k t h => ?_
  simp only [Case.busRxring, Bool.and_eq_true, decide_eq_true_eq, beq_iff_eq] at h
  obtain ⟨⟨⟨ok, size⟩, aligned⟩, fits⟩ := h
  have sized : ¬ (decide (pk.u8 9 < 6) || decide (16 < pk.u8 9)) = true := by
    simp only [Bool.or_eq_true, decide_eq_true_eq]
    omega
  have placed : ¬ ((BitVec.ofNat 64 (pk.le 24 8)).toNat % 8 != 0 || !ringFits (Case.rxRing pk) 80) = true := by
    simp [fits, aligned]
  rw [bodyBusRxring, onCtrl_of_busOk ok]
  exact (if_neg sized).trans (if_neg placed)

theorem Case.busNode_runs : Case.busNode.Runs .busNode := by
  refine Case.runs_of_body _ _ bodyBusNode (fun _ _ _ => rfl) fun pk k t h => ?_
  simp only [Case.busNode, Bool.and_eq_true, decide_eq_true_eq, beq_iff_eq, Bool.or_eq_true] at h
  obtain ⟨⟨⟨⟨ok, entry⟩, registers⟩, epoch⟩, version⟩ := h
  have sound : (pk.u8 10 != 0 || decide (4 ≤ pk.u8 22) || (pk.u8 23 != 1 && pk.u8 23 != 2)
      || (pk.u8 23 == 1 && pk.u8 22 != 0)) = false := by
    rcases version with two | ⟨one, zero⟩
    · simp [registers, Nat.not_le.mpr epoch, two]
    · simp [registers, one, zero]
  rw [bodyBusNode, onCtrl_of_busOk ok]
  simp only [if_neg (Nat.not_le.mpr entry), if_neg (show pk.u8 10 ≠ 1 by omega), sound, Bool.false_eq_true, if_false]
  rfl

theorem Case.busNodeFree_runs : Case.busNodeFree.Runs .busNode := by
  refine Case.runs_of_body _ _ bodyBusNode (fun _ _ _ => rfl) fun pk k t h => ?_
  simp only [Case.busNodeFree, Bool.and_eq_true, decide_eq_true_eq, beq_iff_eq] at h
  obtain ⟨⟨ok, entry⟩, frees⟩ := h
  rw [bodyBusNode, onCtrl_of_busOk ok]
  simp only [if_neg (Nat.not_le.mpr entry), if_pos frees]
  rfl

theorem Case.busNodeRead_runs : Case.busNodeRead.Runs .busNodeRead := by
  refine Case.runs_of_body _ _ bodyBusNodeRead (fun _ _ _ => rfl) fun pk k t h => ?_
  simp only [Case.busNodeRead, Bool.and_eq_true, decide_eq_true_eq] at h
  obtain ⟨ok, entry⟩ := h
  rw [bodyBusNodeRead, onCtrlRight_of_busRight ok]
  simp only [if_neg (Nat.not_le.mpr entry), beq_iff_eq]
  rfl

theorem Case.busAdopt_runs (epoch : BitVec 2) : (Case.busAdopt epoch).Runs .busAdopt := by
  refine Case.runs_of_body _ _ bodyBusAdopt (fun _ _ _ => rfl) fun pk k t h => ?_
  simp only [Case.busAdopt, Bool.and_eq_true, decide_eq_true_eq, bne_iff_ne] at h
  obtain ⟨⟨⟨⟨ok, entry⟩, held⟩, next⟩, unknown⟩ := h
  have sound : (((t.bus (pk.u8 8)).node (pk.u8 9)).state == .free || (t.bus (pk.u8 8)).nodes.toList.any
      (fun x => x.state != .free && x.serial == BitVec.ofNat 48 (pk.le 16 6))) = false := by
    simp only [Bool.or_eq_false_iff, beq_eq_false_iff_ne, List.any_eq_false]
    refine ⟨held, fun x hx => ?_⟩
    have free := List.all_eq_true.mp unknown x hx
    simp only [Bool.or_eq_true, beq_iff_eq, bne_iff_ne] at free
    simp only [Bool.and_eq_true, beq_iff_eq, bne_iff_ne, not_and]
    exact fun busy same => free.elim busy (fun other => other same)
  rw [bodyBusAdopt, onCtrl_of_busOk ok]
  simp only [if_neg (Nat.not_le.mpr entry), sound, ← eq_of_beq next, (Bus.send_onTile _ _ _ _ _ _).tb, Bool.false_eq_true, if_false]
  rfl

theorem Case.busRetire_runs : Case.busRetire.Runs .busRetire := by
  refine Case.runs_of_body _ _ bodyBusRetire (fun _ _ _ => rfl) fun pk k t h => ?_
  simp only [Case.busRetire, Bool.and_eq_true, Bool.not_eq_true'] at h
  rw [bodyBusRetire, onCtrl_of_busOk h.1]
  exact if_neg (Bool.eq_false_iff.mp h.2)

/-- A record that passes its load is used, and nothing else of the state changes (R71). -/
theorem Point.loadAt_of_sound {id : Nat} {p : Point} {s : State} (found : s.point id = some p) (sound : pointSound s id p = true) :
    Point.loadAt id s = (true, Point.touch id s) := by
  simp only [Point.loadAt, found, Point.load, sound, if_true]

theorem Case.busLink_runs : Case.busLink.Runs .busLink := by
  refine Case.runs_of_body _ _ bodyBusLink (fun _ _ _ => rfl) fun pk k t h => ?_
  simp only [Case.busLink, Bool.and_eq_true, beq_iff_eq, decide_eq_true_eq] at h
  obtain ⟨⟨⟨⟨⟨ok, makes⟩, node⟩, level⟩, room⟩, record⟩ := h
  cases found : t.point (pk.point 16) with
  | none => simp [found] at record
  | some p =>
    simp only [found, Option.map_some, Option.getD_some, Bool.and_eq_true, beq_iff_eq] at record
    obtain ⟨value, sound⟩ := record
    have fields : (decide (64 ≤ pk.u8 11) || decide (pk.u8 14 = 0) || decide (16 < pk.u8 14)) = false := by
      simp only [Bool.or_eq_false_iff, decide_eq_false_iff_not]
      omega
    rw [bodyBusLink, onCtrl_of_busOk ok]
    simp only [makes, bne_self_eq_false, fields, if_neg (Nat.not_le.mpr room),
      Point.loadAt_of_sound found sound, found, value, Option.map_some, Option.getD_some, beq_self_eq_true, Bool.not_true,
      Bool.false_eq_true, if_false]
    rfl

theorem Case.busUnlink_runs : Case.busUnlink.Runs .busLink := by
  refine Case.runs_of_body _ _ bodyBusLink (fun _ _ _ => rfl) fun pk k t h => ?_
  simp only [Case.busUnlink, Bool.and_eq_true, beq_iff_eq] at h
  obtain ⟨ok, frees⟩ := h
  rw [bodyBusLink, onCtrl_of_busOk ok]
  exact if_pos frees

theorem Case.busDusk_runs : Case.busDusk.Runs .busDusk := by
  refine Case.runs_of_body _ _ bodyBusDusk (fun _ _ _ => rfl) fun pk k t h => ?_
  simp only [Case.busDusk, Bool.and_eq_true, beq_iff_eq] at h
  obtain ⟨ok, awake⟩ := h
  rw [bodyBusDusk, onCtrlRight_of_busRight ok]
  simp only [awake, bne_self_eq_false, Bool.false_eq_true, if_false]
  rfl

theorem Case.busDawn_runs : Case.busDawn.Runs .busDawn := by
  refine Case.runs_of_body _ _ bodyBusDawn (fun _ _ _ => rfl) fun pk k t h => ?_
  rw [bodyBusDawn, onCtrlRight_of_busRight h]
  rfl

/-- Settles O45: each command past its checks ends as its case says. -/
theorem busCommands : Obligations.BusCommands :=
  ⟨Case.busConfig_runs, Case.busStatus_runs, Case.busSend_runs, Case.busCancel_runs, Case.busRecover_runs, Case.busFilter_runs,
    Case.busRxring_runs, Case.busNode_runs, Case.busNodeFree_runs, Case.busNodeRead_runs, Case.busAdopt_runs,
    Case.busRetire_runs, Case.busLink_runs, Case.busUnlink_runs, Case.busDusk_runs, Case.busDawn_runs⟩

end Sys2Proof.Machine
end

section
/-!
A frame of another node on the wire after a lost arbitration (R218, R220): its end ends the wait that it began.  Refutes O46.
-/

namespace Sys2Proof.Machine

/-- Tile 0 powered and controller 0 in NORMAL, error-active, with the frame that won over its own still on the wire. -/
def arbitrationLost : State := { State.reset with
  tpow := Vector.replicate 4 .on
  tiles := Vector.replicate 4 { buses := Vector.replicate 16 { cfg0 := 1, fc := .active, foreign := true } } }

/-- A remote frame in the base format. -/
def remoteFrame : BusFrame where
  ide := false
  fdf := false
  brs := false
  esi := false
  id := 0
  data := []
  rtr := true

/-- Whether another node's frame is still on the wire of controller 0. -/
def stillForeign (o : Host.Outcome State Fault Refusal) : Bool :=
  match o with
  | .next s => (s.bus 0).foreign
  | _ => false

theorem remoteFrame_heard : Case.hears 0 remoteFrame arbitrationLost = true := by decide +kernel

/-- Refutes O46: the remote frame ends the foreign frame, which the clause on remote frames leaves on the wire. -/
theorem not_busFrames : ¬ Obligations.BusFrames := by
  unfold Obligations.BusFrames
  intro ⟨_, _, _, _, _, _, _, frames, _, _⟩
  have room : ((Case.heard 0 remoteFrame arbitrationLost).bus 0).rx.length < 128 := by decide +kernel
  have dropped := (frames 0 remoteFrame arbitrationLost _ remoteFrame_heard rfl rfl).2.1 room rfl
  have ends := congrArg stillForeign dropped
  revert ends
  decide +kernel

end Sys2Proof.Machine
end

section
/-!
Times on the building bus (R222, R226, R229, R230, R235, R236).  Settles O47.
-/

namespace Sys2Proof.Machine

/-- Where an update keeps what `g` sees of an entry, it is kept of every entry of the vector. -/
theorem vget_vmod_keeps {α β : Type} {n : Nat} (v : Vector β n) (t u : Nat) (f : β → β) (d : β) (g : β → α)
    (keeps : ∀ x, g (f x) = g x) : g (vget (vmod v t f) u d) = g (vget v u d) := by
  by_cases there : u = t
  · subst there
    by_cases inside : u < n
    · rw [vget_vmod _ _ _ _ _ inside, if_pos rfl, keeps]
    · rw [vmod_of_le _ _ (Nat.not_lt.mp inside)]
  · rw [vget_vmod_other _ _ _ _ _ there]

/-- The nodes that a controller supervises and its causes are in `t` as in `s`, whatever else differs. -/
def NodesKept (s t : State) : Prop := ∀ k, (t.bus k).nodes = (s.bus k).nodes ∧ (t.bus k).cause = (s.bus k).cause

theorem NodesKept.refl (s : State) : NodesKept s s := fun _ => ⟨rfl, rfl⟩

theorem NodesKept.trans {s t u : State} (h : NodesKept s t) (g : NodesKept t u) : NodesKept s u :=
  fun k => ⟨(g k).1.trans (h k).1, (g k).2.trans (h k).2⟩

theorem NodesKept.foldl {α : Type} {f : State → α → State} (hf : ∀ s m, NodesKept s (f s m)) (l : List α) (s : State) :
    NodesKept s (l.foldl f s) := by
  induction l generalizing s with
  | nil => exact NodesKept.refl s
  | cons m l ih => exact (hf s m).trans (ih _)

theorem NodesKept.of_tiles {s t : State} (h : t.tiles = s.tiles) : NodesKept s t := fun k => by
  simp only [State.bus, State.tile, h, and_self]

theorem HubOnly.nodesKept {s t : State} (h : HubOnly s t) : NodesKept s t :=
  NodesKept.of_tiles (h.keeps (·.tiles) fun _ _ _ _ _ => rfl)

theorem State.modTile_nodesKept (s : State) (i : Nat) (f : Tile → Tile) (keeps : ∀ x, (f x).buses = x.buses) :
    NodesKept s (s.modTile i f) := fun k => by
  have buses : ((s.modTile i f).tile (k / 16)).buses = (s.tile (k / 16)).buses :=
    vget_vmod_keeps s.tiles i (k / 16) f {} (·.buses) keeps
  simp only [State.bus, buses, and_self]

theorem State.modBus_keeps {α : Type} (s : State) (i k : Nat) (f : Bus → Bus) (g : Bus → α) (keeps : ∀ b, g (f b) = g b) :
    g ((s.modBus i f).bus k) = g (s.bus k) :=
  vget_vmod_keeps s.tiles (i / 16) (k / 16) _ {} (fun t => g (vget t.buses (k % 16) {}))
    fun t => vget_vmod_keeps t.buses (i % 16) (k % 16) f {} g keeps

theorem State.modBus_nodesKept (s : State) (i : Nat) (f : Bus → Bus) (keeps : ∀ b, (f b).nodes = b.nodes ∧ (f b).cause = b.cause) :
    NodesKept s (s.modBus i f) := fun k =>
  ⟨State.modBus_keeps s i k f (·.nodes) fun b => (keeps b).1, State.modBus_keeps s i k f (·.cause) fun b => (keeps b).2⟩

theorem Bus.refill_nodes (b : Bus) : b.refill.nodes = b.nodes ∧ b.refill.cause = b.cause := ⟨rfl, rfl⟩

theorem Bus.enqueue_nodesKept (k : Nat) (f : TxBuf) (s : State) : NodesKept s (Bus.enqueue k f s) :=
  State.modBus_nodesKept s k _ fun b => by
    split
    · exact ⟨rfl, rfl⟩
    · exact Bus.refill_nodes _

theorem Bus.send_nodesKept (k cls dest : Nat) (link : Option Nat) (data : List Byte) (s : State) :
    NodesKept s (Bus.send k cls dest link data s) := by
  unfold Bus.send
  dsimp only
  split
  · exact NodesKept.foldl (fun s f => Bus.enqueue_nodesKept k f s) _ s
  · exact NodesKept.refl s

theorem Bus.dropOwn_nodesKept (k : Nat) (p : TxBuf → Bool) (s : State) : NodesKept s (Bus.dropOwn k p s) :=
  State.modBus_nodesKept s k _ fun _ => Bus.refill_nodes _

theorem Bus.linkFrame_nodesKept (k i : Nat) (l : BusLink) (v : Word) (s : State) : NodesKept s (Bus.linkFrame k i l v s) := by
  unfold Bus.linkFrame
  exact (Bus.dropOwn_nodesKept k _ s).trans (Bus.send_nodesKept _ _ _ _ _ _)

theorem Bus.linkWrite_nodesKept (k i : Nat) (v : Word) (s : State) : NodesKept s (Bus.linkWrite k i v s) := by
  unfold Bus.linkWrite
  split
  · refine NodesKept.trans ?_ (Bus.linkFrame_nodesKept _ _ _ _ _)
    exact State.modBus_nodesKept s k _ fun _ => ⟨rfl, rfl⟩
  · exact NodesKept.refl s

theorem State.modHead_nodesKept (s : State) (h : Nat) (f : Head → Head) : NodesKept s (s.modHead h f) :=
  State.modTile_nodesKept s h _ fun _ => rfl

theorem Panel.latch_nodesKept (id : Nat) (p : Point) (s : State) : NodesKept s (Panel.latch id p s) := by
  unfold Panel.latch
  split
  · exact NodesKept.refl s
  · refine NodesKept.foldl (fun s h => ?_) _ s
    split
    · exact State.modHead_nodesKept s h _
    · exact NodesKept.refl s

theorem Panel.faultLatch_nodesKept (id : Nat) (s : State) : NodesKept s (Panel.faultLatch id s) := by
  refine NodesKept.foldl (fun s h => ?_) _ s
  split
  · exact State.modHead_nodesKept s h _
  · exact NodesKept.refl s

theorem Fed.queue_nodesKept (chip : Nat) (what : Sent) (s : State) : NodesKept s (Fed.queue chip what s) :=
  NodesKept.of_tiles (by unfold Fed.queue; split <;> rfl)

theorem Fed.updates_nodesKept (id : Nat) (s : State) : NodesKept s (Fed.updates id s) := by
  unfold Fed.updates
  split
  · exact NodesKept.refl s
  · exact NodesKept.foldl (fun s _ => (NodesKept.of_tiles (by rfl)).trans (Fed.queue_nodesKept _ _ _)) _ s

theorem Point.endWatches_nodesKept (id why : Nat) (p : Point) (s : State) : NodesKept s (Point.endWatches id why p s) :=
  (NodesKept.of_tiles (by rfl)).trans (NodesKept.foldl (fun _ _ => (Cmd.final_hubOnly _ _ _ _).nodesKept) _ _)

theorem Point.notify_nodesKept (id : Nat) (p : Point) (s : State) : NodesKept s (Point.notify id p s) :=
  ((Point.endWatches_nodesKept id 1 p s).trans (Fed.updates_nodesKept id _)).trans
    ((Panel.latch_nodesKept id p _).trans (NodesKept.foldl (fun s _ => Bus.linkWrite_nodesKept _ _ _ s) _ _))

theorem Point.store_nodesKept (id : Nat) (old : Word) (p : Point) (s : State) : NodesKept s (Point.store id old p s) := by
  unfold Point.store
  split
  · exact NodesKept.trans (t := s.putPoint id _) (NodesKept.of_tiles (by rfl)) (Point.notify_nodesKept _ _ _)
  · exact NodesKept.of_tiles (by rfl)

theorem Point.load_nodesKept (id : Nat) (p : Point) (s : State) : NodesKept s (Point.load id p s).2 := by
  unfold Point.load
  split
  · exact NodesKept.of_tiles (by rfl)
  · split
    · exact NodesKept.refl s
    · refine NodesKept.trans ?_ (Panel.faultLatch_nodesKept id _)
      refine NodesKept.trans ?_ (HubOnly.nodesKept (Ev.raise_hubOnly _ _ _ _))
      exact NodesKept.of_tiles rfl

theorem Point.restatus_nodesKept (id : Nat) (change : Word → Word) (s : State) : NodesKept s (Point.restatus id change s) := by
  unfold Point.restatus
  split
  · dsimp only
    split
    · exact Point.load_nodesKept _ _ s
    · exact (Point.load_nodesKept _ _ s).trans (Point.store_nodesKept _ _ _ _)
  · exact NodesKept.refl s

theorem Points.flag_nodesKept (pick : BitVec 128 → Bool) (change : Word → Word) (s : State) :
    NodesKept s (Points.flag pick change s) := NodesKept.foldl (fun s id => Point.restatus_nodesKept id change s) _ s

theorem State.modBus_bus (s : State) (k : Nat) (f : Bus → Bus) (h : k < 64) : (s.modBus k f).bus k = f (s.bus k) := by
  rw [State.bus, State.modBus, State.modTile_tile_self _ _ _ (by omega), vget_vmod _ _ _ _ _ (Nat.mod_lt k (by decide)), if_pos rfl]
  rfl

theorem State.modNode_node (s : State) (k n : Nat) (f : Node → Node) (hk : k < 64) (hn : n < 64) :
    ((s.modNode k n f).bus k).node n = f ((s.bus k).node n) := by
  rw [State.modNode, State.modBus_bus _ _ _ hk, Bus.node, vget_vmod _ _ _ _ _ hn, if_pos rfl]
  rfl

theorem Bus.raise_cause (k n node : Nat) (s : State) (hk : k < 64) (hn : n < 32) :
    ((Bus.raise k n node s).bus k).cause.getLsbD n = true := by
  unfold Bus.raise
  split
  · assumption
  · rw [((HubOnly.nodesKept (Ev.raise_hubOnly _ _ _ _)) k).2, State.modBus_bus _ _ _ hk]
    simp [hn]

theorem Bus.raise_node (k n node i : Nat) (s : State) : ((Bus.raise k n node s).bus k).node i = (s.bus k).node i := by
  unfold Bus.raise
  split
  · rfl
  · rw [Bus.node, ((HubOnly.nodesKept (Ev.raise_hubOnly _ _ _ _)) k).1, ← Bus.node]
    exact State.modBus_keeps s k k _ (·.node i) fun _ => rfl

/-- A live node without a beacon within the deadline is DEAD, and controller `k` raises NODE_DEAD (R230). -/
theorem Node.check_of_silent {k n : Nat} {s : State} (hk : k < 64) (hn : n < 64) (alive : ((s.bus k).node n).state = .alive)
    (current : ((s.bus k).node n).v1Seen = none) (silent : ((s.bus k).node n).lastBeacon + (s.bus k).deadlineNs < s.tb.mono) :
    (((Node.check k n s).bus k).node n).state = .dead ∧ ((Node.check k n s).bus k).cause.getLsbD 5 = true := by
  have dead : Node.check k n s = Node.fault k n true (Bus.raise k 5 n (s.modNode k n (fun e => { e with state := .dead }))) := by
    simp [Node.check, alive, current, silent]
  obtain ⟨nodes, cause⟩ := Points.flag_nodesKept (nodePoint k n) (fun w => putBit w stFault true)
    (Bus.raise k 5 n (s.modNode k n (fun e => { e with state := .dead }))) k
  rw [dead]
  constructor
  · rw [Bus.node, Node.fault, nodes, ← Bus.node, Bus.raise_node, State.modNode_node _ _ _ _ hk hn]
  · rw [Node.fault, cause]
    exact Bus.raise_cause _ _ _ _ hk (by decide)

/-- Settles O47: each happening by its guard, the silent node by what the marking of its points leaves alone. -/
theorem busTimes : Obligations.BusTimes := by
  refine ⟨fun k s on recovering runs => ?_, fun k s u on sending waited => ?_, fun k s on runs => ?_,
    fun k n s hk hn alive current silent => Node.check_of_silent hk hn alive current silent, fun k r s found => ?_,
    fun k i n t v l m s u found wait few waited hm => ?_, fun k i n t v l s found wait many => ?_, fun k s proposing runs => ?_,
    fun k s agreed runs => ?_, fun k s hold runs => ?_, fun k s due runs => ?_, fun k s live on runs asleep => ?_,
    fun k s live on stopped enabled => ?_, fun k s off enabled low => ?_⟩
  · change Host.Outcome.next (whenever _ _ s) = _
    rw [whenever_of_true (by simp [on, recovering, runs])]
  · subst waited
    change Host.Outcome.next (whenever _ _ s) = _
    have same : (untilElapsed (s.bus k).beaconAt s).bus k = s.bus k := (untilElapsed_timeOnly _ s).keeps (·.bus k) fun _ _ _ => rfl
    rw [whenever_of_true (by simp [on, sending])]
    dsimp only
    rw [same]
  · change Host.Outcome.next (whenever _ _ s) = _
    rw [whenever_of_true (by simp [on, runs])]
    rfl
  · change execFragmentTimeout k s = _
    simp only [execFragmentTimeout, found]
  · change execLinkAckTimeout k i s = _
    simp only [execLinkAckTimeout, found, wait, if_pos few, waited, hm]
  · change execLinkAckTimeout k i s = _
    simp only [execLinkAckTimeout, found, wait, if_neg (Nat.not_lt.mpr many)]
  · change Host.Outcome.next (whenever _ _ s) = _
    rw [whenever_of_true (by simp [proposing, runs])]
  · change Host.Outcome.next (whenever _ _ s) = _
    rw [whenever_of_true (by simp [agreed, runs])]
  · change Host.Outcome.next (whenever _ _ s) = _
    rw [whenever_of_true (by simp [hold, runs])]
  · change Host.Outcome.next (whenever _ _ s) = _
    rw [whenever_of_true (by simp [due, runs])]
  · have ready : s.pw.boot = .ready := by simpa [State.live] using live
    change execBusWake k s = _
    simp [execBusWake, ready, live, on, runs, asleep]
  · have ready : s.pw.boot = .ready := by simpa [State.live] using live
    change execBusWake k s = _
    simp [execBusWake, ready, live, on, stopped, enabled]
  · change execBusWake k s = _
    simp [execBusWake, Power.offWake, off, enabled, low]

end Sys2Proof.Machine
end

section
/-!
Commands of federation (R241 to R246, R249, R251 to R254, R257, R259, R261).  Settles O48.
-/

namespace Sys2Proof.Machine

theorem Case.fedIdentity_runs : Case.fedIdentity.Runs .fedIdentity := by
  refine Case.runs_of_body _ _ bodyFedIdentity (fun _ _ _ => rfl) fun pk k t h => ?_
  simp only [Case.fedIdentity, Bool.and_eq_true, decide_eq_true_eq, Bool.or_eq_true, beq_iff_eq, Bool.not_eq_true'] at h
  obtain ⟨⟨⟨⟨chip, building⟩, cluster⟩, settled⟩, opened⟩ := h
  have inRange : (decide (10240 ≤ pk.u16 8) || decide (64 ≤ pk.u8 10) || decide (128 ≤ pk.u8 11)) = false := by
    simp only [Bool.or_eq_false_iff, decide_eq_false_iff_not]; omega
  have free : (pk.u16 8 != t.fed.chip && fedBusy t) = false := by
    rcases settled with same | idle
    · simp [same]
    · simp [idle]
  simp only [bodyFedIdentity, inRange, free, Nv.submit, opened, nvOpCommit, Bool.false_and, Bool.false_eq_true, if_false]
  rfl

theorem State.modLink_modLink (s : State) (l : Nat) (f g : Link → Link) : (s.modLink l f).modLink l g = s.modLink l (fun k => g (f k)) := by
  simp only [State.modLink, vmod_vmod]

theorem State.modLink_link (s : State) (l : Nat) (f : Link → Link) (h : l < 8) : (s.modLink l f).fed.link l = f (s.fed.link l) := by
  rw [Fed.link, State.modLink, vget_vmod _ _ _ _ _ h, if_pos rfl]
  rfl

/-- Two updates that agree on the entry of a vector leave the same vector. -/
theorem vmod_congr {β : Type} {n : Nat} (v : Vector β n) (i : Nat) {f g : β → β} (d : β) (same : f (vget v i d) = g (vget v i d)) :
    vmod v i f = vmod v i g := by
  unfold vmod
  split
  · next x found =>
    have entry : vget v i d = x := by rw [vget, found]; rfl
    rw [← entry, same]
  · rfl

theorem State.modLink_congr (s : State) (l : Nat) {f g : Link → Link} (same : f (s.fed.link l) = g (s.fed.link l)) :
    s.modLink l f = s.modLink l g := by
  rw [State.modLink, State.modLink, vmod_congr _ _ {} same]

/-- A FED_LINK in range is taken (R246). -/
theorem bodyFedLink_of_ok {op : Nat} {pk : Packet} {k : Key} {t : State} (h : Case.fedLinkOk op pk t = true) (low : op < 3) :
    pk.u8 8 < 8 ∧ bodyFedLink pk k t = .ok 0 (Link.command (pk.u8 8) op (pk.u8 10) t) := by
  simp only [Case.fedLinkOk, Bool.and_eq_true, decide_eq_true_eq, Bool.or_eq_true, beq_iff_eq, bne_iff_ne] at h
  obtain ⟨⟨⟨link, named⟩, version⟩, identified⟩ := h
  have known : (decide (op = 1) && !t.fed.committed) = false := by
    rcases identified with other | committed
    · simp [other]
    · simp [committed]
  have inRange : (decide (3 ≤ op) || pk.u8 10 == 0 || decide (3 ≤ pk.u8 10)) = false := by
    simp only [Bool.or_eq_false_iff, decide_eq_false_iff_not, beq_eq_false_iff_ne]; omega
  have judged : judgeLink t (pk.u8 8) op (pk.u8 10) = none := by
    simp only [judgeLink, known, inRange, if_neg (Nat.not_le.mpr link), Bool.false_eq_true, if_false]
  refine ⟨link, ?_⟩
  rw [bodyFedLink, named, judged]

theorem Case.fedLinkOn_runs : Case.fedLinkOn.Runs .fedLink := by
  refine Case.runs_of_body _ _ bodyFedLink (fun _ _ _ => rfl) fun pk k t h => ?_
  simp only [Case.fedLinkOn, Bool.and_eq_true, Bool.not_eq_true'] at h
  obtain ⟨⟨ok, awake⟩, disabled⟩ := h
  obtain ⟨link, taken⟩ := bodyFedLink_of_ok (k := k) ok (by decide)
  have still (f : Link → Link) : glowing (t.modLink (pk.u8 8) f) = false := awake
  simp only [taken, Link.command, still, State.modLink_link _ _ _ link, disabled, Link.retrain, State.modLink_modLink,
    Nat.one_ne_zero, Bool.false_eq_true, if_false, if_true]
  rfl

theorem Case.fedLinkOnGlow_runs : Case.fedLinkOnGlow.Runs .fedLink := by
  refine Case.runs_of_body _ _ bodyFedLink (fun _ _ _ => rfl) fun pk k t h => ?_
  simp only [Case.fedLinkOnGlow, Bool.and_eq_true] at h
  obtain ⟨ok, asleep⟩ := h
  have still (f : Link → Link) : glowing (t.modLink (pk.u8 8) f) = true := asleep
  simp only [(bodyFedLink_of_ok (k := k) ok (by decide)).2, Link.command, still, State.modLink_modLink,
    Nat.one_ne_zero, if_false, if_true]
  rfl

theorem Case.fedLinkOff_runs : Case.fedLinkOff.Runs .fedLink :=
  Case.runs_of_body _ _ bodyFedLink (fun _ _ _ => rfl) fun _ _ _ h => (bodyFedLink_of_ok h (by decide)).2

theorem Case.fedLinkRetrain_runs : Case.fedLinkRetrain.Runs .fedLink := by
  refine Case.runs_of_body _ _ bodyFedLink (fun _ _ _ => rfl) fun pk k t h => ?_
  simp only [Case.fedLinkRetrain, Bool.and_eq_true, Bool.not_eq_true'] at h
  obtain ⟨⟨ok, awake⟩, enabled⟩ := h
  obtain ⟨link, taken⟩ := bodyFedLink_of_ok (k := k) ok (by decide)
  have still (f : Link → Link) : glowing (t.modLink (pk.u8 8) f) = false := awake
  simp only [taken, Link.command, still, State.modLink_link _ _ _ link, enabled, OfNat.ofNat_ne_zero, OfNat.ofNat_ne_one,
    Bool.false_eq_true, if_false, if_true]
  rfl

/-- OP 1 of an enabled link leaves MAXVER alone changed, in GLOW too (R246). -/
theorem Link.command_on_of_enabled {l maxver : Nat} {s : State} (link : l < 8) (enabled : (s.fed.link l).enable = true) :
    Link.command l 1 maxver s = s.modLink l (fun k => { k with maxver := maxver }) := by
  simp only [Link.command, State.modLink_link _ _ _ link, enabled, State.modLink_modLink, Nat.one_ne_zero, if_false, if_true]
  split
  · exact State.modLink_congr _ _ (by rw [enabled])
  · rfl

/-- OP 2 of a link that is disabled or in electrical idle leaves MAXVER alone changed (R246). -/
theorem Link.command_retrain_of_idle {l maxver : Nat} {s : State} (link : l < 8)
    (idle : glowing s = true ∨ (s.fed.link l).enable = false) :
    Link.command l 2 maxver s = s.modLink l (fun k => { k with maxver := maxver }) := by
  have still (f : Link → Link) : glowing (s.modLink l f) = glowing s := rfl
  simp only [Link.command, still, State.modLink_link _ _ _ link, OfNat.ofNat_ne_zero, OfNat.ofNat_ne_one, if_false]
  rcases idle with asleep | disabled
  · rw [if_pos asleep]
  · simp only [disabled, Bool.false_eq_true, if_false, ite_self]

theorem Case.fedLinkMaxver_runs (op : Nat) : (Case.fedLinkMaxver op).Runs .fedLink := by
  refine Case.runs_of_body _ _ bodyFedLink (fun _ _ _ => rfl) fun pk k t h => ?_
  simp only [Case.fedLinkMaxver, Bool.and_eq_true, Bool.or_eq_true, beq_iff_eq, Bool.not_eq_true'] at h
  obtain ⟨ok, ⟨rfl, enabled⟩ | ⟨rfl, idle⟩⟩ := h
  · obtain ⟨link, taken⟩ := bodyFedLink_of_ok (k := k) ok (by decide)
    rw [taken, Link.command_on_of_enabled link enabled]
    rfl
  · obtain ⟨link, taken⟩ := bodyFedLink_of_ok (k := k) ok (by decide)
    rw [taken, Link.command_retrain_of_idle link idle]
    rfl

theorem Case.fedNet_runs : Case.fedNet.Runs .fedNet := by
  refine Case.runs_of_body _ _ bodyFedNet (fun _ _ _ => rfl) fun pk k t h => ?_
  simp only [Case.fedNet, Bool.and_eq_true, decide_eq_true_eq] at h
  obtain ⟨⟨pfx, vlan⟩, committed⟩ := h
  have inRange : (pk.u8 40 == 0 || decide (129 ≤ pk.u8 40) || pk.u16 44 == 0 || decide (4095 ≤ pk.u16 44)) = false := by
    simp only [Bool.or_eq_false_iff, decide_eq_false_iff_not, beq_eq_false_iff_ne]; omega
  have known : (!t.fed.committed) = false := by rw [committed]; rfl
  simp only [bodyFedNet, known, inRange, Bool.false_eq_true, if_false]
  rfl

theorem Case.fedPtp_runs : Case.fedPtp.Runs .fedPtp := by
  refine Case.runs_of_body _ _ bodyFedPtp (fun _ _ _ => rfl) fun pk k t h => ?_
  simp only [Case.fedPtp, Bool.and_eq_true, decide_eq_true_eq] at h
  obtain ⟨⟨source, dom⟩, interval⟩ := h
  have inRange : (decide (128 ≤ pk.u8 9) || decide (signedOf 8 (pk.u8 13) < -4) || decide (1 < signedOf 8 (pk.u8 13))) = false := by
    simp only [Bool.or_eq_false_iff, decide_eq_false_iff_not]; omega
  have named : ¬ 2 ≤ pk.u8 8 := by omega
  simp only [bodyFedPtp, named, inRange, Bool.false_eq_true, if_false]
  rfl

theorem Case.fedExport_runs : Case.fedExport.Runs .fedExport := by
  refine Case.runs_of_body _ _ bodyFedExport (fun _ _ _ => rfl) fun pk k t h => ?_
  simp only [Case.fedExport, Bool.or_eq_true, beq_iff_eq, decide_eq_true_eq] at h
  have inRange : (pk.u16 8 != 0 && (decide (pk.u16 8 < 10) || decide (600 < pk.u16 8))) = false := by
    simp only [Bool.and_eq_false_iff, Bool.or_eq_false_iff, decide_eq_false_iff_not, bne_eq_false_iff_eq]; omega
  simp only [bodyFedExport, inRange, Bool.false_eq_true, if_false]
  rfl

theorem Case.fedMirror_runs : Case.fedMirror.Runs .fedMirror := by
  refine Case.runs_of_body _ _ bodyFedMirror (fun _ _ _ => rfl) fun pk k t h => ?_
  simp only [Case.fedMirror, Bool.and_eq_true, Bool.or_eq_true, decide_eq_true_eq, bne_iff_ne, Option.isNone_iff_eq_none,
    Bool.not_eq_true'] at h
  obtain ⟨⟨⟨⟨⟨⟨⟨⟨⟨number, age⟩, cov⟩, other⟩, chip⟩, absent⟩, unreserved⟩, pins⟩, room⟩, committed⟩ := h
  have inRange : (decide (5242880 ≤ pk.point 8 % 2 ^ 24) || decide (pk.u16 16 < 10) || decide (3600 < pk.u16 16)
      || !fNonNeg (pk.f32 20)) = false := by
    simp only [Bool.or_eq_false_iff, decide_eq_false_iff_not, cov, Bool.not_true, and_true]; omega
  have remote : (chipOf (pk.point 8) == t.fed.chip || decide (10240 ≤ chipOf (pk.point 8))) = false := by
    simp only [Bool.or_eq_false_iff, decide_eq_false_iff_not, beq_eq_false_iff_ne]; exact ⟨other, by omega⟩
  have fresh : ((t.point (pk.point 8)).isSome || ahas t.fed.reserved (pk.point 8)) = false := by
    simp only [absent, unreserved, Option.isSome_none, Bool.or_self]
  have pinned : (pk.u8 14 == 1 && decide (65536 ≤ pinCount t)) = false := by
    rcases pins with no | few
    · simp [no]
    · simp [Nat.not_le.mpr few]
  have known : (!t.fed.committed) = false := by rw [committed]; rfl
  simp only [bodyFedMirror, known, inRange, remote, fresh, pinned, if_neg (Nat.not_le.mpr room),
    Bool.false_eq_true, if_false]
  rfl

theorem Case.fedUnmirror_runs (p : Point) : (Case.fedUnmirror p).Runs .fedUnmirror := by
  refine Case.runs_of_body _ _ bodyFedUnmirror (fun _ _ _ => rfl) fun pk k t h => ?_
  simp only [Case.fedUnmirror, Bool.and_eq_true, bne_iff_ne, beq_iff_eq, Bool.not_eq_true'] at h
  obtain ⟨⟨⟨⟨⟨known, other⟩, found⟩, sound⟩, reflection⟩, unbound⟩ := h
  simp only [pointIdOk, Bool.and_eq_true, decide_eq_true_eq] at known
  obtain ⟨chip, number⟩ := known
  have numbered : ¬ 5242880 ≤ pk.point 8 % 2 ^ 24 := Nat.not_le.mpr number
  have remote : (chipOf (pk.point 8) == t.fed.chip || decide (10240 ≤ chipOf (pk.point 8))) = false := by
    rw [beq_eq_false_iff_ne.mpr other, Bool.false_or]
    exact decide_eq_false (Nat.not_le.mpr chip)
  simp only [bodyFedUnmirror, if_neg numbered, remote, found, reflection, unbound, Bool.not_true, Bool.false_eq_true, if_false,
    Point.load_of_sound sound, Case.fedUnmirror]

theorem Case.fedStatus_runs : Case.fedStatus.Runs .fedStatus :=
  Case.runs_of_body _ _ bodyFedStatus (fun _ _ _ => rfl) fun _ _ _ _ => rfl

theorem Case.fedPeerRead_runs : Case.fedPeerRead.Runs .fedPeerRead := by
  refine Case.runs_of_body _ _ bodyFedPeerRead (fun _ _ _ => rfl) fun pk k t h => ?_
  simp only [Case.fedPeerRead, decide_eq_true_eq] at h
  simp only [bodyFedPeerRead, if_neg (Nat.not_le.mpr h), Case.fedPeerRead, Case.pathCode]
  cases aget t.fed.peers (pk.u16 8) <;> rfl

/-- Settles O48: each command by the guards that its case meets. -/
theorem fedCommands : Obligations.FedCommands :=
  ⟨Case.fedIdentity_runs, Case.fedLinkOn_runs, Case.fedLinkOnGlow_runs, Case.fedLinkOff_runs, Case.fedLinkRetrain_runs,
    Case.fedLinkMaxver_runs, Case.fedNet_runs, Case.fedPtp_runs, Case.fedExport_runs, Case.fedMirror_runs, Case.fedUnmirror_runs,
    Case.fedStatus_runs, Case.fedPeerRead_runs⟩

end Sys2Proof.Machine
end

section
/-!
Records that reach reflections (R250, R253 to R256).  Settles O49.
-/

namespace Sys2Proof.Machine

/-- A record from a chip with a path is taken if its CRC matches, and counted otherwise (R250, R256). -/
theorem Fed.receive_of_sender {via : Via} {type chip : Nat} {r : MirrorRec} {f : Nat → State → State} {s : State}
    (runs : fedRuns s = true) (sender : senderOf (Fed.arrive via s) via = some chip) :
    Fed.receive via type r f s = if recordOk type r then f chip (Fed.heardFrom via chip (Fed.arrive via s))
      else Fed.countRec via false (Fed.heardFrom via chip (Fed.arrive via s)) := by
  simp only [fedRuns, Bool.and_eq_true, bne_iff_ne] at runs
  have taken : (!s.live || s.pw.pstate == .glow) = false := by
    rw [runs.1, beq_eq_false_iff_ne.mpr runs.2]; rfl
  simp only [Fed.receive, taken, sender, Bool.false_eq_true, if_false]

theorem foldl_putBit_getLsbD (l : List Nat) (w : Word) (b : Byte) {m : Nat} (hm : m < 32) (hl : ∀ n ∈ l, n < 32) :
    (l.foldl (fun w n => putBit w n (b.getLsbD n)) w).getLsbD m = if m ∈ l then b.getLsbD m else w.getLsbD m := by
  induction l generalizing w with
  | nil => simp
  | cons n l ih =>
    rw [List.foldl_cons, ih _ fun i hi => hl i (List.mem_cons_of_mem _ hi), putBit_getLsbD _ _ hm (hl n List.mem_cons_self)]
    by_cases later : m ∈ l
    · simp [later]
    · by_cases here : m = n <;> simp [here, later]

/-- What an accepted UPDATE leaves of a status bit: STALE is 0, a copied bit is the record's, every other bit stays (R254). -/
theorem copyStatus_getLsbD (w : Word) (b : Byte) {m : Nat} (hm : m < 32) :
    (copyStatus w b).getLsbD m = if m = stStale then false else if m ∈ copiedBits then b.getLsbD m else w.getLsbD m := by
  rw [copyStatus, putBit_getLsbD _ _ hm (by decide), foldl_putBit_getLsbD _ _ _ hm (by decide)]

theorem Point.accept_status (p : Point) (m : Mirror) (r : MirrorRec) (now : Nat) :
    (p.accept m r now).status.getLsbD stStale = false ∧
    (∀ n ∈ copiedBits, (p.accept m r now).status.getLsbD n = r.status.getLsbD n) ∧
    (∀ n, n ∉ copiedBits → n ≠ stStale → (p.accept m r now).status.getLsbD n = p.status.getLsbD n) := by
  refine ⟨copyStatus_getLsbD _ _ (by decide), fun n copied => ?_, fun n plain other => ?_⟩
  · have small : n < 32 := (by decide : ∀ n ∈ copiedBits, n < 32) n copied
    have other : n ≠ stStale := (by decide : ∀ n ∈ copiedBits, n ≠ stStale) n copied
    rw [Point.accept, copyStatus_getLsbD _ _ small, if_neg other, if_pos copied]
  · by_cases small : n < 32
    · rw [Point.accept, copyStatus_getLsbD _ _ small, if_neg other, if_neg plain]
    · rw [BitVec.getLsbD_of_ge _ _ (Nat.not_lt.mp small), BitVec.getLsbD_of_ge _ _ (Nat.not_lt.mp small)]

/-- An UPDATE of a reflection that is not older than it, or of a new BOOT_ID, replaces its value (R254). -/
theorem Fed.apply_of_fresh {via : Via} {r : MirrorRec} {p : Point} {m : Mirror} {u v : State} (found : u.point r.point.toNat = some p)
    (mirror : p.mirror = some m) (living : m.ended = false) (fresh : r.boot ≠ m.boot ∨ p.timestamp.toNat ≤ r.timestamp.toNat)
    (loaded : Point.load r.point.toNat p u = (true, v)) :
    Fed.apply via r u = Point.store r.point.toNat p.status (p.accept m r u.tb.elapsed)
      (Point.touch r.point.toNat (Fed.countRec via true v)) := by
  have taken : (m.ended || !(r.boot != m.boot || decide (p.timestamp.toNat ≤ r.timestamp.toNat))) = false := by
    rw [living, Bool.false_or, Bool.not_eq_false', Bool.or_eq_true, bne_iff_ne, decide_eq_true_eq]
    exact fresh
  simp only [Fed.apply, found, mirror, taken, loaded, Bool.false_eq_true, if_false, if_true]

/-- A SUBSCRIBE that nothing refuses is granted (R253). -/
theorem Fed.subscribe_of_judged {via : Via} {chip : Nat} {r : MirrorRec} {s u : State}
    (checked : u = Point.check r.point.toNat (Fed.countRec via true s)) (joined : u.fed.isolated = false) :
    (Fed.judgeSubscribe u chip r.point.toNat = none → Fed.subscribe via chip r s = Fed.queue chip (.grant r.point)
      { u with fed := { u.fed with
        subs := if u.fed.subs.contains (chip, r.point.toNat) then u.fed.subs else u.fed.subs ++ [(chip, r.point.toNat)]
        sweptAt := if ahas u.fed.sweptAt chip then u.fed.sweptAt else aset u.fed.sweptAt chip u.tb.elapsed } }) ∧
    (∀ x, Fed.judgeSubscribe u chip r.point.toNat = some x →
      Fed.subscribe via chip r s = Fed.queue chip (.refuse r.point x) u) := by
  constructor
  · intro judged
    simp only [Fed.subscribe, ← checked, joined, judged, Bool.false_eq_true, if_false]
  · intro x judged
    simp only [Fed.subscribe, ← checked, joined, judged, Bool.false_eq_true, if_false]

/-- A REFUSE of a point that was never granted ends its FED_MIRROR (R254). -/
theorem Fed.refuse_of_reserved {via : Via} {r : MirrorRec} {v : Reserve} {s u : State} (counted : u = Fed.countRec via true s)
    (found : aget u.fed.reserved r.point.toNat = some v) :
    Fed.refuse via r s = Cmd.finalBad v.key r.status.toNat
      { u with fed := { u.fed with reserved := aerase u.fed.reserved r.point.toNat } } := by
  simp only [Fed.refuse, ← counted, found]

/-- A REFUSE of a reflection ends it, and raises the event of its end (R254). -/
theorem Fed.refuse_of_reflection {via : Via} {r : MirrorRec} {p : Point} {m : Mirror} {s u w : State}
    (counted : u = Fed.countRec via true s) (granted : aget u.fed.reserved r.point.toNat = none)
    (found : u.point r.point.toNat = some p) (mirror : p.mirror = some m) (living : m.ended = false)
    (loaded : Point.load r.point.toNat p u = (true, w)) :
    Fed.refuse via r s = Ev.raise 202 0 (packLe [(5, r.point.toNat), (1, r.status.toNat)])
      (Point.store r.point.toNat p.status { p with
        mirror := some { m with ended := true }, status := putBit (putBit p.status stFault true) stStale true } w) := by
  simp only [Fed.refuse, ← counted, granted, found, mirror, living, loaded, Bool.false_eq_true, if_false, if_true]

/-- Settles O49: every record by what its sender and its CRC make of it. -/
theorem mirrorRecords : Obligations.MirrorRecords := by
  refine ⟨fun via r chip s a u v p m runs arrived sender heard sound own found mirror living fresh loaded => ?_,
    fun p m r now => ⟨rfl, rfl, Point.accept_status p m r now⟩, fun via r chip s a u runs arrived sender heard => ?_,
    fun via r chip s a u runs arrived sender heard sound joined => ?_,
    fun via r chip s a u v runs arrived sender heard sound own found => ?_,
    fun via r chip s a u runs arrived sender heard sound own => ⟨fun v found => ?_,
      fun p m w granted found mirror living loaded => ?_⟩,
    fun via r chip s a u runs arrived sender heard sound => ?_, fun chip s runs subscribed => ?_,
    fun id v s u found waited => ?_, fun id p m s found mirror => ?_⟩
  · subst arrived
    change Host.Outcome.next (Fed.receive via 1 r _ s) = _
    rw [Fed.receive_of_sender runs sender, ← heard, if_pos sound, if_pos own, Fed.apply_of_fresh found mirror living fresh loaded]
  · subst arrived
    have dropped (type : Nat) (f : Nat → State → State) (broken : recordOk type r = false) : Fed.receive via type r f s = u := by
      rw [Fed.receive_of_sender runs sender, if_neg (by simp [broken]), heard]
    exact ⟨fun h => congrArg Host.Outcome.next (dropped 1 _ h), fun h => congrArg Host.Outcome.next (dropped 2 _ h),
      fun h => congrArg Host.Outcome.next (dropped 3 _ h), fun h => congrArg Host.Outcome.next (dropped 4 _ h),
      fun h => congrArg Host.Outcome.next (dropped 5 _ h)⟩
  · subst arrived
    have taken : exec (.subscribe via r) s = .next (Fed.subscribe via chip r (Fed.heardFrom via chip (Fed.arrive via s))) := by
      change Host.Outcome.next (Fed.receive via 2 r _ s) = _
      rw [Fed.receive_of_sender runs sender, if_pos sound]
    rw [taken]
    obtain ⟨granted, refused⟩ := Fed.subscribe_of_judged (chip := chip) heard joined
    exact ⟨fun h => congrArg _ (granted h), fun x h => congrArg _ (refused x h)⟩
  · subst arrived
    refine ⟨_, rfl, ?_⟩
    change Host.Outcome.next (Fed.receive via 3 r _ s) = _
    rw [Fed.receive_of_sender runs sender, ← heard, if_pos sound, if_pos own]
    simp only [Fed.grant, found]
  · subst arrived
    change Host.Outcome.next (Fed.receive via 4 r _ s) = _
    rw [Fed.receive_of_sender runs sender, if_pos sound, if_pos own, Fed.refuse_of_reserved heard found]
  · subst arrived
    change Host.Outcome.next (Fed.receive via 4 r _ s) = _
    rw [Fed.receive_of_sender runs sender, if_pos sound, if_pos own,
      Fed.refuse_of_reflection heard granted found mirror living loaded]
  · subst arrived
    change Host.Outcome.next (Fed.receive via 5 r _ s) = _
    rw [Fed.receive_of_sender runs sender, if_pos sound, heard]
  · change Host.Outcome.next (whenever _ _ s) = _
    rw [whenever_of_true (by simp [runs, subscribed])]
  · change execMirrorTimeout id s = _
    simp only [execMirrorTimeout, found, waited]
  · change execReflectionStale id s = _
    simp only [execReflectionStale, found, mirror, Option.bind_some]

end Sys2Proof.Machine
end

section
/-!
Links, peers, ports and PTP (R244, R246 to R252, R257, R258, R298).  Settles O50.
-/

namespace Sys2Proof.Machine

/-- A conflict leaves the links as they are (R244). -/
theorem Fed.conflict_links (chip : Nat) (serial : BitVec 48) (s : State) : (Fed.conflict chip serial s).fed.links = s.fed.links := by
  unfold Fed.conflict
  rw [(Ev.raise_hubOnly _ _ _ _).keeps (·.fed) fun _ _ _ _ _ => rfl]
  split <;> rfl

theorem Fed.conflict_isolated (chip : Nat) (serial : BitVec 48) (s : State) :
    (Fed.conflict chip serial s).fed.isolated = true ↔ s.fed.isolated = true ∨ serial.toNat < Config.serial.toNat := by
  unfold Fed.conflict
  rw [(Ev.raise_hubOnly _ _ _ _).keeps (·.fed) fun _ _ _ _ _ => rfl]
  split
  · next lower => simp only [lower, or_true]
  · next higher => simp only [higher, or_false]

/-- What a link that trains sees first: a peer under this chip's own CHIP and another serial is a conflict (R244). -/
def Link.judged (p : TrainInfo) (s : State) : State :=
  if p.chip = s.fed.chip ∧ p.serial ≠ Config.serial then Fed.conflict p.chip p.serial s else s

theorem Link.judged_link (p : TrainInfo) (l : Nat) (s : State) : (Link.judged p s).fed.link l = s.fed.link l := by
  unfold Link.judged
  split
  · rw [Fed.link, Fed.conflict_links, ← Fed.link]
  · rfl

theorem Link.judged_eq (p : TrainInfo) (s : State) :
    (if p.chip = s.fed.chip && p.serial != Config.serial then Fed.conflict p.chip p.serial s else s) = Link.judged p s := by
  simp only [Link.judged, Bool.and_eq_true, decide_eq_true_eq, bne_iff_ne]

/-- A link that trained with a chip it may stand beside comes up (R246). -/
theorem Link.trained_of_wired {l : Nat} {p : TrainInfo} {s : State} (wired : Link.miswired (Link.judged p s) l p = false) :
    Link.trained l p s = Fed.noteBoot p.chip ((aget (Link.judged p s).fed.peers p.chip).map (·.boot)) p.boot
      (Link.event l 0 p.chip (min (s.fed.link l).maxver p.maxver) (Fed.withPath p.chip (fun s =>
        (s.putPeer p.chip { (aget s.fed.peers p.chip).getD (newPeer s p.serial p.boot s.fed.building p.cluster) with
          serial := p.serial, boot := p.boot, cluster := p.cluster }).modLink l (fun k => { k with
            peerChip := p.chip, peerCluster := p.cluster, peerSerial := p.serial, state := .up
            version := min (s.fed.link l).maxver p.maxver, credit := 256, freed := 0 })) (Link.judged p s))) := by
  simp only [Link.trained, Link.judged_eq, wired, Fed.withPath, Link.judged_link, Bool.false_eq_true, if_false]

theorem Link.trained_of_miswired {l : Nat} {p : TrainInfo} {s : State} (wired : Link.miswired (Link.judged p s) l p = true) :
    Link.trained l p s = Link.event l 2 p.chip (min (s.fed.link l).maxver p.maxver) ((Link.judged p s).modLink l (fun k =>
      { k with peerChip := p.chip, peerCluster := p.cluster, peerSerial := p.serial, state := .miswired
               failedAt := (Link.judged p s).tb.elapsed })) := by
  simp only [Link.trained, Link.judged_eq, wired, if_true]

theorem Link.frame_of_whole {l : Nat} {h : FrameHead} {s : State} (up : (s.fed.link l).state = .up) (whole : frameOk h = true) :
    Link.frame l h s = s.modLink l (fun k => { k with credit := min 256 (k.credit + h.credit.toNat), rxLseq := h.lseq }) := by
  simp only [Link.frame, up, whole, bne_self_eq_false, Bool.not_true, Bool.false_eq_true, if_false]

theorem Link.frame_of_broken {l : Nat} {h : FrameHead} {s : State} (up : (s.fed.link l).state = .up) (broken : frameOk h = false) :
    Link.frame l h s = Link.fall l s := by
  simp only [Link.frame, up, broken, bne_self_eq_false, Bool.not_false, Bool.false_eq_true, if_false, if_true]

theorem Fed.announced_of_other {h : AmzHeader} {s : State} (other : h.chip ≠ s.fed.chip)
    (room : h.building ≠ s.fed.building ∨ (buildingPeers s h.chip).length < 1024) : Fed.announced h s = Fed.takePeer h s := by
  unfold Fed.announced Fed.welcome
  rw [if_neg other]
  rcases room with afar | few
  · rw [if_pos (bne_iff_ne.mpr afar)]
  · simp only [if_pos few, ite_self]

theorem Peer.heardHeader_alive (p : Peer) (h : AmzHeader) (now : Nat) :
    (p.heardHeader h now).alive = true ∧ (p.heardHeader h now).seenAt = now ∧ (p.heardHeader h now).boot = h.boot := by
  unfold Peer.heardHeader
  dsimp only
  split <;> exact ⟨rfl, rfl, rfl⟩

/-- A time stamp on the wire is the last multiple of 64 tenths of a nanosecond (R257). -/
theorem ptpStampOf_bounds (n : Nat) : 64 ∣ ptpStampOf n ∧ ptpStampOf n ≤ 10 * n ∧ 10 * n < ptpStampOf n + 64 := by
  unfold ptpStampOf
  exact ⟨Dvd.intro_left _ rfl, by omega, by omega⟩

theorem clampRate_bounds (r : Int) :
    -500000 ≤ clampRate r ∧ clampRate r ≤ 500000 ∧ (-500000 ≤ r → r ≤ 500000 → clampRate r = r) := by
  unfold clampRate
  omega

/-- Settles O50: every happening by its guard; the link by what the conflict before it leaves alone. -/
theorem linksPeersAndPtp : Obligations.LinksPeersAndPtp := by
  refine ⟨fun l p s a u runs enabled training judged wired trained => ?_, fun l p s a runs enabled training judged wired => ?_,
    fun chip serial s => ⟨Ev.raise_pending (by decide) _ _ _, Fed.conflict_isolated chip serial s⟩,
    fun l s runs enabled waits => ?_, fun l s runs carries => ?_, fun l s runs up => ⟨fun h whole type => ?_, fun h broken => ?_, ?_⟩,
    fun l s runs held idle => ?_, fun h s runs net => ⟨fun bad => ?_, fun good other room => ?_, fun good own => ?_⟩,
    Peer.heardHeader_alive, fun s u runs net waited => ?_, fun chip p s live found alive => ?_, fun s live up zero => ?_,
    fun s live up one => ?_, fun s live down => ?_, fun s u live up one waited => ?_, fun s runs => ⟨fun a => ?_, ?_⟩,
    fun d r s runs dom => ⟨fun master => ?_, fun sent follows asked => ?_⟩, ptpStampOf_bounds,
    fun m ms o rate s u v runs takes hms ho hu hv => ?_, fun m rate s leaves => ?_, clampRate_bounds,
    fun s u runs locked waited => ?_⟩
  · change Host.Outcome.next (whenever _ _ s) = _
    rw [whenever_of_true (by simp [runs, enabled, training])]
    change a = Link.judged p s at judged
    rw [judged] at wired trained ⊢
    rw [Link.trained_of_wired wired, trained]
  · change Host.Outcome.next (whenever _ _ s) = _
    rw [whenever_of_true (by simp [runs, enabled, training])]
    change a = Link.judged p s at judged
    rw [judged] at wired ⊢
    rw [Link.trained_of_miswired wired]
  · change Host.Outcome.next (whenever _ _ s) = _
    rw [whenever_of_true (by simp [runs, enabled, waits])]
  · change Host.Outcome.next (whenever _ _ s) = _
    rw [whenever_of_true (by simp [runs, carries])]
    rfl
  · change Host.Outcome.next (whenever _ _ s) = _
    rw [whenever_of_true (by rcases type with idle | credit <;> simp [*]), Link.frame_of_whole up whole]
  · change Host.Outcome.next (whenever _ _ s) = _
    rw [whenever_of_true (by simp [runs, broken]), Link.frame_of_broken up broken]
    rfl
  · change Host.Outcome.next (whenever _ _ s) = _
    rw [whenever_of_true (by simp [runs, up])]
  · change Host.Outcome.next (whenever _ _ s) = _
    rw [whenever_of_true (by simp [runs, held, idle])]
  · change Host.Outcome.next (whenever _ _ s) = _
    rw [whenever_of_true (by simp [runs, net]), if_neg (fun good => Bool.false_ne_true (bad.symm.trans good))]
    rfl
  · change Host.Outcome.next (whenever _ _ s) = _
    rw [whenever_of_true (by simp [runs, net]), if_pos good, Fed.announced_of_other other room]
  · change Host.Outcome.next (whenever _ _ s) = _
    rw [whenever_of_true (by simp [runs, net]), if_pos good, Fed.announced, if_pos own]
  · change Host.Outcome.next (whenever _ _ s) = _
    rw [whenever_of_true (by simp [runs, net]), waited]
  · change execPeerLost chip s = _
    simp only [execPeerLost, found, live, alive, Bool.and_self, if_true]
  · change Host.Outcome.next (whenever _ _ s) = _
    rw [whenever_of_true (by simp [live, up])]
    simp only [zero, Bool.false_eq_true, if_false]
    rfl
  · change Host.Outcome.next (whenever _ _ s) = _
    rw [whenever_of_true (by simp [live, up])]
    exact congrArg Host.Outcome.next (if_pos one)
  · change Host.Outcome.next (whenever _ _ s) = _
    rw [whenever_of_true (by simp [live, down])]
  · change Host.Outcome.next (whenever _ _ s) = _
    rw [whenever_of_true (by simp [live, up, one]), waited]
    rfl
  · change Host.Outcome.next (whenever _ _ s) = _
    rw [whenever_of_true runs]
  · change Host.Outcome.next (whenever _ _ s) = _
    rw [whenever_of_true runs]
  · change Host.Outcome.next (whenever _ _ s) = _
    rw [whenever_of_true runs]
    exact congrArg Host.Outcome.next (whenever_of_true (by simp [master, dom]) _ _)
  · change Host.Outcome.next (whenever _ _ s) = _
    rw [whenever_of_true runs]
    refine congrArg Host.Outcome.next ((whenever_of_true (by simp [follows, dom]) _ _).trans ?_)
    simp only [Ptp.delayed, asked]
  · change Host.Outcome.next (whenever _ _ s) = _
    rw [whenever_of_true (by simp [runs, takes])]
    subst hms ho hu hv
    rfl
  · change Host.Outcome.next (whenever _ _ s) = _
    rw [whenever_of_false (by simp [leaves])]
  · change Host.Outcome.next (whenever _ _ s) = _
    rw [whenever_of_true (by simp [runs, locked]), waited]

end Sys2Proof.Machine
end

section
/-!
Commands on panel heads (R265 to R274, R280 to R289, R292).  Settles O51.
-/

namespace Sys2Proof.Machine

theorem onHead_of_headOk {right : Nat} {pk : Packet} {t : State} (h : Case.headOk right pk t = true) (f : Nat → Verdict) :
    onHead right pk t f = f (pk.u8 8) := by
  simp only [Case.headOk, Bool.and_eq_true, decide_eq_true_eq, tileOk_iff] at h
  obtain ⟨⟨named, on⟩, right⟩ := h
  simp only [onHead, if_neg (Nat.not_le.mpr named), on, Bool.not_true, Bool.false_eq_true, if_false]
  exact if_neg (Nat.not_lt.mpr right)

/-- A mode in range on a head that is OFF is in force with new frame buffers (R265, R270). -/
theorem Panel.configure_of_ok {h : Nat} {c0 c1 c2 c3 : Word} {s : State} {x : Head}
    (new : { s.head h with cfg0 := c0, cfg1 := c1, cfg2 := c2, cfg3 := c3 } = x) (off : (s.head h).state = .off)
    (fields : (field c1.toNat 7 0 != 0 || field c3.toNat 15 0 != 0 || field c0.toNat 11 8 == 0) = false)
    (crack : (decide (32 ≤ x.crackPos) && x.crackPos != 255) = false) (mode : modeOk x = true) (room : buffersFit s h x = true) :
    Panel.configure h c0 c1 c2 c3 s = .ok 0 (s.modHead h (fun y => { y with
      cfg0 := c0, cfg1 := c1, cfg2 := c2, cfg3 := c3, buffers := true, pixels := [] })) := by
  unfold Panel.configure
  extract_lets src y
  have same : y = x := new
  simp only [same, off, fields, crack, mode, room, bne_self_eq_false, Bool.not_true, Bool.false_eq_true, if_false]

theorem Case.panelConfig_runs : Case.panelConfig.Runs .panelConfig := by
  refine Case.runs_of_body _ _ bodyPanelConfig (fun _ _ _ => rfl) fun pk k t h => ?_
  simp only [Case.panelConfig, Bool.and_eq_true, Bool.or_eq_true, decide_eq_true_eq, beq_iff_eq, bne_iff_ne] at h
  obtain ⟨⟨⟨⟨⟨⟨⟨ok, off⟩, low⟩, flags⟩, drivers⟩, crack⟩, mode⟩, room⟩ := h
  have fields : (field (pk.f32 20).toNat 7 0 != 0 || field (pk.f32 28).toNat 15 0 != 0 || field (pk.f32 16).toNat 11 8 == 0) = false := by
    rw [low, flags, beq_eq_false_iff_ne.mpr drivers]; rfl
  have loop : (decide (32 ≤ (Case.panelNew pk t).crackPos) && (Case.panelNew pk t).crackPos != 255) = false := by
    rcases crack with named | without
    · rw [decide_eq_false (Nat.not_le.mpr named), Bool.false_and]
    · rw [bne_eq_false_iff_eq.mpr without, Bool.and_false]
  rw [bodyPanelConfig, onHead_of_headOk ok]
  exact Panel.configure_of_ok rfl off fields loop mode room

/-- PANEL_POWER on reaches a head that has a mode, below T_CRIT. -/
theorem bodyPanelPower_on {st : HeadState} {pk : Packet} {k : Key} {t : State} (h : Case.powerIn 1 st pk t = true) :
    bodyPanelPower pk k t = Panel.on (pk.u8 8) k t ∧ (t.head (pk.u8 8)).state = st ∧ (t.head (pk.u8 8)).buffers = true ∧
      t.pw.crit = false := by
  simp only [Case.powerIn, Bool.and_eq_true, Bool.or_eq_true, beq_iff_eq, Bool.not_eq_true', Nat.one_ne_zero, false_or] at h
  obtain ⟨⟨⟨⟨ok, op⟩, state⟩, buffers⟩, cool⟩ := h
  refine ⟨?_, state, buffers, cool⟩
  rw [bodyPanelPower, onHead_of_headOk ok, op]
  rfl

theorem bodyPanelPower_off {st : HeadState} {pk : Packet} {k : Key} {t : State} (h : Case.powerIn 0 st pk t = true) :
    bodyPanelPower pk k t = Panel.off (pk.u8 8) k t ∧ (t.head (pk.u8 8)).state = st ∧ (t.head (pk.u8 8)).buffers = true := by
  simp only [Case.powerIn, Bool.and_eq_true, beq_iff_eq] at h
  obtain ⟨⟨⟨⟨ok, op⟩, state⟩, buffers⟩, -⟩ := h
  refine ⟨?_, state, buffers⟩
  rw [bodyPanelPower, onHead_of_headOk ok, op]
  rfl

theorem Case.panelOn_runs : Case.panelOn.Runs .panelPower := by
  refine Case.runs_of_body _ _ bodyPanelPower (fun _ _ _ => rfl) fun pk k t h => ?_
  simp only [Case.panelOn, Bool.or_eq_true] at h
  rcases h with h | h <;>
  · obtain ⟨taken, state, buffers, cool⟩ := bodyPanelPower_on (k := k) h
    simp only [taken, Panel.on, state, buffers, cool, Bool.not_true, Bool.false_eq_true, if_false]
    rfl

theorem Case.panelResume_runs : Case.panelResume.Runs .panelPower := by
  refine Case.runs_of_body _ _ bodyPanelPower (fun _ _ _ => rfl) fun pk k t h => ?_
  obtain ⟨taken, state, buffers, cool⟩ := bodyPanelPower_on (k := k) h
  simp only [taken, Panel.on, state, buffers, cool, Bool.not_true, Bool.false_eq_true, if_false]
  rfl

theorem Case.panelDone_runs (op : Nat) : (Case.panelDone op).Runs .panelPower := by
  refine Case.runs_of_body _ _ bodyPanelPower (fun _ _ _ => rfl) fun pk k t h => ?_
  simp only [Case.panelDone, Bool.or_eq_true, Bool.and_eq_true, beq_iff_eq] at h
  rcases h with ⟨⟨-, h⟩, still⟩ | ⟨-, h⟩
  · obtain ⟨taken, state, buffers, cool⟩ := bodyPanelPower_on (k := k) h
    simp only [taken, Panel.on, state, buffers, cool, still, Bool.not_true, Bool.false_eq_true, if_false, beq_self_eq_true, if_true]
    rfl
  · obtain ⟨taken, state, buffers⟩ := bodyPanelPower_off (k := k) h
    simp only [taken, Panel.off, state, buffers, Bool.not_true, Bool.false_eq_true, if_false]
    rfl

theorem Case.panelOff_runs : Case.panelOff.Runs .panelPower := by
  refine Case.runs_of_body _ _ bodyPanelPower (fun _ _ _ => rfl) fun pk k t h => ?_
  simp only [Case.panelOff, Bool.and_eq_true, beq_iff_eq] at h
  obtain ⟨h, still⟩ := h
  obtain ⟨taken, state, buffers⟩ := bodyPanelPower_off (k := k) h
  simp only [taken, Panel.off, state, buffers, still, Bool.not_true, Bool.false_eq_true, if_false, beq_self_eq_true, if_true,
    Panel.step, Panel.wait, State.modHead, State.modTile_modTile]
  rfl

theorem Case.panelFall_runs (cracked : Bool) : (Case.panelFall cracked).Runs .panelPower := by
  refine Case.runs_of_body _ _ bodyPanelPower (fun _ _ _ => rfl) fun pk k t h => ?_
  obtain ⟨taken, state, buffers⟩ := bodyPanelPower_off (k := k) h
  cases cracked <;>
  · simp only [taken, Panel.off, state, buffers, Bool.not_true, Bool.false_eq_true, if_false, if_true]
    rfl

theorem Case.panelUpload_runs : Case.panelUpload.Runs .panelUpload := by
  refine Case.runs_of_body _ _ bodyPanelUpload (fun _ _ _ => rfl) fun pk k t h => ?_
  simp only [Case.panelUpload, Bool.and_eq_true, decide_eq_true_eq, beq_iff_eq] at h
  obtain ⟨⟨⟨⟨⟨⟨ok, buffer⟩, mode⟩, wide⟩, high⟩, aligned⟩, span⟩ := h
  have inside : (decide ((t.head (pk.u8 8)).hactive < (uploadJob pk k).x + (uploadJob pk k).w)
      || decide ((t.head (pk.u8 8)).vactive < (uploadJob pk k).y + (uploadJob pk k).h)) = false :=
    Bool.or_eq_false_iff.mpr ⟨decide_eq_false (Nat.not_lt.mpr wide), decide_eq_false (Nat.not_lt.mpr high)⟩
  have readable : ((uploadJob pk k).src.toNat % 4 != 0 || !spanFits (uploadJob pk k).space (uploadJob pk k).src.toNat
      (uploadJob pk k).span) = false := by
    simp only [Bool.or_eq_false_iff, bne_eq_false_iff_eq, Bool.not_eq_false']
    exact ⟨(congrArg (· % 4) (BitVec.toNat_ofNat _ _)).trans aligned, span⟩
  have named : ¬ 3 ≤ (uploadJob pk k).buf := Nat.not_le.mpr buffer
  rw [bodyPanelUpload, onHead_of_headOk ok]
  simp only [named, mode, inside, readable, Bool.not_true, Bool.false_eq_true, if_false]
  rfl

theorem Case.panelFlip_runs : Case.panelFlip.Runs .panelFlip := by
  refine Case.runs_of_body _ _ bodyPanelFlip (fun _ _ _ => rfl) fun pk k t h => ?_
  simp only [Case.panelFlip, Bool.and_eq_true, decide_eq_true_eq] at h
  obtain ⟨⟨ok, buffer⟩, mode⟩ := h
  rw [bodyPanelFlip, onHead_of_headOk ok]
  simp only [if_neg (Nat.not_le.mpr buffer), mode, Bool.not_true, Bool.false_eq_true, if_false]
  rfl

/-- No entry of a gamma part is out of range where each is below 2^14 (R271). -/
theorem gammaEntries_inRange {pk : Packet} (h : ((List.range 16).all fun i => decide (gammaEntry pk i < 2 ^ 14)) = true) :
    ((List.range 16).any fun i => decide (2 ^ 14 ≤ gammaEntry pk i)) = false := by
  rw [List.all_eq_true] at h
  rw [List.any_eq_false]
  intro i hi
  rw [decide_eq_true_eq]
  exact Nat.not_le.mpr (of_decide_eq_true (h i hi))

theorem Case.panelGamma_runs : Case.panelGamma.Runs .panelGamma := by
  refine Case.runs_of_body _ _ bodyPanelGamma (fun _ _ _ => rfl) fun pk k t h => ?_
  simp only [Case.panelGamma, Bool.and_eq_true, decide_eq_true_eq] at h
  obtain ⟨⟨⟨⟨⟨⟨ok, band⟩, colour⟩, part⟩, entries⟩, order⟩, rises⟩ := h
  have named : (decide (4 ≤ pk.u8 9) || decide (3 ≤ pk.u8 10) || decide (65 ≤ pk.u8 11)) = false := by
    simp only [Bool.or_eq_false_iff, decide_eq_false_iff_not]; omega
  have table : pk.u8 11 ≠ 64 := by omega
  rw [bodyPanelGamma, onHead_of_headOk ok]
  simp only [named, gammaEntries_inRange (List.all_eq_true.mpr fun i hi => by simpa using List.all_eq_true.mp entries i hi), order,
    rises, table, decide_false, Bool.false_and, Bool.not_true, Bool.and_false, Bool.false_eq_true, if_false]
  rfl

theorem Case.panelIref_runs : Case.panelIref.Runs .panelGamma := by
  refine Case.runs_of_body _ _ bodyPanelGamma (fun _ _ _ => rfl) fun pk k t h => ?_
  simp only [Case.panelIref, Bool.and_eq_true, decide_eq_true_eq, beq_iff_eq] at h
  obtain ⟨⟨⟨⟨⟨⟨ok, band⟩, colour⟩, part⟩, entries⟩, rest⟩, order⟩ := h
  have named : (decide (4 ≤ pk.u8 9) || decide (3 ≤ pk.u8 10) || decide (65 ≤ 64)) = false := by
    simp only [Bool.or_eq_false_iff, decide_eq_false_iff_not]; omega
  rw [bodyPanelGamma, onHead_of_headOk ok]
  simp only [part, named, gammaEntries_inRange entries, rest, order, bne_self_eq_false, Bool.and_false, Bool.false_and, Bool.not_true,
    Bool.false_eq_true, if_false, if_true]
  rfl

theorem Case.panelGammaCommit_runs : Case.panelGammaCommit.Runs .panelGammaCommit := by
  refine Case.runs_of_body _ _ bodyPanelGammaCommit (fun _ _ _ => rfl) fun pk k t h => ?_
  simp only [Case.panelGammaCommit, Bool.and_eq_true, Option.isNone_iff_eq_none] at h
  obtain ⟨ok, idle⟩ := h
  rw [bodyPanelGammaCommit, onHead_of_headOk ok]
  simp only [idle, Option.isSome_none, Bool.false_eq_true, if_false]
  rfl

theorem Case.panelBand_runs : Case.panelBand.Runs .panelBand := by
  refine Case.runs_of_body _ _ bodyPanelBand (fun _ _ _ => rfl) fun pk k t h => ?_
  simp only [Case.panelBand, Bool.and_eq_true, Bool.or_eq_true, decide_eq_true_eq, beq_iff_eq, Bool.not_eq_true'] at h
  obtain ⟨⟨⟨ok, mode⟩, bands⟩, source⟩ := h
  have named : ¬ 2 ≤ pk.u8 9 := by omega
  rw [bodyPanelBand, onHead_of_headOk ok]
  simp only [if_neg named, bands, Bool.not_true, Bool.false_eq_true, if_false]
  by_cases bound : pk.u8 9 = 1
  · obtain ⟨loaded, typed⟩ := source.resolve_left (by omega)
    rw [bandPoints, if_pos bound, onRecords_of_loaded loaded]
    simp only [bound, typed, decide_true, Bool.and_false, Bool.false_eq_true, if_false, Case.panelBand, if_true]
  · rw [bandPoints, if_neg bound, onRecords_of_loaded rfl]
    simp only [Points.load_nil, bound, decide_false, Bool.false_and, Bool.false_eq_true, if_false, Case.panelBand]

theorem Case.panelRead_runs : Case.panelRead.Runs .panelRead :=
  Case.runs_of_body _ _ bodyPanelRead (fun _ _ _ => rfl) fun _ _ _ h => onHead_of_headOk h _

theorem Case.panelCrackScan_runs : Case.panelCrackScan.Runs .panelCrackScan := by
  refine Case.runs_of_body _ _ bodyPanelCrackScan (fun _ _ _ => rfl) fun pk k t h => ?_
  simp only [Case.panelCrackScan, Bool.and_eq_true, bne_iff_ne, decide_eq_true_eq, Option.isNone_iff_eq_none] at h
  obtain ⟨⟨⟨⟨ok, ranges⟩, loop⟩, ready⟩, room⟩ := h
  have inRange : scanRanges (packetCrackScan pk k (pk.u8 8) (t.head (pk.u8 8)).crackPos) = true := ranges
  have fitted : ¬ (packetCrackScan pk k (pk.u8 8) (t.head (pk.u8 8)).crackPos).position = 255 := loop
  rw [bodyPanelCrackScan, onHead_of_headOk ok]
  simp only [inRange, fitted, ready, Scan.enqueue, if_neg (Nat.not_le.mpr room), Bool.not_true, Bool.false_eq_true, if_false]
  rfl

theorem Case.glowConfig_runs : Case.glowConfig.Runs .glowConfig := by
  refine Case.runs_of_body _ _ bodyGlowConfig (fun _ _ _ => rfl) fun pk k t h => ?_
  simp only [Case.glowConfig, Bool.and_eq_true, decide_eq_true_eq, beq_iff_eq] at h
  obtain ⟨⟨⟨⟨⟨⟨ok, mode⟩, even⟩, width⟩, height⟩, wide⟩, high⟩ := h
  have inside : (pk.u16 14 % 2 != 0 || decide (480 < pk.u16 14) || decide (160 < pk.u16 16)
      || decide ((t.head (pk.u8 8)).hactive < pk.u16 10 + pk.u16 14)
      || decide ((t.head (pk.u8 8)).vactive < pk.u16 12 + pk.u16 16)) = false := by
    simp only [Bool.or_eq_false_iff, decide_eq_false_iff_not, bne_eq_false_iff_eq, Nat.not_lt]
    exact ⟨⟨⟨⟨even, width⟩, height⟩, wide⟩, high⟩
  rw [bodyGlowConfig, onHead_of_headOk ok]
  simp only [mode, inside, Bool.not_true, Bool.false_eq_true, if_false]
  rfl

theorem Case.glowLoad_runs : Case.glowLoad.Runs .glowLoad := by
  refine Case.runs_of_body _ _ bodyGlowLoad (fun _ _ _ => rfl) fun pk k t h => ?_
  simp only [Case.glowLoad, Bool.and_eq_true, decide_eq_true_eq] at h
  obtain ⟨⟨⟨ok, region⟩, room⟩, span⟩ := h
  have inside : (decide (3 ≤ pk.u8 9) || decide (glowRegionSize (pk.u8 9) < pk.u32 12 + pk.u32 16)) = false := by
    simp only [Bool.or_eq_false_iff, decide_eq_false_iff_not]; omega
  rw [bodyGlowLoad, onHead_of_headOk ok]
  simp only [inside, span, Bool.not_true, Bool.false_eq_true, if_false]
  rfl

/-- A widget whose shape is in order loads the record it would bind (R283). -/
theorem widgetLoad_of_shape {pk : Packet} {t : State} (shape : judgeShape t (pk.u8 8) (packetWidget pk) = none) :
    (if (packetWidget pk).binds && (judgeShape t (pk.u8 8) (packetWidget pk)).isNone then
      Point.loadAt (packetWidget pk).point.toNat t else (true, t)) = Case.widgetLoad pk t := by
  rw [shape, Option.isNone_none, Bool.and_true]
  rfl

theorem Case.glowWidget_runs : Case.glowWidget.Runs .glowWidget := by
  refine Case.runs_of_body _ _ bodyGlowWidget (fun _ _ _ => rfl) fun pk k t h => ?_
  simp only [Case.glowWidget, Bool.and_eq_true, decide_eq_true_eq, Option.isNone_iff_eq_none] at h
  obtain ⟨⟨⟨⟨ok, named⟩, shape⟩, loaded⟩, judged⟩ := h
  rw [bodyGlowWidget, onHead_of_headOk ok]
  simp only [if_neg (Nat.not_le.mpr named), widgetLoad_of_shape shape, loaded, judged, Bool.not_true, Bool.false_eq_true, if_false]
  rfl

theorem Case.glowWidgetFails_runs : Case.glowWidgetFails.Runs .glowWidget := by
  refine Case.runs_of_body _ _ bodyGlowWidget (fun _ _ _ => rfl) fun pk k t h => ?_
  simp only [Case.glowWidgetFails, Bool.and_eq_true, decide_eq_true_eq, Option.isNone_iff_eq_none, Bool.not_eq_true'] at h
  obtain ⟨⟨⟨ok, named⟩, shape⟩, broken⟩ := h
  rw [bodyGlowWidget, onHead_of_headOk ok]
  simp only [if_neg (Nat.not_le.mpr named), widgetLoad_of_shape shape, broken, Bool.not_false, if_true]
  rfl

theorem Case.touchConfig_runs : Case.touchConfig.Runs .touchConfig := by
  refine Case.runs_of_body _ _ bodyTouchConfig (fun _ _ _ => rfl) fun pk k t h => ?_
  simp only [Case.touchConfig, Bool.and_eq_true, decide_eq_true_eq] at h
  obtain ⟨⟨⟨⟨ok, level⟩, hyst⟩, shift⟩, hold⟩ := h
  have inRange : (decide (pk.u16 10 = 0) || decide (4095 < pk.u16 10) || decide (pk.u16 10 ≤ pk.u16 12) || decide (pk.u8 14 < 4)
      || decide (15 < pk.u8 14) || decide (86400 < pk.u32 16)) = false := by
    simp only [Bool.or_eq_false_iff, decide_eq_false_iff_not]; omega
  rw [bodyTouchConfig, onHead_of_headOk ok]
  simp only [inRange, Bool.false_eq_true, if_false]
  rfl

theorem Case.touchRing_runs : Case.touchRing.Runs .touchRing := by
  refine Case.runs_of_body _ _ bodyTouchRing (fun _ _ _ => rfl) fun pk k t h => ?_
  simp only [Case.touchRing, Bool.and_eq_true, decide_eq_true_eq, beq_iff_eq] at h
  obtain ⟨⟨⟨ok, size⟩, aligned⟩, fits⟩ := h
  have sized : (decide (pk.u8 9 < 6) || decide (16 < pk.u8 9)) = false := by
    simp only [Bool.or_eq_false_iff, decide_eq_false_iff_not]; omega
  have placed : ((Case.rxRing pk).stateAddr.toNat % 8 != 0 || !ringFits (Case.rxRing pk) 64) = false := by
    have word : (Case.rxRing pk).stateAddr.toNat % 8 = 0 := by
      rw [Case.rxRing, BitVec.toNat_ofNat]; omega
    rw [word, fits]; rfl
  rw [bodyTouchRing, onHead_of_headOk ok]
  simp only [sized, Bool.false_eq_true, if_false]
  exact if_neg (by rw [Bool.not_eq_true]; exact placed)

theorem Case.touchRebase_runs : Case.touchRebase.Runs .touchRebase :=
  Case.runs_of_body _ _ bodyTouchRebase (fun _ _ _ => rfl) fun _ _ _ h => onHead_of_headOk h _

theorem Case.touchCapture_runs : Case.touchCapture.Runs .touchProfile := by
  refine Case.runs_of_body _ _ bodyTouchProfile (fun _ _ _ => rfl) fun pk k t h => ?_
  simp only [Case.touchCapture, Bool.and_eq_true, beq_iff_eq, Option.isNone_iff_eq_none, Bool.not_eq_true'] at h
  obtain ⟨⟨⟨⟨ok, op⟩, on⟩, idle⟩, untouched⟩ := h
  rw [bodyTouchProfile, onHead_of_headOk ok, op]
  simp only [on, idle, untouched, Option.isSome_none, Bool.not_true, Bool.or_self, Bool.false_eq_true, if_false,
    Nat.zero_ne_one]
  rfl

theorem Case.touchErase_runs : Case.touchErase.Runs .touchProfile := by
  refine Case.runs_of_body _ _ bodyTouchProfile (fun _ _ _ => rfl) fun pk k t h => ?_
  simp only [Case.touchErase, Bool.and_eq_true, beq_iff_eq, Bool.not_eq_true'] at h
  obtain ⟨⟨ok, op⟩, opened⟩ := h
  rw [bodyTouchProfile, onHead_of_headOk ok, op]
  simp only [Nv.submit, opened, nvOpCommit, Bool.false_and, Bool.false_eq_true, if_false, if_true]
  rfl

theorem Case.touchRead_runs : Case.touchRead.Runs .touchRead :=
  Case.runs_of_body _ _ bodyTouchRead (fun _ _ _ => rfl) fun _ _ _ h => onHead_of_headOk h _

/-- Settles O51: each command by the guards that its case meets. -/
theorem panelCommands : Obligations.PanelCommands :=
  ⟨Case.panelConfig_runs, Case.panelOn_runs, Case.panelResume_runs, Case.panelDone_runs, Case.panelOff_runs, Case.panelFall_runs,
    Case.panelUpload_runs, Case.panelFlip_runs, Case.panelGamma_runs, Case.panelIref_runs, Case.panelGammaCommit_runs,
    Case.panelBand_runs, Case.panelRead_runs, Case.panelCrackScan_runs, Case.glowConfig_runs, Case.glowLoad_runs,
    Case.glowWidget_runs, Case.glowWidgetFails_runs, Case.touchConfig_runs, Case.touchRing_runs, Case.touchRebase_runs,
    Case.touchCapture_runs, Case.touchErase_runs, Case.touchRead_runs⟩

end Sys2Proof.Machine
end

section
/-!
What happens at panel heads (R266 to R269, R271 to R279, R282, R285, R286).  Settles O52.
-/

namespace Sys2Proof.Machine

/-! ## A frame start -/

/-- What `g` sees of a head is in `t` as in `s`, for every head. -/
def HeadsKeep {α : Type} (g : Head → α) (s t : State) : Prop := ∀ h, g (t.head h) = g (s.head h)

section
variable {α : Type} {g : Head → α}

theorem HeadsKeep.refl (s : State) : HeadsKeep g s s := fun _ => rfl

theorem HeadsKeep.trans {s t u : State} (a : HeadsKeep g s t) (b : HeadsKeep g t u) : HeadsKeep g s u :=
  fun h => (b h).trans (a h)

theorem HeadsKeep.of_tiles {s t : State} (same : t.tiles = s.tiles) : HeadsKeep g s t := fun h => by
  simp only [State.head, State.tile, same]

theorem HubOnly.headsKeep {s t : State} (only : HubOnly s t) : HeadsKeep g s t :=
  HeadsKeep.of_tiles (only.keeps (·.tiles) fun _ _ _ _ _ => rfl)

theorem State.modHead_headsKeep (s : State) (h : Nat) {f : Head → Head} (keeps : ∀ x, g (f x) = g x) :
    HeadsKeep g s (s.modHead h f) := fun i =>
  vget_vmod_keeps s.tiles h i _ {} (fun t => g t.head) fun t => keeps t.head

theorem HeadsKeep.foldl {β : Type} {f : State → β → State} (keeps : ∀ s m, HeadsKeep g s (f s m)) (l : List β) (s : State) :
    HeadsKeep g s (l.foldl f s) := by
  induction l generalizing s with
  | nil => exact HeadsKeep.refl s
  | cons m l ih => exact (keeps s m).trans (ih _)

end

theorem Cal.abort_headsKeep {α : Type} {g : Head → α} (key : Nat) (s : State) : HeadsKeep g s (Cal.abort key s) := by
  unfold Cal.abort Cal.endRun
  split
  · exact HeadsKeep.trans (t := Cal.drop key s) (HeadsKeep.of_tiles rfl) (Cmd.finalOpt_hubOnly _ _ _ _).headsKeep
  · exact HeadsKeep.refl s

theorem Cal.apply_headsKeep {α : Type} {g : Head → α} (key : Nat) (s : State) : HeadsKeep g s (Cal.apply key s) := by
  apply HeadsKeep.of_tiles
  unfold Cal.apply
  split
  · rfl
  · split <;> rfl

/-- The number of the next frame and the instant at which this one began. -/
def Head.clock (x : Head) : Word × Nat := (x.frames, x.frameAt)

theorem Panel.step_clock (h : Nat) (st : RailStep) (s : State) : HeadsKeep Head.clock s (Panel.step h st s) :=
  State.modHead_headsKeep s h fun _ => rfl

theorem Panel.leaveLit_clock (h : Nat) (s : State) : HeadsKeep Head.clock s (Panel.leaveLit h s) := by
  unfold Panel.leaveLit
  refine HeadsKeep.trans ?_ (Cal.abort_headsKeep _ _)
  exact State.modHead_headsKeep s h fun _ => rfl

theorem Panel.endPower_clock (h : Nat) (st : Byte) (res : Nat) (s : State) : HeadsKeep Head.clock s (Panel.endPower h st res s) := by
  unfold Panel.endPower
  refine HeadsKeep.trans ?_ (Cmd.finalOpt_hubOnly _ _ _ _).headsKeep
  exact State.modHead_headsKeep s h fun _ => rfl

theorem Panel.frameStep_clock (h : Nat) (s : State) : HeadsKeep Head.clock s (Panel.frameStep h s) := by
  unfold Panel.frameStep
  dsimp only
  split
  · split <;> exact Panel.step_clock _ _ _
  · refine HeadsKeep.trans ?_ (Panel.endPower_clock _ _ _ _)
    exact (Panel.step_clock _ _ _).trans (State.modHead_headsKeep _ h fun _ => rfl)
  · refine HeadsKeep.trans ?_ (Panel.step_clock _ _ _)
    exact (Panel.leaveLit_clock h s).trans (State.modHead_headsKeep _ h fun _ => rfl)
  · exact HeadsKeep.refl s

theorem Panel.flipNow_clock (h : Nat) (s : State) : HeadsKeep Head.clock s (Panel.flipNow h s) := by
  unfold Panel.flipNow
  dsimp only
  split
  · refine HeadsKeep.trans ?_ (HeadsKeep.foldl (fun _ _ => (Cmd.final_hubOnly _ _ _ _).headsKeep) _ _)
    exact State.modHead_headsKeep s h fun _ => rfl
  · exact HeadsKeep.refl s

theorem Panel.gammaNow_clock (h : Nat) (s : State) : HeadsKeep Head.clock s (Panel.gammaNow h s) := by
  unfold Panel.gammaNow
  dsimp only
  split
  · refine HeadsKeep.trans ?_ (Cmd.final_hubOnly _ _ _ _).headsKeep
    exact State.modHead_headsKeep s h fun _ => rfl
  · split
    · exact HeadsKeep.refl s
    · refine HeadsKeep.trans ?_ (Ev.raise_hubOnly _ _ _ _).headsKeep
      exact State.modHead_headsKeep s h fun _ => rfl
  · exact HeadsKeep.refl s

theorem Head.takeGlow_clock (x : Head) : x.takeGlow.clock = x.clock := by
  unfold Head.takeGlow
  split <;> rfl

theorem Head.cells_clock (x : Head) (w : Widget) (l : List Nat) : (x.cells w l).clock = x.clock :=
  List.foldlRecOn _ _ (motive := fun y : Head => y.clock = x.clock) rfl fun _ same _ _ => same

theorem Head.drawWidget_clock (s : State) (x : Head) (w : Widget) : (Head.drawWidget s x w).clock = x.clock := by
  unfold Head.drawWidget
  dsimp only
  split
  case h_2 => rfl
  case h_5 => rfl
  all_goals exact Head.cells_clock _ _ _

theorem Panel.redraw_clock (h : Nat) (s : State) : HeadsKeep Head.clock s (Panel.redraw h s) := by
  unfold Panel.redraw
  extract_lets hd due s2
  split
  · refine HeadsKeep.trans (t := s2) ?_ (HeadsKeep.of_tiles rfl)
    exact State.modHead_headsKeep s h fun x =>
      List.foldlRecOn _ _ (motive := fun y : Head => y.clock = x.clock) rfl fun y same w _ => (Head.drawWidget_clock s y w).trans same
  · exact HeadsKeep.refl s

theorem Panel.swaps_clock (h : Nat) (s : State) : HeadsKeep Head.clock s (Panel.swaps h s) := by
  unfold Panel.swaps
  extract_lets s1 s2 pw s3 s4
  have copies : HeadsKeep Head.clock s s1 := (Panel.flipNow_clock h s).trans (Panel.gammaNow_clock h _)
  have trims : HeadsKeep Head.clock s s2 := copies.trans (Cal.apply_headsKeep _ _)
  have spread : HeadsKeep Head.clock s s3 := trims.trans (HeadsKeep.of_tiles rfl)
  have glow : HeadsKeep Head.clock s s4 := spread.trans (State.modHead_headsKeep s3 h fun x => Head.takeGlow_clock x)
  exact glow.trans (Panel.redraw_clock h _)

/-- A frame counts, begins now, and carries the low byte of its number; a black one carries no scene (R266, R267). -/
theorem Panel.frame_head {h : Nat} {s : State} (hh : h < 4) :
    ((Panel.frame h s).head h).frames = (s.head h).frames + 1 ∧ ((Panel.frame h s).head h).frameAt = s.tb.elapsed ∧
    ∃ f, ((Panel.frame h s).head h).link = .frame f ∧ f.fseq = (s.head h).frames.toNat % 256 ∧
      (f.scene = none ↔ blackFrame (s.head h) = true) := by
  unfold Panel.frame
  extract_lets s1 x s2
  have began := State.modHead_head s h (fun x => { x with frameAt := s.tb.elapsed }) hh
  have kept : HeadsKeep Head.clock s1 s2 := by
    change HeadsKeep Head.clock s1 (if _ then _ else _)
    split
    · exact State.modHead_headsKeep s1 h fun _ => rfl
    · exact (Panel.swaps_clock h s1).trans (Panel.frameStep_clock h _)
  have clock : (s2.head h).clock = ((s.head h).frames, s.tb.elapsed) := (kept h).trans (congrArg Head.clock began)
  obtain ⟨frames, frameAt⟩ := Prod.mk.inj clock
  have same : blackFrame x = blackFrame (s.head h) := (congrArg blackFrame began).trans rfl
  rw [Panel.send, State.modHead_head _ _ _ hh]
  refine ⟨congrArg (· + 1) frames, frameAt, _, rfl, congrArg (fun n : Word => n.toNat % 256) frames, ?_⟩
  rw [← same]
  cases blackFrame x <;> simp

/-! ## A fault -/

/-- A fault of a head ends with its emission rail off, its discharge on and no PANEL_POWER waiting (R276, R277). -/
theorem Panel.fault_head {h : Nat} (cause : Nat) {s : State} (hh : h < 4) :
    ((Panel.fault h cause s).head h).state = .fault ∧ ((Panel.fault h cause s).head h).re = false ∧
    ((Panel.fault h cause s).head h).dis = true ∧ ((Panel.fault h cause s).head h).powerKey = none := by
  have ended (u : State) : (Panel.endPowerBad h 4 u).head h = { u.head h with powerKey := none } := by
    rw [Panel.endPowerBad, Panel.endPower, (Cmd.finalOpt_hubOnly _ _ _ _).keeps (·.head h) fun _ _ _ _ _ => rfl,
      State.modHead_head _ _ _ hh]
  have raised (src arg : Nat) (u : State) : (Ev.raise src 0 arg u).head h = u.head h :=
    (Ev.raise_hubOnly _ _ _ _).keeps (·.head h) fun _ _ _ _ _ => rfl
  simp only [Panel.fault, ended, raised, Panel.step, State.modHead_head _ _ _ hh, Head.rails, and_self]

/-! ## Touch -/

/-- A node's threshold and hysteresis (R286). -/
theorem TouchNode.scan_spec (n : TouchNode) (th hyst raw : Int) (shift dt : Nat) :
    (n.scan th hyst shift dt raw).delta = n.base - (raw : Rat) ∧
    (n.touched = false → ((th : Int) : Rat) < n.base - (raw : Rat) → (n.scan th hyst shift dt raw).touched = true ∧
      (n.scan th hyst shift dt raw).base = n.base) ∧
    (n.touched = true → n.base - (raw : Rat) < ((th - hyst : Int) : Rat) → (n.scan th hyst shift dt raw).touched = false) ∧
    (n.touched = true → ((th - hyst : Int) : Rat) ≤ n.base - (raw : Rat) → (n.scan th hyst shift dt raw).touched = true ∧
      (n.scan th hyst shift dt raw).hold = n.hold + dt) := by
  refine ⟨?_, fun free above => ?_, fun touched below => ?_, fun touched stays => ?_⟩
  · unfold TouchNode.scan
    extract_lets delta m
    split_ifs <;> rfl
  · simp only [TouchNode.scan, free, Bool.false_eq_true, if_false, if_pos above, and_self]
  · simp only [TouchNode.scan, touched, if_true, if_pos below]
  · simp only [TouchNode.scan, touched, if_true, if_neg (not_lt.mpr stays), and_self]

/-! ## The rails -/

/-- A power-good that completes the step it waits for goes on to the next one (R273). -/
theorem Panel.pgNext_of_awaits {h : Nat} {s : State} (awaits : awaitsPg (s.head h).step = true) :
    Panel.pgNext h s = if (s.head h).step = .gatePg then Panel.step h (.clear 2) s
      else if (s.head h).step = .emitPg then Panel.step h .firstFrame s
      else Panel.step h .lock (s.modHead h (fun x => { x with link := .start (x.frames.toNat % 256) })) := by
  simp only [awaitsPg, Bool.or_eq_true, beq_iff_eq] at awaits
  unfold Panel.pgNext
  rcases awaits with ((all | logic) | gate) | emit
  · simp only [all, reduceCtorEq, if_false]; rfl
  · simp only [logic, reduceCtorEq, if_false]; rfl
  · simp only [gate, if_true]
  · simp only [emit, reduceCtorEq, if_false, if_true]

theorem Panel.lightCheck_eq (h ohms limit : Nat) (s : State) :
    Panel.lightCheck h (decide (ohms ≤ limit)) s = if limit < ohms then Panel.endPowerBad h 8 (Panel.crack h s)
      else if (s.head h).re then Panel.step h .firstFrame s
      else Panel.step h .emitPg (s.modHead h (fun x => { x.rails x.rl x.rg true with dis := false })) := by
  unfold Panel.lightCheck
  by_cases high : limit < ohms
  · rw [if_pos high, decide_eq_false (Nat.not_le.mpr high), Bool.not_false, if_pos rfl]
  · rw [if_neg high, decide_eq_true (Nat.not_lt.mp high)]; rfl

/-- Settles O52: each happening by its guard; the frame by what its steps leave alone, the fault by the head it leaves. -/
theorem panelHappenings : Obligations.PanelHappenings := by
  refine ⟨fun h j rest s queued => ?_, fun h j rest d s queued data => ?_, fun h k g b s job => ⟨fun whole => ?_, fun broken => ?_⟩,
    fun h s on scans run => ?_, fun h s hh => Panel.frame_head hh, fun h i x s u on named hx hu => ?_,
    fun h s hh on logic step inTime => ?_, fun h s on waits => ?_, fun h s u powered waited => ⟨fun step => ?_, fun step => ?_,
      fun step => ?_⟩, fun h s u powered step waited => ?_, fun h n c x s on pin => ?_,
    fun x => ⟨fun i named good => ?_, fun locked => ?_, rfl⟩, fun h c s hh => Panel.fault_head c hh,
    fun h r s v u on small hv hu => ⟨fun step => ?_, fun step run => ?_⟩, fun h s u on lit waited => ?_, fun h s on => ?_,
    fun h raw s scans size => ?_, fun n th hyst raw shift dt _ _ => TouchNode.scan_spec n th hyst raw shift dt⟩
  · change execPanelUploadDone h s = _
    simp only [execPanelUploadDone, queued]
  · change execGlowLoadDone h s = _
    simp only [execGlowLoadDone, queued, data]
  · change execGammaCopyDone h s = _
    simp only [execGammaCopyDone, job, whole, if_true]
  · change execGammaCopyDone h s = _
    simp only [execGammaCopyDone, job, broken, Bool.false_eq_true, if_false]
  · change Host.Outcome.next (whenever _ _ s) = _
    rw [whenever_of_true (by simp [on, scans, run])]
  · subst hx
    change Host.Outcome.next (whenever _ _ s) = _
    rw [whenever_of_true (by simp [on, named])]
    dsimp only
    rw [← hu]
    simp only [Bool.and_eq_true, decide_eq_true_eq, and_assoc]
    split
    · next met => rw [Panel.pgNext_of_awaits met.1]
    · rfl
  · change Host.Outcome.next (whenever _ _ s) = _
    rw [whenever_of_true (by simp [on, logic])]
    simp only [State.modHead_head _ _ _ hh, stepNs, step, State.modHead_tb, beq_self_eq_true, Bool.true_and, decide_eq_true_eq,
      if_pos inTime]
    refine congrArg Host.Outcome.next ?_
    by_cases small : (s.head h).small = true
    · rw [if_pos small]
      exact if_pos small
    · rw [if_neg small]
      exact if_neg small
  · change Host.Outcome.next (whenever _ _ s) = _
    rw [whenever_of_true (by simp [on, waits])]
    simp only [beq_iff_eq]
  · change Host.Outcome.next (whenever _ _ s) = _
    rw [whenever_of_true powered]
    simp only [step, waited]
  · change Host.Outcome.next (whenever _ _ s) = _
    rw [whenever_of_true powered]
    simp only [step, waited]
  · change Host.Outcome.next (whenever _ _ s) = _
    rw [whenever_of_true powered]
    simp only [step, waited]
  · change Host.Outcome.next (whenever _ _ s) = _
    rw [whenever_of_true (by simp [powered, step])]
    have wait : stepNs (s.head h) = (s.head h).disNs := by rw [stepNs, step]
    simp only [wait, ← waited, Bool.and_eq_true, bne_iff_ne]
  · change Host.Outcome.next (whenever _ _ s) = _
    rw [whenever_of_true on]
    simp only [pin, Bool.or_eq_true, beq_iff_eq, or_assoc]
  · simp only [faultPin, named, good, decide_true, Bool.and_self, if_true]
  · simp only [faultPin, locked, if_true]
  · change Host.Outcome.next (whenever _ _ s) = _
    rw [whenever_of_true (by simp [on, step])]
    have ohms : min r (2 ^ 32 - 1) = r := Nat.min_eq_left (by omega)
    simp only [Bool.and_eq_true, beq_iff_eq, Bool.not_eq_true', ← hv, ohms, ← hu]
    rw [if_pos step, Panel.lightCheck_eq]
  · change Host.Outcome.next (whenever _ _ s) = _
    rw [whenever_of_true (by simp [on, run])]
    have ohms : min r (2 ^ 32 - 1) = r := Nat.min_eq_left (by omega)
    simp only [Bool.and_eq_true, beq_iff_eq, Bool.not_eq_true', ← hv, ohms, ← hu]
    rw [if_neg step]
    by_cases high : (s.head h).crackRmax < r
    · rw [if_pos high, if_neg (by simp [high])]
    · rw [if_neg high, if_pos (by simp [Nat.not_lt.mp high])]
  · change Host.Outcome.next (whenever _ _ s) = _
    rw [whenever_of_true (by simp [on, lit]), waited]
  · change Host.Outcome.next (whenever _ _ s) = _
    rw [whenever_of_true on]
  · change Host.Outcome.next (whenever _ _ s) = _
    rw [whenever_of_true (by simp [scans, size])]

end Sys2Proof.Machine
end

section
/-!
Calibration and fuses (R294 to R308, Table 13.7).  Settles O53.
-/

namespace Sys2Proof.Machine

/-! ## Commands -/

theorem onItem_of_itemOk {pk : Packet} {t : State} (h : Case.itemOk pk t = true) (f : Nat → Nat → Verdict) :
    onItem pk t f = f (pk.u8 8) (pk.u16 10) := by
  simp only [Case.itemOk, Bool.and_eq_true, Bool.or_eq_true, decide_eq_true_eq, beq_iff_eq] at h
  obtain ⟨named, on⟩ := h
  have powered : (pk.u8 8 != 4 && !t.tileOn (itemTile (pk.u8 8) (pk.u16 10))) = false := by
    rcases on with link | on
    · rw [bne_eq_false_iff_eq.mpr link, Bool.false_and]
    · rw [on, Bool.not_true, Bool.and_false]
  simp only [onItem, if_neg (Nat.not_le.mpr named), powered, Bool.false_eq_true, if_false]

/-- The runs of a converter or of the interleave wait for the converters (R100, R294). -/
theorem Cal.converters_of_ready {t kind : Nat} {k : Key} {s : State} (small : kind < 3) (ready : (s.tile t).refReady = true)
    (idle : (itemConvs kind).any (calibrating s t) = false)
    (calibrated : kind ≠ 2 ∨ (s.conv t 0).calibrated = true ∧ (s.conv t 1).calibrated = true) :
    Cal.converters t (if kind = 2 then 3 else kind) k s = .pend (Cal.tryAll t (Cal.hold t kind k s)) := by
  have one : itemKinds (if kind = 2 then 3 else kind) = [kind] := by interval_cases kind <;> rfl
  have both : (if kind = 2 then 3 else kind) ≠ 2 := by split <;> omega
  have interleave : ((if kind = 2 then 3 else kind) == 3 && !((s.conv t 0).calibrated && (s.conv t 1).calibrated)) = false := by
    rcases calibrated with other | ⟨a, b⟩
    · rw [if_neg other, beq_eq_false_iff_ne.mpr (by omega), Bool.false_and]
    · rw [a, b, Bool.and_self, Bool.not_true, Bool.and_false]
  simp only [Cal.converters, one, List.flatMap_cons, List.flatMap_nil, List.append_nil, ready, idle, interleave, both,
    Bool.not_true, Bool.false_eq_true, if_false, List.foldl_cons, List.foldl_nil]
  rw [show s.modTile t _ = s from State.modTile_id s t]

theorem Case.calRunConv_runs : Case.calRunConv.Runs .calRun := by
  refine Case.runs_of_body _ _ bodyCalRun (fun _ _ _ => rfl) fun pk k t h => ?_
  simp only [Case.calRunConv, Bool.and_eq_true, Bool.or_eq_true, decide_eq_true_eq, bne_iff_ne, Bool.not_eq_true'] at h
  obtain ⟨⟨⟨⟨⟨ok, awake⟩, small⟩, ready⟩, idle⟩, calibrated⟩ := h
  have other : pk.u8 8 ≠ 3 := by omega
  rw [bodyCalRun, onItem_of_itemOk ok]
  simp only [awake, other, small, Bool.false_eq_true, if_false, if_true, Cal.converters_of_ready small ready idle calibrated]
  rfl

/-- CAL_RUN of a link, a head or a drive threshold that is not running. -/
theorem bodyCalRun_other {kind : Nat} {pk : Packet} {k : Key} {t : State} (ok : Case.itemOk pk t = true) (awake : glowing t = false)
    (named : pk.u8 8 = kind) (high : 3 < kind) (idle : calRunning t (Case.itemKey pk) = false) :
    bodyCalRun pk k t = Cal.startOther kind (pk.u16 10) k t ∧ calRunning t (calKey kind (pk.u16 10)) = false := by
  subst named
  have second : pk.u8 8 ≠ 3 := by omega
  have third : ¬ pk.u8 8 < 3 := by omega
  refine ⟨?_, idle⟩
  rw [bodyCalRun, onItem_of_itemOk ok]
  simp only [awake, second, third, Bool.false_eq_true, if_false]

theorem Case.calRunLink_runs : Case.calRunLink.Runs .calRun := by
  refine Case.runs_of_body _ _ bodyCalRun (fun _ _ _ => rfl) fun pk k t h => ?_
  simp only [Case.calRunLink, Bool.and_eq_true, beq_iff_eq, Bool.not_eq_true'] at h
  obtain ⟨⟨⟨⟨ok, awake⟩, named⟩, idle⟩, up⟩ := h
  obtain ⟨taken, free⟩ := bodyCalRun_other (k := k) ok awake named (by decide) idle
  simp only [taken, Cal.startOther, free, up, bne_self_eq_false, Bool.false_eq_true, if_false, if_true, Case.calRunLink, Case.begins,
    Case.itemKey, named]
  rfl

theorem Case.calRunHead_runs : Case.calRunHead.Runs .calRun := by
  refine Case.runs_of_body _ _ bodyCalRun (fun _ _ _ => rfl) fun pk k t h => ?_
  simp only [Case.calRunHead, Bool.and_eq_true, beq_iff_eq, bne_iff_ne, Bool.not_eq_true'] at h
  obtain ⟨⟨⟨⟨⟨ok, awake⟩, named⟩, idle⟩, loud⟩, lit⟩ := h
  obtain ⟨taken, free⟩ := bodyCalRun_other (k := k) ok awake named (by decide) idle
  simp only [taken, Cal.startOther, free, lit, beq_eq_false_iff_ne.mpr loud, bne_self_eq_false, Bool.or_self, Bool.false_eq_true,
    if_false, if_true, Nat.reduceEqDiff, Case.calRunHead, Case.begins, Case.itemKey, named]
  rfl

theorem Case.calRunDrive_runs : Case.calRunDrive.Runs .calRun := by
  refine Case.runs_of_body _ _ bodyCalRun (fun _ _ _ => rfl) fun pk k t h => ?_
  simp only [Case.calRunDrive, Bool.and_eq_true, beq_iff_eq, Bool.not_eq_true'] at h
  obtain ⟨⟨⟨ok, awake⟩, named⟩, idle⟩ := h
  obtain ⟨taken, free⟩ := bodyCalRun_other (k := k) ok awake named (by decide) idle
  simp only [taken, Cal.startOther, free, Bool.false_eq_true, if_false, Nat.reduceEqDiff, Case.calRunDrive,
    Case.begins, Case.itemKey, named]
  rfl

theorem Case.calMode_runs : Case.calMode.Runs .calMode := by
  refine Case.runs_of_body _ _ bodyCalMode (fun _ _ _ => rfl) fun pk k t h => ?_
  simp only [Case.calMode, Bool.and_eq_true, bne_iff_ne, decide_eq_true_eq, Bool.not_eq_true'] at h
  obtain ⟨⟨⟨⟨ok, second⟩, mode⟩, offered⟩, idle⟩ := h
  have item : (decide (pk.u8 8 = 3) || (decide (pk.u8 8 = 2) && decide (pk.u8 12 = 1))) = false := by
    rw [decide_eq_false second, Bool.false_or]
    exact offered
  have free : calRunning t (calKey (pk.u8 8) (pk.u16 10)) = false := idle
  rw [bodyCalMode, onItem_of_itemOk ok]
  simp only [if_neg (Nat.not_le.mpr mode), item, free, Bool.false_eq_true, if_false]
  rfl

theorem Case.calRead_runs : Case.calRead.Runs .calRead :=
  Case.runs_of_body _ _ bodyCalRead (fun _ _ _ => rfl) fun _ _ _ h => onItem_of_itemOk h _

theorem Case.calSetRref_runs : Case.calSetRref.Runs .calSetRref := by
  refine Case.runs_of_body _ _ bodyCalSetRref (fun _ _ _ => rfl) fun pk k t h => ?_
  simp only [Case.calSetRref, Bool.and_eq_true, beq_iff_eq] at h
  obtain ⟨⟨⟨ok, named⟩, low⟩, high⟩ := h
  rw [bodyCalSetRref, onItem_of_itemOk ok]
  simp only [named, low, high, bne_self_eq_false, Bool.not_true, Bool.or_self, Bool.false_eq_true, if_false, Case.calSetRref,
    Case.itemKey]

theorem Case.calCommit_runs (m : Monitors) (slot : Nat) : (Case.calCommit m slot).Runs (fun q pk => .calCommit q pk m) := by
  refine Case.runs_of_body _ _ (bodyCalCommit m) (fun _ _ _ => rfl) fun pk k t h => ?_
  simp only [Case.calCommit, Bool.and_eq_true, decide_eq_true_eq, beq_iff_eq, Option.isNone_iff_eq_none, Bool.not_eq_true'] at h
  obtain ⟨⟨⟨⟨⟨⟨⟨awake, idle⟩, blank⟩, low⟩, high⟩, stable⟩, internal⟩, energy⟩ := h
  have supply : (decide (m.vfuse < 1710) || decide (1890 < m.vfuse)) = false := by
    simp only [Bool.or_eq_false_iff, decide_eq_false_iff_not]; omega
  have power : (t.pw.pfail || t.pw.pfailInt) = false := by rw [stable, internal]; rfl
  have none' : t.cal.burn.isSome = false := by rw [idle]; rfl
  simp only [bodyCalCommit, awake, none', blank, supply, power, if_neg (not_lt.mpr energy), Bool.false_eq_true, if_false]
  rfl

theorem Case.fuseInfo_runs : Case.fuseInfo.Runs .fuseInfo :=
  Case.runs_of_body _ _ bodyFuseInfo (fun _ _ _ => rfl) fun _ _ _ _ => rfl

/-! ## The end of a run of a link or a head -/

theorem HubOnly.calItem {s t : State} (only : HubOnly s t) (key : Nat) : t.calItem key = s.calItem key :=
  only.keeps (·.calItem key) fun _ _ _ _ _ => rfl

/-- What a run of a link or a head leaves of its item (R297 to R299). -/
def CalItem.ended (i : CalItem) (kind : Nat) (sec : Nat) (r : CalResult) : CalItem :=
  let j := { i with running := none, since := none, stamp := BitVec.ofNat 64 sec }
  if runsAgree kind i.nextMode r then
    { j with qualityA := r.qualityA, qualityB := if kind = 4 then r.qualityB else 0
             pending := some { i.active with mode := i.nextMode, trims := r.run2 }, passed := 0 }
  else j

theorem Cal.finish_calItem {kind index : Nat} {r : CalResult} {s : State} (high : kind = 4 ∨ kind = 5) :
    (Cal.finish kind index r s).calItem (calKey kind index) = (s.calItem (calKey kind index)).ended kind s.sec r := by
  have reply (k : Option Key) (st : Byte) (res : Nat) (u : State) : (Cal.reply k st res u).calItem (calKey kind index) =
    u.calItem (calKey kind index) := (Cmd.finalOpt_hubOnly _ _ _ _).calItem _
  have tile (u : State) (f : Tile → Tile) : (u.modTile (itemTile kind index) f).calItem (calKey kind index) = u.calItem (calKey kind index) := rfl
  have link (u : State) (f : Link → Link) : (u.modLink index f).calItem (calKey kind index) = u.calItem (calKey kind index) := rfl
  unfold Cal.finish CalItem.ended
  dsimp only
  rcases high with rfl | rfl
  all_goals
    split
    · simp only [Cal.keep, Cal.setPending, Cal.takeStopped, Cal.drop, runValues, reply, tile, link, State.modCal_calItem, Nat.reduceLT,
        Nat.reduceEqDiff, OfNat.ofNat_ne_zero, decide_false, Bool.false_and, Bool.false_eq_true, if_false, if_true]
      rfl
    · simp only [Cal.drop, reply, tile, link, State.modCal_calItem, Nat.reduceLT, Nat.reduceEqDiff, OfNat.ofNat_ne_zero, decide_false,
        Bool.and_false, Bool.false_eq_true, if_false, if_true]
      rfl

/-! ## Fuses -/

theorem aget_foldl_aset {β : Type} (l : List Nat) (f : Nat → β) (m : AMap β) (key : Nat) :
    aget (l.foldl (fun m k => aset m k (f k)) m) key = if key ∈ l then some (f key) else aget m key := by
  induction l generalizing m with
  | nil => simp
  | cons k l ih =>
    rw [List.foldl_cons, ih]
    by_cases later : key ∈ l
    · simp [later]
    · by_cases here : key = k
      · subst here; simp [later]
      · simp [later, here, aget_aset_other _ _ _ _ here]

theorem otherThan_ne (w v : Word) : otherThan w v ≠ w := by
  unfold otherThan
  split
  · next same =>
    subst same
    intro flipped
    have bit : (~~~v).getLsbD 0 = v.getLsbD 0 := congrArg (·.getLsbD 0) flipped
    rw [BitVec.getLsbD_not] at bit
    cases h : v.getLsbD 0 <;> simp at bit
  · assumption

/-- What a burn covers does not depend on the CRC burned after it (R307). -/
theorem FuseSlot.covered_crc (x : FuseSlot) (c : Word) : ({ x with crc := c } : FuseSlot).covered = x.covered := by
  simp only [FuseSlot.covered]

theorem FuseSlot.burned_crc (gen stamp : Nat) (image : AMap CalVal) :
    (FuseSlot.burned gen stamp image).crc = crc32c (FuseSlot.burned gen stamp image).covered := by
  rw [FuseSlot.burned, FuseSlot.covered_crc]

theorem slotValid_spoil (slot stamp : Nat) (image : AMap CalVal) (s : State) :
    slotValid (Fuse.spoil slot image stamp s) slot = false := by
  by_cases inside : slot < 8
  · have read : vget (Fuse.spoil slot image stamp s).cal.slots slot {} = { FuseSlot.burned (slot + 1) stamp image with
        crc := otherThan (FuseSlot.burned (slot + 1) stamp image).crc (Config.fp s.free) } := vget_vset _ _ _ _ inside
    have differs := otherThan_ne (FuseSlot.burned (slot + 1) stamp image).crc (Config.fp s.free)
    rw [FuseSlot.burned_crc] at differs
    simp only [slotValid, read, FuseSlot.covered_crc, FuseSlot.burned_crc, beq_eq_false_iff_ne.mpr differs, Bool.and_false]
  · have blank : vget (Fuse.spoil slot image stamp s).cal.slots slot {} = {} := by
      rw [vget, Vector.getElem?_eq_none (Nat.not_lt.mp inside)]; rfl
    simp only [slotValid, blank, Bool.false_and]

theorem Fuse.take_slot {slot stamp : Nat} {image : AMap CalVal} {s : State} (inside : slot < 8) :
    vget (Fuse.take slot image stamp s).cal.slots slot {} = FuseSlot.burned (slot + 1) stamp image := vget_vset _ _ _ _ inside

theorem slotValid_take {slot stamp : Nat} {image : AMap CalVal} {s : State} (inside : slot < 8) :
    slotValid (Fuse.take slot image stamp s) slot = true := by
  have gen : (BitVec.ofNat 8 (slot + 1)).toNat = slot + 1 := by
    rw [BitVec.toNat_ofNat]; omega
  have crc := FuseSlot.burned_crc (slot + 1) stamp image
  simp only [slotValid, Fuse.take_slot inside, crc, beq_self_eq_true, Bool.and_true]
  simp only [FuseSlot.burned, gen, beq_self_eq_true]
  rfl

/-- A burn leaves every item in force as it is (R307). -/
theorem Fuse.take_calItem {slot stamp key : Nat} {image : AMap CalVal} {s : State} (force : key ∈ calInForce s) :
    (Fuse.take slot image stamp s).calItem key = s.calItem key := by
  have held : aget (Fuse.take slot image stamp s).cal.items key = some (s.calItem key) := by
    refine (aget_foldl_aset (calInForce s) s.calItem s.cal.items key).trans (if_pos force)
  rw [State.calItem, held]
  rfl

/-- An item that is not in force takes its values from the generation burned (R307). -/
theorem Fuse.take_active {slot stamp key : Nat} {image : AMap CalVal} {s : State} {v : CalVal} (inside : slot < 8)
    (idle : key ∉ calInForce s) (absent : aget s.cal.items key = none) (burned : aget image key = some v) :
    ((Fuse.take slot image stamp s).calItem key).active = v := by
  have fresh : aget (Fuse.take slot image stamp s).cal.items key = none :=
    ((aget_foldl_aset (calInForce s) s.calItem s.cal.items key).trans (if_neg idle)).trans absent
  have value : fuseVal (Fuse.take slot image stamp s) key = v := by
    have gen : (Fuse.take slot image stamp s).cal.gen = slot + 1 := rfl
    have stored : (FuseSlot.burned (slot + 1) stamp image).image = image := rfl
    rw [fuseVal, gen, if_neg (Nat.succ_ne_zero slot), Nat.add_sub_cancel, Fuse.take_slot inside, stored, burned]
    rfl
  rw [State.calItem, fresh]
  exact value

theorem Fuse.take_gen (slot stamp : Nat) (image : AMap CalVal) (s : State) : (Fuse.take slot image stamp s).cal.gen = slot + 1 := rfl

theorem Fuse.take_image {slot stamp : Nat} {image : AMap CalVal} {s : State} (inside : slot < 8) :
    (vget (Fuse.take slot image stamp s).cal.slots slot {}).image = image := by
  rw [Fuse.take_slot inside]
  rfl

/-- A run that has no 256 measurements of each phase 10 s after the last one ends with reason 6 (R300). -/
theorem execCalMeasureTimeout_of_few {c b : Nat} {k : Key} {s u : State} (named : c < 96) (began : (s.calItem (calKey 6 c)).since = some b)
    (running : (s.calItem (calKey 6 c)).running = some (some k)) (few : measuredEnough s c = false)
    (waited : u = untilElapsed (((s.tile (c / 24)).drive (c % 24)).measureAt + 10000000000) s) :
    execCalMeasureTimeout c s = .next (Cmd.finalBad k 6 (u.modCal (calKey 6 c) (fun i => { i with running := none, since := none }))) := by
  have kept : (u.calItem (calKey 6 c)).running = some (some k) := by
    have same : u.calItem (calKey 6 c) = s.calItem (calKey 6 c) := by
      rw [waited]
      exact (untilElapsed_timeOnly _ s).keeps (·.calItem (calKey 6 c)) fun _ _ _ => rfl
    rw [same, running]
  have ends : (decide (c < 96) && !measuredEnough s c) = true := by rw [decide_eq_true named, few]; rfl
  have aborts : Cal.abort (calKey 6 c) u = Cmd.finalBad k 6 (u.modCal (calKey 6 c) (fun i => { i with running := none, since := none })) := by
    rw [Cal.abort, Cal.endRun, kept]
    rfl
  rw [execCalMeasureTimeout, began]
  dsimp only
  rw [if_pos ends, ← waited, aborts]

/-- Settles O53: commands by their guards, a run's end and a burn by what they leave of each item. -/
theorem calibration : Obligations.Calibration := by
  refine ⟨Case.calRunConv_runs, Case.calRunLink_runs, Case.calRunHead_runs, Case.calRunDrive_runs, Case.calMode_runs, Case.calRead_runs,
    Case.calSetRref_runs, Case.calCommit_runs, Case.fuseInfo_runs, fun kind index r b s named began gathered driven => ?_,
    fun kind index r s high _ => ?_, fun c b k s u named began running few waited => ?_, fun k slot stamp image s u burning hu => ?_,
    slotValid_spoil, fun slot stamp image s inside => ⟨Fuse.take_gen slot stamp image s, slotValid_take inside, Fuse.take_image inside, fun key force => Fuse.take_calItem force,
      fun key v idle absent burned => Fuse.take_active inside idle absent burned⟩⟩
  · have ends : (decide (index < calCount kind) && (kind != 6 || measuredEnough s index) && (kind != 5 || framesDriven s index)) = true := by
      simp only [Bool.and_eq_true, decide_eq_true_eq, Bool.or_eq_true, bne_iff_ne]
      exact ⟨⟨named, (em (kind = 6)).symm.imp id gathered⟩, (em (kind = 5)).symm.imp id driven⟩
    change execCalRunEnd kind index r s = _
    simp only [execCalRunEnd, began, ends, if_true]
  · rw [Cal.finish_calItem high, CalItem.ended]
    refine ⟨?_, ?_, ?_, fun agree => ?_, fun differ => ?_⟩
    · split <;> rfl
    · split <;> rfl
    · split <;> rfl
    · rw [if_pos agree]
      exact ⟨rfl, rfl⟩
    · rw [if_neg (by rw [differ]; exact Bool.false_ne_true)]
  · exact execCalMeasureTimeout_of_few named began running few waited
  · constructor
    · change execFuseBurnDone true s = _
      simp only [execFuseBurnDone, burning, hu, if_true]
    · change execFuseBurnDone false s = _
      simp only [execFuseBurnDone, burning, hu, Bool.false_eq_true, if_false]

end Sys2Proof.Machine
end

section
/-!
Commands on the non-volatile store (R314, R317, R321 to R324, R326, Table 14.3).  Settles O54.
-/

namespace Sys2Proof.Machine

theorem Nv.region_of_regionOk {pk : Packet} {t : State} (h : Case.regionOk pk t = true) (f : Nat → Verdict) :
    Nv.region pk t f = f (pk.u8 8) := by
  simp only [Case.regionOk, Bool.and_eq_true, decide_eq_true_eq, Bool.not_eq_true'] at h
  obtain ⟨named, opened⟩ := h
  have inside : ¬ 16 ≤ pk.u8 8 := by omega
  have reachable : (decide (12 ≤ pk.u8 8) || lockedOut t (pk.u8 8)) = false := by
    rw [decide_eq_false (Nat.not_le.mpr named), opened]; rfl
  simp only [Nv.region, if_neg inside, reachable, Bool.false_eq_true, if_false]

/-- A commit of an NV opcode that BP leaves open joins the queue while one of its 16 places is left (R314, R321). -/
theorem Nv.submit_of_place {k : Key} {ctx : Nat} {c : CommitKind} {s : State} (opened : bpRefuses s c = false)
    (place : Case.placeLeft s = true) : Nv.submit k ctx c s = .pend (Nv.enqueue (some k) ctx c s) := by
  have room : (nvOpCommit c && decide (16 ≤ (s.nv.queue.filter (fun x => nvOpCommit x.what)).length)) = false := by
    rw [decide_eq_false (Nat.not_le.mpr (of_decide_eq_true place)), Bool.and_false]
  simp only [Nv.submit, opened, room, Bool.false_eq_true, if_false]

theorem Case.nvRead_runs : Case.nvRead.Runs .nvRead := by
  refine Case.runs_of_body _ _ bodyNvRead (fun _ _ _ => rfl) fun pk k t h => ?_
  simp only [Case.nvRead, Bool.and_eq_true, beq_iff_eq, Option.isNone_iff_eq_none] at h
  obtain ⟨⟨⟨ok, opened⟩, span⟩, ahead⟩ := h
  rw [bodyNvRead, Nv.region_of_regionOk ok]
  simp only [opened, span, ahead, Bool.not_true, Bool.false_eq_true, if_false, if_true]
  rfl

theorem Case.nvReadWaits_runs : Case.nvReadWaits.Runs .nvRead := by
  refine Case.runs_of_body _ _ bodyNvRead (fun _ _ _ => rfl) fun pk k t h => ?_
  simp only [Case.nvReadWaits, Bool.and_eq_true, bne_iff_ne, Option.isNone_iff_eq_none] at h
  obtain ⟨⟨⟨ok, opened⟩, span⟩, ahead⟩ := h
  rw [bodyNvRead, Nv.region_of_regionOk ok]
  simp only [opened, span, ahead, Bool.not_true, Bool.false_eq_true, if_false]
  rfl

theorem Case.nvWrite_runs : Case.nvWrite.Runs .nvWrite := by
  refine Case.runs_of_body _ _ bodyNvWrite (fun _ _ _ => rfl) fun pk k t h => ?_
  simp only [Case.nvWrite, Bool.and_eq_true, Bool.not_eq_true', Option.isNone_iff_eq_none] at h
  obtain ⟨⟨⟨⟨ok, opened⟩, span⟩, unprotected⟩, place⟩ := h
  rw [bodyNvWrite, Nv.region_of_regionOk ok]
  simp only [opened, span, Bool.not_true, Bool.false_eq_true, if_false]
  exact Nv.submit_of_place unprotected place

theorem Case.nvStatus_runs : Case.nvStatus.Runs .nvStatus :=
  Case.runs_of_body _ _ bodyNvStatus (fun _ _ _ => rfl) fun _ _ _ h => if_neg (Nat.not_le.mpr (of_decide_eq_true h))

theorem Case.nvBp_runs : Case.nvBp.Runs .nvBp := by
  refine Case.runs_of_body _ _ bodyNvBp (fun _ _ _ => rfl) fun pk k t h => ?_
  simp only [Case.nvBp, Bool.and_eq_true, decide_eq_true_eq] at h
  rw [bodyNvBp, if_neg (Nat.not_le.mpr h.1)]
  exact Nv.submit_of_place rfl h.2

theorem Case.nvUnlock_runs : Case.nvUnlock.Runs .nvUnlock := by
  refine Case.runs_of_body _ _ bodyNvUnlock (fun _ _ _ => rfl) fun pk k t h => ?_
  simp only [Case.nvUnlock, Bool.and_eq_true, decide_eq_true_eq] at h
  obtain ⟨⟨ok, kind⟩, right⟩ := h
  rw [bodyNvUnlock, Nv.region_of_regionOk ok]
  simp only [if_neg (Nat.not_le.mpr kind), right, if_true]
  rfl

/-- A wrong password of a region that is not locked out counts one attempt (Table 14.3). -/
theorem bodyNvUnlock_wrong {pk : Packet} {k : Key} {t : State} (ok : Case.regionOk pk t = true) (kind : pk.u8 9 < 2)
    (wrong : ¬ hashPw (pk.le 16 8) = pwHash t (pk.u8 8) (pk.u8 9)) :
    bodyNvUnlock pk k t = .cond St.noRight 0 (wrongPassword (pk.u8 8) t) := by
  rw [bodyNvUnlock, Nv.region_of_regionOk ok]
  simp only [if_neg (Nat.not_le.mpr kind), if_neg wrong]

theorem Case.nvUnlockWrong_runs : Case.nvUnlockWrong.Runs .nvUnlock := by
  refine Case.runs_of_body _ _ bodyNvUnlock (fun _ _ _ => rfl) fun pk k t h => ?_
  simp only [Case.nvUnlockWrong, Bool.and_eq_true, decide_eq_true_eq, Bool.not_eq_true', decide_eq_false_iff_not] at h
  obtain ⟨⟨⟨ok, kind⟩, wrong⟩, few⟩ := h
  have short : ¬ 3 ≤ vget t.nv.attempts (pk.u8 8) 0 + 1 := by omega
  rw [bodyNvUnlock_wrong ok kind wrong]
  simp only [wrongPassword, if_neg short]
  rfl

theorem Case.nvUnlockThird_runs : Case.nvUnlockThird.Runs .nvUnlock := by
  refine Case.runs_of_body _ _ bodyNvUnlock (fun _ _ _ => rfl) fun pk k t h => ?_
  simp only [Case.nvUnlockThird, Bool.and_eq_true, decide_eq_true_eq, Bool.not_eq_true', decide_eq_false_iff_not] at h
  obtain ⟨⟨⟨ok, kind⟩, wrong⟩, two⟩ := h
  rw [bodyNvUnlock_wrong ok kind wrong]
  simp only [wrongPassword, two]
  rfl

theorem Case.nvLock_runs : Case.nvLock.Runs .nvLock :=
  Case.runs_of_body _ _ bodyNvLock (fun _ _ _ => rfl) fun _ _ _ h => Nv.region_of_regionOk h _

theorem Case.nvPassword_runs : Case.nvPassword.Runs .nvPassword := by
  refine Case.runs_of_body _ _ bodyNvPassword (fun _ _ _ => rfl) fun pk k t h => ?_
  simp only [Case.nvPassword, Bool.and_eq_true, Bool.not_eq_true', decide_eq_true_eq] at h
  obtain ⟨⟨⟨⟨ok, opened⟩, kind⟩, unprotected⟩, place⟩ := h
  rw [bodyNvPassword, Nv.region_of_regionOk ok]
  simp only [opened, if_neg (Nat.not_le.mpr kind), Bool.not_true, Bool.false_eq_true, if_false]
  exact Nv.submit_of_place unprotected place

theorem Case.nvClear_runs : Case.nvClear.Runs .nvClear := by
  refine Case.runs_of_body _ _ bodyNvClear (fun _ _ _ => rfl) fun pk k t h => ?_
  simp only [Case.nvClear, Bool.and_eq_true, Bool.not_eq_true'] at h
  obtain ⟨⟨ok, unprotected⟩, place⟩ := h
  rw [bodyNvClear, Nv.region_of_regionOk ok]
  exact Nv.submit_of_place unprotected place

theorem Case.nvHoldup_runs : Case.nvHoldup.Runs .nvHoldup := by
  refine Case.runs_of_body _ _ bodyNvHoldup (fun _ _ _ => rfl) fun pk k t h => ?_
  simp only [Case.nvHoldup, Bool.and_eq_true, decide_eq_true_eq] at h
  obtain ⟨⟨⟨⟨capacity, ratio⟩, floor⟩, reserve⟩, place⟩ := h
  have inRange : (!fPos (pk.f32 16) || !fPos (pk.f32 20) || !fNonNeg (pk.f32 24) || decide (pk.u16 28 < 10)
      || decide (1000 < pk.u16 28)) = false := by
    simp only [capacity, ratio, floor, Bool.not_true, Bool.false_or, Bool.or_eq_false_iff, decide_eq_false_iff_not]; omega
  simp only [bodyNvHoldup, inRange, Bool.false_eq_true, if_false]
  exact Nv.submit_of_place rfl place

/-- Settles O54: each command by the guards that its case meets. -/
theorem storeCommands : Obligations.StoreCommands :=
  ⟨Case.nvRead_runs, Case.nvReadWaits_runs, Case.nvWrite_runs, Case.nvStatus_runs, Case.nvBp_runs, Case.nvUnlock_runs,
    Case.nvUnlockWrong_runs, Case.nvUnlockThird_runs, Case.nvLock_runs, Case.nvPassword_runs, Case.nvClear_runs, Case.nvHoldup_runs⟩

end Sys2Proof.Machine
end

section
/-!
Commits of the non-volatile store (R314, R316, R317, R319, R321).  Settles O55.
-/

namespace Sys2Proof.Machine

/-- A commit that BP binds does not start (R321). -/
theorem Nv.start_of_protected {c : Commit} {rest : List Commit} {s : State} (bound : bpRefuses s c.what = true) :
    Nv.start c rest s = Nv.refuseFirst c rest St.nvLocked 0 s := by
  rw [Nv.start, if_pos bound]

/-- A commit without the energy for it does not start (R317). -/
theorem Nv.start_of_low {c : Commit} {rest : List Commit} {s : State} (opened : bpRefuses s c.what = false)
    (rises : bankRises s c = true) (low : commitPowered s c.what = false) :
    Nv.start c rest s = Nv.refuseFirst c rest St.nvLowEnergy 0 s := by
  simp only [Nv.start, opened, rises, low, Bool.not_true, Bool.not_false, Bool.false_eq_true, if_false, if_true]

/-- An NV_WRITE that BP leaves open, with the energy for it, runs alone (R314, R316). -/
theorem Nv.start_write {c : Commit} {rest : List Commit} {r off : Nat} {d : List Byte} {s : State} (what : c.what = .write r off d)
    (opened : bpRefuses s c.what = false) (energy : (eReserve s : Rat) ≤ energyNow s) :
    Nv.start c rest s = Nv.stage c.what { s with nv := { s.nv with queue := rest, running := some c, recorded := false } } := by
  have rises : bankRises s c = true := by rw [bankRises, what]
  have powered : commitPowered s c.what = true := by rw [what]; exact decide_eq_true energy
  have whole : c.assembled s = c := by rw [Commit.assembled, what]
  unfold Nv.start
  simp only [opened, rises, powered, whole, Bool.not_true, Bool.false_eq_true, if_false]
  rw [what]

theorem execNvCommitStart_of_first {c : Commit} {rest : List Commit} {holdmon : Nat} {s : State} (first : s.nv.queue = c :: rest)
    (live : s.live = true) (idle : s.nv.running = none) : execNvCommitStart holdmon s =
      .next (Nv.start c rest { s with pw := { s.pw with mon := { s.pw.mon with holdmon := holdmon } } }) := by
  simp only [execNvCommitStart, first, live, idle, Option.isNone_none, Bool.and_self, if_true]

theorem targetPages_write (r off : Nat) (d : List Byte) : (targetPages (.write r off d)).length = pagesOf off d.length := by
  rw [targetPages, List.length_map, List.length_range]
  rfl

/-- Taking the entries of a list by their numbers gives the list. -/
theorem map_range_getD {α : Type} (l : List α) (d : α) : (List.range l.length).map (fun i => l.getD i d) = l := by
  refine List.ext_getElem (by simp) fun i _ inside => ?_
  simp only [List.getElem_map, List.getElem_range, List.getD_eq_getElem _ _ inside]

/-- Staging an NV_WRITE puts its pages in the journal log and forms its record; the store's bytes stay (R316). -/
theorem Nv.stage_write (r off : Nat) (d : List Byte) (s : State) :
    (Nv.stage (.write r off d) s).nv.cells = s.nv.cells ∧ (Nv.stage (.write r off d) s).nv.commitSeq = s.nv.commitSeq + 1 ∧
    (Nv.stage (.write r off d) s).nv.logPrograms = s.nv.logPrograms + pagesOf off d.length ∧
    ∃ x, (Nv.stage (.write r off d) s).nv.record = some x ∧ x.seq = s.nv.commitSeq ∧
      x.targets.map (·.1) = targetPages (.write r off d) ∧ x.crc = crc32c (journalBytes x.seq x.targets) := by
  have pages := targetPages_write r off d
  refine ⟨rfl, rfl, congrArg (s.nv.logPrograms + ·) pages, _, rfl, rfl, ?_, rfl⟩
  rw [List.map_map]
  exact map_range_getD _ 0

/-- What stands in a memory after a write. -/
theorem memGet_memWrite (l : List Byte) : ∀ (m : List Host.Cell) (a x : Nat), Memory.wf m = true →
    memGet (memWrite m a l) x = if a ≤ x ∧ x < a + l.length then l.getD (x - a) 0 else memGet m x := by
  induction l with
  | nil =>
    intro m a x _
    rw [if_neg (by simp)]
    rfl
  | cons b l ih =>
    intro m a x wf
    simp only [memWrite, List.length_cons]
    rw [ih _ _ _ (memSet_wf m a b wf)]
    by_cases later : a + 1 ≤ x ∧ x < a + 1 + l.length
    · obtain ⟨i, rfl⟩ : ∃ i, x = a + 1 + i := ⟨x - (a + 1), by omega⟩
      rw [if_pos later, if_pos (by omega), show a + 1 + i - (a + 1) = i by omega, show a + 1 + i - a = i + 1 by omega,
        List.getD_cons_succ]
    · rw [if_neg later]
      by_cases here : x = a
      · subst here
        rw [memGet_memSet _ _ _ wf, if_pos (by omega), Nat.sub_self, List.getD_cons_zero]
      · rw [memGet_memSet_other _ _ _ _ here, if_neg (by omega)]

theorem Nv.store_write_cells (r off : Nat) (d : List Byte) {s : State} (wf : s.memWf = true) (a : Nat) :
    memGet (Nv.store (.write r off d) s).nv.cells a =
      if r * 131072 + off ≤ a ∧ a < r * 131072 + off + d.length then d.getD (a - (r * 131072 + off)) 0
      else memGet s.nv.cells a := by
  have cells : Memory.wf s.nv.cells = true := by
    simp only [State.memWf, Bool.and_eq_true] at wf
    exact wf.2
  exact memGet_memWrite d s.nv.cells (r * 131072 + off) a cells

/-- A refused commit leaves the queue's rest, the store's bytes and the counts of programs (R317, R321). -/
theorem Nv.refuseFirst_store (c : Commit) (rest : List Commit) (st : Byte) (res : Nat) (s : State) :
    (Nv.refuseFirst c rest st res s).nv.queue = rest ∧ (Nv.refuseFirst c rest st res s).nv.cells = s.nv.cells ∧
    (Nv.refuseFirst c rest st res s).nv.programs = s.nv.programs := by
  have dropped (t : State) : (Tariff.dropJob c t).nv = t.nv := by
    unfold Tariff.dropJob
    split <;> rfl
  have lost (t : State) : (if isPowerFail c then Meter.commitLost t else t).nv = t.nv := by
    split
    · exact (Ev.raise_hubOnly _ _ _ _).keeps (·.nv) fun _ _ _ _ _ => rfl
    · rfl
  have served {α : Type} (f : Nv → α) (keeps : ∀ (n : Nv) l, f { n with reads := l } = f n) (t : State) :
      f (Nv.serve t).nv = f t.nv :=
    ((Nv.serve_frame t).keeps (fun u => f u.nv) fun _ _ _ _ _ => rfl).trans (keeps _ _)
  have ended (t : State) : (Cmd.finalOpt c.key st res t).nv = t.nv :=
    (Cmd.finalOpt_hubOnly _ _ _ _).keeps (·.nv) fun _ _ _ _ _ => rfl
  unfold Nv.refuseFirst
  refine ⟨?_, ?_, ?_⟩
  · rw [served (·.queue) fun _ _ => rfl, ended, dropped, lost]
  · rw [served (·.cells) fun _ _ => rfl, ended, dropped, lost]
  · rw [served (·.programs) fun _ _ => rfl, ended, dropped, lost]

theorem Nv.count_write {r : Nat} (off : Nat) (d : List Byte) (s : State) (small : r < 16) :
    vget (Nv.count (.write r off d) 0 s).nv.programs r 0 = vget s.nv.programs r 0 + pagesOf off d.length := by
  have counted : (Nv.count (.write r off d) 0 s).nv.programs =
      vmod s.nv.programs r (fun x => x + pagesOf off d.length + 0) := by
    have own : (commitPages (.write r off d)).1 < 16 := small
    rw [Nv.count, if_pos own]
    rfl
  rw [counted, vget_vmod _ _ _ _ _ small, if_pos rfl, Nat.add_zero]

/-- Settles O55: a commit's start by what holds it back, its staging, its end and its refusal by what each leaves. -/
theorem commits : Obligations.Commits := by
  refine ⟨fun c rest holdmon s u first live idle hu => ?_, fun r off d s t staged => ?_, fun c s runs => ?_,
    fun c page s runs hit => ?_, fun r off d s wf _ a => Nv.store_write_cells r off d wf a, Nv.refuseFirst_store,
    fun r off d s small => Nv.count_write off d s small⟩
  · have started : exec (.nvCommitStart holdmon) s = .next (Nv.start c rest u) := by
      rw [hu]
      exact execNvCommitStart_of_first first live idle
    have same (k : CommitKind) : bpRefuses u k = bpRefuses s k := by rw [hu]; rfl
    have rises : bankRises u c = bankRises s c := by rw [hu]; rfl
    rw [started]
    refine ⟨fun bound => ?_, fun opened rising low => ?_, fun r off d what opened energy => ?_⟩
    · rw [Nv.start_of_protected ((same _).trans bound)]
    · rw [Nv.start_of_low ((same _).trans opened) (rises.trans rising) low]
    · rw [Nv.start_write what ((same _).trans opened) energy]
  · subst staged
    exact Nv.stage_write r off d s
  · change execNvCommitDone none s = _
    simp only [execNvCommitDone, runs]
  · change execNvCommitDone (some page) s = _
    simp only [execNvCommitDone, runs, hit, if_true]

end Sys2Proof.Machine
end

section
/-!
Commands on power and temperature (R13, R334, R335, R339, R342 to R345, Table 15.12).  Settles O56.
-/

namespace Sys2Proof.Machine

/-- TILE_POWER in range outside GLOW reaches its tile (R13). -/
theorem bodyTilePower_of_ok {op : Nat} {pk : Packet} {k : Key} {t : State} (named : pk.u8 8 < 4) (mode : pk.u8 9 = op) (low : op < 2)
    (awake : glowing t = false) : bodyTilePower pk k t = Tile.setPower (pk.u8 8) op k t := by
  simp only [bodyTilePower, if_neg (Nat.not_le.mpr named), mode, if_neg (Nat.not_le.mpr low), awake, Bool.false_eq_true, if_false]

theorem Case.tilePowerOn_runs : Case.tilePowerOn.Runs .tilePower := by
  refine Case.runs_of_body _ _ bodyTilePower (fun _ _ _ => rfl) fun pk k t h => ?_
  simp only [Case.tilePowerOn, Bool.and_eq_true, decide_eq_true_eq, beq_iff_eq, Bool.not_eq_true'] at h
  obtain ⟨⟨⟨⟨named, op⟩, awake⟩, gated⟩, rail⟩ := h
  have up : ¬ railMv t (pk.u8 8) < 700 := Nat.not_lt.mpr rail
  rw [bodyTilePower_of_ok named op (by decide) awake]
  simp only [Tile.setPower, gated, if_neg up, Nat.one_ne_zero, if_false]
  rfl

theorem Case.tilePowerOff_runs : Case.tilePowerOff.Runs .tilePower := by
  refine Case.runs_of_body _ _ bodyTilePower (fun _ _ _ => rfl) fun pk k t h => ?_
  simp only [Case.tilePowerOff, Bool.and_eq_true, decide_eq_true_eq, beq_iff_eq, Bool.not_eq_true'] at h
  obtain ⟨⟨⟨named, op⟩, awake⟩, on⟩ := h
  rw [bodyTilePower_of_ok named op (by decide) awake]
  simp only [Tile.setPower, on, Nat.zero_ne_one, if_false]
  rfl

theorem Case.tilePowerSame_runs : Case.tilePowerSame.Runs .tilePower := by
  refine Case.runs_of_body _ _ bodyTilePower (fun _ _ _ => rfl) fun pk k t h => ?_
  simp only [Case.tilePowerSame, Bool.and_eq_true, Bool.or_eq_true, decide_eq_true_eq, beq_iff_eq, Bool.not_eq_true'] at h
  obtain ⟨⟨named, awake⟩, ⟨op, gated⟩ | ⟨op, on⟩⟩ := h
  · rw [bodyTilePower_of_ok named op (by decide) awake]
    simp only [Tile.setPower, gated, if_true]
    rfl
  · rw [bodyTilePower_of_ok named op (by decide) awake]
    simp only [Tile.setPower, on, if_true]
    rfl

theorem Case.powerState_runs : Case.powerState.Runs .powerState := by
  refine Case.runs_of_body _ _ bodyPowerState (fun _ _ _ => rfl) fun pk k t h => ?_
  simp only [Case.powerState, Bool.and_eq_true, decide_eq_true_eq, bne_iff_ne, Option.isNone_iff_eq_none] at h
  obtain ⟨⟨named, still⟩, other⟩ := h
  have idle : t.pw.trans.isSome = false := by rw [still]; rfl
  simp only [bodyPowerState, if_neg (Nat.not_le.mpr named), idle, if_neg other, Bool.false_eq_true, if_false]
  rfl

theorem PState.code_lt (p : PState) : p.code < 4 := by cases p <;> decide

theorem Case.powerStateSame_runs : Case.powerStateSame.Runs .powerState := by
  refine Case.runs_of_body _ _ bodyPowerState (fun _ _ _ => rfl) fun pk k t h => ?_
  simp only [Case.powerStateSame, Bool.and_eq_true, beq_iff_eq, Option.isNone_iff_eq_none] at h
  obtain ⟨still, same⟩ := h
  have named : ¬ 4 ≤ pk.u8 8 := by rw [same]; exact Nat.not_le.mpr (PState.code_lt _)
  have idle : t.pw.trans.isSome = false := by rw [still]; rfl
  simp only [bodyPowerState, if_neg named, idle, if_pos same, Bool.false_eq_true, if_false]
  rfl

theorem Case.powerConfig_runs : Case.powerConfig.Runs .powerConfig := by
  refine Case.runs_of_body _ _ bodyPowerConfig (fun _ _ _ => rfl) fun pk k t h => ?_
  simp only [Case.powerConfig, Bool.and_eq_true, Bool.or_eq_true, decide_eq_true_eq, beq_iff_eq] at h
  obtain ⟨⟨⟨⟨mask, target⟩, presence⟩, level⟩, alarm⟩ := h
  have named : (decide (64 ≤ pk.u8 8) || decide (2 ≤ pk.u8 9)) = false := by
    simp only [Bool.or_eq_false_iff, decide_eq_false_iff_not]; omega
  have ahead : (pk.le 16 8 != 0 && decide (pk.le 16 8 ≤ t.sec)) = false := by
    rcases alarm with none' | later
    · rw [bne_eq_false_iff_eq.mpr none', Bool.false_and]
    · rw [decide_eq_false (Nat.not_le.mpr later), Bool.and_false]
  have inRange : (decide (pk.u8 10 = 0) || decide (63 < pk.u8 10) || decide (pk.u16 12 < 600) || decide (1150 < pk.u16 12)
      || (pk.le 16 8 != 0 && decide (pk.le 16 8 ≤ t.sec))) = false := by
    rw [ahead, Bool.or_false]
    simp only [Bool.or_eq_false_iff, decide_eq_false_iff_not]; omega
  simp only [bodyPowerConfig, named, inRange, Bool.false_eq_true, if_false]
  rfl

theorem Case.powerRead_runs : Case.powerRead.Runs .powerRead :=
  Case.runs_of_body _ _ bodyPowerRead (fun _ _ _ => rfl) fun _ _ _ h => if_neg (Nat.not_le.mpr (of_decide_eq_true h))

theorem Case.clockSpread_runs : Case.clockSpread.Runs .clockSpread := by
  refine Case.runs_of_body _ _ bodyClockSpread (fun _ _ _ => rfl) fun pk k t h => ?_
  simp only [Case.clockSpread, Bool.and_eq_true, decide_eq_true_eq, Bool.not_eq_true'] at h
  obtain ⟨⟨named, awake⟩, spread⟩ := h
  have low : ¬ spreadMax (pk.u8 8) < pk.u8 9 := Nat.not_lt.mpr spread
  simp only [bodyClockSpread, if_neg (Nat.not_le.mpr named), awake, if_neg low, Bool.false_eq_true, if_false]
  rfl

theorem Case.ioFilter_runs : Case.ioFilter.Runs .ioConfig := by
  refine Case.runs_of_body _ _ bodyIoConfig (fun _ _ _ => rfl) fun pk k t h => ?_
  simp only [Case.ioFilter, Bool.and_eq_true, decide_eq_true_eq, beq_iff_eq, Bool.not_eq_true'] at h
  obtain ⟨⟨⟨input, awake⟩, filter⟩, slew⟩ := h
  have named : ¬ 4 ≤ pk.u8 8 := by omega
  have other : pk.u8 8 ≠ 3 := by omega
  have allowed : filterOk (pk.u8 8) (pk.u8 9) = true := by
    rw [filterOk, if_neg other]
    split <;> simp_all
  have slewed : slewOk (pk.u8 8) (pk.u8 10) = true := by rw [slewOk, if_neg other, slew]; rfl
  simp only [bodyIoConfig, if_neg named, awake, allowed, slewed, if_neg other, Bool.not_true, Bool.or_self, Bool.false_eq_true, if_false]
  rfl

theorem Case.ioSlew_runs : Case.ioSlew.Runs .ioConfig := by
  refine Case.runs_of_body _ _ bodyIoConfig (fun _ _ _ => rfl) fun pk k t h => ?_
  simp only [Case.ioSlew, Bool.and_eq_true, decide_eq_true_eq, beq_iff_eq, Bool.not_eq_true'] at h
  obtain ⟨⟨⟨output, awake⟩, filter⟩, slew⟩ := h
  have slewed : slewOk 3 (pk.u8 10) = true := decide_eq_true slew
  have filtered : filterOk 3 0 = true := rfl
  have named : ¬ 4 ≤ 3 := by decide
  simp only [bodyIoConfig, output, if_neg named, awake, filter, filtered, slewed, Bool.not_true, Bool.or_self, Bool.false_eq_true,
    if_false, if_true]
  rfl

theorem Case.thermConfig_runs : Case.thermConfig.Runs .thermConfig := by
  refine Case.runs_of_body _ _ bodyThermConfig (fun _ _ _ => rfl) fun pk k t h => ?_
  simp only [Case.thermConfig, Bool.and_eq_true, decide_eq_true_eq] at h
  obtain ⟨⟨warn, throttle⟩, order⟩ := h
  have inRange : (decide (pk.u8 8 < 60) || decide (120 < pk.u8 8) || decide (pk.u8 9 < 70) || decide (120 < pk.u8 9)
      || decide (pk.u8 9 < pk.u8 8)) = false := by
    simp only [Bool.or_eq_false_iff, decide_eq_false_iff_not]; omega
  simp only [bodyThermConfig, inRange, Bool.false_eq_true, if_false]
  rfl

theorem Case.thermRead_runs : Case.thermRead.Runs .thermRead := by
  refine Case.runs_of_body _ _ bodyThermRead (fun _ _ _ => rfl) fun pk k t h => ?_
  have named : pk.u8 8 < 16 := of_decide_eq_true h
  have one : ¬ pk.u8 8 = 255 := by omega
  simp only [bodyThermRead, if_neg one, if_neg (Nat.not_le.mpr named)]
  rfl

theorem Case.thermReadAll_runs : Case.thermReadAll.Runs .thermRead :=
  Case.runs_of_body _ _ bodyThermRead (fun _ _ _ => rfl) fun _ _ _ h => if_pos (beq_iff_eq.mp h)

theorem Case.thermCap_runs : Case.thermCap.Runs .thermCap := by
  refine Case.runs_of_body _ _ bodyThermCap (fun _ _ _ => rfl) fun pk k t h => ?_
  simp only [Case.thermCap, Bool.and_eq_true, decide_eq_true_eq] at h
  have inRange : (decide (4 ≤ pk.u8 8) || decide (5 ≤ pk.u8 9)) = false := by
    simp only [Bool.or_eq_false_iff, decide_eq_false_iff_not]; omega
  simp only [bodyThermCap, inRange, Bool.false_eq_true, if_false]
  rfl

/-- Settles O56: each command by the guards that its case meets. -/
theorem powerCommands : Obligations.PowerCommands :=
  ⟨Case.tilePowerOn_runs, Case.tilePowerOff_runs, Case.tilePowerSame_runs, Case.powerState_runs, Case.powerStateSame_runs,
    Case.powerConfig_runs, Case.powerRead_runs, Case.clockSpread_runs, Case.ioFilter_runs, Case.ioSlew_runs, Case.thermConfig_runs,
    Case.thermRead_runs, Case.thermReadAll_runs, Case.thermCap_runs⟩

end Sys2Proof.Machine
end

section
/-!
Commands on events and the log (R350 to R352, R356, R358, R381).  Settles O59.
-/

namespace Sys2Proof.Machine

theorem Case.eventConfig_runs : Case.eventConfig.Runs .eventConfig := by
  refine Case.runs_of_body _ _ bodyEventConfig (fun _ _ _ => rfl) fun pk k t h => ?_
  simp only [Case.eventConfig, Bool.and_eq_true, decide_eq_true_eq, beq_iff_eq] at h
  obtain ⟨⟨⟨count, last⟩, rest⟩, words⟩ := h
  have named : (decide (pk.u8 9 = 0) || decide (8 < pk.u8 9) || decide (256 < pk.u8 8 + pk.u8 9)) = false := by
    simp only [Bool.or_eq_false_iff, decide_eq_false_iff_not]; omega
  have known : ((List.range (pk.u8 9)).any fun i => BitVec.ofNat 32 (pk.u32 (16 + 4 * i)) &&& ~~~evcfgBits != 0) = false := by
    rw [List.any_eq_false]
    intro i inside
    rw [bne_iff_ne, not_not]
    exact beq_iff_eq.mp (List.all_eq_true.mp words i inside)
  have whole : (pk.le (16 + 4 * pk.u8 9) (32 - 4 * pk.u8 9) != 0
      || (List.range (pk.u8 9)).any fun i => BitVec.ofNat 32 (pk.u32 (16 + 4 * i)) &&& ~~~evcfgBits != 0) = false := by
    rw [bne_eq_false_iff_eq.mpr rest, known]; rfl
  simp only [bodyEventConfig, named, whole, Bool.false_eq_true, if_false]
  rfl

theorem Case.eventRead_runs : Case.eventRead.Runs .eventRead := by
  refine Case.runs_of_body _ _ bodyEventRead (fun _ _ _ => rfl) fun pk k t h => ?_
  simp only [Case.eventRead, Bool.and_eq_true, decide_eq_true_eq] at h
  have named : (decide (pk.u8 9 = 0) || decide (5 < pk.u8 9) || decide (256 < pk.u8 8 + pk.u8 9)) = false := by
    simp only [Bool.or_eq_false_iff, decide_eq_false_iff_not]; omega
  simp only [bodyEventRead, named, Bool.false_eq_true, if_false]
  rfl

theorem Case.eventPending_runs : Case.eventPending.Runs .eventPending :=
  Case.runs_of_body _ _ bodyEventPending (fun _ _ _ => rfl) fun _ _ _ h => if_neg (Nat.not_le.mpr (of_decide_eq_true h))

theorem Case.eventAck_runs : Case.eventAck.Runs .eventAck :=
  Case.runs_of_body _ _ bodyEventAck (fun _ _ _ => rfl) fun _ _ _ h => if_neg (Nat.not_le.mpr (of_decide_eq_true h))

theorem Case.eventWait_runs : Case.eventWait.Runs .eventWait := by
  refine Case.runs_of_body _ _ bodyEventWait (fun _ _ _ => rfl) fun pk k t h => ?_
  simp only [Case.eventWait, Bool.and_eq_true, decide_eq_true_eq] at h
  have inRange : (decide (4 ≤ pk.u8 8) || decide (pk.u32 24 = 0) || decide (86400000 < pk.u32 24)) = false := by
    simp only [Bool.or_eq_false_iff, decide_eq_false_iff_not]; omega
  simp only [bodyEventWait, inRange, Bool.false_eq_true, if_false]
  rfl

theorem Case.eventDetail_runs : Case.eventDetail.Runs .eventDetail :=
  Case.runs_of_body _ _ bodyEventDetail (fun _ _ _ => rfl) fun _ _ _ _ => rfl

theorem Case.logRead_runs : Case.logRead.Runs .logRead := by
  refine Case.runs_of_body _ _ bodyLogRead (fun _ _ _ => rfl) fun pk k t h => ?_
  simp only [Case.logRead, Bool.and_eq_true, decide_eq_true_eq, beq_iff_eq] at h
  obtain ⟨⟨count, aligned⟩, fits⟩ := h
  have inRange : (decide (pk.u16 16 = 0) || decide (4096 < pk.u16 16)) = false := by
    simp only [Bool.or_eq_false_iff, decide_eq_false_iff_not]; omega
  have placed : (pk.le 24 8 % 32 != 0 || !spanFits (spaceOf (pk.u8 8)) (pk.le 24 8) (32 * pk.u16 16)) = false := by
    rw [bne_eq_false_iff_eq.mpr aligned, fits]; rfl
  simp only [bodyLogRead, inRange, placed, Bool.false_eq_true, if_false]
  rfl

theorem Case.logMark_runs : Case.logMark.Runs .logMark := by
  refine Case.runs_of_body _ _ bodyLogMark (fun _ _ _ => rfl) fun pk k t h => ?_
  have kept : Ev.wrapLoss t = none := Option.isNone_iff_eq_none.mp h
  simp only [bodyLogMark, kept]
  rfl

theorem Case.logClear_runs : Case.logClear.Runs .logClear :=
  Case.runs_of_body _ _ bodyLogClear (fun _ _ _ => rfl) fun _ _ _ _ => rfl

/-- Settles O59: each command by the guards that its case meets. -/
theorem eventCommands : Obligations.EventCommands := by
  refine ⟨Case.eventConfig_runs, Case.eventRead_runs, Case.eventPending_runs, Case.eventAck_runs, Case.eventWait_runs,
    Case.eventDetail_runs, Case.logRead_runs, Case.logMark_runs, Case.logClear_runs, fun q tag w s u found waited => ?_⟩
  change execEventWaitTimeout q tag s = _
  simp only [execEventWaitTimeout, found, waited]

end Sys2Proof.Machine
end

section
/-!
Power and temperature at work (R14, R331, R334 to R336, R340 to R343, Tables 15.3, 15.5, 15.7, 15.8).  Settles O58.
-/

namespace Sys2Proof.Machine

/-! ## Tiles -/

/-- A tile that has powered up is on, and holds the outcome of its store test (R14, R339). -/
theorem Tile.powered_tile {t : Nat} (ok : Bool) (s : State) (h : t < 4) :
    (Tile.powered t ok s).tileOn t = true ∧ ((Tile.powered t ok s).tile t).storeTest = some ok := by
  have raised (c : Prop) [Decidable c] (arg : Nat) (u : State) : (if c then u else Ev.raise 2 0 arg u).tileOn t = u.tileOn t ∧
      (if c then u else Ev.raise 2 0 arg u).tile t = u.tile t := by
    split
    · exact ⟨rfl, rfl⟩
    · have only := Ev.raise_hubOnly 2 0 arg u
      exact ⟨only.keeps (·.tileOn t) fun _ _ _ _ _ => rfl, only.tile t⟩
  unfold Tile.powered
  extract_lets stepped l sec x s1 s2 pw s3
  have on : s3.tileOn t = true := by
    change (vget (vset s.tpow t .on) t .gated == .on) = true
    rw [vget_vset _ _ _ _ h]
    rfl
  have tested : (s3.tile t).storeTest = some ok := by
    change (vget (vset s.tiles t x) t {}).storeTest = some ok
    rw [vget_vset _ _ _ _ h]
  rw [(raised _ _ _).1, (raised _ _ _).2]
  exact ⟨on, tested⟩

theorem Tile.dark_tile {t : Nat} (s : State) (h : t < 4) : (Tile.dark t s).tile t = {} ∧ (Tile.dark t s).tileOn t = false := by
  constructor
  · exact vget_vset _ _ _ _ h
  · change (vget (vset s.tpow t .gated) t .gated == .on) = false
    rw [vget_vset _ _ _ _ h]
    rfl

/-! ## Wakes -/

/-- A wake in GLOW starts the exit if it is enabled (R335, R336). -/
theorem Power.wake_of_glow {cause arg : Nat} {s : State} (glow : s.pw.pstate = .glow) (still : s.pw.trans = none) :
    Power.wake cause arg s = if s.pw.wakeMask.getLsbD cause then
      Ev.raise 7 cause (packLe [(1, arg)]) { s with pw := { s.pw with
        lastWake := cause + 1, trans := some { target := s.pw.wakeTarget, key := none } } }
      else s := by
  unfold Power.wake
  cases s.pw.wakeMask.getLsbD cause with
  | false => rfl
  | true =>
    have asleep : (s.pw.pstate == .glow) = true := beq_iff_eq.mpr glow
    simp only [still, asleep, Bool.not_true, Bool.false_eq_true, if_false, if_true]
    rfl

theorem State.boot_of_live {s : State} (live : s.live = true) : s.pw.boot = .ready := by simpa [State.live] using live

/-- The alarm's second wakes a running device, and the alarm is over (R335). -/
theorem execWakeAlarm_of_live {s u : State} (valid : s.tb.valid = true) (set : s.pw.wakeAt ≠ 0) (live : s.live = true)
    (waited : u = untilTb (s.pw.wakeAt.toNat * 1000000000) s) :
    execWakeAlarm s = .next (Power.wake 4 0 { u with pw := { u.pw with wakeAt := 0 } }) := by
  have due : (s.tb.valid && s.pw.wakeAt != 0 && (s.live || s.pw.boot == .off)) = true := by
    rw [valid, bne_iff_ne.mpr set, live]; rfl
  have ready : u.pw.boot = .ready := by
    rw [waited, (untilTb_timeOnly _ s).keeps (·.pw.boot) fun _ _ _ => rfl, State.boot_of_live live]
  have up : (u.pw.boot == .off) = false := by rw [ready]; rfl
  rw [execWakeAlarm, whenever_of_true due]
  rw [← waited]
  exact congrArg Host.Outcome.next (if_neg (by rw [up]; exact Bool.false_ne_true))

/-! ## Temperature -/

/-- A tile that has cooled for a second steps up (R343). -/
theorem execThrottleUp_of_cool {t b : Nat} {s u : State} (live : s.live = true) (on : s.tileOn t = true) (calm : s.pw.crit = false)
    (high : 0 < (vget s.pw.throttle t {}).level) (below : (vget s.pw.throttle t {}).belowAt = some b)
    (waited : u = untilElapsed (max b ((vget s.pw.throttle t {}).steppedAt.getD 0) + 1000000000) s) :
    execThrottleUp t s = .next (Throttle.around (fun v => v.modThrottle t (fun x => { x with
      level := x.level - 1, steppedAt := some v.tb.elapsed, episode := decide (1 < x.level) })) u) := by
  have due : (s.live && s.tileOn t && !s.pw.crit && decide (0 < (vget s.pw.throttle t {}).level)) = true := by
    rw [live, on, calm, decide_eq_true high]; rfl
  unfold execThrottleUp
  dsimp only
  rw [below]
  dsimp only
  rw [whenever_of_true due, ← waited]

/-- Ten seconds below 48 C end the critical state (R341). -/
theorem execCritEnd_of_cool {a : Nat} {s u : State} (cooled : s.pw.coolAt = some a) (acts : rstActs s = true) (crit : s.pw.crit = true)
    (waited : u = untilElapsed (a + 10000000000) s) :
    execCritEnd s = .next (Ev.raiseCleared 1 0 (thermArg ((dieMax u).getD (0, 0))) { u with pw := { u.pw with
      crit := false, coolAt := none } }) := by
  have due : (rstActs s && s.pw.crit) = true := by rw [acts, crit]; rfl
  unfold execCritEnd
  rw [cooled]
  dsimp only
  rw [whenever_of_true due, ← waited]

/-- A reading that differs clears a sensor's fault, and the thousandth equal one sets it (R340). -/
theorem Sensor.take_spec (x : Sensor) (r : Int) : (x.take r).reading = r ∧
    (x.sampled = true → r ≠ x.reading → (x.take r).faulty = false) ∧
    (x.sampled = true → r = x.reading → 999 ≤ x.same → (x.take r).faulty = true) := by
  refine ⟨rfl, fun sampled differs => ?_, fun sampled same many => ?_⟩
  · simp [Sensor.take, sampled, differs]
  · simp only [Sensor.take, sampled, same, beq_self_eq_true, Bool.and_self, if_true, decide_eq_true_eq]
    omega

/-- A sample of a hot tile steps its level where a step is due, and that of another tile does not (R343). -/
theorem Throttle.sample_level {t : Nat} {s : State} (h : t < 4) (low : (vget s.pw.throttle t {}).level < 4) :
    (tileHot s t = true → stepDue (vget s.pw.throttle t {}) s.tb.elapsed = true →
      (vget (Throttle.sample t s).pw.throttle t {}).level = (vget s.pw.throttle t {}).level + 1) ∧
    (tileHot s t = false → (vget (Throttle.sample t s).pw.throttle t {}).level = (vget s.pw.throttle t {}).level) := by
  have stepped (f : Throttle → Throttle) : vget (s.modThrottle t f).pw.throttle t {} = f (vget s.pw.throttle t {}) := by
    rw [State.modThrottle, vget_vmod _ _ _ _ _ h, if_pos rfl]
  have due (b : Option Nat) (now : Nat) : stepDue { vget s.pw.throttle t {} with belowAt := b } now =
      stepDue (vget s.pw.throttle t {}) now := rfl
  refine ⟨fun hot ready => ?_, fun cool => ?_⟩
  · simp only [Throttle.sample, stepped, due, hot, ready, low, decide_true, Bool.and_self, if_true]
  · simp only [Throttle.sample, stepped, cool, Bool.false_and, Bool.false_eq_true, if_false]

/-- Settles O58: each happening by its guard; tiles, OFF, sensors and levels by what their functions leave. -/
theorem powerHappenings : Obligations.PowerHappenings := by
  refine ⟨fun t ok k s powering => ⟨?_, Tile.powered_tile ok s⟩, fun t ok k s gating => ⟨fun still => ?_, fun busy => ?_⟩,
    fun t s h => Tile.dark_tile s h, fun t mv s live low on => ?_, fun t mv k s live low powering => ?_,
    fun n s moving => ⟨fun light => ?_, fun glow loaded => ?_, fun deep busy => ?_, fun off loaded rest => ?_⟩,
    fun up s => ⟨rfl, rfl, rfl, rfl, rfl, rfl, rfl⟩, fun sup hold begun s u acts first low hu => ?_, fun sup s fails enough => ?_,
    fun s acts => ?_, fun s => rfl, fun cause arg s glow still => Power.wake_of_glow glow still,
    fun low s long => ⟨fun live => ?_, fun off armed down => ?_⟩, fun s valid set live => ⟨_, rfl, ?_⟩, fun r m s acts => ?_,
    Sensor.take_spec, fun t s h low => Throttle.sample_level h low, fun t b s u live on cool high below waited => ?_,
    fun m s cool hot high => ?_, fun a s u cooled acts crit waited => ?_⟩
  · change execTilePowerDone _ s = _
    simp only [execTilePowerDone, powering]
  · change execTilePowerDone _ s = _
    simp only [execTilePowerDone, gating, still, beq_self_eq_true, if_true]
  · change execTilePowerDone _ s = _
    simp only [execTilePowerDone, gating, beq_eq_false_iff_ne.mpr busy, Bool.false_eq_true, if_false]
  · change Host.Outcome.next (whenever _ _ s) = _
    rw [whenever_of_true (by simp [live, low])]
    simp only [on]
  · change Host.Outcome.next (whenever _ _ s) = _
    rw [whenever_of_true (by simp [live, low])]
    simp only [powering]
  · change execPowerTransitionDone s = _
    simp only [execPowerTransitionDone, moving, if_pos light]
  · change execPowerTransitionDone s = _
    simp only [execPowerTransitionDone, moving, glow, loaded, Nat.lt_irrefl, Bool.not_true, Bool.false_eq_true, if_false, if_true]
  · change execPowerTransitionDone s = _
    simp only [execPowerTransitionDone, moving, if_neg (Nat.not_lt.mpr deep), busy, Bool.not_false, if_true]
  · have deep : ¬ n.target < 2 := by omega
    have other : n.target ≠ 2 := by omega
    change execPowerTransitionDone s = _
    simp only [execPowerTransitionDone, moving, deep, other, loaded, rest, Bool.not_true, Bool.false_eq_true, if_false, if_true]
  · change Host.Outcome.next (whenever _ _ s) = _
    rw [whenever_of_true (by simp [acts, first, low]), hu]
  · change Host.Outcome.next (whenever _ _ s) = _
    rw [whenever_of_true (by simp [fails, enough])]
  · change Host.Outcome.next (whenever _ _ s) = _
    rw [whenever_of_true acts]
  · have ready := State.boot_of_live live
    change Host.Outcome.next (whenever _ _ s) = _
    rw [whenever_of_true (by simp [long]), if_neg (by simp [ready]), if_pos live]
    rfl
  · change Host.Outcome.next (whenever _ _ s) = _
    rw [whenever_of_true (by simp [long]), if_pos (by simp [off])]
    simp only [Power.offWake, off, armed, down, beq_self_eq_true, Bool.not_false, Bool.and_self, if_true]
    rfl
  · exact execWakeAlarm_of_live valid set live rfl
  · change Host.Outcome.next (whenever _ _ s) = _
    rw [whenever_of_true acts]
  · exact execThrottleUp_of_cool live on cool high below waited
  · simp only [Therm.judgeCrit, cool, hot, if_pos high, Bool.false_eq_true, if_false]
  · exact execCritEnd_of_cool cooled acts crit waited

end Sys2Proof.Machine
end
